-- ==== Sys2Proof/Word.lean ====
section
/-! DEFINITION. The word types of the block and their plainest arithmetic: register contents, addresses and
vector registers are bit vectors; counts, sizes and indexes are natural numbers. -/
namespace Sys2Proof

/-- One byte. -/
abbrev Byte := BitVec 8

/-- A 64-bit register or scalar (R26, R178). -/
abbrev Word := BitVec 64

/-- A 32-bit word: one Wick instruction (R189) or one binary32 value. -/
abbrev Word32 := BitVec 32

/-- A 512-bit vector register v0 to v31 (R178). -/
abbrev Vec := BitVec 512

/-- A 64-bit word of a natural number. -/
abbrev Word.ofNat (n : Nat) : Word := BitVec.ofNat 64 n

end Sys2Proof
end

