-- ==== Sys2Proof/Syntax.lean ====
section
/-! DEFINITION. The commands of the block: one constructor for each row of spec/opcode_table.json, in its order, with
the operands the row's event brings from outside (notes/assumptions/6.md). -/
namespace Sys2Proof

/-- What ECC finds in the words an instruction reads (R181, R414). -/
inductive Ecc where
  | none | corrected | uncorrectable
deriving DecidableEq, Repr

/-- The event that a tile or a LANTERN core issues its next instruction (R216). -/
structure Issue where
  /-- The mesh node: TX + 64 * TY; column 62 names LANTERN core TY (Table 1-2). -/
  node : Nat
  /-- Clocks of the core since its previous command (CYCLE, R211). -/
  clocks : Nat := 1
  /-- A parity error on the fetch (Table 5-14), or an uncorrectable L2 or L3 error (Table 7-5). -/
  parity : Bool := false
  /-- What ECC finds in the store words this instruction reads. -/
  ecc : Ecc := .none
  /-- The word a LANTERN core fetches at its PC; a tile reads its own instruction memory. -/
  word : Nat := 0
deriving DecidableEq, Repr

/-- What ECC finds in one 64-byte line of HBM that the command reads (R413, R414). -/
inductive LineErr where
  | corrected | uncorrectable
  /-- An error of three or more bytes that codeword cw does not show (R413). -/
  | silent (cw : Nat)
deriving DecidableEq, Repr

/-- A line that the command reads and what ECC finds in it. -/
structure EccEvent where
  line : Nat
  err : LineErr
deriving DecidableEq, Repr

/-- A packet of the mesh and the fabric: the header of Table 14-5 and its payload. The CRC of R574 is computed. -/
structure Pkt where
  /-- Destination device, SELF encoding, and node. -/
  dd : Nat := 0
  dtx : Nat := 0
  dty : Nat := 0
  cls : Nat := 0
  flow : Nat := 0
  part : Nat := 0
  /-- Source device and node. -/
  sd : Nat := 0
  stx : Nat := 0
  sty : Nat := 0
  opcode : Nat := 0
  inc : Nat := 0
  seq : Nat := 0
  epoch : Nat := 0
  ctr : Nat := 0
  fence : Bool := false
  last : Bool := false
  poison : Bool := false
  resend : Bool := false
  backup : Bool := false
  land : Nat := 0
  arg : Nat := 0
  data : List Byte := []
deriving DecidableEq, Repr

/-- One translation of an ATS completion: page base, size as a power of two, rights and flags. -/
structure AtsTrans where
  pa : Nat
  size : Nat
  r : Bool
  w : Bool
  u : Bool
  g : Bool
deriving DecidableEq, Repr

/-- A host M2S request (R390), by host address: 0 MemRd, 1 MemWr, 2 MemWrPtl, 3 MemInv; meta 0 I,
1 S, 2 A, 3 No-Op. -/
structure M2S where
  op : Nat := 0
  addr : Nat := 0
  meta_ : Nat := 3
  tag : Nat := 0
  be : Nat := 0
  data : List Byte := []
  poison : Bool := false
deriving DecidableEq, Repr

/-- The session that an SPDM request arrives in (R427): inside a secure session of the management sideband, that session was
established with mutual authentication, the SHA-384 hash of the requester's leaf public key; over DOE. -/
structure SpdmSess where
  secure : Bool
  mutAuth : Bool
  leafHash : Nat
  doe : Bool
deriving DecidableEq, Repr

/-- The five values of an ARM that comes by the sideband or as a MGMT command (R124); by KIM_CMD they come from KIM_ARM_C
and KIM_ARM_CFG. -/
structure ArmArgs where
  c : Nat := 0
  id : Nat := 0
  n : Nat := 1
  coord : Nat := 0
  ext : Bool := false
  local_ : Bool := false
deriving DecidableEq, Repr

/-- The contents of the fuses, re-sensed at every cold reset (R79, R116, R427). Its contents are the part's own and
come with the sensing (notes/assumptions/3.md). -/
structure Fuses where
  /-- GLB_IDENT.BIN (Table 0-8). -/
  bin : Nat := 0
  /-- GLB_IDENT.FUSE_EXT (Table 0-8). -/
  fuseExt : Bool := false
  /-- GLB_IDENT.STEP_MINOR (Table 0-8). -/
  stepMinor : Nat := 0
  /-- GLB_IDENT.STEP_MAJOR (Table 0-8). -/
  stepMajor : Nat := 0
  /-- GLB_IDENT.KEY_SLOTS, 4 or 16 (Table 0-8). -/
  keySlots : Nat := 4
  /-- GLB_IDENT.BOOST_CLK, 200 or 225 (Table 0-8). -/
  boostClk : Nat := 200
  /-- Spare tiles that pass fuse test: bit 16 * die + spare (Table 1-7, R98). -/
  goodSpares : Nat := 2 ^ 64 - 1
  /-- KIM_UID (Table 3-25). -/
  uid : Nat := 0
  /-- The anti-rollback thermometer count (R116). -/
  arb : Nat := 0
  /-- Revoked image-signing key slots (Table 3-25). -/
  revoked : Nat := 0
  /-- Fused SHA-384 hashes of the image-signing keys, by slot (R115). -/
  keyHashes : List (Nat × Nat) := []
deriving DecidableEq, Repr

/-- What a register write of the host reaches (R742 to R745, R797). -/
inductive WrTarget where
  /-- PF BAR0. -/
  | bar0
  /-- BAR0 of VF v: the bound partition's page. -/
  | vfBar0 (v : Nat)
  /-- The MSI-X table and PBA of a function: PF BAR4/5, or VF BAR2/3. -/
  | msix (n : Nat)
  /-- The configuration space of a function. -/
  | cfg (n : Nat)
deriving DecidableEq, Repr

/-- The commands (events) of the opcode table. -/
inductive Instr where
  /-- PILOT_PWR_OK_RISE (R79): PILOT_PWR_OK rises and a cold reset starts the PILOT phase of Table 2-8. -/
  | pilotPwrOkRise
  /-- TICK_COUNTER_START (R52): The tick counter starts from 0 at t0 + 100 µs of the PILOT phase. -/
  | tickCounterStart
  /-- FUSES_SENSED (R79): Fuses are sensed and GLB_IDENT becomes valid. -/
  | fusesSensed (f : Fuses)
  /-- EMBER_MRAM_CHECK (R730): EMBER checks the MRAM header, marks complete slots PRESERVED and KEEP, and records a cold-start record. -/
  | emberMramCheck
  /-- PILOT_READY (R79): The sideband answers and RST_STATUS.PILOT_READY is set. -/
  | pilotReady (addr : Nat)
  /-- PILOT_TICK (R52): The 56-bit PILOT tick counter advances every 320 ns. -/
  | pilotTick (watts : Nat) (lift avsOk : Bool)
  /-- PILOT_PWR_OK_FALL (R78): PILOT_PWR_OK falls; EMBER freezes and copies to MRAM within 1.2 ms. -/
  | pilotPwrOkFall
  /-- MAIN_PWR_OK_RISE (R79): MAIN_PWR_OK rises and the main phase of Table 2-9 starts with SPINE powered. -/
  | mainPwrOkRise
  /-- PLL_LOCK (R79): All PLLs lock and the CLK_STATUS lock bits set. -/
  | pllLock
  /-- FW_BUNDLE_LOADED (R79): The firmware bundle is read, checked and measured, and the provider-reserved LANTERN cores run. -/
  | fwBundleLoaded (bundle rom : List Byte) (split : Nat) (sris : Bool)
  /-- MAIN_READY (R79): HBM is trained, the R59 domain states are reached and MAIN_READY is set. -/
  | mainReady
  /-- CONFIG_READY (R79): The host link becomes configuration ready and stops answering with Request Retry Status. -/
  | configReady
  /-- BOOT_IMAGE_COMMIT (R80): A boot-flash base image marked BOOT_LOAD is read, validated and committed locally. -/
  | bootImageCommit (image : Option (List Byte))
  /-- MAIN_PWR_OK_FALL (R87): MAIN_PWR_OK falls under load; the device freezes EMBER, records cause 3 and warm-resets on return. -/
  | mainPwrOkFall
  /-- PERST_ASSERT (R74): PERST# assertion triggers a warm reset. -/
  | perstAssert
  /-- PERST_DEASSERT (R79): PERST# deasserts and the host-link timings of Table 2-9 start. -/
  | perstDeassert
  /-- RST_REQ_WARM (R74): A write of 1 to RST_REQ.WARM starts a warm reset. -/
  | rstReqWarm
  /-- RST_REQ_FAB_PORT (R74): A write of 1 to an RST_REQ.FAB_PORT bit starts a fabric port reset. -/
  | rstReqFabPort (mask : Nat)
  /-- FABRIC_PORT_RESET_DONE (R76): A fabric port reset completes, its link-state fields are reset and training starts. -/
  | fabricPortResetDone (p : Nat)
  /-- SIDEBAND_WARM_REQUEST (R74): A sideband warm request starts a warm reset. -/
  | sidebandWarmRequest
  /-- PROV_WATCHDOG (R702): LNT_WDOG expires without KICK; this is a DEVICE_FATAL fault and leads to a warm reset with cause 8. -/
  | provWatchdog
  /-- KICK (R316): A write of 1 to LNT_WDOG.KICK restarts the provider watchdog count. -/
  | kick
  /-- DOZE_ENTRY (R61): A domain idle for HYST, with its other conditions met, moves from ON to DOZE. -/
  | dozeEntry (d rest : Nat)
  /-- DOMAIN_WAKE (R63): A wake source arrives for a dozing domain, which starts waking while the request is held in SPINE. -/
  | domainWake (d : Nat)
  /-- SCHEDULED_WAKE (R62): One effective wake lead before its next marked slot, a SLOT_DRIVEN domain starts waking. -/
  | scheduledWake (d rest : Nat)
  /-- QUADRANT_CLOCKED (R65): A waking quadrant is clocked by STRIKER 24 ns after the trigger, and held flits move. -/
  | quadrantClocked (d : Nat)
  /-- STRIKER_HANDOVER (R65): The local multiplier locks and the quadrant switches from STRIKER to the main tile clock. -/
  | strikerHandover (d : Nat)
  /-- DOMAIN_POWERED (R57): A domain leaving OFF completes its OFF-to-usable time and reads ON. -/
  | domainPowered (d : Nat)
  /-- PWR_HOLD (R61): A write to PWR_HOLD forbids doze for the marked domains and wakes those dozing. -/
  | pwrHold (mask : Nat)
  /-- CACHE_OFF (R85): Once the flush and the empty directory hold, an UNUSED CACHE domain moves to OFF. -/
  | cacheOff
  /-- THROTTLE_STEP (R69): The governor takes one throttling step when a power limit would be exceeded. -/
  | throttleStep
  /-- PROCHOT_ASSERT (R70): PROCHOT# is asserted; the boost is dropped and matrix issue is limited to 8/16 within 10 µs. -/
  | prochotAssert
  /-- PROCHOT_RELEASE (R70): PROCHOT# is released and its limit is lifted. -/
  | prochotRelease
  /-- THERMAL_THROTTLE_STEP (R784): At 103 °C or more, one further step is taken every 100 µs. -/
  | thermalThrottleStep
  /-- THERMAL_LIMIT_LIFT (R784): Below 100 °C, the thermal limit is lifted one step every 100 µs. -/
  | thermalLimitLift
  /-- THERMAL_TRIP (R71): A die reaches the trip limit; THERM_TRIP# is asserted, EMBER freezes and the clocks stop. -/
  | thermalTrip
  /-- THERM_TRIP_RELEASE (R788): THERM_TRIP# deasserts once main power has been off for 1 ms and the dies read below 100 °C. -/
  | thermTripRelease
  /-- CLOCK_LOSS (R73): A reference fails or a PLL loses lock; the device faults and acts by reference. -/
  | clockLoss (what : Nat)
  /-- CLOCK_RELOCK (R73): The reference returns, the PLLs relock and the tile clocks resume. -/
  | clockRelock (what : Nat)
  /-- AVS_FAIL (R791): An AVSBus write stays unacknowledged after retries and a POWER record with code 6 is written. -/
  | avsFail (rail attempts : Nat)
  /-- STAGE (R121): KIM_CMD STAGE starts a host-mailbox DMA of the image into staging. -/
  | kimStage
  /-- STAGE_COMPLETE (R121): The staging transfer ends and the image is STAGED. -/
  | stageComplete
  /-- KIM_SIDEBAND_CHUNK (R121): A sideband MCTP message delivers an image chunk, or the closing IMAGE_LEN. -/
  | kimSidebandChunk (off : Nat) (bytes : List Byte) (close : Option Nat)
  /-- VALIDATE (R120): KIM_CMD VALIDATE starts the checks of Table 3-16. -/
  | kimValidate
  /-- VALIDATION_DONE (R120): Validation ends; the image becomes VALID or is rejected with a fault code. -/
  | validationDone
  /-- ARM (R124): KIM_CMD ARM arms a VALID image for commit at cadence C. -/
  | kimArm (a : Option ArmArgs)
  /-- ABORT (R123): KIM_CMD ABORT discards the image with code 0x35 and withdraws it from the commit. -/
  | kimAbort
  /-- DISCARD (R123): KIM_CMD DISCARD empties staging without an outcome, or is refused with 0x37. -/
  | kimDiscard
  /-- RESOLVE_GO (R128): The fabric manager resolves an UNCERTAIN device to commit. -/
  | resolveGo
  /-- RESOLVE_ABORT (R128): The fabric manager resolves an UNCERTAIN device to abort. -/
  | resolveAbort
  /-- DECIDE_GO (R127): An EXTERNAL coordinator delivers GO by KIM_CMD. -/
  | decideGo
  /-- DECIDE_ABORT (R127): An EXTERNAL coordinator delivers ABORT by KIM_CMD. -/
  | decideAbort
  /-- KIM_ARMED (R126): The coordinator receives a participant's KIM_ARMED message. -/
  | kimArmed (p : Pkt)
  /-- COORDINATOR_DECIDE (R126): At the boundary of C − 2, the coordinator decides GO or ABORT and sends KIM_DECIDE. -/
  | coordinatorDecide (id : Nat)
  /-- KIM_DECIDE (R128): A participant receives KIM_DECIDE and holds GO or aborts with code 0x34. -/
  | kimDecide (p : Pkt)
  /-- KIM_DECIDE_RESEND (R126): The coordinator resends KIM_DECIDE to a participant that has not acknowledged it. -/
  | kimDecideResend (id dest : Nat) (acked : Bool)
  /-- KIM_QUERY (R126): The coordinator answers a KIM_QUERY with its kept decision. -/
  | kimQuery (p : Pkt)
  /-- CADENCE_BOUNDARY (R585): A cadence boundary passes and the cadence number advances. -/
  | cadenceBoundary
  /-- ARB_BURN (R116): After commit, the anti-rollback fuse burn ends, setting ARB_FAIL on failure. -/
  | arbBurn (ok : Bool) (reached : Nat)
  /-- SLOT_START (R585): A new slot of the cadence begins. -/
  | slotStart (slot : Nat)
  /-- SQ_DOORBELL (R143): The driver writes a submission tail doorbell; an invalid value sets DB_ERR. -/
  | sqDoorbell (p q tail : Nat)
  /-- CQ_DOORBELL (R147): The driver writes a completion head doorbell and frees completion-queue space. -/
  | cqDoorbell (p q head : Nat)
  /-- COMMAND_FETCH (R145): The device fetches the next command of a queue by DMA, serving queues round-robin. -/
  | commandFetch (p : Nat) (entry : Option (List Byte))
  /-- COMPLETION_RECORD_WRITE (R146): A finished command's completion record is written once its writes are visible and space exists. -/
  | completionRecordWrite (p n : Nat)
  /-- CQ_IRQ_TIMEOUT (R149): Records have been pending 8 µs and the completion-queue vector is sent. -/
  | cqIrqTimeout (p q : Nat)
  /-- NOP (R150): The NOP command completes with no effect. -/
  | nopCommand (p n : Nat)
  /-- JOB_BEGIN (R156): JOB_BEGIN moves JOB_IDLE to RUNNING and latches JOB_TAG, or is refused. -/
  | jobBegin (p n : Nat)
  /-- JOB_END (R156): JOB_END moves RUNNING to ENDING, cancelling tasks when CANCEL is 1. -/
  | jobEnd (p n : Nat)
  /-- LAUNCH (R152): LAUNCH checks the descriptors and loads a program into a rectangle of tiles. -/
  | launchCommand (p n : Nat)
  /-- LAUNCH_TILE_LOAD (R248): Once a tile has no live task, LAUNCH loads its instruction memory and queues its task. -/
  | launchTileLoad (p n i : Nat)
  /-- COPY (R153): The COPY command moves bytes, translated or RAW. -/
  | copyCommand (p n : Nat)
  /-- FENCE (R150): FENCE waits for earlier commands and optionally writes VALUE to ADDR. -/
  | fenceCommand (p n : Nat)
  /-- TILE_RESET (R220): The TILE_RESET command resets the tiles of a rectangle under scope 5. -/
  | tileReset (p n : Nat)
  /-- TILE_RESET_DONE (R83): A tile reset completes and the router delivers the held flits. -/
  | tileResetDone (n : Nat)
  /-- PART_RESET (R161): The PART_RESET command starts a partition reset with a new incarnation. -/
  | partReset (p n : Nat)
  /-- TASK_CANCEL (R255): TASK_CANCEL cancels the selected tasks on a rectangle of tiles. -/
  | taskCancel (p n : Nat) (raced : List (Nat × Nat))
  /-- QUIESCE (R156): PART_PROV_CTLn.QUIESCE requests a quiesce, or a reset at once when FORCE is 1. -/
  | quiesce (p : Nat) (force : Bool)
  /-- PART_RESUME (R156): PART_PROV_CTLn.RESUME moves QUIESCED to JOB_IDLE. -/
  | partResume (p : Nat)
  /-- PART_PROV_RESET (R161): PART_PROV_CTLn.RESET starts a partition reset. -/
  | partProvReset (p : Nat)
  /-- QUIESCE_TIMEOUT (R156): TIMEOUT_MS expires in QUIESCING and a partition reset follows. -/
  | quiesceTimeout (p : Nat)
  /-- PART_RESET_DONE (R161): A partition reset completes; the new incarnation is set, RESET_DONE is set and vector 0 is sent. -/
  | partResetDone (p : Nat)
  /-- PART_IDLE_REACHED (R155): The JOB_IDLE conditions come to hold; ENDING goes to JOB_IDLE, or QUIESCING to QUIESCED. -/
  | partIdleReached (p : Nat)
  /-- INC_GATE_EXPIRE (R159): The incarnation gate ends after 4 cadence boundaries, or 34 ms, and JOB_BEGIN is admitted again. -/
  | incGateExpire (p : Nat)
  /-- VF_FLR (R508): A VF FLR resets the partition bound to that VF. -/
  | vfFlr (v : Nat)
  /-- PF_FLR (R508): A PF FLR resets every partition, the copy engine and the TLBs under scope 3. -/
  | pfFlr
  /-- FLR_COMPLETE (R508): An FLR completes and the non-sticky configuration fields are reset. -/
  | flrComplete (n : Nat)
  /-- FWU_STAGE (R165): PART_FWU_CMD STAGE reads a firmware bundle by DMA into the firmware store. -/
  | fwuStage
  /-- FWU_VERIFY (R165): PART_FWU_CMD VERIFY checks the bundle against Table 4-14. -/
  | fwuVerify
  /-- FWU_ACTIVATE (R165): PART_FWU_CMD ACTIVATE starts the core-by-core rollout. -/
  | fwuActivate
  /-- FWU_CORE_UPDATE (R165): A core is restarted on the new bundle once its partition is idle. -/
  | fwuCoreUpdate (ok : Bool)
  /-- FWU_REVERT (R167): PART_FWU_CMD REVERT returns the updated cores to the old bundle. -/
  | fwuRevert
  /-- FWU_DISCARD (R176): PART_FWU_CMD DISCARD abandons the rollout. -/
  | fwuDiscard
  /-- ALU (R191): A 64-bit register-register integer operation selected by FN. -/
  | alu (i : Issue)
  /-- ALUW (R191): A 32-bit integer operation with a sign-extended result. -/
  | aluw (i : Issue)
  /-- ADDI (R190): Adds an immediate to a register. -/
  | addi (i : Issue)
  /-- ANDI (R190): ANDs a register with a zero-extended immediate. -/
  | andi (i : Issue)
  /-- ORI (R190): ORs a register with a zero-extended immediate. -/
  | ori (i : Issue)
  /-- XORI (R190): XORs a register with a zero-extended immediate. -/
  | xori (i : Issue)
  /-- SLTI (R190): Signed set-less-than against an immediate. -/
  | slti (i : Issue)
  /-- SLTIU (R190): Unsigned set-less-than against an immediate. -/
  | sltiu (i : Issue)
  /-- SHI (R190): A shift by an immediate amount. -/
  | shi (i : Issue)
  /-- LUI (R190): Loads an upper immediate. -/
  | lui (i : Issue)
  /-- LOAD (R178): A scalar load of 1, 2, 4 or 8 bytes. -/
  | scalarLoad (i : Issue)
  /-- STORE (R178): A scalar store of 1, 2, 4 or 8 bytes. -/
  | scalarStore (i : Issue)
  /-- BRANCH (R190): A conditional branch. -/
  | branch (i : Issue)
  /-- JAL (R190): Jump and link. -/
  | jal (i : Issue)
  /-- JALR (R190): Jump and link through a register. -/
  | jalr (i : Issue)
  /-- VINT (R187): A predicated vector integer operation. -/
  | vint (i : Issue)
  /-- VFP (R183): A predicated vector floating-point operation. -/
  | vfp (i : Issue)
  /-- VCMP (R187): A vector compare into a predicate register. -/
  | vcmp (i : Issue)
  /-- VLD (R187): A vector load of 64 bytes. -/
  | vld (i : Issue)
  /-- VST (R187): A vector store of 64 bytes. -/
  | vst (i : Issue)
  /-- VLDB (R187): A vector load and broadcast of one element. -/
  | vldb (i : Issue)
  /-- VCVT (R192): A vector conversion between number formats. -/
  | vcvt (i : Issue)
  /-- VBCAST (R187): Broadcasts a scalar to vector elements. -/
  | vbcast (i : Issue)
  /-- VMOVS (R190): Moves one vector element to a scalar register. -/
  | vmovs (i : Issue)
  /-- VREDADD (R190): Integer sum reduction of a vector. -/
  | vredadd (i : Issue)
  /-- VREDFADD (R193): F32 pairwise-tree sum reduction of a vector. -/
  | vredfadd (i : Issue)
  /-- VREDMAX (R190): Signed integer maximum reduction of a vector. -/
  | vredmax (i : Issue)
  /-- VREDFMAX (R190): F32 maximum reduction of a vector. -/
  | vredfmax (i : Issue)
  /-- VPERM (R190): A vector permute. -/
  | vperm (i : Issue)
  /-- PAND (R190): Predicate AND. -/
  | pand (i : Issue)
  /-- POR (R190): Predicate OR. -/
  | por (i : Issue)
  /-- PXOR (R190): Predicate XOR. -/
  | pxor (i : Issue)
  /-- PNOT (R190): Predicate NOT. -/
  | pnot (i : Issue)
  /-- PMOV (R190): Moves a scalar into a predicate register. -/
  | pmov (i : Issue)
  /-- PREAD (R190): Reads a predicate register into a scalar. -/
  | pread (i : Issue)
  /-- MMA (R194): Queues a matrix multiply-accumulate into an accumulator. -/
  | mma (i : Issue)
  /-- MZERO (R195): Queues a clear of an accumulator. -/
  | mzero (i : Issue)
  /-- MLOAD (R195): Queues a load of an accumulator from the store. -/
  | mload (i : Issue)
  /-- MSTORE (R184): Queues the conversion and store of an accumulator. -/
  | mstore (i : Issue)
  /-- MWAIT (R195): Waits for the task's queued matrix instructions to complete. -/
  | mwait (i : Issue)
  /-- MATRIX_COMPLETE (R195): A queued matrix instruction completes and frees its queue entry. -/
  | matrixComplete (n : Nat) (ecc : Ecc)
  /-- SEND_DATA (R196): SEND of kind DATA issues and the send engine sends its RSV. -/
  | sendData (i : Issue)
  /-- SEND_GET (R196): SEND of kind GET issues a GET_REQ to a memory gateway. -/
  | sendGet (i : Issue)
  /-- SEND_PUT (R196): SEND of kind PUT issues a PUT_REQ to a memory gateway. -/
  | sendPut (i : Issue)
  /-- SENDF (R200): A DATA send whose last packet is the flow FENCE. -/
  | sendf (i : Issue)
  /-- SEND_SOURCE_READ (R242): The send engine has read all source bytes; the entry frees and LCTR advances. -/
  | sendSourceRead (node mtag : Nat) (ecc : Ecc)
  /-- RECVWAIT (R201): Waits for a landing region to complete, returns LANDED and re-arms the region. -/
  | recvwait (i : Issue)
  /-- CWAIT (R202): Waits for a counter to reach a target. -/
  | cwait (i : Issue)
  /-- CADD (R203): Adds to a completion counter. -/
  | cadd (i : Issue)
  /-- CREAD (R203): Reads a completion counter. -/
  | cread (i : Issue)
  /-- YIELD (R204): The task returns to the ready queue. -/
  | taskYield (i : Issue)
  /-- DONE (R204): The task ends with a status. -/
  | taskDone (i : Issue)
  /-- SLOTWAIT (R206): Waits for a cadence time or the next start of a slot. -/
  | slotwait (i : Issue)
  /-- CSRR (R209): Reads a CSR. -/
  | csrr (i : Issue)
  /-- CSRX (R209): Exchanges a CSR value. -/
  | csrx (i : Issue)
  /-- CSRM (R209): A masked update of a CSR. -/
  | csrm (i : Issue)
  /-- TRAP (R209): Raises TRAP with a code. -/
  | taskTrap (i : Issue)
  /-- CTIME (R209): Reads the cadence time. -/
  | ctime (i : Issue)
  /-- ILLEGAL (R212): An illegal encoding raises ILLEGAL. -/
  | illegalWord (i : Issue)
  /-- WATCHDOG (R211): A task runs BUDGET × 1,024 clocks without a yield point and WATCHDOG is raised. -/
  | watchdog (n : Nat)
  /-- TASK_DISPATCH (R251): The core is free and the highest-priority READY task is dispatched. -/
  | taskDispatch (n : Nat)
  /-- SDNT (R303): A LANTERN non-temporal store of 8 bytes. -/
  | sdnt (i : Issue)
  /-- SWNT (R303): A LANTERN non-temporal store of 4 bytes. -/
  | swnt (i : Issue)
  /-- AMO (R281): A LANTERN atomic read-modify-write. -/
  | amo (i : Issue)
  /-- BAR_FULL (R300): Barrier BAR.FULL. -/
  | barFull (i : Issue)
  /-- BAR_LD (R300): Barrier BAR.LD. -/
  | barLd (i : Issue)
  /-- BAR_ST (R300): Barrier BAR.ST. -/
  | barSt (i : Issue)
  /-- BAR_DEV (R300): Barrier BAR.DEV. -/
  | barDev (i : Issue)
  /-- BAR_NT (R300): Barrier BAR.NT. -/
  | barNt (i : Issue)
  /-- TLBINV (R287): Invalidates TLB entries of the executing core. -/
  | tlbinv (i : Issue)
  /-- WFI (R289): Waits until an enabled interrupt is pending. -/
  | wfi (i : Issue)
  /-- XRET (R288): Returns from an exception or interrupt. -/
  | xret (i : Issue)
  /-- INTERRUPT_ENTRY (R289): A pending enabled interrupt line is taken by a LANTERN core. -/
  | interruptEntry (c k : Nat)
  /-- TIMECMP_EXPIRE (R289): TICK reaches TIMECMP and the TIMER line becomes pending. -/
  | timecmpExpire (c : Nat)
  /-- NT_DRAIN_TIMEOUT (R304): A combining-buffer entry drains after 1 µs without a merge. -/
  | ntDrainTimeout (c k : Nat)
  /-- ASSIGN (R275): LNT_CORE_CFGn.ASSIGN assigns a core to a partition and restarts it. -/
  | assign (c p : Nat)
  /-- CORE_RELEASE (R275): LNT_CORE_CFGn.RELEASE returns an assigned core to the provider. -/
  | coreRelease (c : Nat)
  /-- CORE_RESTART_DONE (R276): A restarted core serves again at the kernel entry. -/
  | coreRestartDone (c : Nat)
  /-- LNT_DB (R291): A write to LNT_DB places a doorbell entry in the routed core's mailbox, or is dropped. -/
  | lntDb (p v n : Nat)
  /-- LNT_PROV_DB (R291): A write to LNT_PROV_DB places an entry in core 0's mailbox. -/
  | lntProvDb (v n : Nat)
  /-- LNT_HOSTIRQ (R295): A write to LNT_HOSTIRQ sends a partition MSI-X vector. -/
  | lntHostirq (p v : Nat)
  /-- RSV (R233): A reservation request arrives and is granted, queued pending or answered RETRY. -/
  | meshRsv (p : Pkt)
  /-- GRANT (R233): The sender receives GRANT and starts sending the message's packets. -/
  | meshGrant (p : Pkt)
  /-- RETRY (R234): The sender receives RETRY for its RSV. -/
  | meshRetry (p : Pkt)
  /-- RSV_RESEND (R234): 128 ns after RETRY, the sender sends the RSV again. -/
  | rsvResend (node mtag : Nat)
  /-- NACK (R241): A NACK arrives and fails the message, or triggers a resend or retry by reason. -/
  | meshNack (p : Pkt)
  /-- RSV_WAIT_EXPIRE (R235): No GRANT within RSV_WAIT and the message fails with NO_REGION. -/
  | rsvWaitExpire (node mtag : Nat)
  /-- PENDING_RSV_TIMEOUT (R235): A pending RSV has waited RSV_WAIT and the receiver answers NACK. -/
  | pendingRsvTimeout (node k : Nat)
  /-- DATA (R236): A granted DATA packet lands and advances its counter, waking waiting tasks. -/
  | meshData (p : Pkt)
  /-- RELEASE (R267): A RELEASE frees granted bytes that will not be sent. -/
  | meshRelease (p : Pkt)
  /-- GET_REQ (R321): A GET request is accepted at a stream engine, checked and translated. -/
  | getReq (p : Pkt) (ecc : List EccEvent)
  /-- GET_DATA (R242): GET data lands in the issuing tile and advances its counter. -/
  | getData (p : Pkt)
  /-- PUT_REQ (R322): A PUT_REQ is accepted at a stream engine, which sends a GO per translated piece. -/
  | putReq (p : Pkt)
  /-- PUT_GO (R322): The sender receives PUT_GO and sends that piece. -/
  | putGo (p : Pkt) (ecc : Ecc)
  /-- PUT_DATA (R322): PUT data arrives at the gateway buffer and is written to memory. -/
  | putData (p : Pkt) (ecc : List EccEvent)
  /-- PUT_ACK (R242): PUT_ACK arrives and the sender's counter advances by the bytes written. -/
  | putAck (p : Pkt)
  /-- STREAM_RETRY_RESEND (R320): A request answered RETRY by an engine is sent again after its backoff delay. -/
  | streamRetryResend (node mtag : Nat)
  /-- SET_CFG (R327): XLAT_CTX_SET SET_CFG sets a context's configuration. -/
  | setCfg (p n : Nat)
  /-- SET_SEG (R327): XLAT_CTX_SET SET_SEG sets a segment. -/
  | setSeg (p n : Nat)
  /-- CLEAR_SEG (R327): XLAT_CTX_SET CLEAR_SEG clears a segment. -/
  | clearSeg (p n : Nat)
  /-- CLEAR_CTX (R327): XLAT_CTX_SET CLEAR_CTX invalidates a context. -/
  | clearCtx (p n : Nat)
  /-- XLAT_INV (R352): XLAT_INV drops context TLB entries and drains their requests. -/
  | xlatInv (p n : Nat)
  /-- ATS_COMPLETION (R340): An ATS Translation Completion arrives and fills the TLB, or fails or faults requests. -/
  | atsCompletion (tag status : Nat) (trs : List AtsTrans) (hdr : List Byte)
  /-- ABSENT_LIST_EXPIRE (R336): A page on the absent list for 100 µs is discarded. -/
  | absentListExpire (k page : Nat)
  /-- PRG_CLOSE (R343): A page-request group closes after 256 ns or at 32 pages. -/
  | prgClose (id : Nat)
  /-- PRG_SEND (R344): A closed group is sent once the allocation permits. -/
  | prgSend (id : Nat)
  /-- PRG_RESPONSE (R345): A PRG Response arrives and serves or fails the group's requests. -/
  | prgResponse (fn idx : Nat) (pasid : Option Nat) (code : Nat) (hdr : List Byte)
  /-- PRI_TIMEOUT (R346): No response arrives within PRI_TIMEOUT_MS and the waiting requests fail. -/
  | priTimeout (id : Nat)
  /-- PRI_RESET (R358): The function's PRI is reset and its held groups are forgotten. -/
  | priReset (fn : Nat)
  /-- ATS_INVALIDATE (R350): An ATS Invalidate Request removes the overlapping translations and waits for their uses. -/
  | atsInvalidate (fn itag iova size : Nat) (pasid : Option Nat) (glob : Bool) (hdr : List Byte)
  /-- INVALIDATE_COMPLETION (R350): After its uses drain, the Invalidate Completion is sent. -/
  | invalidateCompletion (k : Nat)
  /-- ATS_ENABLE_CLEAR (R361): The host clears ATS Enable and the function's TLB entries are removed. -/
  | atsEnableClear (fn : Nat)
  /-- CACHE_DISABLE_FLUSH (R382): The command flushes and disables a cache scope. -/
  | cacheDisableFlush (p n : Nat)
  /-- CACHE_DISABLE_RETAIN (R382): The command stops lookup for a scope and retains its lines. -/
  | cacheDisableRetain (p n : Nat)
  /-- CACHE_ENABLE (R382): The command re-enables a cache scope. -/
  | cacheEnable (p n : Nat)
  /-- H2D_SNOOP (R398): The cache answers an H2D snoop. -/
  | h2dSnoop (line op : Nat)
  /-- H2D_RESPONSE (R399): An H2D GO or data arrives for an outstanding D2H request and the line installs. -/
  | h2dResponse (id : Nat) (go : Option Nat) (data : Option (List Byte × Bool)) (hdr : List Byte)
  /-- WRITE_PULL (R375): The host pulls DirtyEvict data and the eviction-buffer entry frees. -/
  | writePull (id : Nat) (hdr : List Byte)
  /-- STREAMING_END (R372): A STREAMING stream issues no write for 1 µs and leaves STREAMING. -/
  | streamingEnd (k : Nat)
  /-- CACHE_RESPONSE_TIMEOUT (R496): A D2H request gets no response within CACHE_TO_MS and fails with HOST_ERROR. -/
  | cacheResponseTimeout (id : Nat) (hdr : List Byte)
  /-- M2S_REQUEST (R390): A host CXL.mem M2S request is decoded, updates the directory and is served. -/
  | m2sRequest (r : M2S) (ecc : List EccEvent) (hdr : List Byte)
  /-- BIRSP (R393): A BIRsp arrives; the waiting access completes and the entry updates. -/
  | birsp (line ans : Nat) (err : Bool) (dirty : Option (List Byte × Bool)) (hdr : List Byte)
  /-- BI_TIMEOUT (R407): No BIRsp within 10 ms; the entry is removed and BI_ERROR is recorded. -/
  | biTimeout (line : Nat) (hdr : List Byte)
  /-- BICONFLICT (R399): The host's BIConflict is handled and BIConflictAck is sent after the owed completions. -/
  | biconflict (line : Nat)
  /-- DIR_DRAIN (R395): A write to DIR_CFG.DRAIN starts BISnpInv of every directory entry. -/
  | dirDrain
  /-- DIR_DRAIN_DONE (R395): The directory empties and DRAINING clears. -/
  | dirDrainDone
  /-- DISABLE_CACHING_SET (R469): The host sets Disable Caching, acting as a device-scope retain. -/
  | disableCachingSet
  /-- INITIATE_CACHE_WBINV (R469): Initiate Cache Write Back and Invalidation acts as a forced device-scope flush. -/
  | initiateCacheWbinv
  /-- DISABLE_CACHING_CLEAR (R469): The host clears Disable Caching, acting as a forced device-scope enable. -/
  | disableCachingClear
  /-- GPF_PHASE1 (R470): At GPF Phase 1 the cache is written back and EMBER freezes with GPF. -/
  | gpfPhase1
  /-- HDM_DECODER_COMMIT (R477): The host sets Commit on an HDM decoder, which is checked and committed or errored. -/
  | hdmDecoderCommit (i base size skip ways gran : Nat) (lock : Bool)
  /-- HDM_DECODER_UNCOMMIT (R478): The host clears Commit and the decoder's range is drained. -/
  | hdmDecoderUncommit (i : Nat)
  /-- DECODER_UNCOMMIT_DONE (R478): After the drain's BIRsps, Committed clears. -/
  | decoderUncommitDone (i : Nat)
  /-- REKEY_START (R434): REKEY_START op START begins re-keying a range. -/
  | rekeyStart (p n : Nat)
  /-- REKEY_PAUSE (R434): REKEY_START op PAUSE pauses a re-key. -/
  | rekeyPause (p n : Nat)
  /-- REKEY_RESUME (R434): REKEY_START op RESUME continues a paused re-key. -/
  | rekeyResume (p n : Nat)
  /-- REKEY_STATUS (R439): REKEY_STATUS returns a range's re-key state. -/
  | rekeyStatus (p n : Nat)
  /-- REKEY_TRANSIT (R436): The engine re-encrypts the sector at BOUNDARY and advances BOUNDARY. -/
  | rekeyTransit (r waits : Nat) (far : List Byte) (bad : List Nat) (ecc : List EccEvent)
  /-- SCRUB_READ (R416): The scrubber reads a line and applies ECC handling. -/
  | scrubRead (line : Nat) (err : Option LineErr)
  /-- KEK_SET (R427): The SPDM vendor request installs a KEK. -/
  | kekSet (x : SpdmSess) (b : List Byte)
  /-- KEK_CLEAR (R427): The SPDM vendor request clears a KEK. -/
  | kekClear (x : SpdmSess) (b : List Byte)
  /-- DEBUG_WINDOW_READ (R445): A PF BAR2/3 read returns stored ciphertext. -/
  | debugWindowRead (off n : Nat) (ecc : List EccEvent) (hdr : List Byte)
  /-- DEBUG_WINDOW_WRITE (R445): A PF BAR2/3 write stores ciphertext. -/
  | debugWindowWrite (off : Nat) (bs : List (Byte × Bool)) (poison : Bool) (hdr : List Byte)
  /-- JTAG_MEMORY_ACCESS (R421): The JTAG memory-access port reads or writes ciphertext. -/
  | jtagMemoryAccess (a n : Nat) (wr : Option (List Byte)) (ecc : List EccEvent)
  /-- CXLIO_COMPLETION (R493): A CXL.io completion arrives for a device-originated read. -/
  | cxlioCompletion (tag status : Nat) (data : List Byte) (poison ok : Bool) (hdr : List Byte)
  /-- COMPLETION_TIMEOUT (R494): A non-posted CXL.io request times out and its requester fails. -/
  | completionTimeout (tag : Nat)
  /-- TAG_HOLD_EXPIRE (R495): A timed-out tag becomes reusable after four times its timeout. -/
  | tagHoldExpire (tag : Nat) (port : Option Nat)
  /-- MSIX_UNMASK (R499): A vector becomes unmasked and its pending message is sent. -/
  | msixUnmask (n : Nat) (v : Option Nat)
  /-- MSIX_ENABLE (R520): The PF's MSI-X Enable changes, deasserting INTx or discarding pending bits. -/
  | msixEnable (en : Bool)
  /-- BUS_MASTER_ENABLE (R798): Bus Master Enable becomes 1 and the held requests are sent. -/
  | busMasterEnable (n : Nat)
  /-- QUARANTINE_RELEASE (R505): A write of 1 to HL_STATUS.RELEASE ends host-link QUARANTINE. -/
  | quarantineRelease
  /-- D3HOT_ENTRY (R511): A function enters D3hot and its host-bound requests are held. -/
  | d3hotEntry (n : Nat)
  /-- D0_RETURN (R512): A function returns to D0 and its held requests are sent within 100 µs. -/
  | d0Return (n : Nat)
  /-- PME_TURN_OFF (R513): PME_Turn_Off arrives and the cache flush for D3cold starts. -/
  | pmeTurnOff
  /-- PME_TO_ACK (R513): After the flush, PME_TO_Ack is sent and D3COLD_ENTRY is set. -/
  | pmeToAck
  /-- D3COLD_WAKE (R516): In D3cold, an enabled wake source sets PME_Status and asserts WAKE#. -/
  | d3coldWake (src : Nat)
  /-- HOST_LINK_DOWN (R517): The host link goes down or enters hot reset and scope 6 runs. -/
  | hostLinkDown
  /-- HOST_LINK_UP (R457): The host link finishes training and the mode is fixed. -/
  | hostLinkUp (mode speed width : Nat)
  /-- VF_ENABLE_SET (R459): The host sets VF Enable and the VFs take their routing IDs. -/
  | vfEnableSet
  /-- VF_ENABLE_CLEAR (R483): The host clears VF Enable and every VF-bound partition is reset. -/
  | vfEnableClear
  /-- DL_PORT_TRAINED (R529): A downlink port finishes training, or is found ABSENT or UNSUPPORTED. -/
  | dlPortTrained (p res mode speed width : Nat)
  /-- DL_ENUMERATE (R531): Firmware enumerates and programs an expander on a trained port. -/
  | dlEnumerate (p code cap vendor device : Nat)
  /-- DL_ENUM_DONE (R534): At t1 + 140 ms, the far-tier map is formed and ENUM_DONE is set. -/
  | dlEnumDone
  /-- DL_S2M_RESPONSE (R541): An expander's S2M response or data arrives and completes a far-tier request. -/
  | dlS2mResponse (p tag : Nat) (data : Option (List Byte × Bool)) (hdr : List Byte)
  /-- DL_MEM_TIMEOUT (R545): No S2M response arrives within MEM_TO_MS and the request fails. -/
  | dlMemTimeout (p tag : Nat) (hdr : List Byte)
  /-- DL_UPSTREAM_REQUEST (R545): An expander sends an upstream request, which is answered as a violation. -/
  | dlUpstreamRequest (p code : Nat) (posted : Bool) (hdr : List Byte)
  /-- DL_RAS_POLL (R544): Every 10 ms, firmware polls and clears each expander's AER and RAS status. -/
  | dlRasPoll (p : Nat) (errs : List (Bool × List Byte))
  /-- DL_PORT_DOWN (R547): A downlink port goes down and its outstanding requests fail. -/
  | dlPortDown (p : Nat)
  /-- DL_REENUM (R556): DL_CMD REENUM drains and re-enumerates a port or all ports. -/
  | dlReenum (p : Nat) (all : Bool)
  /-- DL_RELEASE (R546): DL_CMD RELEASE ends a port's QUARANTINE. -/
  | dlRelease (p : Nat)
  /-- FAB_TRAIN_ADVANCE (R570): A fabric port completes a training state and advances, reaching UP. -/
  | fabTrainAdvance (p : Nat) (rev : Bool) (pol : Nat)
  /-- FAB_TRAIN_TIMEOUT (R570): A training state's limit expires and the port returns to DETECT. -/
  | fabTrainTimeout (p : Nat)
  /-- HAIL (R644): A HAIL ordered set arrives and is compared with this device's own values. -/
  | fabHail (p : Nat) (body : List Byte)
  /-- SYNC (R592): A SYNC arrives and the alignment error updates the alignment state. -/
  | fabSync (p off : Nat) (body : List Byte)
  /-- ECHO (R591): An ECHO arrives and is answered or used to measure delay. -/
  | fabEcho (p hold off : Nat) (body : List Byte)
  /-- CREDIT (R577): A CREDIT ordered set delivers a neighbour's initial credits. -/
  | fabCredit (p : Nat) (body : List Byte)
  /-- REPLAY (R618): A REPLAY ordered set triggers a replay from FSEQ FROM. -/
  | fabReplay (p : Nat) (body : List Byte)
  /-- FLIT_RECEIVE (R617): A flit is received and decoded, checked and accepted or discarded. -/
  | flitReceive (p : Nat) (corrected : Option Nat) (bytes : List Byte)
  /-- FLIT_TRANSMIT (R586): A flit time of a port is filled under its slot's TX entry. -/
  | flitTransmit (p left : Nat)
  /-- TX_HELD (R587): A packet held for a full cadence is counted in TX_HELD. -/
  | txHeld (k : Nat)
  /-- REPLAY_TIMEOUT (R618): The oldest unacknowledged flit stays for REPLAY_TO and a replay starts. -/
  | replayTimeout (p : Nat)
  /-- RETRY_EXHAUSTED (R619): No ACK covers the retried flit within REPLAY_TO after the replay. -/
  | retryExhausted (p : Nat)
  /-- LINK_DOWN_DECLARE (R628): A fabric port is declared down and its traffic is discarded or rerouted. -/
  | linkDownDeclare (p cause : Nat)
  /-- SYNC_LOST (R592): No SYNC is accepted for 2 cadences and the device runs UNALIGNED. -/
  | syncLost
  /-- E2E_ACK (R623): An E2E_ACK arrives and frees the retained copies it covers. -/
  | e2eAck (p : Pkt)
  /-- E2E_RESEND (R624): A retained packet's resend time expires and it is resent, or exhausted. -/
  | e2eResend (k : Nat)
  /-- COLLECTIVE_START (R595): A descriptor lands at a sequencer and a collective starts. -/
  | collectiveStart (p : Pkt)
  /-- COLL_DATA (R596): A chunk packet arrives at a sequencer and is reduced or forwarded. -/
  | collData (p : Pkt)
  /-- COLL_ACK (R598): A COLL_ACK arrives, frees a retained chunk and returns a credit. -/
  | collAck (p : Pkt)
  /-- COLL_ABORT (R635): A COLL_ABORT arrives and the collective aborts with the minimum COMMIT. -/
  | collAbort (p : Pkt)
  /-- CHUNK_RESEND (R632): A retained chunk's resend time expires and the chunk is resent whole. -/
  | chunkResend (k slot chunk phase : Nat)
  /-- COLL_NOT_READY_RESEND (R599): 10 µs after NACK COLL_NOT_READY, the chunk is sent again. -/
  | collNotReadyResend (k slot chunk phase : Nat)
  /-- COLLECTIVE_END (R600): A collective ends and its end record lands at the notify node. -/
  | collectiveEnd (k slot : Nat)
  /-- MGMT (R655): A MGMT packet reaches a LANTERN inbound queue, or is dropped. -/
  | fabMgmt (p : Pkt) (full : Bool)
  /-- PAIR (R668): A PAIR message arrives and the pairing conditions are checked. -/
  | twinPair (p : Pkt)
  /-- PAIR_ACK (R668): A PAIR_ACK acknowledges this device's PAIR. -/
  | pairAck (p : Pkt)
  /-- PAIR_RESEND (R668): PAIR is repeated every 100 µs until PAIRED or MISMATCH. -/
  | pairResend
  /-- HB_TOGGLE (R670): TWIN_HB_OUT toggles every 16 PILOT ticks. -/
  | hbToggle
  /-- HB_EDGE (R671): An edge arrives on TWIN_HB_IN. -/
  | hbEdge
  /-- HB_TIMEOUT (R671): 64 ticks pass without an edge; the pair becomes LOST or HB_FAULT is set. -/
  | hbTimeout
  /-- TWIN_LINK_TIMEOUT (R671): No twin port is UP for 1 ms and the pair becomes LINK_LOST. -/
  | twinLinkTimeout
  /-- MIRROR_DATA (R674): A mirror data packet arrives at the receiver's journal. -/
  | mirrorData (p : Pkt)
  /-- MIRROR_DIGEST_SEND (R682): After an epoch's data has left, the source sends its MIRROR_DIGEST. -/
  | mirrorDigestSend (p : Nat)
  /-- MIRROR_DIGEST (R682): The receiver judges an epoch and sends its verdict. -/
  | mirrorDigest (p : Pkt)
  /-- MIRROR_DEADLINE (R682): An epoch not judged by the boundary of E + 2 fails with DEADLINE. -/
  | mirrorDeadline (p : Nat) (own : Bool)
  /-- MIRROR_VERDICT (R683): The source receives a verdict, updating FREE_JSEQ or starting catch-up. -/
  | mirrorVerdict (p : Pkt)
  /-- MIRROR_APPLY (R684): A committed epoch is applied from the journal into the copy. -/
  | mirrorApply (p : Nat)
  /-- RESTORE_BEGIN (R688): The twin receives RESTORE_BEGIN and answers RESTORE_READY. -/
  | restoreBegin (p : Pkt)
  /-- RESTORE_READY (R688): The restoring device receives RESTORE_READY and sends the copy, or refuses. -/
  | restoreReady (p : Pkt)
  /-- RESTORE_END (R688): The twin receives RESTORE_END, checks the digest and answers RESTORE_DONE. -/
  | restoreEnd (p : Pkt)
  /-- RESTORE_DONE (R688): The restoring device receives RESTORE_DONE and completes the restore. -/
  | restoreDone (p : Pkt)
  /-- MIRROR_HOLD (R687): The HOLD operation stops applying to a copy. -/
  | mirrorHold (p n : Nat)
  /-- MIRROR_UNHOLD (R687): The UNHOLD operation resumes applying. -/
  | mirrorUnhold (p n : Nat)
  /-- APPLY_TO (R687): APPLY_TO applies committed epochs up to R and discards later entries. -/
  | applyTo (p n : Nat)
  /-- MIRROR_RESTORE (R687): The RESTORE operation starts a restore of a held copy into the twin. -/
  | mirrorRestore (p n : Nat)
  /-- RESYNC (R687): RESYNC marks a partition wholly dirty and starts catch-up. -/
  | resync (p n : Nat)
  /-- FAULT_RECORD_WRITE (R708): The fault arbiter accepts a fault, records it in EMBER and writes it to its ring. -/
  | faultRecordWrite (ue : Bool)
  /-- RING_HEAD (R705): The driver writes a fault ring's HEAD, freeing space for held records. -/
  | ringHead (r head : Nat)
  /-- FAULT_RING_ENABLE (R707): Setting EN resets the ring's HEAD, TAIL, PHASE and FSEQ. -/
  | faultRingEnable (r : Nat)
  /-- FAULT_RING_DISABLE (R711): Clearing EN counts the parked faults as lost and un-parks their streams. -/
  | faultRingDisable (r : Nat)
  /-- CLR_LOST (R710): A write of 1 to CLR_LOST clears every LOST counter and flag of the ring. -/
  | clrLost (r : Nat)
  /-- EMBER_TRIGGER (R722): A freeze trigger writes a TRIGGER record and starts the post window. -/
  | emberTrigger (cause : Nat)
  /-- EMBER_FREEZE (R724): The post window ends, the buffer freezes, a slot is chosen and the MRAM copy starts. -/
  | emberFreeze
  /-- EMBER_COPY_DONE (R726): The MRAM copy completes and recording resumes when AUTO_REARM is 1. -/
  | emberCopyDone
  /-- EMB_CTL_FREEZE (R722): A write of 1 to EMB_CTL.FREEZE is a cause-6 freeze trigger. -/
  | embCtlFreeze
  /-- REARM (R727): A write of 1 to EMB_CTL.REARM resumes recording after the copy. -/
  | rearm
  /-- EMB_NOTE (R720): A write to EMB_NOTE adds a NOTE record. -/
  | embNote (v : Nat)
  /-- EMB_SLOTS (R730): A write to EMB_SLOTS sets or clears KEEP of the snapshot slots. -/
  | embSlots (w : Nat)
  /-- EMB_DIR (R732): The sideband EMB_DIR command returns the directory entries. -/
  | embDir
  /-- EMB_READ (R732): The sideband EMB_READ command returns records of a slot or the live buffer. -/
  | embRead (w : Nat)
  /-- EMB_FREEZE (R732): The sideband EMB_FREEZE command triggers a cause-7 freeze. -/
  | embFreeze
  /-- EMB_KEEP (R732): The sideband EMB_KEEP command sets or clears a slot's KEEP. -/
  | embKeep (w : Nat)
  /-- EMB_STAT (R732): The sideband EMB_STAT command returns EMB_STATUS and EMB_RSEQ. -/
  | embStat
  /-- I3C_DAA (R779): An I3C controller assigns a dynamic address and the endpoint switches to I3C. -/
  | i3cDaa (addr : Nat)
  /-- MCTP_CONTROL (R780): The sideband endpoint answers an MCTP control message. -/
  | mctpControl (cmd op eid : Nat)
  /-- PLDM_REQUEST (R780): The sideband endpoint answers a PLDM Type 0 or Type 2 request. -/
  | pldmRequest (typ cmd id : Nat) (reading : Int) (fw : Bool)
  /-- SPDM_REQUEST (R780): The device answers an SPDM request on the sideband. -/
  | spdmRequest (code idx : Nat) (secured ok : Bool)
  /-- DOE_REQUEST (R467): The DOE mailbox answers a data object request. -/
  | doeRequest (vendor typ code idx : Nat) (ok : Bool)
  /-- REGISTER_WRITE (R27): A write to a register that has no row of its own, applied under its access codes. -/
  | registerWrite (t : WrTarget) (off len v : Nat) (hdr : List Byte)
  /-- DOMAIN_CLOCKED (R63): A waking domain other than a tile quadrant (LANTERN, CACHE, DOWNLINK, FAB_A, FAB_B, TWIN, MEM_W, MEM_E) reaches ON after its DOZE-to-clocked time, and the requests held for it in SPINE are served. -/
  | domainClocked (d : Nat)
  /-- THROTTLE_TEMPERATURE_REACHED (R784): A die sensor reaches 103 °C and the device at once takes one throttling step under R69. -/
  | throttleTemperatureReached
  /-- HOST_MEMORY_REQUEST (R502): A host memory request hits no decoded BAR, breaks the access widths of Table 18-4, or is a poisoned MMIO write, and is answered with UR, CA or discard, with the violation logged and reported through AER. -/
  | hostMemoryRequest (write : Bool) (addr len : Nat) (enabled poison : Bool) (hdr : List Byte)
  /-- UNSUPPORTED_MESSAGE (R502): The host sends a message of an unsupported type, which is answered with UR for Vendor-Defined Type 0 and otherwise discarded, and logged as violation 0x04. -/
  | unsupportedMessage (vdm0 : Bool) (hdr : List Byte)
deriving DecidableEq, Repr

end Sys2Proof
end

