-- ==== Sys2Proof/Machine/Regs.lean ====
section
/-! DEFINITION. Every register of Table 18-6 and every field of every register table of spec/ (chapters 0 to 18):
its place, width, access code, cold-reset value and counter kind, as the tables give them (R26, R27, R755). -/
namespace Sys2Proof.Machine

/-- Where a register lies: an offset in PF BAR0, in the partition page, or in configuration space (R755). -/
inductive Space where
  | pf | page | cfg
deriving DecidableEq, Repr

/-- The access codes of Table 0-7 (R27). -/
inductive Access where
  | ro | rw | rwl | w1c | w1s
deriving DecidableEq, Repr

/-- How the cold-reset value of a field is given in its register table (R27): a value, the committed image, the
fuses, or the partition's own number (Table 4-17). -/
inductive ResetVal where
  | val (n : Nat) | img | fuse | part
deriving DecidableEq, Repr

/-- The counter kinds of Table 0-7 (R27, R714). -/
inductive Counter where
  | none | wrap | sat | time
deriving DecidableEq, Repr

/-- The register classes of Table 2-7 (R76): which reset scopes return a register to its cold-reset value. -/
inductive RegClass where
  | pilot | global | page | tile | fabPort
deriving DecidableEq, Repr

/-- Every register of Table 18-6 (R755); an indexed register is one constructor and an instance number. -/
inductive Reg where
  | GLB_IDENT
  | GLB_TOPO
  | GLB_UNITS
  | PWR_DOM_STATE
  | PWR_HOLD
  | PWR_GOV
  | PWR_DOM_CFG
  | PWR_DOM_WAKES
  | PWR_DOM_DOZE
  | CLK_TICK
  | CLK_STATUS
  | RST_STATUS
  | RST_REQ
  | KIM_CMD
  | KIM_SRC_ADDR
  | KIM_SRC_LEN
  | KIM_ARM_C
  | KIM_ARM_CFG
  | KIM_STATUS
  | KIM_EPOCH
  | KIM_ARB
  | KIM_UID
  | KIM_COUNT
  | KIM_DIG_BASE
  | KIM_DIG_DOMAIN
  | KIM_DIG_COMP
  | KIM_DIG_STAGED
  | KIM_PART_REV
  | PART_STATE
  | PART_CTL
  | PART_RES
  | PART_STATS
  | PART_JOB_TAG
  | PART_SQ_BASE
  | PART_SQ_CFG
  | PART_CQ_BASE
  | PART_CQ_CFG
  | PART_Q_ERR
  | PART_SQ_DB
  | PART_CQ_DB
  | PART_PROV_CTL
  | PART_FWU_ADDR
  | PART_FWU_LEN
  | PART_FWU_CMD
  | PART_FWU_STATUS
  | PART_FWU_VER
  | TILE_STATUS
  | TILE_EXC
  | TILE_EXC_ADDR
  | TILE_RETIRED
  | TILE_CAPS
  | TILE_ECC
  | MSG_CFG
  | MSG_TASKS
  | MSG_ERR
  | MSG_CTR_SEL
  | MSG_CTR_DATA
  | LNT_CORE_CFG
  | LNT_DB_ROUTE
  | LNT_PROV_DB
  | LNT_WDOG
  | LNT_DB
  | LNT_DB_STAT
  | LNT_HOSTIRQ
  | XLAT_CTX_CFG
  | XLAT_CTX_STAT
  | XLAT_SEG_IN
  | XLAT_SEG_LIM
  | XLAT_SEG_OUT
  | XLAT_SEG_ATTR
  | XLAT_PSTAT
  | XLAT_PFAULT
  | XLAT_PPRI
  | XLAT_CFG
  | XLAT_GSTAT
  | XLAT_L2
  | XLAT_HINV
  | CCH_CFG
  | CCH_DEV
  | CCH_EVB
  | CCH_ERR
  | CCH_HITS
  | CCH_MISSES
  | CCH_PREFETCHES
  | CCH_STREAM_WRITES
  | CCH_EVICT_DIRTY
  | CCH_EVICT_NOTIFIED
  | CCH_SNOOPS
  | CCH_SNOOP_EVB
  | DIR_CFG
  | DIR_STATUS
  | DIR_BISNP
  | DIR_BI_EVICT
  | DIR_BI_STALE
  | DIR_CONFLICTS
  | CCH_PSTATE
  | CCH_PHITS
  | CCH_PMISSES
  | MEM_CFG
  | MEM_ERRLOG
  | MEM_DBGWIN
  | MEM_STACK
  | CRY_KEK
  | CRY_LINK
  | CRY_STAT
  | CRY_WAITS
  | CRY_KR_ID
  | CRY_KR_RK
  | CRY_PKR_ID
  | CRY_PKR_RK
  | HL_CFG
  | HL_STATUS
  | HL_VIOL
  | HL_VIOL_LOG
  | HL_CTO
  | HL_GVEC
  | HL_INTX_PART
  | HL_INTX_GLB
  | HL_WAKE
  | HL_FLR
  | HL_PSTAT
  | DL_CFG
  | DL_STATUS
  | DL_CMD
  | DL_PORT_STAT
  | DL_PORT_BASE
  | DL_PORT_SIZE
  | DL_PORT_ERR
  | FAB_PORT_STAT
  | FAB_PORT_FEC
  | FAB_PORT_ERR
  | FAB_PORT_VIOL
  | FAB_PORT_DELAY
  | FAB_PORT_RETRY
  | FAB_PORT_QUAR
  | FAB_CADENCE
  | FAB_SYNC
  | FAB_TBL_SEL
  | FAB_TBL_DATA
  | FAB_OCC_SEL
  | FAB_OCC_DATA
  | FAB_SAMPLE
  | FAB_ERRCFG
  | FAB_RECOV
  | FAB_FENCE
  | SEQ_STAT
  | SEQ_COLL
  | FAB_PFLOW
  | FAB_PVIOL
  | SEQ_PSTAT
  | FAB_PRECOV
  | FAB_PFAILOVER
  | TWN_STATUS
  | TWN_CFG
  | TWN_CMD
  | TWN_CMD_EPOCH
  | TWN_RX_STAT
  | TWN_RX_APPLIED
  | TWN_RX_COMMITTED
  | TWN_RX_COUNT
  | TWN_PSTAT
  | TWN_PEPOCH
  | TWN_PBYTES
  | FLT_PRING_BASE
  | FLT_PRING_CFG
  | FLT_PRING_HEAD
  | FLT_PRING_STAT
  | FLT_PLOST
  | FLT_RING_BASE
  | FLT_RING_CFG
  | FLT_RING_HEAD
  | FLT_RING_STAT
  | FLT_LOST
  | FLT_SEV
  | EMB_CFG
  | EMB_CTL
  | EMB_STATUS
  | EMB_RSEQ
  | EMB_SLOTS
  | EMB_FAULT_OUT
  | EMB_WIN_SEL
  | EMB_NOTE
  | EMB_DIR
  | MGT_STATUS
  | MGT_ERR
  | DF_LINK
  | DF_IDENT
  | DF_FUNC
deriving DecidableEq, Repr

/-- Every named field of every register table. -/
inductive Fld where
  | GLB_IDENT_PART_NUM
  | GLB_IDENT_BIN
  | GLB_IDENT_FUSE_EXT
  | GLB_IDENT_STEP_MINOR
  | GLB_IDENT_STEP_MAJOR
  | GLB_IDENT_KEY_SLOTS
  | GLB_IDENT_BOOST_CLK
  | GLB_TOPO_MESH_COLS
  | GLB_TOPO_MESH_ROWS
  | GLB_TOPO_GW_COL_FIRST
  | GLB_TOPO_GW_COL_LAST
  | GLB_TOPO_DEV_X
  | GLB_TOPO_DEV_Y
  | GLB_TOPO_DEV_Z
  | GLB_TOPO_COORD_VALID
  | GLB_UNITS_TILES_USABLE
  | GLB_UNITS_SPARES_LEFT
  | GLB_UNITS_HBM_STACKS
  | GLB_UNITS_LNT_CORES
  | GLB_UNITS_SEQ_COUNT
  | GLB_UNITS_DL_EXPANDERS
  | PWR_DOM_STATE_STATE_0
  | PWR_DOM_STATE_STATE_1
  | PWR_DOM_STATE_STATE_2
  | PWR_DOM_STATE_STATE_3
  | PWR_DOM_STATE_STATE_4
  | PWR_DOM_STATE_STATE_5
  | PWR_DOM_STATE_STATE_6
  | PWR_DOM_STATE_STATE_7
  | PWR_DOM_STATE_STATE_8
  | PWR_DOM_STATE_STATE_9
  | PWR_DOM_STATE_STATE_10
  | PWR_DOM_STATE_STATE_11
  | PWR_DOM_STATE_STATE_12
  | PWR_DOM_STATE_STATE_13
  | PWR_DOM_STATE_STATE_14
  | PWR_DOM_STATE_STATE_15
  | PWR_DOM_STATE_STATE_16
  | PWR_DOM_STATE_STATE_17
  | PWR_DOM_STATE_STATE_18
  | PWR_DOM_STATE_STATE_19
  | PWR_DOM_STATE_STATE_20
  | PWR_DOM_STATE_STATE_21
  | PWR_DOM_STATE_STATE_22
  | PWR_DOM_STATE_STATE_23
  | PWR_HOLD_HOLD
  | PWR_GOV_ISSUE_DUTY
  | PWR_GOV_BOOST_ACTIVE
  | PWR_GOV_PROCHOT_IN
  | PWR_GOV_LIMIT_HIT
  | PWR_GOV_THROTTLE_EVENTS
  | PWR_GOV_THROTTLE_SAT
  | PWR_GOV_AVG_10MS_W
  | PWR_DOM_CFG_POLICY
  | PWR_DOM_CFG_WAKE_LEAD
  | PWR_DOM_CFG_HYST
  | PWR_DOM_CFG_MIN_DOZE
  | PWR_DOM_CFG_PLAN_VALID
  | PWR_DOM_WAKES_COUNT
  | PWR_DOM_WAKES_SAT
  | PWR_DOM_DOZE_COUNT
  | PWR_DOM_DOZE_SAT
  | CLK_TICK_TICK
  | CLK_STATUS_PILOT_REF_OK
  | CLK_STATUS_HUB_LOCK
  | CLK_STATUS_LNT_LOCK
  | CLK_STATUS_HL_REF_OK
  | CLK_STATUS_FAB_REF_OK
  | CLK_STATUS_DIE_LOCK
  | CLK_STATUS_TILE_CLK
  | CLK_STATUS_LOCK_LOSS
  | CLK_STATUS_LOCK_LOSS_SAT
  | RST_STATUS_PILOT_READY
  | RST_STATUS_MAIN_READY
  | RST_STATUS_LAST_SCOPE
  | RST_STATUS_LAST_CAUSE
  | RST_STATUS_WARM_COUNT
  | RST_STATUS_WARM_SAT
  | RST_REQ_WARM
  | RST_REQ_FAB_PORT
  | KIM_CMD_OP
  | KIM_CMD_BUSY
  | KIM_SRC_ADDR_ADDR
  | KIM_SRC_LEN_LEN
  | KIM_ARM_C_C
  | KIM_ARM_CFG_COMMIT_ID
  | KIM_ARM_CFG_PARTICIPANTS
  | KIM_ARM_CFG_COORD
  | KIM_ARM_CFG_EXTERNAL
  | KIM_ARM_CFG_LOCAL
  | KIM_STATUS_STATE
  | KIM_STATUS_LAST_FAULT
  | KIM_STATUS_LATE
  | KIM_STATUS_ARB_FAIL
  | KIM_STATUS_COMMITTED_ID_VALID
  | KIM_STATUS_LAST_ID
  | KIM_EPOCH_EPOCH
  | KIM_EPOCH_BASE_VALID
  | KIM_ARB_FUSE_VALUE
  | KIM_ARB_REVOKED
  | KIM_UID_UID
  | KIM_COUNT_COMMITS
  | KIM_COUNT_COMMITS_SAT
  | KIM_COUNT_FAILS
  | KIM_COUNT_FAILS_SAT
  | KIM_DIG_BASE_DIGEST
  | KIM_DIG_DOMAIN_DIGEST
  | KIM_DIG_COMP_DIGEST
  | KIM_DIG_STAGED_DIGEST
  | KIM_PART_REV_REV
  | KIM_PART_REV_VALID
  | PART_STATE_STATE
  | PART_STATE_INCARNATION
  | PART_STATE_PART
  | PART_STATE_BOUND
  | PART_STATE_PF_BOUND
  | PART_STATE_VF
  | PART_STATE_COMMIT_HOLD
  | PART_STATE_RESET_DONE
  | PART_STATE_INC_GATE
  | PART_STATE_RESETS
  | PART_STATE_RESETS_SAT
  | PART_CTL_FETCH_EN
  | PART_RES_TILES
  | PART_RES_QUOTA
  | PART_RES_FLOWS
  | PART_RES_LNT_CORES
  | PART_STATS_CMDS
  | PART_STATS_SAT
  | PART_JOB_TAG_TAG
  | PART_SQ_BASE_BASE
  | PART_SQ_CFG_EN
  | PART_SQ_CFG_SIZE_LOG2
  | PART_SQ_CFG_HEAD
  | PART_CQ_BASE_BASE
  | PART_CQ_CFG_EN
  | PART_CQ_CFG_IRQ_EN
  | PART_CQ_CFG_SIZE_LOG2
  | PART_CQ_CFG_VECTOR
  | PART_CQ_CFG_COAL_COUNT
  | PART_CQ_CFG_TAIL
  | PART_CQ_CFG_PHASE
  | PART_Q_ERR_DB_ERR
  | PART_Q_ERR_HOST_ERR
  | PART_Q_ERR_STOPPED
  | PART_Q_ERR_DB_ERRS
  | PART_Q_ERR_DB_ERRS_SAT
  | PART_SQ_DB_TAIL
  | PART_CQ_DB_HEAD
  | PART_PROV_CTL_QUIESCE
  | PART_PROV_CTL_FORCE
  | PART_PROV_CTL_RESUME
  | PART_PROV_CTL_RESET
  | PART_PROV_CTL_TIMEOUT_MS
  | PART_FWU_ADDR_ADDR
  | PART_FWU_LEN_LEN
  | PART_FWU_CMD_OP
  | PART_FWU_CMD_BUSY
  | PART_FWU_STATUS_STATE
  | PART_FWU_STATUS_FAULT
  | PART_FWU_STATUS_UPDATED
  | PART_FWU_STATUS_WAITING
  | PART_FWU_VER_RUN_MINOR
  | PART_FWU_VER_RUN_MAJOR
  | PART_FWU_VER_STG_MINOR
  | PART_FWU_VER_STG_MAJOR
  | TILE_STATUS_CORE
  | TILE_STATUS_MATQ_BUSY
  | TILE_STATUS_SENDQ
  | TILE_STATUS_STRIKER
  | TILE_STATUS_PC
  | TILE_EXC_CODE
  | TILE_EXC_IMPRECISE
  | TILE_EXC_TILE_FATAL
  | TILE_EXC_NEW
  | TILE_EXC_PC
  | TILE_EXC_COUNT
  | TILE_EXC_COUNT_SAT
  | TILE_EXC_ADDR_ADDR
  | TILE_EXC_ADDR_INFO
  | TILE_RETIRED_COUNT
  | TILE_RETIRED_SAT
  | TILE_CAPS_ISA_MINOR
  | TILE_CAPS_ISA_MAJOR
  | TILE_CAPS_IMEM_KIB
  | TILE_CAPS_STORE_KIB
  | TILE_CAPS_SENDQ
  | TILE_CAPS_MATQ
  | TILE_ECC_CORRECTED
  | TILE_ECC_SAT
  | MSG_CFG_RSV_WAIT
  | MSG_TASKS_DONE
  | MSG_TASKS_FAULTED
  | MSG_TASKS_CANCELLED
  | MSG_TASKS_DONE_SAT
  | MSG_TASKS_FAULTED_SAT
  | MSG_TASKS_CANCELLED_SAT
  | MSG_TASKS_RACED_SEEN
  | MSG_ERR_FAILED
  | MSG_ERR_DROPPED
  | MSG_ERR_RETRIES
  | MSG_ERR_FAILED_SAT
  | MSG_ERR_DROPPED_SAT
  | MSG_ERR_RETRIES_SAT
  | MSG_CTR_SEL_TX
  | MSG_CTR_SEL_TY
  | MSG_CTR_SEL_CTR
  | MSG_CTR_DATA_VALUE
  | MSG_CTR_DATA_LIVE
  | MSG_CTR_DATA_VALID
  | LNT_CORE_CFG_PART
  | LNT_CORE_CFG_ASSIGNED
  | LNT_CORE_CFG_STATE
  | LNT_CORE_CFG_ASSIGN
  | LNT_CORE_CFG_RELEASE
  | LNT_CORE_CFG_ASSIGN_ERR
  | LNT_CORE_CFG_FAULT_EN
  | LNT_CORE_CFG_FAULT_PART
  | LNT_CORE_CFG_RESTARTS
  | LNT_CORE_CFG_RESTARTS_SAT
  | LNT_DB_ROUTE_CORE
  | LNT_DB_ROUTE_EN
  | LNT_PROV_DB_DATA
  | LNT_WDOG_TIMEOUT_MS
  | LNT_WDOG_KICK
  | LNT_DB_DATA
  | LNT_DB_STAT_DEPTH
  | LNT_DB_STAT_LOST
  | LNT_DB_STAT_LOST_SAT
  | LNT_HOSTIRQ_VECTOR
  | XLAT_CTX_CFG_PASID
  | XLAT_CTX_CFG_PASID_VALID
  | XLAT_CTX_CFG_MISS_MODE
  | XLAT_CTX_CFG_PRI_EN
  | XLAT_CTX_CFG_PF_LOG2
  | XLAT_CTX_CFG_VALID
  | XLAT_CTX_STAT_DRAIN_TOKEN
  | XLAT_CTX_STAT_PAGES_WAITING
  | XLAT_CTX_STAT_PARKED
  | XLAT_SEG_IN_IN_BASE
  | XLAT_SEG_LIM_IN_LIMIT
  | XLAT_SEG_OUT_OUT_BASE
  | XLAT_SEG_ATTR_TARGET
  | XLAT_SEG_ATTR_R
  | XLAT_SEG_ATTR_W
  | XLAT_SEG_ATTR_A
  | XLAT_SEG_ATTR_VALID
  | XLAT_SEG_ATTR_STALE
  | XLAT_PSTAT_ATS_REQS
  | XLAT_PSTAT_SAT
  | XLAT_PFAULT_FAULTS
  | XLAT_PFAULT_FAULTS_SAT
  | XLAT_PFAULT_LAST_CODE
  | XLAT_PPRI_PAGE_REQS
  | XLAT_PPRI_SAT
  | XLAT_CFG_PRI_TIMEOUT_MS
  | XLAT_GSTAT_ATS_OUT
  | XLAT_GSTAT_PRI_OUT
  | XLAT_GSTAT_PRI_ALLOC
  | XLAT_GSTAT_PRI_STOPPED
  | XLAT_GSTAT_BAD_PRG
  | XLAT_L2_USED
  | XLAT_L2_MERGED
  | XLAT_HINV_HOST_INVS
  | XLAT_HINV_BAD_PRG_SAT
  | XLAT_HINV_MERGED_SAT
  | XLAT_HINV_SAT
  | CCH_CFG_MODE
  | CCH_CFG_NL_EN
  | CCH_CFG_NL_DEPTH
  | CCH_CFG_SSD_EN
  | CCH_CFG_CLEAN_NOTIFY
  | CCH_DEV_STATE
  | CCH_DEV_STALE_RISK
  | CCH_DEV_BUSY
  | CCH_DEV_RETAINED
  | CCH_DEV_VALID
  | CCH_EVB_USED
  | CCH_EVB_TRK0
  | CCH_EVB_TRK1
  | CCH_EVB_TRK2
  | CCH_EVB_TRK3
  | CCH_ERR_POISON_FILLS
  | CCH_ERR_POISON_SAT
  | CCH_ERR_GO_ERRS
  | CCH_ERR_GO_ERR_SAT
  | CCH_HITS_COUNT
  | CCH_HITS_SAT
  | CCH_MISSES_COUNT
  | CCH_MISSES_SAT
  | CCH_PREFETCHES_COUNT
  | CCH_PREFETCHES_SAT
  | CCH_STREAM_WRITES_COUNT
  | CCH_STREAM_WRITES_SAT
  | CCH_EVICT_DIRTY_COUNT
  | CCH_EVICT_DIRTY_SAT
  | CCH_EVICT_NOTIFIED_COUNT
  | CCH_EVICT_NOTIFIED_SAT
  | CCH_SNOOPS_COUNT
  | CCH_SNOOPS_SAT
  | CCH_SNOOP_EVB_COUNT
  | CCH_SNOOP_EVB_SAT
  | DIR_CFG_DRAIN
  | DIR_STATUS_MODE
  | DIR_STATUS_DRAINING
  | DIR_STATUS_BI_PENDING
  | DIR_STATUS_USED
  | DIR_BISNP_COUNT
  | DIR_BISNP_SAT
  | DIR_BI_EVICT_COUNT
  | DIR_BI_EVICT_SAT
  | DIR_BI_STALE_COUNT
  | DIR_BI_STALE_SAT
  | DIR_CONFLICTS_COUNT
  | DIR_CONFLICTS_SAT
  | CCH_PSTATE_STATE
  | CCH_PSTATE_STALE_RISK
  | CCH_PSTATE_BUSY
  | CCH_PSTATE_RETAINED
  | CCH_PSTATE_OCCUPANCY
  | CCH_PHITS_COUNT
  | CCH_PHITS_SAT
  | CCH_PMISSES_COUNT
  | CCH_PMISSES_SAT
  | MEM_CFG_SCRUB_HOURS
  | MEM_ERRLOG_ADDR
  | MEM_ERRLOG_STACK
  | MEM_ERRLOG_SCRUB
  | MEM_ERRLOG_NEW
  | MEM_DBGWIN_BASE
  | MEM_STACK_TRAINED
  | MEM_STACK_SELF_REFRESH
  | MEM_STACK_CE
  | MEM_STACK_UE
  | MEM_STACK_CE_SAT
  | MEM_STACK_UE_SAT
  | CRY_KEK_KEK_VALID
  | CRY_KEK_FAB_KEY_VALID
  | CRY_KEK_TWIN_KEY_VALID
  | CRY_LINK_FAB_KEY_ID
  | CRY_LINK_TWIN_KEY_ID
  | CRY_STAT_TAG_FAILS
  | CRY_STAT_TAG_SAT
  | CRY_STAT_LINKUP_EXHAUSTED
  | CRY_WAITS_COUNT
  | CRY_WAITS_SAT
  | CRY_KR_ID_CUR_ID
  | CRY_KR_ID_NEXT_ID
  | CRY_KR_RK_BOUNDARY
  | CRY_KR_RK_STATE
  | CRY_KR_RK_NEXT_VALID
  | CRY_KR_RK_VALID
  | CRY_KR_RK_DONE
  | CRY_KR_RK_HOLD
  | CRY_KR_RK_STARTER
  | CRY_KR_RK_PACE
  | CRY_PKR_ID_CUR_ID
  | CRY_PKR_ID_NEXT_ID
  | CRY_PKR_RK_BOUNDARY
  | CRY_PKR_RK_STATE
  | CRY_PKR_RK_NEXT_VALID
  | CRY_PKR_RK_VALID
  | CRY_PKR_RK_DONE
  | CRY_PKR_RK_HOLD
  | CRY_PKR_RK_STARTER
  | CRY_PKR_RK_PACE
  | HL_CFG_CACHE_TO_MS
  | HL_CFG_QUAR_EN
  | HL_STATUS_QUARANTINE
  | HL_STATUS_RELEASE
  | HL_STATUS_PF_DSTATE
  | HL_STATUS_D3COLD_ENTRY
  | HL_STATUS_LINK_UP
  | HL_STATUS_LAST_CODE
  | HL_STATUS_QUARANTINES
  | HL_STATUS_QUAR_SAT
  | HL_VIOL_COUNT
  | HL_VIOL_SAT
  | HL_VIOL_LOG_CODE
  | HL_VIOL_LOG_FUNC
  | HL_VIOL_LOG_TICK
  | HL_CTO_TIMEOUTS
  | HL_CTO_TO_SAT
  | HL_CTO_LATE
  | HL_CTO_LATE_SAT
  | HL_GVEC_FAULT_VEC
  | HL_GVEC_FAULT_EN
  | HL_GVEC_KIM_VEC
  | HL_GVEC_KIM_EN
  | HL_GVEC_FWU_VEC
  | HL_GVEC_FWU_EN
  | HL_GVEC_HL_VEC
  | HL_GVEC_HL_EN
  | HL_GVEC_EMB_VEC
  | HL_GVEC_EMB_EN
  | HL_INTX_PART_PART
  | HL_INTX_GLB_GLB
  | HL_INTX_GLB_LEVEL
  | HL_WAKE_SIDEBAND_EN
  | HL_WAKE_TWIN_HB_EN
  | HL_WAKE_GPIO_EN
  | HL_WAKE_WAKE_OUT
  | HL_WAKE_WAKES
  | HL_WAKE_WAKES_SAT
  | HL_FLR_PF_FLRS
  | HL_FLR_PF_SAT
  | HL_FLR_VF_FLRS
  | HL_FLR_VF_SAT
  | HL_FLR_LAST_VF
  | HL_PSTAT_HOST_ERRS
  | HL_PSTAT_HOST_ERRS_SAT
  | HL_PSTAT_HELD
  | DL_CFG_ILV_EN
  | DL_CFG_MEM_TO_MS
  | DL_CFG_QUAR_EN
  | DL_STATUS_BIF
  | DL_STATUS_ENUM_DONE
  | DL_STATUS_ILV_ACTIVE
  | DL_STATUS_ILV_FAILED
  | DL_STATUS_ACTIVE_PORTS
  | DL_CMD_OP
  | DL_CMD_PORT
  | DL_CMD_ALL
  | DL_CMD_BUSY
  | DL_PORT_STAT_STATE
  | DL_PORT_STAT_MODE
  | DL_PORT_STAT_SPEED
  | DL_PORT_STAT_WIDTH
  | DL_PORT_STAT_CONTENT_LOST
  | DL_PORT_STAT_VENDOR
  | DL_PORT_STAT_DEVICE
  | DL_PORT_BASE_BASE
  | DL_PORT_SIZE_SIZE
  | DL_PORT_ERR_VIOL
  | DL_PORT_ERR_VIOL_SAT
  | DL_PORT_ERR_LAST_CODE
  | DL_PORT_ERR_DOWNS
  | DL_PORT_ERR_DOWNS_SAT
  | DL_PORT_ERR_POISON
  | DL_PORT_ERR_POISON_SAT
  | FAB_PORT_STAT_STATE
  | FAB_PORT_STAT_HALF
  | FAB_PORT_STAT_REVERSED
  | FAB_PORT_STAT_POL
  | FAB_PORT_STAT_LINKUP
  | FAB_PORT_STAT_NEIGH
  | FAB_PORT_STAT_NEIGH_PORT
  | FAB_PORT_FEC_CORRECTED
  | FAB_PORT_FEC_SAT
  | FAB_PORT_ERR_UNCORR
  | FAB_PORT_ERR_UNCORR_SAT
  | FAB_PORT_ERR_FCRC_FAILS
  | FAB_PORT_ERR_FCRC_SAT
  | FAB_PORT_VIOL_TX_HELD
  | FAB_PORT_VIOL_TX_SAT
  | FAB_PORT_VIOL_RX_SLOT
  | FAB_PORT_VIOL_RX_SAT
  | FAB_PORT_DELAY_DELAY
  | FAB_PORT_RETRY_REPLAYS
  | FAB_PORT_RETRY_REPLAYS_SAT
  | FAB_PORT_RETRY_EXHAUSTED
  | FAB_PORT_RETRY_DOWNS
  | FAB_PORT_RETRY_DOWNS_SAT
  | FAB_PORT_RETRY_DOWN_CAUSE
  | FAB_PORT_QUAR_CAUSE
  | FAB_PORT_QUAR_LAST_VIOL
  | FAB_PORT_QUAR_VIOLS
  | FAB_PORT_QUAR_VIOLS_SAT
  | FAB_PORT_QUAR_ENTRIES
  | FAB_PORT_QUAR_ENTRIES_SAT
  | FAB_CADENCE_CADENCE
  | FAB_SYNC_STATE
  | FAB_SYNC_PARENT
  | FAB_SYNC_ERR
  | FAB_SYNC_HOPS
  | FAB_SYNC_SLOT
  | FAB_SYNC_SYNC_LOST
  | FAB_SYNC_SYNC_LOST_SAT
  | FAB_TBL_SEL_PORT
  | FAB_TBL_SEL_RX
  | FAB_TBL_SEL_SLOT
  | FAB_TBL_DATA_ENTRY
  | FAB_OCC_SEL_PORT
  | FAB_OCC_SEL_SLOT
  | FAB_OCC_DATA_FLITS
  | FAB_SAMPLE_SAMPLES
  | FAB_ERRCFG_RESEND_US
  | FAB_ERRCFG_QUAR_EN
  | FAB_RECOV_RETAIN_KIB
  | FAB_RECOV_MGMT_DROPS
  | FAB_RECOV_EPOCH_DROPS
  | FAB_RECOV_MGMT_SAT
  | FAB_RECOV_EPOCH_SAT
  | FAB_FENCE_CAUSE
  | FAB_FENCE_FENCES
  | FAB_FENCE_FENCES_SAT
  | SEQ_STAT_ACTIVE
  | SEQ_STAT_ABORTS
  | SEQ_STAT_ABORTS_SAT
  | SEQ_COLL_COLL_ID
  | SEQ_COLL_PART
  | SEQ_COLL_FLOW
  | SEQ_COLL_STATE
  | SEQ_COLL_DEGRADED
  | SEQ_COLL_POISONED
  | SEQ_COLL_COMMITTED
  | FAB_PFLOW_COUNT
  | FAB_PFLOW_SAT
  | FAB_PVIOL_COUNT
  | FAB_PVIOL_SAT
  | SEQ_PSTAT_DONE
  | SEQ_PSTAT_ABORTED
  | SEQ_PSTAT_DEGRADED
  | SEQ_PSTAT_DONE_SAT
  | SEQ_PSTAT_ABORTED_SAT
  | SEQ_PSTAT_DEGRADED_SAT
  | FAB_PRECOV_RESENDS
  | FAB_PRECOV_DUPS
  | FAB_PRECOV_FAILED
  | FAB_PRECOV_RESENDS_SAT
  | FAB_PRECOV_DUPS_SAT
  | FAB_PRECOV_FAILED_SAT
  | FAB_PFAILOVER_FLOWS
  | TWN_STATUS_STATE
  | TWN_STATUS_HB_IN_OK
  | TWN_STATUS_HB_FAULT
  | TWN_STATUS_TWIN
  | TWN_STATUS_LOSSES
  | TWN_STATUS_LOSSES_SAT
  | TWN_CFG_APPLY_LAG
  | TWN_CFG_AUTO_HOLD
  | TWN_CMD_OP
  | TWN_CMD_ALL
  | TWN_CMD_PART
  | TWN_CMD_BUSY
  | TWN_CMD_STATUS
  | TWN_CMD_EPOCH_EPOCH
  | TWN_RX_STAT_COPY
  | TWN_RX_STAT_HOLD
  | TWN_RX_STAT_CATCHUP
  | TWN_RX_STAT_RESTORING
  | TWN_RX_APPLIED_EPOCH
  | TWN_RX_COMMITTED_EPOCH
  | TWN_RX_COUNT_FAILED
  | TWN_RX_COUNT_FAILED_SAT
  | TWN_RX_COUNT_PARTIAL
  | TWN_RX_COUNT_PARTIAL_SAT
  | TWN_PSTAT_STATE
  | TWN_PSTAT_LAGGING
  | TWN_PSTAT_FAILS
  | TWN_PSTAT_FAILS_SAT
  | TWN_PEPOCH_EPOCH
  | TWN_PBYTES_COUNT
  | TWN_PBYTES_SAT
  | FLT_PRING_BASE_BASE
  | FLT_PRING_CFG_EN
  | FLT_PRING_CFG_IRQ_EN
  | FLT_PRING_CFG_SAT_EVENT
  | FLT_PRING_CFG_SIZE_LOG2
  | FLT_PRING_HEAD_HEAD
  | FLT_PRING_STAT_TAIL
  | FLT_PRING_STAT_PHASE
  | FLT_PRING_STAT_OVERFLOW
  | FLT_PRING_STAT_HEAD_ERR
  | FLT_PRING_STAT_CLR_LOST
  | FLT_PRING_STAT_PARKED
  | FLT_PLOST_COUNT0
  | FLT_PLOST_COUNT1
  | FLT_PLOST_COUNT2
  | FLT_PLOST_COUNT3
  | FLT_PLOST_SAT0
  | FLT_PLOST_SAT1
  | FLT_PLOST_SAT2
  | FLT_PLOST_SAT3
  | FLT_RING_BASE_BASE
  | FLT_RING_CFG_EN
  | FLT_RING_CFG_IRQ_EN
  | FLT_RING_CFG_SAT_EVENT
  | FLT_RING_CFG_SIZE_LOG2
  | FLT_RING_HEAD_HEAD
  | FLT_RING_STAT_TAIL
  | FLT_RING_STAT_PHASE
  | FLT_RING_STAT_OVERFLOW
  | FLT_RING_STAT_HEAD_ERR
  | FLT_RING_STAT_CLR_LOST
  | FLT_RING_STAT_PARKED
  | FLT_LOST_COUNT0
  | FLT_LOST_COUNT1
  | FLT_LOST_COUNT2
  | FLT_LOST_COUNT3
  | FLT_LOST_SAT0
  | FLT_LOST_SAT1
  | FLT_LOST_SAT2
  | FLT_LOST_SAT3
  | FLT_SEV_PART_FATALS
  | FLT_SEV_PART_FATALS_SAT
  | FLT_SEV_ERRORS
  | FLT_SEV_ERRORS_SAT
  | EMB_CFG_POST_COUNT
  | EMB_CFG_QUAR_TRIG
  | EMB_CFG_AUTO_REARM
  | EMB_CTL_FREEZE
  | EMB_CTL_REARM
  | EMB_STATUS_STATE
  | EMB_STATUS_COPYING
  | EMB_STATUS_MRAM_FULL
  | EMB_STATUS_LAST_SLOT
  | EMB_STATUS_LAST_CAUSE
  | EMB_STATUS_LOST_FAULTS
  | EMB_STATUS_LOST
  | EMB_STATUS_LOST_FAULTS_SAT
  | EMB_STATUS_LOST_SAT
  | EMB_RSEQ_NEXT
  | EMB_SLOTS_KEEP
  | EMB_SLOTS_COMPLETE
  | EMB_FAULT_OUT_LATCH
  | EMB_FAULT_OUT_DEV_EN
  | EMB_FAULT_OUT_EN
  | EMB_FAULT_OUT_PIN
  | EMB_FAULT_OUT_DEV_FATALS
  | EMB_FAULT_OUT_DEV_FATALS_SAT
  | EMB_WIN_SEL_SLOT
  | EMB_NOTE_VALUE
  | EMB_DIR_WORD
  | MGT_STATUS_EID
  | MGT_STATUS_BUS
  | MGT_STATUS_ADDR
  | MGT_STATUS_SESSIONS
  | MGT_ERR_DROPPED
  | MGT_ERR_SAT
  | DF_LINK_LINK_MODE
  | DF_LINK_FLIT
  | DF_LINK_SPEED
  | DF_LINK_WIDTH
  | DF_LINK_HDM_MODE
  | DF_LINK_BI_ACTIVE
  | DF_LINK_CACHE_ACTIVE
  | DF_LINK_FALLBACKS
  | DF_LINK_FALLBACK_SAT
  | DF_IDENT_IDENT
  | DF_FUNC_PART
  | DF_FUNC_BOUND
deriving DecidableEq, Repr

/-- What a register table says of one field: its register, lowest bit, width, access, cold-reset value, counter kind. -/
structure FldInfo where
  reg : Reg
  lo : Nat
  width : Nat
  access : Access
  reset : ResetVal
  counter : Counter
deriving DecidableEq, Repr

/-- Where a register lies (Table 18-6): space, offset, number of instances, stride, number of inner instances,
inner stride, and its class in Table 2-7. Instance i of a register lies at offset
off + stride * (i / inner) + innerStride * (i % inner). -/
structure RegInfo where
  space : Space
  off : Nat
  count : Nat
  stride : Nat
  inner : Nat
  innerStride : Nat
  cls : RegClass
deriving DecidableEq, Repr

/-- The field descriptions, from the register tables. -/
def Fld.info : Fld → FldInfo
  | .GLB_IDENT_PART_NUM => ⟨.GLB_IDENT, 0, 16, .ro, .val 30464, .none⟩
  | .GLB_IDENT_BIN => ⟨.GLB_IDENT, 16, 4, .ro, .fuse, .none⟩
  | .GLB_IDENT_FUSE_EXT => ⟨.GLB_IDENT, 20, 1, .ro, .fuse, .none⟩
  | .GLB_IDENT_STEP_MINOR => ⟨.GLB_IDENT, 24, 4, .ro, .fuse, .none⟩
  | .GLB_IDENT_STEP_MAJOR => ⟨.GLB_IDENT, 28, 4, .ro, .fuse, .none⟩
  | .GLB_IDENT_KEY_SLOTS => ⟨.GLB_IDENT, 32, 8, .ro, .fuse, .none⟩
  | .GLB_IDENT_BOOST_CLK => ⟨.GLB_IDENT, 40, 8, .ro, .fuse, .none⟩
  | .GLB_TOPO_MESH_COLS => ⟨.GLB_TOPO, 0, 8, .ro, .val 48, .none⟩
  | .GLB_TOPO_MESH_ROWS => ⟨.GLB_TOPO, 8, 8, .ro, .val 32, .none⟩
  | .GLB_TOPO_GW_COL_FIRST => ⟨.GLB_TOPO, 16, 8, .ro, .val 48, .none⟩
  | .GLB_TOPO_GW_COL_LAST => ⟨.GLB_TOPO, 24, 8, .ro, .val 63, .none⟩
  | .GLB_TOPO_DEV_X => ⟨.GLB_TOPO, 32, 3, .ro, .img, .none⟩
  | .GLB_TOPO_DEV_Y => ⟨.GLB_TOPO, 35, 3, .ro, .img, .none⟩
  | .GLB_TOPO_DEV_Z => ⟨.GLB_TOPO, 38, 2, .ro, .img, .none⟩
  | .GLB_TOPO_COORD_VALID => ⟨.GLB_TOPO, 40, 1, .ro, .val 0, .none⟩
  | .GLB_UNITS_TILES_USABLE => ⟨.GLB_UNITS, 0, 11, .ro, .val 1536, .none⟩
  | .GLB_UNITS_SPARES_LEFT => ⟨.GLB_UNITS, 16, 7, .ro, .fuse, .none⟩
  | .GLB_UNITS_HBM_STACKS => ⟨.GLB_UNITS, 24, 4, .ro, .val 8, .none⟩
  | .GLB_UNITS_LNT_CORES => ⟨.GLB_UNITS, 32, 5, .ro, .val 16, .none⟩
  | .GLB_UNITS_SEQ_COUNT => ⟨.GLB_UNITS, 40, 4, .ro, .val 8, .none⟩
  | .GLB_UNITS_DL_EXPANDERS => ⟨.GLB_UNITS, 44, 3, .ro, .val 0, .none⟩
  | .PWR_DOM_STATE_STATE_0 => ⟨.PWR_DOM_STATE, 0, 2, .ro, .val 0, .none⟩
  | .PWR_DOM_STATE_STATE_1 => ⟨.PWR_DOM_STATE, 2, 2, .ro, .val 0, .none⟩
  | .PWR_DOM_STATE_STATE_2 => ⟨.PWR_DOM_STATE, 4, 2, .ro, .val 0, .none⟩
  | .PWR_DOM_STATE_STATE_3 => ⟨.PWR_DOM_STATE, 6, 2, .ro, .val 0, .none⟩
  | .PWR_DOM_STATE_STATE_4 => ⟨.PWR_DOM_STATE, 8, 2, .ro, .val 0, .none⟩
  | .PWR_DOM_STATE_STATE_5 => ⟨.PWR_DOM_STATE, 10, 2, .ro, .val 0, .none⟩
  | .PWR_DOM_STATE_STATE_6 => ⟨.PWR_DOM_STATE, 12, 2, .ro, .val 0, .none⟩
  | .PWR_DOM_STATE_STATE_7 => ⟨.PWR_DOM_STATE, 14, 2, .ro, .val 0, .none⟩
  | .PWR_DOM_STATE_STATE_8 => ⟨.PWR_DOM_STATE, 16, 2, .ro, .val 0, .none⟩
  | .PWR_DOM_STATE_STATE_9 => ⟨.PWR_DOM_STATE, 18, 2, .ro, .val 0, .none⟩
  | .PWR_DOM_STATE_STATE_10 => ⟨.PWR_DOM_STATE, 20, 2, .ro, .val 0, .none⟩
  | .PWR_DOM_STATE_STATE_11 => ⟨.PWR_DOM_STATE, 22, 2, .ro, .val 0, .none⟩
  | .PWR_DOM_STATE_STATE_12 => ⟨.PWR_DOM_STATE, 24, 2, .ro, .val 0, .none⟩
  | .PWR_DOM_STATE_STATE_13 => ⟨.PWR_DOM_STATE, 26, 2, .ro, .val 0, .none⟩
  | .PWR_DOM_STATE_STATE_14 => ⟨.PWR_DOM_STATE, 28, 2, .ro, .val 0, .none⟩
  | .PWR_DOM_STATE_STATE_15 => ⟨.PWR_DOM_STATE, 30, 2, .ro, .val 0, .none⟩
  | .PWR_DOM_STATE_STATE_16 => ⟨.PWR_DOM_STATE, 32, 2, .ro, .val 0, .none⟩
  | .PWR_DOM_STATE_STATE_17 => ⟨.PWR_DOM_STATE, 34, 2, .ro, .val 0, .none⟩
  | .PWR_DOM_STATE_STATE_18 => ⟨.PWR_DOM_STATE, 36, 2, .ro, .val 0, .none⟩
  | .PWR_DOM_STATE_STATE_19 => ⟨.PWR_DOM_STATE, 38, 2, .ro, .val 0, .none⟩
  | .PWR_DOM_STATE_STATE_20 => ⟨.PWR_DOM_STATE, 40, 2, .ro, .val 0, .none⟩
  | .PWR_DOM_STATE_STATE_21 => ⟨.PWR_DOM_STATE, 42, 2, .ro, .val 0, .none⟩
  | .PWR_DOM_STATE_STATE_22 => ⟨.PWR_DOM_STATE, 44, 2, .ro, .val 0, .none⟩
  | .PWR_DOM_STATE_STATE_23 => ⟨.PWR_DOM_STATE, 46, 2, .ro, .val 0, .none⟩
  | .PWR_HOLD_HOLD => ⟨.PWR_HOLD, 0, 24, .rw, .val 0, .none⟩
  | .PWR_GOV_ISSUE_DUTY => ⟨.PWR_GOV, 0, 4, .ro, .val 15, .none⟩
  | .PWR_GOV_BOOST_ACTIVE => ⟨.PWR_GOV, 4, 1, .ro, .val 0, .none⟩
  | .PWR_GOV_PROCHOT_IN => ⟨.PWR_GOV, 5, 1, .ro, .val 0, .none⟩
  | .PWR_GOV_LIMIT_HIT => ⟨.PWR_GOV, 6, 1, .w1c, .val 0, .none⟩
  | .PWR_GOV_THROTTLE_EVENTS => ⟨.PWR_GOV, 16, 16, .ro, .val 0, .sat⟩
  | .PWR_GOV_THROTTLE_SAT => ⟨.PWR_GOV, 32, 1, .w1c, .val 0, .none⟩
  | .PWR_GOV_AVG_10MS_W => ⟨.PWR_GOV, 33, 12, .ro, .val 0, .none⟩
  | .PWR_DOM_CFG_POLICY => ⟨.PWR_DOM_CFG, 0, 2, .ro, .img, .none⟩
  | .PWR_DOM_CFG_WAKE_LEAD => ⟨.PWR_DOM_CFG, 4, 12, .ro, .img, .none⟩
  | .PWR_DOM_CFG_HYST => ⟨.PWR_DOM_CFG, 16, 12, .ro, .img, .none⟩
  | .PWR_DOM_CFG_MIN_DOZE => ⟨.PWR_DOM_CFG, 28, 12, .ro, .img, .none⟩
  | .PWR_DOM_CFG_PLAN_VALID => ⟨.PWR_DOM_CFG, 40, 1, .ro, .val 0, .none⟩
  | .PWR_DOM_WAKES_COUNT => ⟨.PWR_DOM_WAKES, 0, 48, .ro, .val 0, .sat⟩
  | .PWR_DOM_WAKES_SAT => ⟨.PWR_DOM_WAKES, 63, 1, .w1c, .val 0, .none⟩
  | .PWR_DOM_DOZE_COUNT => ⟨.PWR_DOM_DOZE, 0, 48, .ro, .val 0, .sat⟩
  | .PWR_DOM_DOZE_SAT => ⟨.PWR_DOM_DOZE, 63, 1, .w1c, .val 0, .none⟩
  | .CLK_TICK_TICK => ⟨.CLK_TICK, 0, 56, .ro, .val 0, .time⟩
  | .CLK_STATUS_PILOT_REF_OK => ⟨.CLK_STATUS, 0, 1, .ro, .val 0, .none⟩
  | .CLK_STATUS_HUB_LOCK => ⟨.CLK_STATUS, 1, 1, .ro, .val 0, .none⟩
  | .CLK_STATUS_LNT_LOCK => ⟨.CLK_STATUS, 2, 1, .ro, .val 0, .none⟩
  | .CLK_STATUS_HL_REF_OK => ⟨.CLK_STATUS, 3, 1, .ro, .val 0, .none⟩
  | .CLK_STATUS_FAB_REF_OK => ⟨.CLK_STATUS, 4, 1, .ro, .val 0, .none⟩
  | .CLK_STATUS_DIE_LOCK => ⟨.CLK_STATUS, 5, 4, .ro, .val 0, .none⟩
  | .CLK_STATUS_TILE_CLK => ⟨.CLK_STATUS, 16, 8, .ro, .val 0, .none⟩
  | .CLK_STATUS_LOCK_LOSS => ⟨.CLK_STATUS, 32, 16, .ro, .val 0, .sat⟩
  | .CLK_STATUS_LOCK_LOSS_SAT => ⟨.CLK_STATUS, 48, 1, .w1c, .val 0, .none⟩
  | .RST_STATUS_PILOT_READY => ⟨.RST_STATUS, 0, 1, .ro, .val 0, .none⟩
  | .RST_STATUS_MAIN_READY => ⟨.RST_STATUS, 1, 1, .ro, .val 0, .none⟩
  | .RST_STATUS_LAST_SCOPE => ⟨.RST_STATUS, 8, 4, .ro, .val 1, .none⟩
  | .RST_STATUS_LAST_CAUSE => ⟨.RST_STATUS, 12, 4, .ro, .val 1, .none⟩
  | .RST_STATUS_WARM_COUNT => ⟨.RST_STATUS, 16, 16, .ro, .val 0, .sat⟩
  | .RST_STATUS_WARM_SAT => ⟨.RST_STATUS, 32, 1, .w1c, .val 0, .none⟩
  | .RST_REQ_WARM => ⟨.RST_REQ, 0, 1, .w1s, .val 0, .none⟩
  | .RST_REQ_FAB_PORT => ⟨.RST_REQ, 16, 14, .w1s, .val 0, .none⟩
  | .KIM_CMD_OP => ⟨.KIM_CMD, 0, 4, .rw, .val 0, .none⟩
  | .KIM_CMD_BUSY => ⟨.KIM_CMD, 4, 1, .ro, .val 0, .none⟩
  | .KIM_SRC_ADDR_ADDR => ⟨.KIM_SRC_ADDR, 0, 64, .rw, .val 0, .none⟩
  | .KIM_SRC_LEN_LEN => ⟨.KIM_SRC_LEN, 0, 32, .rw, .val 0, .none⟩
  | .KIM_ARM_C_C => ⟨.KIM_ARM_C, 0, 64, .rw, .val 0, .none⟩
  | .KIM_ARM_CFG_COMMIT_ID => ⟨.KIM_ARM_CFG, 0, 32, .rw, .val 0, .none⟩
  | .KIM_ARM_CFG_PARTICIPANTS => ⟨.KIM_ARM_CFG, 32, 9, .rw, .val 0, .none⟩
  | .KIM_ARM_CFG_COORD => ⟨.KIM_ARM_CFG, 48, 8, .rw, .val 0, .none⟩
  | .KIM_ARM_CFG_EXTERNAL => ⟨.KIM_ARM_CFG, 56, 1, .rw, .val 0, .none⟩
  | .KIM_ARM_CFG_LOCAL => ⟨.KIM_ARM_CFG, 57, 1, .rw, .val 0, .none⟩
  | .KIM_STATUS_STATE => ⟨.KIM_STATUS, 0, 3, .ro, .val 0, .none⟩
  | .KIM_STATUS_LAST_FAULT => ⟨.KIM_STATUS, 8, 8, .ro, .val 0, .none⟩
  | .KIM_STATUS_LATE => ⟨.KIM_STATUS, 16, 1, .w1c, .val 0, .none⟩
  | .KIM_STATUS_ARB_FAIL => ⟨.KIM_STATUS, 17, 1, .w1c, .val 0, .none⟩
  | .KIM_STATUS_COMMITTED_ID_VALID => ⟨.KIM_STATUS, 18, 1, .ro, .val 0, .none⟩
  | .KIM_STATUS_LAST_ID => ⟨.KIM_STATUS, 32, 32, .ro, .val 0, .none⟩
  | .KIM_EPOCH_EPOCH => ⟨.KIM_EPOCH, 0, 32, .ro, .img, .none⟩
  | .KIM_EPOCH_BASE_VALID => ⟨.KIM_EPOCH, 32, 1, .ro, .val 0, .none⟩
  | .KIM_ARB_FUSE_VALUE => ⟨.KIM_ARB, 0, 8, .ro, .fuse, .none⟩
  | .KIM_ARB_REVOKED => ⟨.KIM_ARB, 16, 16, .ro, .fuse, .none⟩
  | .KIM_UID_UID => ⟨.KIM_UID, 0, 64, .ro, .fuse, .none⟩
  | .KIM_COUNT_COMMITS => ⟨.KIM_COUNT, 0, 16, .ro, .val 0, .sat⟩
  | .KIM_COUNT_COMMITS_SAT => ⟨.KIM_COUNT, 16, 1, .w1c, .val 0, .none⟩
  | .KIM_COUNT_FAILS => ⟨.KIM_COUNT, 32, 16, .ro, .val 0, .sat⟩
  | .KIM_COUNT_FAILS_SAT => ⟨.KIM_COUNT, 48, 1, .w1c, .val 0, .none⟩
  | .KIM_DIG_BASE_DIGEST => ⟨.KIM_DIG_BASE, 0, 64, .ro, .img, .none⟩
  | .KIM_DIG_DOMAIN_DIGEST => ⟨.KIM_DIG_DOMAIN, 0, 64, .ro, .img, .none⟩
  | .KIM_DIG_COMP_DIGEST => ⟨.KIM_DIG_COMP, 0, 64, .ro, .img, .none⟩
  | .KIM_DIG_STAGED_DIGEST => ⟨.KIM_DIG_STAGED, 0, 64, .ro, .val 0, .none⟩
  | .KIM_PART_REV_REV => ⟨.KIM_PART_REV, 0, 32, .ro, .img, .none⟩
  | .KIM_PART_REV_VALID => ⟨.KIM_PART_REV, 32, 1, .ro, .val 0, .none⟩
  | .PART_STATE_STATE => ⟨.PART_STATE, 0, 3, .ro, .val 0, .none⟩
  | .PART_STATE_INCARNATION => ⟨.PART_STATE, 4, 4, .ro, .val 0, .none⟩
  | .PART_STATE_PART => ⟨.PART_STATE, 8, 6, .ro, .part, .none⟩
  | .PART_STATE_BOUND => ⟨.PART_STATE, 14, 1, .ro, .img, .none⟩
  | .PART_STATE_PF_BOUND => ⟨.PART_STATE, 15, 1, .ro, .img, .none⟩
  | .PART_STATE_VF => ⟨.PART_STATE, 16, 6, .ro, .img, .none⟩
  | .PART_STATE_COMMIT_HOLD => ⟨.PART_STATE, 22, 1, .ro, .val 0, .none⟩
  | .PART_STATE_RESET_DONE => ⟨.PART_STATE, 23, 1, .w1c, .val 0, .none⟩
  | .PART_STATE_INC_GATE => ⟨.PART_STATE, 24, 1, .ro, .val 0, .none⟩
  | .PART_STATE_RESETS => ⟨.PART_STATE, 32, 16, .ro, .val 0, .sat⟩
  | .PART_STATE_RESETS_SAT => ⟨.PART_STATE, 48, 1, .w1c, .val 0, .none⟩
  | .PART_CTL_FETCH_EN => ⟨.PART_CTL, 0, 1, .rw, .val 0, .none⟩
  | .PART_RES_TILES => ⟨.PART_RES, 0, 11, .ro, .img, .none⟩
  | .PART_RES_QUOTA => ⟨.PART_RES, 16, 10, .ro, .img, .none⟩
  | .PART_RES_FLOWS => ⟨.PART_RES, 32, 16, .ro, .img, .none⟩
  | .PART_RES_LNT_CORES => ⟨.PART_RES, 48, 16, .ro, .img, .none⟩
  | .PART_STATS_CMDS => ⟨.PART_STATS, 0, 48, .ro, .val 0, .sat⟩
  | .PART_STATS_SAT => ⟨.PART_STATS, 63, 1, .w1c, .val 0, .none⟩
  | .PART_JOB_TAG_TAG => ⟨.PART_JOB_TAG, 0, 64, .ro, .val 0, .none⟩
  | .PART_SQ_BASE_BASE => ⟨.PART_SQ_BASE, 12, 52, .rw, .val 0, .none⟩
  | .PART_SQ_CFG_EN => ⟨.PART_SQ_CFG, 0, 1, .rw, .val 0, .none⟩
  | .PART_SQ_CFG_SIZE_LOG2 => ⟨.PART_SQ_CFG, 4, 5, .rw, .val 0, .none⟩
  | .PART_SQ_CFG_HEAD => ⟨.PART_SQ_CFG, 16, 16, .ro, .val 0, .none⟩
  | .PART_CQ_BASE_BASE => ⟨.PART_CQ_BASE, 12, 52, .rw, .val 0, .none⟩
  | .PART_CQ_CFG_EN => ⟨.PART_CQ_CFG, 0, 1, .rw, .val 0, .none⟩
  | .PART_CQ_CFG_IRQ_EN => ⟨.PART_CQ_CFG, 1, 1, .rw, .val 0, .none⟩
  | .PART_CQ_CFG_SIZE_LOG2 => ⟨.PART_CQ_CFG, 4, 5, .rw, .val 0, .none⟩
  | .PART_CQ_CFG_VECTOR => ⟨.PART_CQ_CFG, 16, 5, .rw, .val 0, .none⟩
  | .PART_CQ_CFG_COAL_COUNT => ⟨.PART_CQ_CFG, 24, 8, .rw, .val 0, .none⟩
  | .PART_CQ_CFG_TAIL => ⟨.PART_CQ_CFG, 32, 16, .ro, .val 0, .none⟩
  | .PART_CQ_CFG_PHASE => ⟨.PART_CQ_CFG, 48, 1, .ro, .val 0, .none⟩
  | .PART_Q_ERR_DB_ERR => ⟨.PART_Q_ERR, 0, 1, .w1c, .val 0, .none⟩
  | .PART_Q_ERR_HOST_ERR => ⟨.PART_Q_ERR, 1, 1, .w1c, .val 0, .none⟩
  | .PART_Q_ERR_STOPPED => ⟨.PART_Q_ERR, 2, 1, .ro, .val 0, .none⟩
  | .PART_Q_ERR_DB_ERRS => ⟨.PART_Q_ERR, 16, 16, .ro, .val 0, .sat⟩
  | .PART_Q_ERR_DB_ERRS_SAT => ⟨.PART_Q_ERR, 32, 1, .w1c, .val 0, .none⟩
  | .PART_SQ_DB_TAIL => ⟨.PART_SQ_DB, 0, 16, .rw, .val 0, .none⟩
  | .PART_CQ_DB_HEAD => ⟨.PART_CQ_DB, 0, 16, .rw, .val 0, .none⟩
  | .PART_PROV_CTL_QUIESCE => ⟨.PART_PROV_CTL, 0, 1, .w1s, .val 0, .none⟩
  | .PART_PROV_CTL_FORCE => ⟨.PART_PROV_CTL, 1, 1, .rw, .val 0, .none⟩
  | .PART_PROV_CTL_RESUME => ⟨.PART_PROV_CTL, 2, 1, .w1s, .val 0, .none⟩
  | .PART_PROV_CTL_RESET => ⟨.PART_PROV_CTL, 3, 1, .w1s, .val 0, .none⟩
  | .PART_PROV_CTL_TIMEOUT_MS => ⟨.PART_PROV_CTL, 16, 16, .rw, .val 0, .none⟩
  | .PART_FWU_ADDR_ADDR => ⟨.PART_FWU_ADDR, 0, 64, .rw, .val 0, .none⟩
  | .PART_FWU_LEN_LEN => ⟨.PART_FWU_LEN, 0, 32, .rw, .val 0, .none⟩
  | .PART_FWU_CMD_OP => ⟨.PART_FWU_CMD, 0, 4, .rw, .val 0, .none⟩
  | .PART_FWU_CMD_BUSY => ⟨.PART_FWU_CMD, 4, 1, .ro, .val 0, .none⟩
  | .PART_FWU_STATUS_STATE => ⟨.PART_FWU_STATUS, 0, 3, .ro, .val 0, .none⟩
  | .PART_FWU_STATUS_FAULT => ⟨.PART_FWU_STATUS, 8, 8, .ro, .val 0, .none⟩
  | .PART_FWU_STATUS_UPDATED => ⟨.PART_FWU_STATUS, 16, 16, .ro, .val 0, .none⟩
  | .PART_FWU_STATUS_WAITING => ⟨.PART_FWU_STATUS, 32, 16, .ro, .val 0, .none⟩
  | .PART_FWU_VER_RUN_MINOR => ⟨.PART_FWU_VER, 0, 16, .ro, .val 0, .none⟩
  | .PART_FWU_VER_RUN_MAJOR => ⟨.PART_FWU_VER, 16, 16, .ro, .val 0, .none⟩
  | .PART_FWU_VER_STG_MINOR => ⟨.PART_FWU_VER, 32, 16, .ro, .val 0, .none⟩
  | .PART_FWU_VER_STG_MAJOR => ⟨.PART_FWU_VER, 48, 16, .ro, .val 0, .none⟩
  | .TILE_STATUS_CORE => ⟨.TILE_STATUS, 0, 2, .ro, .val 0, .none⟩
  | .TILE_STATUS_MATQ_BUSY => ⟨.TILE_STATUS, 2, 1, .ro, .val 0, .none⟩
  | .TILE_STATUS_SENDQ => ⟨.TILE_STATUS, 3, 5, .ro, .val 0, .none⟩
  | .TILE_STATUS_STRIKER => ⟨.TILE_STATUS, 8, 1, .ro, .val 0, .none⟩
  | .TILE_STATUS_PC => ⟨.TILE_STATUS, 16, 16, .ro, .val 0, .none⟩
  | .TILE_EXC_CODE => ⟨.TILE_EXC, 0, 8, .ro, .val 0, .none⟩
  | .TILE_EXC_IMPRECISE => ⟨.TILE_EXC, 8, 1, .ro, .val 0, .none⟩
  | .TILE_EXC_TILE_FATAL => ⟨.TILE_EXC, 9, 1, .ro, .val 0, .none⟩
  | .TILE_EXC_NEW => ⟨.TILE_EXC, 10, 1, .w1c, .val 0, .none⟩
  | .TILE_EXC_PC => ⟨.TILE_EXC, 16, 16, .ro, .val 0, .none⟩
  | .TILE_EXC_COUNT => ⟨.TILE_EXC, 32, 16, .ro, .val 0, .sat⟩
  | .TILE_EXC_COUNT_SAT => ⟨.TILE_EXC, 48, 1, .w1c, .val 0, .none⟩
  | .TILE_EXC_ADDR_ADDR => ⟨.TILE_EXC_ADDR, 0, 32, .ro, .val 0, .none⟩
  | .TILE_EXC_ADDR_INFO => ⟨.TILE_EXC_ADDR, 32, 32, .ro, .val 0, .none⟩
  | .TILE_RETIRED_COUNT => ⟨.TILE_RETIRED, 0, 48, .ro, .val 0, .sat⟩
  | .TILE_RETIRED_SAT => ⟨.TILE_RETIRED, 63, 1, .w1c, .val 0, .none⟩
  | .TILE_CAPS_ISA_MINOR => ⟨.TILE_CAPS, 0, 8, .ro, .val 0, .none⟩
  | .TILE_CAPS_ISA_MAJOR => ⟨.TILE_CAPS, 8, 8, .ro, .val 1, .none⟩
  | .TILE_CAPS_IMEM_KIB => ⟨.TILE_CAPS, 16, 8, .ro, .val 64, .none⟩
  | .TILE_CAPS_STORE_KIB => ⟨.TILE_CAPS, 24, 10, .ro, .val 512, .none⟩
  | .TILE_CAPS_SENDQ => ⟨.TILE_CAPS, 34, 5, .ro, .val 16, .none⟩
  | .TILE_CAPS_MATQ => ⟨.TILE_CAPS, 39, 3, .ro, .val 4, .none⟩
  | .TILE_ECC_CORRECTED => ⟨.TILE_ECC, 0, 48, .ro, .val 0, .sat⟩
  | .TILE_ECC_SAT => ⟨.TILE_ECC, 63, 1, .w1c, .val 0, .none⟩
  | .MSG_CFG_RSV_WAIT => ⟨.MSG_CFG, 0, 16, .rw, .val 1000, .none⟩
  | .MSG_TASKS_DONE => ⟨.MSG_TASKS, 0, 16, .ro, .val 0, .sat⟩
  | .MSG_TASKS_FAULTED => ⟨.MSG_TASKS, 16, 16, .ro, .val 0, .sat⟩
  | .MSG_TASKS_CANCELLED => ⟨.MSG_TASKS, 32, 16, .ro, .val 0, .sat⟩
  | .MSG_TASKS_DONE_SAT => ⟨.MSG_TASKS, 48, 1, .w1c, .val 0, .none⟩
  | .MSG_TASKS_FAULTED_SAT => ⟨.MSG_TASKS, 49, 1, .w1c, .val 0, .none⟩
  | .MSG_TASKS_CANCELLED_SAT => ⟨.MSG_TASKS, 50, 1, .w1c, .val 0, .none⟩
  | .MSG_TASKS_RACED_SEEN => ⟨.MSG_TASKS, 51, 1, .w1c, .val 0, .none⟩
  | .MSG_ERR_FAILED => ⟨.MSG_ERR, 0, 16, .ro, .val 0, .sat⟩
  | .MSG_ERR_DROPPED => ⟨.MSG_ERR, 16, 16, .ro, .val 0, .sat⟩
  | .MSG_ERR_RETRIES => ⟨.MSG_ERR, 32, 16, .ro, .val 0, .sat⟩
  | .MSG_ERR_FAILED_SAT => ⟨.MSG_ERR, 48, 1, .w1c, .val 0, .none⟩
  | .MSG_ERR_DROPPED_SAT => ⟨.MSG_ERR, 49, 1, .w1c, .val 0, .none⟩
  | .MSG_ERR_RETRIES_SAT => ⟨.MSG_ERR, 50, 1, .w1c, .val 0, .none⟩
  | .MSG_CTR_SEL_TX => ⟨.MSG_CTR_SEL, 0, 6, .rw, .val 0, .none⟩
  | .MSG_CTR_SEL_TY => ⟨.MSG_CTR_SEL, 8, 5, .rw, .val 0, .none⟩
  | .MSG_CTR_SEL_CTR => ⟨.MSG_CTR_SEL, 16, 6, .rw, .val 0, .none⟩
  | .MSG_CTR_DATA_VALUE => ⟨.MSG_CTR_DATA, 0, 32, .ro, .val 0, .wrap⟩
  | .MSG_CTR_DATA_LIVE => ⟨.MSG_CTR_DATA, 32, 7, .ro, .val 0, .none⟩
  | .MSG_CTR_DATA_VALID => ⟨.MSG_CTR_DATA, 39, 1, .ro, .val 0, .none⟩
  | .LNT_CORE_CFG_PART => ⟨.LNT_CORE_CFG, 0, 6, .rw, .val 0, .none⟩
  | .LNT_CORE_CFG_ASSIGNED => ⟨.LNT_CORE_CFG, 6, 1, .ro, .val 0, .none⟩
  | .LNT_CORE_CFG_STATE => ⟨.LNT_CORE_CFG, 8, 3, .ro, .val 0, .none⟩
  | .LNT_CORE_CFG_ASSIGN => ⟨.LNT_CORE_CFG, 16, 1, .w1s, .val 0, .none⟩
  | .LNT_CORE_CFG_RELEASE => ⟨.LNT_CORE_CFG, 17, 1, .w1s, .val 0, .none⟩
  | .LNT_CORE_CFG_ASSIGN_ERR => ⟨.LNT_CORE_CFG, 18, 1, .w1c, .val 0, .none⟩
  | .LNT_CORE_CFG_FAULT_EN => ⟨.LNT_CORE_CFG, 19, 1, .rw, .val 0, .none⟩
  | .LNT_CORE_CFG_FAULT_PART => ⟨.LNT_CORE_CFG, 20, 6, .rw, .val 0, .none⟩
  | .LNT_CORE_CFG_RESTARTS => ⟨.LNT_CORE_CFG, 32, 16, .ro, .val 0, .sat⟩
  | .LNT_CORE_CFG_RESTARTS_SAT => ⟨.LNT_CORE_CFG, 48, 1, .w1c, .val 0, .none⟩
  | .LNT_DB_ROUTE_CORE => ⟨.LNT_DB_ROUTE, 0, 4, .rw, .val 0, .none⟩
  | .LNT_DB_ROUTE_EN => ⟨.LNT_DB_ROUTE, 4, 1, .rw, .val 0, .none⟩
  | .LNT_PROV_DB_DATA => ⟨.LNT_PROV_DB, 0, 64, .rw, .val 0, .none⟩
  | .LNT_WDOG_TIMEOUT_MS => ⟨.LNT_WDOG, 0, 16, .rw, .val 0, .none⟩
  | .LNT_WDOG_KICK => ⟨.LNT_WDOG, 16, 1, .w1s, .val 0, .none⟩
  | .LNT_DB_DATA => ⟨.LNT_DB, 0, 64, .rw, .val 0, .none⟩
  | .LNT_DB_STAT_DEPTH => ⟨.LNT_DB_STAT, 0, 5, .ro, .val 0, .none⟩
  | .LNT_DB_STAT_LOST => ⟨.LNT_DB_STAT, 16, 16, .ro, .val 0, .sat⟩
  | .LNT_DB_STAT_LOST_SAT => ⟨.LNT_DB_STAT, 32, 1, .w1c, .val 0, .none⟩
  | .LNT_HOSTIRQ_VECTOR => ⟨.LNT_HOSTIRQ, 0, 5, .rw, .val 0, .none⟩
  | .XLAT_CTX_CFG_PASID => ⟨.XLAT_CTX_CFG, 0, 20, .ro, .val 0, .none⟩
  | .XLAT_CTX_CFG_PASID_VALID => ⟨.XLAT_CTX_CFG, 20, 1, .ro, .val 0, .none⟩
  | .XLAT_CTX_CFG_MISS_MODE => ⟨.XLAT_CTX_CFG, 21, 1, .ro, .val 0, .none⟩
  | .XLAT_CTX_CFG_PRI_EN => ⟨.XLAT_CTX_CFG, 22, 1, .ro, .val 0, .none⟩
  | .XLAT_CTX_CFG_PF_LOG2 => ⟨.XLAT_CTX_CFG, 23, 4, .ro, .val 0, .none⟩
  | .XLAT_CTX_CFG_VALID => ⟨.XLAT_CTX_CFG, 28, 1, .ro, .val 0, .none⟩
  | .XLAT_CTX_STAT_DRAIN_TOKEN => ⟨.XLAT_CTX_STAT, 0, 32, .ro, .val 0, .none⟩
  | .XLAT_CTX_STAT_PAGES_WAITING => ⟨.XLAT_CTX_STAT, 32, 10, .ro, .val 0, .none⟩
  | .XLAT_CTX_STAT_PARKED => ⟨.XLAT_CTX_STAT, 42, 1, .ro, .val 0, .none⟩
  | .XLAT_SEG_IN_IN_BASE => ⟨.XLAT_SEG_IN, 0, 64, .ro, .val 0, .none⟩
  | .XLAT_SEG_LIM_IN_LIMIT => ⟨.XLAT_SEG_LIM, 0, 64, .ro, .val 0, .none⟩
  | .XLAT_SEG_OUT_OUT_BASE => ⟨.XLAT_SEG_OUT, 0, 64, .ro, .val 0, .none⟩
  | .XLAT_SEG_ATTR_TARGET => ⟨.XLAT_SEG_ATTR, 0, 2, .ro, .val 0, .none⟩
  | .XLAT_SEG_ATTR_R => ⟨.XLAT_SEG_ATTR, 2, 1, .ro, .val 0, .none⟩
  | .XLAT_SEG_ATTR_W => ⟨.XLAT_SEG_ATTR, 3, 1, .ro, .val 0, .none⟩
  | .XLAT_SEG_ATTR_A => ⟨.XLAT_SEG_ATTR, 4, 1, .ro, .val 0, .none⟩
  | .XLAT_SEG_ATTR_VALID => ⟨.XLAT_SEG_ATTR, 5, 1, .ro, .val 0, .none⟩
  | .XLAT_SEG_ATTR_STALE => ⟨.XLAT_SEG_ATTR, 6, 1, .ro, .val 0, .none⟩
  | .XLAT_PSTAT_ATS_REQS => ⟨.XLAT_PSTAT, 0, 48, .ro, .val 0, .sat⟩
  | .XLAT_PSTAT_SAT => ⟨.XLAT_PSTAT, 63, 1, .w1c, .val 0, .none⟩
  | .XLAT_PFAULT_FAULTS => ⟨.XLAT_PFAULT, 0, 16, .ro, .val 0, .sat⟩
  | .XLAT_PFAULT_FAULTS_SAT => ⟨.XLAT_PFAULT, 16, 1, .w1c, .val 0, .none⟩
  | .XLAT_PFAULT_LAST_CODE => ⟨.XLAT_PFAULT, 24, 8, .ro, .val 0, .none⟩
  | .XLAT_PPRI_PAGE_REQS => ⟨.XLAT_PPRI, 0, 48, .ro, .val 0, .sat⟩
  | .XLAT_PPRI_SAT => ⟨.XLAT_PPRI, 63, 1, .w1c, .val 0, .none⟩
  | .XLAT_CFG_PRI_TIMEOUT_MS => ⟨.XLAT_CFG, 0, 16, .rw, .val 200, .none⟩
  | .XLAT_GSTAT_ATS_OUT => ⟨.XLAT_GSTAT, 0, 9, .ro, .val 0, .none⟩
  | .XLAT_GSTAT_PRI_OUT => ⟨.XLAT_GSTAT, 16, 10, .ro, .val 0, .none⟩
  | .XLAT_GSTAT_PRI_ALLOC => ⟨.XLAT_GSTAT, 32, 10, .ro, .val 0, .none⟩
  | .XLAT_GSTAT_PRI_STOPPED => ⟨.XLAT_GSTAT, 42, 1, .ro, .val 0, .none⟩
  | .XLAT_GSTAT_BAD_PRG => ⟨.XLAT_GSTAT, 48, 16, .ro, .val 0, .sat⟩
  | .XLAT_L2_USED => ⟨.XLAT_L2, 0, 15, .ro, .val 0, .none⟩
  | .XLAT_L2_MERGED => ⟨.XLAT_L2, 16, 48, .ro, .val 0, .sat⟩
  | .XLAT_HINV_HOST_INVS => ⟨.XLAT_HINV, 0, 48, .ro, .val 0, .sat⟩
  | .XLAT_HINV_BAD_PRG_SAT => ⟨.XLAT_HINV, 48, 1, .w1c, .val 0, .none⟩
  | .XLAT_HINV_MERGED_SAT => ⟨.XLAT_HINV, 49, 1, .w1c, .val 0, .none⟩
  | .XLAT_HINV_SAT => ⟨.XLAT_HINV, 63, 1, .w1c, .val 0, .none⟩
  | .CCH_CFG_MODE => ⟨.CCH_CFG, 0, 4, .rw, .val 15, .none⟩
  | .CCH_CFG_NL_EN => ⟨.CCH_CFG, 4, 4, .rw, .val 15, .none⟩
  | .CCH_CFG_NL_DEPTH => ⟨.CCH_CFG, 8, 2, .rw, .val 0, .none⟩
  | .CCH_CFG_SSD_EN => ⟨.CCH_CFG, 10, 1, .rw, .val 1, .none⟩
  | .CCH_CFG_CLEAN_NOTIFY => ⟨.CCH_CFG, 11, 1, .rw, .val 0, .none⟩
  | .CCH_DEV_STATE => ⟨.CCH_DEV, 0, 2, .ro, .val 0, .none⟩
  | .CCH_DEV_STALE_RISK => ⟨.CCH_DEV, 2, 1, .ro, .val 0, .none⟩
  | .CCH_DEV_BUSY => ⟨.CCH_DEV, 3, 1, .ro, .val 0, .none⟩
  | .CCH_DEV_RETAINED => ⟨.CCH_DEV, 16, 20, .ro, .val 0, .none⟩
  | .CCH_DEV_VALID => ⟨.CCH_DEV, 36, 20, .ro, .val 0, .none⟩
  | .CCH_EVB_USED => ⟨.CCH_EVB, 0, 7, .ro, .val 0, .none⟩
  | .CCH_EVB_TRK0 => ⟨.CCH_EVB, 16, 8, .ro, .val 0, .none⟩
  | .CCH_EVB_TRK1 => ⟨.CCH_EVB, 24, 8, .ro, .val 0, .none⟩
  | .CCH_EVB_TRK2 => ⟨.CCH_EVB, 32, 8, .ro, .val 0, .none⟩
  | .CCH_EVB_TRK3 => ⟨.CCH_EVB, 40, 8, .ro, .val 0, .none⟩
  | .CCH_ERR_POISON_FILLS => ⟨.CCH_ERR, 0, 16, .ro, .val 0, .sat⟩
  | .CCH_ERR_POISON_SAT => ⟨.CCH_ERR, 16, 1, .w1c, .val 0, .none⟩
  | .CCH_ERR_GO_ERRS => ⟨.CCH_ERR, 32, 16, .ro, .val 0, .sat⟩
  | .CCH_ERR_GO_ERR_SAT => ⟨.CCH_ERR, 48, 1, .w1c, .val 0, .none⟩
  | .CCH_HITS_COUNT => ⟨.CCH_HITS, 0, 48, .ro, .val 0, .sat⟩
  | .CCH_HITS_SAT => ⟨.CCH_HITS, 63, 1, .w1c, .val 0, .none⟩
  | .CCH_MISSES_COUNT => ⟨.CCH_MISSES, 0, 48, .ro, .val 0, .sat⟩
  | .CCH_MISSES_SAT => ⟨.CCH_MISSES, 63, 1, .w1c, .val 0, .none⟩
  | .CCH_PREFETCHES_COUNT => ⟨.CCH_PREFETCHES, 0, 48, .ro, .val 0, .sat⟩
  | .CCH_PREFETCHES_SAT => ⟨.CCH_PREFETCHES, 63, 1, .w1c, .val 0, .none⟩
  | .CCH_STREAM_WRITES_COUNT => ⟨.CCH_STREAM_WRITES, 0, 48, .ro, .val 0, .sat⟩
  | .CCH_STREAM_WRITES_SAT => ⟨.CCH_STREAM_WRITES, 63, 1, .w1c, .val 0, .none⟩
  | .CCH_EVICT_DIRTY_COUNT => ⟨.CCH_EVICT_DIRTY, 0, 48, .ro, .val 0, .sat⟩
  | .CCH_EVICT_DIRTY_SAT => ⟨.CCH_EVICT_DIRTY, 63, 1, .w1c, .val 0, .none⟩
  | .CCH_EVICT_NOTIFIED_COUNT => ⟨.CCH_EVICT_NOTIFIED, 0, 48, .ro, .val 0, .sat⟩
  | .CCH_EVICT_NOTIFIED_SAT => ⟨.CCH_EVICT_NOTIFIED, 63, 1, .w1c, .val 0, .none⟩
  | .CCH_SNOOPS_COUNT => ⟨.CCH_SNOOPS, 0, 48, .ro, .val 0, .sat⟩
  | .CCH_SNOOPS_SAT => ⟨.CCH_SNOOPS, 63, 1, .w1c, .val 0, .none⟩
  | .CCH_SNOOP_EVB_COUNT => ⟨.CCH_SNOOP_EVB, 0, 48, .ro, .val 0, .sat⟩
  | .CCH_SNOOP_EVB_SAT => ⟨.CCH_SNOOP_EVB, 63, 1, .w1c, .val 0, .none⟩
  | .DIR_CFG_DRAIN => ⟨.DIR_CFG, 0, 1, .w1s, .val 0, .none⟩
  | .DIR_STATUS_MODE => ⟨.DIR_STATUS, 0, 2, .ro, .val 0, .none⟩
  | .DIR_STATUS_DRAINING => ⟨.DIR_STATUS, 2, 1, .ro, .val 0, .none⟩
  | .DIR_STATUS_BI_PENDING => ⟨.DIR_STATUS, 4, 7, .ro, .val 0, .none⟩
  | .DIR_STATUS_USED => ⟨.DIR_STATUS, 16, 25, .ro, .val 0, .none⟩
  | .DIR_BISNP_COUNT => ⟨.DIR_BISNP, 0, 48, .ro, .val 0, .sat⟩
  | .DIR_BISNP_SAT => ⟨.DIR_BISNP, 63, 1, .w1c, .val 0, .none⟩
  | .DIR_BI_EVICT_COUNT => ⟨.DIR_BI_EVICT, 0, 48, .ro, .val 0, .sat⟩
  | .DIR_BI_EVICT_SAT => ⟨.DIR_BI_EVICT, 63, 1, .w1c, .val 0, .none⟩
  | .DIR_BI_STALE_COUNT => ⟨.DIR_BI_STALE, 0, 48, .ro, .val 0, .sat⟩
  | .DIR_BI_STALE_SAT => ⟨.DIR_BI_STALE, 63, 1, .w1c, .val 0, .none⟩
  | .DIR_CONFLICTS_COUNT => ⟨.DIR_CONFLICTS, 0, 48, .ro, .val 0, .sat⟩
  | .DIR_CONFLICTS_SAT => ⟨.DIR_CONFLICTS, 63, 1, .w1c, .val 0, .none⟩
  | .CCH_PSTATE_STATE => ⟨.CCH_PSTATE, 0, 2, .ro, .val 0, .none⟩
  | .CCH_PSTATE_STALE_RISK => ⟨.CCH_PSTATE, 2, 1, .ro, .val 0, .none⟩
  | .CCH_PSTATE_BUSY => ⟨.CCH_PSTATE, 3, 1, .ro, .val 0, .none⟩
  | .CCH_PSTATE_RETAINED => ⟨.CCH_PSTATE, 12, 20, .ro, .val 0, .none⟩
  | .CCH_PSTATE_OCCUPANCY => ⟨.CCH_PSTATE, 32, 20, .ro, .val 0, .none⟩
  | .CCH_PHITS_COUNT => ⟨.CCH_PHITS, 0, 48, .ro, .val 0, .sat⟩
  | .CCH_PHITS_SAT => ⟨.CCH_PHITS, 63, 1, .w1c, .val 0, .none⟩
  | .CCH_PMISSES_COUNT => ⟨.CCH_PMISSES, 0, 48, .ro, .val 0, .sat⟩
  | .CCH_PMISSES_SAT => ⟨.CCH_PMISSES, 63, 1, .w1c, .val 0, .none⟩
  | .MEM_CFG_SCRUB_HOURS => ⟨.MEM_CFG, 0, 8, .rw, .val 24, .none⟩
  | .MEM_ERRLOG_ADDR => ⟨.MEM_ERRLOG, 0, 48, .ro, .val 0, .none⟩
  | .MEM_ERRLOG_STACK => ⟨.MEM_ERRLOG, 48, 3, .ro, .val 0, .none⟩
  | .MEM_ERRLOG_SCRUB => ⟨.MEM_ERRLOG, 51, 1, .ro, .val 0, .none⟩
  | .MEM_ERRLOG_NEW => ⟨.MEM_ERRLOG, 63, 1, .w1c, .val 0, .none⟩
  | .MEM_DBGWIN_BASE => ⟨.MEM_DBGWIN, 30, 18, .rw, .val 0, .none⟩
  | .MEM_STACK_TRAINED => ⟨.MEM_STACK, 0, 1, .ro, .val 0, .none⟩
  | .MEM_STACK_SELF_REFRESH => ⟨.MEM_STACK, 1, 1, .ro, .val 0, .none⟩
  | .MEM_STACK_CE => ⟨.MEM_STACK, 16, 16, .ro, .val 0, .sat⟩
  | .MEM_STACK_UE => ⟨.MEM_STACK, 32, 16, .ro, .val 0, .sat⟩
  | .MEM_STACK_CE_SAT => ⟨.MEM_STACK, 48, 1, .w1c, .val 0, .none⟩
  | .MEM_STACK_UE_SAT => ⟨.MEM_STACK, 49, 1, .w1c, .val 0, .none⟩
  | .CRY_KEK_KEK_VALID => ⟨.CRY_KEK, 0, 4, .ro, .val 0, .none⟩
  | .CRY_KEK_FAB_KEY_VALID => ⟨.CRY_KEK, 4, 1, .ro, .val 0, .none⟩
  | .CRY_KEK_TWIN_KEY_VALID => ⟨.CRY_KEK, 5, 1, .ro, .val 0, .none⟩
  | .CRY_LINK_FAB_KEY_ID => ⟨.CRY_LINK, 0, 32, .ro, .val 0, .none⟩
  | .CRY_LINK_TWIN_KEY_ID => ⟨.CRY_LINK, 32, 32, .ro, .val 0, .none⟩
  | .CRY_STAT_TAG_FAILS => ⟨.CRY_STAT, 0, 16, .ro, .val 0, .sat⟩
  | .CRY_STAT_TAG_SAT => ⟨.CRY_STAT, 16, 1, .w1c, .val 0, .none⟩
  | .CRY_STAT_LINKUP_EXHAUSTED => ⟨.CRY_STAT, 17, 1, .w1c, .val 0, .none⟩
  | .CRY_WAITS_COUNT => ⟨.CRY_WAITS, 0, 48, .ro, .val 0, .sat⟩
  | .CRY_WAITS_SAT => ⟨.CRY_WAITS, 63, 1, .w1c, .val 0, .none⟩
  | .CRY_KR_ID_CUR_ID => ⟨.CRY_KR_ID, 0, 32, .ro, .val 0, .none⟩
  | .CRY_KR_ID_NEXT_ID => ⟨.CRY_KR_ID, 32, 32, .ro, .val 0, .none⟩
  | .CRY_KR_RK_BOUNDARY => ⟨.CRY_KR_RK, 0, 32, .ro, .val 0, .none⟩
  | .CRY_KR_RK_STATE => ⟨.CRY_KR_RK, 32, 2, .ro, .val 0, .none⟩
  | .CRY_KR_RK_NEXT_VALID => ⟨.CRY_KR_RK, 34, 1, .ro, .val 0, .none⟩
  | .CRY_KR_RK_VALID => ⟨.CRY_KR_RK, 35, 1, .ro, .val 0, .none⟩
  | .CRY_KR_RK_DONE => ⟨.CRY_KR_RK, 36, 1, .w1c, .val 0, .none⟩
  | .CRY_KR_RK_HOLD => ⟨.CRY_KR_RK, 37, 1, .ro, .val 0, .none⟩
  | .CRY_KR_RK_STARTER => ⟨.CRY_KR_RK, 38, 6, .ro, .val 0, .none⟩
  | .CRY_KR_RK_PACE => ⟨.CRY_KR_RK, 48, 8, .ro, .val 0, .none⟩
  | .CRY_PKR_ID_CUR_ID => ⟨.CRY_PKR_ID, 0, 32, .ro, .val 0, .none⟩
  | .CRY_PKR_ID_NEXT_ID => ⟨.CRY_PKR_ID, 32, 32, .ro, .val 0, .none⟩
  | .CRY_PKR_RK_BOUNDARY => ⟨.CRY_PKR_RK, 0, 32, .ro, .val 0, .none⟩
  | .CRY_PKR_RK_STATE => ⟨.CRY_PKR_RK, 32, 2, .ro, .val 0, .none⟩
  | .CRY_PKR_RK_NEXT_VALID => ⟨.CRY_PKR_RK, 34, 1, .ro, .val 0, .none⟩
  | .CRY_PKR_RK_VALID => ⟨.CRY_PKR_RK, 35, 1, .ro, .val 0, .none⟩
  | .CRY_PKR_RK_DONE => ⟨.CRY_PKR_RK, 36, 1, .w1c, .val 0, .none⟩
  | .CRY_PKR_RK_HOLD => ⟨.CRY_PKR_RK, 37, 1, .ro, .val 0, .none⟩
  | .CRY_PKR_RK_STARTER => ⟨.CRY_PKR_RK, 38, 6, .ro, .val 0, .none⟩
  | .CRY_PKR_RK_PACE => ⟨.CRY_PKR_RK, 48, 8, .ro, .val 0, .none⟩
  | .HL_CFG_CACHE_TO_MS => ⟨.HL_CFG, 0, 16, .rw, .val 50, .none⟩
  | .HL_CFG_QUAR_EN => ⟨.HL_CFG, 16, 1, .rw, .val 1, .none⟩
  | .HL_STATUS_QUARANTINE => ⟨.HL_STATUS, 0, 1, .ro, .val 0, .none⟩
  | .HL_STATUS_RELEASE => ⟨.HL_STATUS, 1, 1, .w1s, .val 0, .none⟩
  | .HL_STATUS_PF_DSTATE => ⟨.HL_STATUS, 2, 2, .ro, .val 0, .none⟩
  | .HL_STATUS_D3COLD_ENTRY => ⟨.HL_STATUS, 4, 1, .ro, .val 0, .none⟩
  | .HL_STATUS_LINK_UP => ⟨.HL_STATUS, 5, 1, .ro, .val 0, .none⟩
  | .HL_STATUS_LAST_CODE => ⟨.HL_STATUS, 8, 8, .ro, .val 0, .none⟩
  | .HL_STATUS_QUARANTINES => ⟨.HL_STATUS, 16, 16, .ro, .val 0, .sat⟩
  | .HL_STATUS_QUAR_SAT => ⟨.HL_STATUS, 32, 1, .w1c, .val 0, .none⟩
  | .HL_VIOL_COUNT => ⟨.HL_VIOL, 0, 48, .ro, .val 0, .sat⟩
  | .HL_VIOL_SAT => ⟨.HL_VIOL, 63, 1, .w1c, .val 0, .none⟩
  | .HL_VIOL_LOG_CODE => ⟨.HL_VIOL_LOG, 0, 8, .ro, .val 0, .none⟩
  | .HL_VIOL_LOG_FUNC => ⟨.HL_VIOL_LOG, 8, 7, .ro, .val 0, .none⟩
  | .HL_VIOL_LOG_TICK => ⟨.HL_VIOL_LOG, 16, 48, .ro, .val 0, .none⟩
  | .HL_CTO_TIMEOUTS => ⟨.HL_CTO, 0, 24, .ro, .val 0, .sat⟩
  | .HL_CTO_TO_SAT => ⟨.HL_CTO, 24, 1, .w1c, .val 0, .none⟩
  | .HL_CTO_LATE => ⟨.HL_CTO, 32, 16, .ro, .val 0, .sat⟩
  | .HL_CTO_LATE_SAT => ⟨.HL_CTO, 48, 1, .w1c, .val 0, .none⟩
  | .HL_GVEC_FAULT_VEC => ⟨.HL_GVEC, 0, 11, .rw, .val 0, .none⟩
  | .HL_GVEC_FAULT_EN => ⟨.HL_GVEC, 11, 1, .rw, .val 0, .none⟩
  | .HL_GVEC_KIM_VEC => ⟨.HL_GVEC, 12, 11, .rw, .val 0, .none⟩
  | .HL_GVEC_KIM_EN => ⟨.HL_GVEC, 23, 1, .rw, .val 0, .none⟩
  | .HL_GVEC_FWU_VEC => ⟨.HL_GVEC, 24, 11, .rw, .val 0, .none⟩
  | .HL_GVEC_FWU_EN => ⟨.HL_GVEC, 35, 1, .rw, .val 0, .none⟩
  | .HL_GVEC_HL_VEC => ⟨.HL_GVEC, 36, 11, .rw, .val 0, .none⟩
  | .HL_GVEC_HL_EN => ⟨.HL_GVEC, 47, 1, .rw, .val 0, .none⟩
  | .HL_GVEC_EMB_VEC => ⟨.HL_GVEC, 48, 11, .rw, .val 0, .none⟩
  | .HL_GVEC_EMB_EN => ⟨.HL_GVEC, 59, 1, .rw, .val 0, .none⟩
  | .HL_INTX_PART_PART => ⟨.HL_INTX_PART, 0, 64, .w1c, .val 0, .none⟩
  | .HL_INTX_GLB_GLB => ⟨.HL_INTX_GLB, 0, 5, .w1c, .val 0, .none⟩
  | .HL_INTX_GLB_LEVEL => ⟨.HL_INTX_GLB, 8, 1, .ro, .val 0, .none⟩
  | .HL_WAKE_SIDEBAND_EN => ⟨.HL_WAKE, 0, 1, .rw, .val 0, .none⟩
  | .HL_WAKE_TWIN_HB_EN => ⟨.HL_WAKE, 1, 1, .rw, .val 0, .none⟩
  | .HL_WAKE_GPIO_EN => ⟨.HL_WAKE, 2, 8, .rw, .val 0, .none⟩
  | .HL_WAKE_WAKE_OUT => ⟨.HL_WAKE, 16, 1, .ro, .val 0, .none⟩
  | .HL_WAKE_WAKES => ⟨.HL_WAKE, 32, 16, .ro, .val 0, .sat⟩
  | .HL_WAKE_WAKES_SAT => ⟨.HL_WAKE, 48, 1, .w1c, .val 0, .none⟩
  | .HL_FLR_PF_FLRS => ⟨.HL_FLR, 0, 16, .ro, .val 0, .sat⟩
  | .HL_FLR_PF_SAT => ⟨.HL_FLR, 16, 1, .w1c, .val 0, .none⟩
  | .HL_FLR_VF_FLRS => ⟨.HL_FLR, 32, 16, .ro, .val 0, .sat⟩
  | .HL_FLR_VF_SAT => ⟨.HL_FLR, 48, 1, .w1c, .val 0, .none⟩
  | .HL_FLR_LAST_VF => ⟨.HL_FLR, 49, 7, .ro, .val 0, .none⟩
  | .HL_PSTAT_HOST_ERRS => ⟨.HL_PSTAT, 0, 16, .ro, .val 0, .sat⟩
  | .HL_PSTAT_HOST_ERRS_SAT => ⟨.HL_PSTAT, 16, 1, .w1c, .val 0, .none⟩
  | .HL_PSTAT_HELD => ⟨.HL_PSTAT, 32, 16, .ro, .val 0, .none⟩
  | .DL_CFG_ILV_EN => ⟨.DL_CFG, 0, 1, .rw, .val 0, .none⟩
  | .DL_CFG_MEM_TO_MS => ⟨.DL_CFG, 8, 8, .rw, .val 10, .none⟩
  | .DL_CFG_QUAR_EN => ⟨.DL_CFG, 16, 1, .rw, .val 1, .none⟩
  | .DL_STATUS_BIF => ⟨.DL_STATUS, 0, 2, .ro, .val 0, .none⟩
  | .DL_STATUS_ENUM_DONE => ⟨.DL_STATUS, 2, 1, .ro, .val 0, .none⟩
  | .DL_STATUS_ILV_ACTIVE => ⟨.DL_STATUS, 3, 1, .ro, .val 0, .none⟩
  | .DL_STATUS_ILV_FAILED => ⟨.DL_STATUS, 4, 1, .ro, .val 0, .none⟩
  | .DL_STATUS_ACTIVE_PORTS => ⟨.DL_STATUS, 8, 3, .ro, .val 0, .none⟩
  | .DL_CMD_OP => ⟨.DL_CMD, 0, 4, .rw, .val 0, .none⟩
  | .DL_CMD_PORT => ⟨.DL_CMD, 4, 2, .rw, .val 0, .none⟩
  | .DL_CMD_ALL => ⟨.DL_CMD, 6, 1, .rw, .val 0, .none⟩
  | .DL_CMD_BUSY => ⟨.DL_CMD, 7, 1, .ro, .val 0, .none⟩
  | .DL_PORT_STAT_STATE => ⟨.DL_PORT_STAT, 0, 3, .ro, .val 0, .none⟩
  | .DL_PORT_STAT_MODE => ⟨.DL_PORT_STAT, 3, 2, .ro, .val 0, .none⟩
  | .DL_PORT_STAT_SPEED => ⟨.DL_PORT_STAT, 5, 3, .ro, .val 0, .none⟩
  | .DL_PORT_STAT_WIDTH => ⟨.DL_PORT_STAT, 8, 5, .ro, .val 0, .none⟩
  | .DL_PORT_STAT_CONTENT_LOST => ⟨.DL_PORT_STAT, 13, 1, .w1c, .val 0, .none⟩
  | .DL_PORT_STAT_VENDOR => ⟨.DL_PORT_STAT, 16, 16, .ro, .val 0, .none⟩
  | .DL_PORT_STAT_DEVICE => ⟨.DL_PORT_STAT, 32, 16, .ro, .val 0, .none⟩
  | .DL_PORT_BASE_BASE => ⟨.DL_PORT_BASE, 0, 64, .ro, .val 0, .none⟩
  | .DL_PORT_SIZE_SIZE => ⟨.DL_PORT_SIZE, 0, 64, .ro, .val 0, .none⟩
  | .DL_PORT_ERR_VIOL => ⟨.DL_PORT_ERR, 0, 16, .ro, .val 0, .sat⟩
  | .DL_PORT_ERR_VIOL_SAT => ⟨.DL_PORT_ERR, 16, 1, .w1c, .val 0, .none⟩
  | .DL_PORT_ERR_LAST_CODE => ⟨.DL_PORT_ERR, 24, 8, .ro, .val 0, .none⟩
  | .DL_PORT_ERR_DOWNS => ⟨.DL_PORT_ERR, 32, 8, .ro, .val 0, .sat⟩
  | .DL_PORT_ERR_DOWNS_SAT => ⟨.DL_PORT_ERR, 40, 1, .w1c, .val 0, .none⟩
  | .DL_PORT_ERR_POISON => ⟨.DL_PORT_ERR, 41, 15, .ro, .val 0, .sat⟩
  | .DL_PORT_ERR_POISON_SAT => ⟨.DL_PORT_ERR, 56, 1, .w1c, .val 0, .none⟩
  | .FAB_PORT_STAT_STATE => ⟨.FAB_PORT_STAT, 0, 4, .ro, .val 0, .none⟩
  | .FAB_PORT_STAT_HALF => ⟨.FAB_PORT_STAT, 4, 1, .ro, .val 0, .none⟩
  | .FAB_PORT_STAT_REVERSED => ⟨.FAB_PORT_STAT, 5, 1, .ro, .val 0, .none⟩
  | .FAB_PORT_STAT_POL => ⟨.FAB_PORT_STAT, 6, 8, .ro, .val 0, .none⟩
  | .FAB_PORT_STAT_LINKUP => ⟨.FAB_PORT_STAT, 16, 16, .ro, .val 0, .none⟩
  | .FAB_PORT_STAT_NEIGH => ⟨.FAB_PORT_STAT, 32, 8, .ro, .val 0, .none⟩
  | .FAB_PORT_STAT_NEIGH_PORT => ⟨.FAB_PORT_STAT, 40, 4, .ro, .val 0, .none⟩
  | .FAB_PORT_FEC_CORRECTED => ⟨.FAB_PORT_FEC, 0, 48, .ro, .val 0, .sat⟩
  | .FAB_PORT_FEC_SAT => ⟨.FAB_PORT_FEC, 63, 1, .w1c, .val 0, .none⟩
  | .FAB_PORT_ERR_UNCORR => ⟨.FAB_PORT_ERR, 0, 16, .ro, .val 0, .sat⟩
  | .FAB_PORT_ERR_UNCORR_SAT => ⟨.FAB_PORT_ERR, 16, 1, .w1c, .val 0, .none⟩
  | .FAB_PORT_ERR_FCRC_FAILS => ⟨.FAB_PORT_ERR, 32, 16, .ro, .val 0, .sat⟩
  | .FAB_PORT_ERR_FCRC_SAT => ⟨.FAB_PORT_ERR, 48, 1, .w1c, .val 0, .none⟩
  | .FAB_PORT_VIOL_TX_HELD => ⟨.FAB_PORT_VIOL, 0, 16, .ro, .val 0, .sat⟩
  | .FAB_PORT_VIOL_TX_SAT => ⟨.FAB_PORT_VIOL, 16, 1, .w1c, .val 0, .none⟩
  | .FAB_PORT_VIOL_RX_SLOT => ⟨.FAB_PORT_VIOL, 32, 16, .ro, .val 0, .sat⟩
  | .FAB_PORT_VIOL_RX_SAT => ⟨.FAB_PORT_VIOL, 48, 1, .w1c, .val 0, .none⟩
  | .FAB_PORT_DELAY_DELAY => ⟨.FAB_PORT_DELAY, 0, 16, .ro, .val 0, .none⟩
  | .FAB_PORT_RETRY_REPLAYS => ⟨.FAB_PORT_RETRY, 0, 24, .ro, .val 0, .sat⟩
  | .FAB_PORT_RETRY_REPLAYS_SAT => ⟨.FAB_PORT_RETRY, 24, 1, .w1c, .val 0, .none⟩
  | .FAB_PORT_RETRY_EXHAUSTED => ⟨.FAB_PORT_RETRY, 28, 4, .ro, .val 0, .none⟩
  | .FAB_PORT_RETRY_DOWNS => ⟨.FAB_PORT_RETRY, 32, 16, .ro, .val 0, .sat⟩
  | .FAB_PORT_RETRY_DOWNS_SAT => ⟨.FAB_PORT_RETRY, 48, 1, .w1c, .val 0, .none⟩
  | .FAB_PORT_RETRY_DOWN_CAUSE => ⟨.FAB_PORT_RETRY, 49, 2, .ro, .val 0, .none⟩
  | .FAB_PORT_QUAR_CAUSE => ⟨.FAB_PORT_QUAR, 0, 7, .ro, .val 0, .none⟩
  | .FAB_PORT_QUAR_LAST_VIOL => ⟨.FAB_PORT_QUAR, 8, 8, .ro, .val 0, .none⟩
  | .FAB_PORT_QUAR_VIOLS => ⟨.FAB_PORT_QUAR, 16, 16, .ro, .val 0, .sat⟩
  | .FAB_PORT_QUAR_VIOLS_SAT => ⟨.FAB_PORT_QUAR, 32, 1, .w1c, .val 0, .none⟩
  | .FAB_PORT_QUAR_ENTRIES => ⟨.FAB_PORT_QUAR, 40, 8, .ro, .val 0, .sat⟩
  | .FAB_PORT_QUAR_ENTRIES_SAT => ⟨.FAB_PORT_QUAR, 48, 1, .w1c, .val 0, .none⟩
  | .FAB_CADENCE_CADENCE => ⟨.FAB_CADENCE, 0, 64, .ro, .val 0, .time⟩
  | .FAB_SYNC_STATE => ⟨.FAB_SYNC, 0, 2, .ro, .val 0, .none⟩
  | .FAB_SYNC_PARENT => ⟨.FAB_SYNC, 2, 4, .ro, .val 0, .none⟩
  | .FAB_SYNC_ERR => ⟨.FAB_SYNC, 8, 16, .ro, .val 0, .none⟩
  | .FAB_SYNC_HOPS => ⟨.FAB_SYNC, 24, 8, .ro, .val 0, .none⟩
  | .FAB_SYNC_SLOT => ⟨.FAB_SYNC, 32, 12, .ro, .val 0, .none⟩
  | .FAB_SYNC_SYNC_LOST => ⟨.FAB_SYNC, 48, 15, .ro, .val 0, .sat⟩
  | .FAB_SYNC_SYNC_LOST_SAT => ⟨.FAB_SYNC, 63, 1, .w1c, .val 0, .none⟩
  | .FAB_TBL_SEL_PORT => ⟨.FAB_TBL_SEL, 0, 4, .rw, .val 0, .none⟩
  | .FAB_TBL_SEL_RX => ⟨.FAB_TBL_SEL, 4, 1, .rw, .val 0, .none⟩
  | .FAB_TBL_SEL_SLOT => ⟨.FAB_TBL_SEL, 16, 12, .rw, .val 0, .none⟩
  | .FAB_TBL_DATA_ENTRY => ⟨.FAB_TBL_DATA, 0, 16, .ro, .img, .none⟩
  | .FAB_OCC_SEL_PORT => ⟨.FAB_OCC_SEL, 0, 4, .rw, .val 0, .none⟩
  | .FAB_OCC_SEL_SLOT => ⟨.FAB_OCC_SEL, 16, 12, .rw, .val 0, .none⟩
  | .FAB_OCC_DATA_FLITS => ⟨.FAB_OCC_DATA, 0, 8, .ro, .val 0, .none⟩
  | .FAB_SAMPLE_SAMPLES => ⟨.FAB_SAMPLE, 0, 48, .ro, .val 0, .wrap⟩
  | .FAB_ERRCFG_RESEND_US => ⟨.FAB_ERRCFG, 0, 16, .rw, .val 0, .none⟩
  | .FAB_ERRCFG_QUAR_EN => ⟨.FAB_ERRCFG, 16, 1, .rw, .val 1, .none⟩
  | .FAB_RECOV_RETAIN_KIB => ⟨.FAB_RECOV, 0, 15, .ro, .val 0, .none⟩
  | .FAB_RECOV_MGMT_DROPS => ⟨.FAB_RECOV, 16, 16, .ro, .val 0, .sat⟩
  | .FAB_RECOV_EPOCH_DROPS => ⟨.FAB_RECOV, 32, 16, .ro, .val 0, .sat⟩
  | .FAB_RECOV_MGMT_SAT => ⟨.FAB_RECOV, 48, 1, .w1c, .val 0, .none⟩
  | .FAB_RECOV_EPOCH_SAT => ⟨.FAB_RECOV, 49, 1, .w1c, .val 0, .none⟩
  | .FAB_FENCE_CAUSE => ⟨.FAB_FENCE, 0, 2, .ro, .val 0, .none⟩
  | .FAB_FENCE_FENCES => ⟨.FAB_FENCE, 16, 16, .ro, .val 0, .sat⟩
  | .FAB_FENCE_FENCES_SAT => ⟨.FAB_FENCE, 32, 1, .w1c, .val 0, .none⟩
  | .SEQ_STAT_ACTIVE => ⟨.SEQ_STAT, 0, 5, .ro, .val 0, .none⟩
  | .SEQ_STAT_ABORTS => ⟨.SEQ_STAT, 16, 16, .ro, .val 0, .sat⟩
  | .SEQ_STAT_ABORTS_SAT => ⟨.SEQ_STAT, 32, 1, .w1c, .val 0, .none⟩
  | .SEQ_COLL_COLL_ID => ⟨.SEQ_COLL, 0, 16, .ro, .val 0, .none⟩
  | .SEQ_COLL_PART => ⟨.SEQ_COLL, 16, 6, .ro, .val 0, .none⟩
  | .SEQ_COLL_FLOW => ⟨.SEQ_COLL, 22, 4, .ro, .val 0, .none⟩
  | .SEQ_COLL_STATE => ⟨.SEQ_COLL, 26, 2, .ro, .val 0, .none⟩
  | .SEQ_COLL_DEGRADED => ⟨.SEQ_COLL, 28, 1, .ro, .val 0, .none⟩
  | .SEQ_COLL_POISONED => ⟨.SEQ_COLL, 29, 1, .ro, .val 0, .none⟩
  | .SEQ_COLL_COMMITTED => ⟨.SEQ_COLL, 32, 32, .ro, .val 0, .none⟩
  | .FAB_PFLOW_COUNT => ⟨.FAB_PFLOW, 0, 48, .ro, .val 0, .sat⟩
  | .FAB_PFLOW_SAT => ⟨.FAB_PFLOW, 63, 1, .w1c, .val 0, .none⟩
  | .FAB_PVIOL_COUNT => ⟨.FAB_PVIOL, 0, 48, .ro, .val 0, .sat⟩
  | .FAB_PVIOL_SAT => ⟨.FAB_PVIOL, 63, 1, .w1c, .val 0, .none⟩
  | .SEQ_PSTAT_DONE => ⟨.SEQ_PSTAT, 0, 16, .ro, .val 0, .sat⟩
  | .SEQ_PSTAT_ABORTED => ⟨.SEQ_PSTAT, 16, 16, .ro, .val 0, .sat⟩
  | .SEQ_PSTAT_DEGRADED => ⟨.SEQ_PSTAT, 32, 16, .ro, .val 0, .sat⟩
  | .SEQ_PSTAT_DONE_SAT => ⟨.SEQ_PSTAT, 48, 1, .w1c, .val 0, .none⟩
  | .SEQ_PSTAT_ABORTED_SAT => ⟨.SEQ_PSTAT, 49, 1, .w1c, .val 0, .none⟩
  | .SEQ_PSTAT_DEGRADED_SAT => ⟨.SEQ_PSTAT, 50, 1, .w1c, .val 0, .none⟩
  | .FAB_PRECOV_RESENDS => ⟨.FAB_PRECOV, 0, 16, .ro, .val 0, .sat⟩
  | .FAB_PRECOV_DUPS => ⟨.FAB_PRECOV, 16, 16, .ro, .val 0, .sat⟩
  | .FAB_PRECOV_FAILED => ⟨.FAB_PRECOV, 32, 16, .ro, .val 0, .sat⟩
  | .FAB_PRECOV_RESENDS_SAT => ⟨.FAB_PRECOV, 48, 1, .w1c, .val 0, .none⟩
  | .FAB_PRECOV_DUPS_SAT => ⟨.FAB_PRECOV, 49, 1, .w1c, .val 0, .none⟩
  | .FAB_PRECOV_FAILED_SAT => ⟨.FAB_PRECOV, 50, 1, .w1c, .val 0, .none⟩
  | .FAB_PFAILOVER_FLOWS => ⟨.FAB_PFAILOVER, 0, 16, .ro, .val 0, .none⟩
  | .TWN_STATUS_STATE => ⟨.TWN_STATUS, 0, 3, .ro, .val 0, .none⟩
  | .TWN_STATUS_HB_IN_OK => ⟨.TWN_STATUS, 3, 1, .ro, .val 0, .none⟩
  | .TWN_STATUS_HB_FAULT => ⟨.TWN_STATUS, 4, 1, .w1c, .val 0, .none⟩
  | .TWN_STATUS_TWIN => ⟨.TWN_STATUS, 8, 8, .ro, .img, .none⟩
  | .TWN_STATUS_LOSSES => ⟨.TWN_STATUS, 16, 16, .ro, .val 0, .sat⟩
  | .TWN_STATUS_LOSSES_SAT => ⟨.TWN_STATUS, 32, 1, .w1c, .val 0, .none⟩
  | .TWN_CFG_APPLY_LAG => ⟨.TWN_CFG, 0, 4, .rw, .val 0, .none⟩
  | .TWN_CFG_AUTO_HOLD => ⟨.TWN_CFG, 4, 1, .rw, .val 1, .none⟩
  | .TWN_CMD_OP => ⟨.TWN_CMD, 0, 4, .rw, .val 0, .none⟩
  | .TWN_CMD_ALL => ⟨.TWN_CMD, 4, 1, .rw, .val 0, .none⟩
  | .TWN_CMD_PART => ⟨.TWN_CMD, 8, 6, .rw, .val 0, .none⟩
  | .TWN_CMD_BUSY => ⟨.TWN_CMD, 14, 1, .ro, .val 0, .none⟩
  | .TWN_CMD_STATUS => ⟨.TWN_CMD, 16, 8, .ro, .val 0, .none⟩
  | .TWN_CMD_EPOCH_EPOCH => ⟨.TWN_CMD_EPOCH, 0, 64, .rw, .val 0, .none⟩
  | .TWN_RX_STAT_COPY => ⟨.TWN_RX_STAT, 0, 2, .ro, .val 0, .none⟩
  | .TWN_RX_STAT_HOLD => ⟨.TWN_RX_STAT, 2, 1, .ro, .val 0, .none⟩
  | .TWN_RX_STAT_CATCHUP => ⟨.TWN_RX_STAT, 3, 1, .ro, .val 0, .none⟩
  | .TWN_RX_STAT_RESTORING => ⟨.TWN_RX_STAT, 4, 1, .ro, .val 0, .none⟩
  | .TWN_RX_APPLIED_EPOCH => ⟨.TWN_RX_APPLIED, 0, 64, .ro, .val 0, .none⟩
  | .TWN_RX_COMMITTED_EPOCH => ⟨.TWN_RX_COMMITTED, 0, 64, .ro, .val 0, .none⟩
  | .TWN_RX_COUNT_FAILED => ⟨.TWN_RX_COUNT, 0, 16, .ro, .val 0, .sat⟩
  | .TWN_RX_COUNT_FAILED_SAT => ⟨.TWN_RX_COUNT, 16, 1, .w1c, .val 0, .none⟩
  | .TWN_RX_COUNT_PARTIAL => ⟨.TWN_RX_COUNT, 32, 16, .ro, .val 0, .sat⟩
  | .TWN_RX_COUNT_PARTIAL_SAT => ⟨.TWN_RX_COUNT, 48, 1, .w1c, .val 0, .none⟩
  | .TWN_PSTAT_STATE => ⟨.TWN_PSTAT, 0, 3, .ro, .val 0, .none⟩
  | .TWN_PSTAT_LAGGING => ⟨.TWN_PSTAT, 3, 1, .ro, .val 0, .none⟩
  | .TWN_PSTAT_FAILS => ⟨.TWN_PSTAT, 16, 16, .ro, .val 0, .sat⟩
  | .TWN_PSTAT_FAILS_SAT => ⟨.TWN_PSTAT, 32, 1, .w1c, .val 0, .none⟩
  | .TWN_PEPOCH_EPOCH => ⟨.TWN_PEPOCH, 0, 64, .ro, .val 0, .none⟩
  | .TWN_PBYTES_COUNT => ⟨.TWN_PBYTES, 0, 48, .ro, .val 0, .sat⟩
  | .TWN_PBYTES_SAT => ⟨.TWN_PBYTES, 63, 1, .w1c, .val 0, .none⟩
  | .FLT_PRING_BASE_BASE => ⟨.FLT_PRING_BASE, 12, 52, .rw, .val 0, .none⟩
  | .FLT_PRING_CFG_EN => ⟨.FLT_PRING_CFG, 0, 1, .rw, .val 0, .none⟩
  | .FLT_PRING_CFG_IRQ_EN => ⟨.FLT_PRING_CFG, 1, 1, .rw, .val 0, .none⟩
  | .FLT_PRING_CFG_SAT_EVENT => ⟨.FLT_PRING_CFG, 2, 1, .rw, .val 0, .none⟩
  | .FLT_PRING_CFG_SIZE_LOG2 => ⟨.FLT_PRING_CFG, 4, 5, .rw, .val 0, .none⟩
  | .FLT_PRING_HEAD_HEAD => ⟨.FLT_PRING_HEAD, 0, 16, .rw, .val 0, .none⟩
  | .FLT_PRING_STAT_TAIL => ⟨.FLT_PRING_STAT, 0, 16, .ro, .val 0, .none⟩
  | .FLT_PRING_STAT_PHASE => ⟨.FLT_PRING_STAT, 16, 1, .ro, .val 0, .none⟩
  | .FLT_PRING_STAT_OVERFLOW => ⟨.FLT_PRING_STAT, 17, 1, .w1c, .val 0, .none⟩
  | .FLT_PRING_STAT_HEAD_ERR => ⟨.FLT_PRING_STAT, 18, 1, .w1c, .val 0, .none⟩
  | .FLT_PRING_STAT_CLR_LOST => ⟨.FLT_PRING_STAT, 19, 1, .w1s, .val 0, .none⟩
  | .FLT_PRING_STAT_PARKED => ⟨.FLT_PRING_STAT, 32, 16, .ro, .val 0, .none⟩
  | .FLT_PLOST_COUNT0 => ⟨.FLT_PLOST, 0, 15, .ro, .val 0, .sat⟩
  | .FLT_PLOST_COUNT1 => ⟨.FLT_PLOST, 16, 15, .ro, .val 0, .sat⟩
  | .FLT_PLOST_COUNT2 => ⟨.FLT_PLOST, 32, 15, .ro, .val 0, .sat⟩
  | .FLT_PLOST_COUNT3 => ⟨.FLT_PLOST, 48, 15, .ro, .val 0, .sat⟩
  | .FLT_PLOST_SAT0 => ⟨.FLT_PLOST, 15, 1, .w1c, .val 0, .none⟩
  | .FLT_PLOST_SAT1 => ⟨.FLT_PLOST, 31, 1, .w1c, .val 0, .none⟩
  | .FLT_PLOST_SAT2 => ⟨.FLT_PLOST, 47, 1, .w1c, .val 0, .none⟩
  | .FLT_PLOST_SAT3 => ⟨.FLT_PLOST, 63, 1, .w1c, .val 0, .none⟩
  | .FLT_RING_BASE_BASE => ⟨.FLT_RING_BASE, 12, 52, .rw, .val 0, .none⟩
  | .FLT_RING_CFG_EN => ⟨.FLT_RING_CFG, 0, 1, .rw, .val 0, .none⟩
  | .FLT_RING_CFG_IRQ_EN => ⟨.FLT_RING_CFG, 1, 1, .rw, .val 0, .none⟩
  | .FLT_RING_CFG_SAT_EVENT => ⟨.FLT_RING_CFG, 2, 1, .rw, .val 0, .none⟩
  | .FLT_RING_CFG_SIZE_LOG2 => ⟨.FLT_RING_CFG, 4, 5, .rw, .val 0, .none⟩
  | .FLT_RING_HEAD_HEAD => ⟨.FLT_RING_HEAD, 0, 16, .rw, .val 0, .none⟩
  | .FLT_RING_STAT_TAIL => ⟨.FLT_RING_STAT, 0, 16, .ro, .val 0, .none⟩
  | .FLT_RING_STAT_PHASE => ⟨.FLT_RING_STAT, 16, 1, .ro, .val 0, .none⟩
  | .FLT_RING_STAT_OVERFLOW => ⟨.FLT_RING_STAT, 17, 1, .w1c, .val 0, .none⟩
  | .FLT_RING_STAT_HEAD_ERR => ⟨.FLT_RING_STAT, 18, 1, .w1c, .val 0, .none⟩
  | .FLT_RING_STAT_CLR_LOST => ⟨.FLT_RING_STAT, 19, 1, .w1s, .val 0, .none⟩
  | .FLT_RING_STAT_PARKED => ⟨.FLT_RING_STAT, 32, 16, .ro, .val 0, .none⟩
  | .FLT_LOST_COUNT0 => ⟨.FLT_LOST, 0, 15, .ro, .val 0, .sat⟩
  | .FLT_LOST_COUNT1 => ⟨.FLT_LOST, 16, 15, .ro, .val 0, .sat⟩
  | .FLT_LOST_COUNT2 => ⟨.FLT_LOST, 32, 15, .ro, .val 0, .sat⟩
  | .FLT_LOST_COUNT3 => ⟨.FLT_LOST, 48, 15, .ro, .val 0, .sat⟩
  | .FLT_LOST_SAT0 => ⟨.FLT_LOST, 15, 1, .w1c, .val 0, .none⟩
  | .FLT_LOST_SAT1 => ⟨.FLT_LOST, 31, 1, .w1c, .val 0, .none⟩
  | .FLT_LOST_SAT2 => ⟨.FLT_LOST, 47, 1, .w1c, .val 0, .none⟩
  | .FLT_LOST_SAT3 => ⟨.FLT_LOST, 63, 1, .w1c, .val 0, .none⟩
  | .FLT_SEV_PART_FATALS => ⟨.FLT_SEV, 0, 16, .ro, .val 0, .sat⟩
  | .FLT_SEV_PART_FATALS_SAT => ⟨.FLT_SEV, 16, 1, .w1c, .val 0, .none⟩
  | .FLT_SEV_ERRORS => ⟨.FLT_SEV, 32, 16, .ro, .val 0, .sat⟩
  | .FLT_SEV_ERRORS_SAT => ⟨.FLT_SEV, 48, 1, .w1c, .val 0, .none⟩
  | .EMB_CFG_POST_COUNT => ⟨.EMB_CFG, 0, 12, .rw, .val 256, .none⟩
  | .EMB_CFG_QUAR_TRIG => ⟨.EMB_CFG, 12, 1, .rw, .val 0, .none⟩
  | .EMB_CFG_AUTO_REARM => ⟨.EMB_CFG, 13, 1, .rw, .val 1, .none⟩
  | .EMB_CTL_FREEZE => ⟨.EMB_CTL, 0, 1, .w1s, .val 0, .none⟩
  | .EMB_CTL_REARM => ⟨.EMB_CTL, 1, 1, .w1s, .val 0, .none⟩
  | .EMB_STATUS_STATE => ⟨.EMB_STATUS, 0, 2, .ro, .val 0, .none⟩
  | .EMB_STATUS_COPYING => ⟨.EMB_STATUS, 2, 1, .ro, .val 0, .none⟩
  | .EMB_STATUS_MRAM_FULL => ⟨.EMB_STATUS, 3, 1, .w1c, .val 0, .none⟩
  | .EMB_STATUS_LAST_SLOT => ⟨.EMB_STATUS, 4, 4, .ro, .val 0, .none⟩
  | .EMB_STATUS_LAST_CAUSE => ⟨.EMB_STATUS, 8, 8, .ro, .val 0, .none⟩
  | .EMB_STATUS_LOST_FAULTS => ⟨.EMB_STATUS, 16, 16, .ro, .val 0, .sat⟩
  | .EMB_STATUS_LOST => ⟨.EMB_STATUS, 32, 16, .ro, .val 0, .sat⟩
  | .EMB_STATUS_LOST_FAULTS_SAT => ⟨.EMB_STATUS, 48, 1, .w1c, .val 0, .none⟩
  | .EMB_STATUS_LOST_SAT => ⟨.EMB_STATUS, 49, 1, .w1c, .val 0, .none⟩
  | .EMB_RSEQ_NEXT => ⟨.EMB_RSEQ, 0, 32, .ro, .val 0, .wrap⟩
  | .EMB_SLOTS_KEEP => ⟨.EMB_SLOTS, 1, 15, .rw, .val 0, .none⟩
  | .EMB_SLOTS_COMPLETE => ⟨.EMB_SLOTS, 17, 15, .ro, .val 0, .none⟩
  | .EMB_FAULT_OUT_LATCH => ⟨.EMB_FAULT_OUT, 0, 4, .w1c, .val 0, .none⟩
  | .EMB_FAULT_OUT_DEV_EN => ⟨.EMB_FAULT_OUT, 8, 1, .ro, .val 1, .none⟩
  | .EMB_FAULT_OUT_EN => ⟨.EMB_FAULT_OUT, 9, 3, .rw, .val 0, .none⟩
  | .EMB_FAULT_OUT_PIN => ⟨.EMB_FAULT_OUT, 12, 1, .ro, .val 0, .none⟩
  | .EMB_FAULT_OUT_DEV_FATALS => ⟨.EMB_FAULT_OUT, 16, 16, .ro, .val 0, .sat⟩
  | .EMB_FAULT_OUT_DEV_FATALS_SAT => ⟨.EMB_FAULT_OUT, 32, 1, .w1c, .val 0, .none⟩
  | .EMB_WIN_SEL_SLOT => ⟨.EMB_WIN_SEL, 0, 4, .rw, .val 0, .none⟩
  | .EMB_NOTE_VALUE => ⟨.EMB_NOTE, 0, 64, .rw, .val 0, .none⟩
  | .EMB_DIR_WORD => ⟨.EMB_DIR, 0, 64, .ro, .val 0, .none⟩
  | .MGT_STATUS_EID => ⟨.MGT_STATUS, 0, 8, .ro, .val 0, .none⟩
  | .MGT_STATUS_BUS => ⟨.MGT_STATUS, 8, 2, .ro, .val 0, .none⟩
  | .MGT_STATUS_ADDR => ⟨.MGT_STATUS, 16, 7, .ro, .val 0, .none⟩
  | .MGT_STATUS_SESSIONS => ⟨.MGT_STATUS, 24, 4, .ro, .val 0, .none⟩
  | .MGT_ERR_DROPPED => ⟨.MGT_ERR, 0, 48, .ro, .val 0, .sat⟩
  | .MGT_ERR_SAT => ⟨.MGT_ERR, 63, 1, .w1c, .val 0, .none⟩
  | .DF_LINK_LINK_MODE => ⟨.DF_LINK, 0, 2, .ro, .val 0, .none⟩
  | .DF_LINK_FLIT => ⟨.DF_LINK, 2, 1, .ro, .val 0, .none⟩
  | .DF_LINK_SPEED => ⟨.DF_LINK, 3, 3, .ro, .val 0, .none⟩
  | .DF_LINK_WIDTH => ⟨.DF_LINK, 6, 5, .ro, .val 0, .none⟩
  | .DF_LINK_HDM_MODE => ⟨.DF_LINK, 11, 2, .ro, .val 0, .none⟩
  | .DF_LINK_BI_ACTIVE => ⟨.DF_LINK, 13, 1, .ro, .val 0, .none⟩
  | .DF_LINK_CACHE_ACTIVE => ⟨.DF_LINK, 14, 1, .ro, .val 0, .none⟩
  | .DF_LINK_FALLBACKS => ⟨.DF_LINK, 16, 15, .ro, .val 0, .sat⟩
  | .DF_LINK_FALLBACK_SAT => ⟨.DF_LINK, 31, 1, .w1c, .val 0, .none⟩
  | .DF_IDENT_IDENT => ⟨.DF_IDENT, 0, 64, .ro, .fuse, .none⟩
  | .DF_FUNC_PART => ⟨.DF_FUNC, 0, 6, .ro, .img, .none⟩
  | .DF_FUNC_BOUND => ⟨.DF_FUNC, 6, 1, .ro, .img, .none⟩

/-- The register locations, from Table 18-6. -/
def Reg.info : Reg → RegInfo
  | .GLB_IDENT => ⟨.pf, 0x0, 1, 0, 1, 0, .global⟩
  | .GLB_TOPO => ⟨.pf, 0x8, 1, 0, 1, 0, .global⟩
  | .GLB_UNITS => ⟨.pf, 0x10, 1, 0, 1, 0, .global⟩
  | .PWR_DOM_STATE => ⟨.pf, 0x10000, 1, 0, 1, 0, .global⟩
  | .PWR_HOLD => ⟨.pf, 0x10008, 1, 0, 1, 0, .global⟩
  | .PWR_GOV => ⟨.pf, 0x10010, 1, 0, 1, 0, .global⟩
  | .PWR_DOM_CFG => ⟨.pf, 0x10100, 24, 8, 1, 0, .global⟩
  | .PWR_DOM_WAKES => ⟨.pf, 0x10200, 24, 8, 1, 0, .global⟩
  | .PWR_DOM_DOZE => ⟨.pf, 0x10300, 24, 8, 1, 0, .global⟩
  | .CLK_TICK => ⟨.pf, 0x11000, 1, 0, 1, 0, .pilot⟩
  | .CLK_STATUS => ⟨.pf, 0x11008, 1, 0, 1, 0, .global⟩
  | .RST_STATUS => ⟨.pf, 0x12000, 1, 0, 1, 0, .pilot⟩
  | .RST_REQ => ⟨.pf, 0x12008, 1, 0, 1, 0, .global⟩
  | .KIM_CMD => ⟨.pf, 0x20000, 1, 0, 1, 0, .global⟩
  | .KIM_SRC_ADDR => ⟨.pf, 0x20008, 1, 0, 1, 0, .global⟩
  | .KIM_SRC_LEN => ⟨.pf, 0x20010, 1, 0, 1, 0, .global⟩
  | .KIM_ARM_C => ⟨.pf, 0x20018, 1, 0, 1, 0, .global⟩
  | .KIM_ARM_CFG => ⟨.pf, 0x20020, 1, 0, 1, 0, .global⟩
  | .KIM_STATUS => ⟨.pf, 0x20028, 1, 0, 1, 0, .global⟩
  | .KIM_EPOCH => ⟨.pf, 0x20030, 1, 0, 1, 0, .global⟩
  | .KIM_ARB => ⟨.pf, 0x20038, 1, 0, 1, 0, .global⟩
  | .KIM_UID => ⟨.pf, 0x20040, 1, 0, 1, 0, .global⟩
  | .KIM_COUNT => ⟨.pf, 0x20048, 1, 0, 1, 0, .global⟩
  | .KIM_DIG_BASE => ⟨.pf, 0x20100, 6, 8, 1, 0, .global⟩
  | .KIM_DIG_DOMAIN => ⟨.pf, 0x20140, 6, 8, 1, 0, .global⟩
  | .KIM_DIG_COMP => ⟨.pf, 0x20180, 6, 8, 1, 0, .global⟩
  | .KIM_DIG_STAGED => ⟨.pf, 0x201C0, 6, 8, 1, 0, .global⟩
  | .KIM_PART_REV => ⟨.pf, 0x20400, 64, 8, 1, 0, .global⟩
  | .PART_STATE => ⟨.page, 0x0, 1, 0, 1, 0, .page⟩
  | .PART_CTL => ⟨.page, 0x8, 1, 0, 1, 0, .page⟩
  | .PART_RES => ⟨.page, 0x10, 1, 0, 1, 0, .page⟩
  | .PART_STATS => ⟨.page, 0x18, 1, 0, 1, 0, .page⟩
  | .PART_JOB_TAG => ⟨.page, 0x20, 1, 0, 1, 0, .page⟩
  | .PART_SQ_BASE => ⟨.page, 0x10000, 16, 64, 1, 0, .page⟩
  | .PART_SQ_CFG => ⟨.page, 0x10008, 16, 64, 1, 0, .page⟩
  | .PART_CQ_BASE => ⟨.page, 0x10010, 16, 64, 1, 0, .page⟩
  | .PART_CQ_CFG => ⟨.page, 0x10018, 16, 64, 1, 0, .page⟩
  | .PART_Q_ERR => ⟨.page, 0x10020, 16, 64, 1, 0, .page⟩
  | .PART_SQ_DB => ⟨.page, 0x11000, 16, 16, 1, 0, .page⟩
  | .PART_CQ_DB => ⟨.page, 0x11008, 16, 16, 1, 0, .page⟩
  | .PART_PROV_CTL => ⟨.pf, 0x30000, 64, 8, 1, 0, .global⟩
  | .PART_FWU_ADDR => ⟨.pf, 0x30800, 1, 0, 1, 0, .global⟩
  | .PART_FWU_LEN => ⟨.pf, 0x30808, 1, 0, 1, 0, .global⟩
  | .PART_FWU_CMD => ⟨.pf, 0x30810, 1, 0, 1, 0, .global⟩
  | .PART_FWU_STATUS => ⟨.pf, 0x30818, 1, 0, 1, 0, .global⟩
  | .PART_FWU_VER => ⟨.pf, 0x30820, 1, 0, 1, 0, .global⟩
  | .TILE_STATUS => ⟨.page, 0x64000, 1536, 32, 1, 0, .tile⟩
  | .TILE_EXC => ⟨.page, 0x64008, 1536, 32, 1, 0, .tile⟩
  | .TILE_EXC_ADDR => ⟨.page, 0x64010, 1536, 32, 1, 0, .tile⟩
  | .TILE_RETIRED => ⟨.page, 0x64018, 1536, 32, 1, 0, .tile⟩
  | .TILE_CAPS => ⟨.pf, 0x40000, 1, 0, 1, 0, .global⟩
  | .TILE_ECC => ⟨.pf, 0x40008, 1, 0, 1, 0, .global⟩
  | .MSG_CFG => ⟨.page, 0x60000, 1, 0, 1, 0, .page⟩
  | .MSG_TASKS => ⟨.page, 0x60008, 1, 0, 1, 0, .page⟩
  | .MSG_ERR => ⟨.page, 0x60010, 1, 0, 1, 0, .page⟩
  | .MSG_CTR_SEL => ⟨.page, 0x60018, 1, 0, 1, 0, .page⟩
  | .MSG_CTR_DATA => ⟨.page, 0x60020, 1, 0, 1, 0, .page⟩
  | .LNT_CORE_CFG => ⟨.pf, 0x50000, 16, 8, 1, 0, .global⟩
  | .LNT_DB_ROUTE => ⟨.pf, 0x50100, 64, 8, 1, 0, .global⟩
  | .LNT_PROV_DB => ⟨.pf, 0x50400, 1, 0, 1, 0, .global⟩
  | .LNT_WDOG => ⟨.pf, 0x50408, 1, 0, 1, 0, .global⟩
  | .LNT_DB => ⟨.page, 0x100, 1, 0, 1, 0, .page⟩
  | .LNT_DB_STAT => ⟨.page, 0x108, 1, 0, 1, 0, .page⟩
  | .LNT_HOSTIRQ => ⟨.page, 0x110, 1, 0, 1, 0, .page⟩
  | .XLAT_CTX_CFG => ⟨.page, 0x20000, 16, 512, 1, 0, .page⟩
  | .XLAT_CTX_STAT => ⟨.page, 0x20008, 16, 512, 1, 0, .page⟩
  | .XLAT_SEG_IN => ⟨.page, 0x20020, 128, 512, 8, 32, .page⟩
  | .XLAT_SEG_LIM => ⟨.page, 0x20028, 128, 512, 8, 32, .page⟩
  | .XLAT_SEG_OUT => ⟨.page, 0x20030, 128, 512, 8, 32, .page⟩
  | .XLAT_SEG_ATTR => ⟨.page, 0x20038, 128, 512, 8, 32, .page⟩
  | .XLAT_PSTAT => ⟨.page, 0x2F000, 1, 0, 1, 0, .page⟩
  | .XLAT_PFAULT => ⟨.page, 0x2F008, 1, 0, 1, 0, .page⟩
  | .XLAT_PPRI => ⟨.page, 0x2F010, 1, 0, 1, 0, .page⟩
  | .XLAT_CFG => ⟨.pf, 0x60000, 1, 0, 1, 0, .global⟩
  | .XLAT_GSTAT => ⟨.pf, 0x60008, 1, 0, 1, 0, .global⟩
  | .XLAT_L2 => ⟨.pf, 0x60010, 1, 0, 1, 0, .global⟩
  | .XLAT_HINV => ⟨.pf, 0x60018, 1, 0, 1, 0, .global⟩
  | .CCH_CFG => ⟨.pf, 0x70000, 1, 0, 1, 0, .global⟩
  | .CCH_DEV => ⟨.pf, 0x70008, 1, 0, 1, 0, .global⟩
  | .CCH_EVB => ⟨.pf, 0x70010, 1, 0, 1, 0, .global⟩
  | .CCH_ERR => ⟨.pf, 0x70018, 1, 0, 1, 0, .global⟩
  | .CCH_HITS => ⟨.pf, 0x70100, 1, 0, 1, 0, .global⟩
  | .CCH_MISSES => ⟨.pf, 0x70108, 1, 0, 1, 0, .global⟩
  | .CCH_PREFETCHES => ⟨.pf, 0x70110, 1, 0, 1, 0, .global⟩
  | .CCH_STREAM_WRITES => ⟨.pf, 0x70118, 1, 0, 1, 0, .global⟩
  | .CCH_EVICT_DIRTY => ⟨.pf, 0x70120, 1, 0, 1, 0, .global⟩
  | .CCH_EVICT_NOTIFIED => ⟨.pf, 0x70128, 1, 0, 1, 0, .global⟩
  | .CCH_SNOOPS => ⟨.pf, 0x70130, 1, 0, 1, 0, .global⟩
  | .CCH_SNOOP_EVB => ⟨.pf, 0x70138, 1, 0, 1, 0, .global⟩
  | .DIR_CFG => ⟨.pf, 0x71000, 1, 0, 1, 0, .global⟩
  | .DIR_STATUS => ⟨.pf, 0x71008, 1, 0, 1, 0, .global⟩
  | .DIR_BISNP => ⟨.pf, 0x71100, 1, 0, 1, 0, .global⟩
  | .DIR_BI_EVICT => ⟨.pf, 0x71108, 1, 0, 1, 0, .global⟩
  | .DIR_BI_STALE => ⟨.pf, 0x71110, 1, 0, 1, 0, .global⟩
  | .DIR_CONFLICTS => ⟨.pf, 0x71118, 1, 0, 1, 0, .global⟩
  | .CCH_PSTATE => ⟨.page, 0x200, 1, 0, 1, 0, .page⟩
  | .CCH_PHITS => ⟨.page, 0x208, 1, 0, 1, 0, .page⟩
  | .CCH_PMISSES => ⟨.page, 0x210, 1, 0, 1, 0, .page⟩
  | .MEM_CFG => ⟨.pf, 0x80000, 1, 0, 1, 0, .global⟩
  | .MEM_ERRLOG => ⟨.pf, 0x80008, 1, 0, 1, 0, .global⟩
  | .MEM_DBGWIN => ⟨.pf, 0x80010, 1, 0, 1, 0, .global⟩
  | .MEM_STACK => ⟨.pf, 0x80100, 8, 8, 1, 0, .global⟩
  | .CRY_KEK => ⟨.pf, 0x90000, 1, 0, 1, 0, .global⟩
  | .CRY_LINK => ⟨.pf, 0x90008, 1, 0, 1, 0, .global⟩
  | .CRY_STAT => ⟨.pf, 0x90010, 1, 0, 1, 0, .global⟩
  | .CRY_WAITS => ⟨.pf, 0x90018, 1, 0, 1, 0, .global⟩
  | .CRY_KR_ID => ⟨.pf, 0x90100, 24, 16, 1, 0, .global⟩
  | .CRY_KR_RK => ⟨.pf, 0x90108, 24, 16, 1, 0, .global⟩
  | .CRY_PKR_ID => ⟨.page, 0x50000, 24, 16, 1, 0, .page⟩
  | .CRY_PKR_RK => ⟨.page, 0x50008, 24, 16, 1, 0, .page⟩
  | .HL_CFG => ⟨.pf, 0xA0000, 1, 0, 1, 0, .global⟩
  | .HL_STATUS => ⟨.pf, 0xA0008, 1, 0, 1, 0, .global⟩
  | .HL_VIOL => ⟨.pf, 0xA0010, 1, 0, 1, 0, .global⟩
  | .HL_VIOL_LOG => ⟨.pf, 0xA0018, 1, 0, 1, 0, .global⟩
  | .HL_CTO => ⟨.pf, 0xA0020, 1, 0, 1, 0, .global⟩
  | .HL_GVEC => ⟨.pf, 0xA0028, 1, 0, 1, 0, .global⟩
  | .HL_INTX_PART => ⟨.pf, 0xA0030, 1, 0, 1, 0, .global⟩
  | .HL_INTX_GLB => ⟨.pf, 0xA0038, 1, 0, 1, 0, .global⟩
  | .HL_WAKE => ⟨.pf, 0xA0040, 1, 0, 1, 0, .pilot⟩
  | .HL_FLR => ⟨.pf, 0xA0048, 1, 0, 1, 0, .global⟩
  | .HL_PSTAT => ⟨.page, 0x300, 1, 0, 1, 0, .page⟩
  | .DL_CFG => ⟨.pf, 0xB0000, 1, 0, 1, 0, .global⟩
  | .DL_STATUS => ⟨.pf, 0xB0008, 1, 0, 1, 0, .global⟩
  | .DL_CMD => ⟨.pf, 0xB0010, 1, 0, 1, 0, .global⟩
  | .DL_PORT_STAT => ⟨.pf, 0xB0100, 4, 32, 1, 0, .global⟩
  | .DL_PORT_BASE => ⟨.pf, 0xB0108, 4, 32, 1, 0, .global⟩
  | .DL_PORT_SIZE => ⟨.pf, 0xB0110, 4, 32, 1, 0, .global⟩
  | .DL_PORT_ERR => ⟨.pf, 0xB0118, 4, 32, 1, 0, .global⟩
  | .FAB_PORT_STAT => ⟨.pf, 0xC0000, 14, 64, 1, 0, .fabPort⟩
  | .FAB_PORT_FEC => ⟨.pf, 0xC0008, 14, 64, 1, 0, .fabPort⟩
  | .FAB_PORT_ERR => ⟨.pf, 0xC0010, 14, 64, 1, 0, .fabPort⟩
  | .FAB_PORT_VIOL => ⟨.pf, 0xC0018, 14, 64, 1, 0, .fabPort⟩
  | .FAB_PORT_DELAY => ⟨.pf, 0xC0020, 14, 64, 1, 0, .fabPort⟩
  | .FAB_PORT_RETRY => ⟨.pf, 0xC0028, 14, 64, 1, 0, .fabPort⟩
  | .FAB_PORT_QUAR => ⟨.pf, 0xC0030, 14, 64, 1, 0, .fabPort⟩
  | .FAB_CADENCE => ⟨.pf, 0xC1000, 1, 0, 1, 0, .global⟩
  | .FAB_SYNC => ⟨.pf, 0xC1008, 1, 0, 1, 0, .global⟩
  | .FAB_TBL_SEL => ⟨.pf, 0xC1010, 1, 0, 1, 0, .global⟩
  | .FAB_TBL_DATA => ⟨.pf, 0xC1018, 1, 0, 1, 0, .global⟩
  | .FAB_OCC_SEL => ⟨.pf, 0xC1020, 1, 0, 1, 0, .global⟩
  | .FAB_OCC_DATA => ⟨.pf, 0xC1028, 1, 0, 1, 0, .global⟩
  | .FAB_SAMPLE => ⟨.pf, 0xC1030, 1, 0, 1, 0, .global⟩
  | .FAB_ERRCFG => ⟨.pf, 0xC1040, 1, 0, 1, 0, .global⟩
  | .FAB_RECOV => ⟨.pf, 0xC1048, 1, 0, 1, 0, .global⟩
  | .FAB_FENCE => ⟨.pf, 0xC1050, 1, 0, 1, 0, .global⟩
  | .SEQ_STAT => ⟨.pf, 0xD0000, 8, 8, 1, 0, .global⟩
  | .SEQ_COLL => ⟨.pf, 0xD0100, 128, 8, 1, 0, .global⟩
  | .FAB_PFLOW => ⟨.page, 0x40000, 16, 16, 1, 0, .page⟩
  | .FAB_PVIOL => ⟨.page, 0x40008, 16, 16, 1, 0, .page⟩
  | .SEQ_PSTAT => ⟨.page, 0x40100, 1, 0, 1, 0, .page⟩
  | .FAB_PRECOV => ⟨.page, 0x40108, 1, 0, 1, 0, .page⟩
  | .FAB_PFAILOVER => ⟨.page, 0x40110, 1, 0, 1, 0, .page⟩
  | .TWN_STATUS => ⟨.pf, 0xE0000, 1, 0, 1, 0, .global⟩
  | .TWN_CFG => ⟨.pf, 0xE0008, 1, 0, 1, 0, .global⟩
  | .TWN_CMD => ⟨.pf, 0xE0010, 1, 0, 1, 0, .global⟩
  | .TWN_CMD_EPOCH => ⟨.pf, 0xE0018, 1, 0, 1, 0, .global⟩
  | .TWN_RX_STAT => ⟨.pf, 0xE1000, 64, 32, 1, 0, .global⟩
  | .TWN_RX_APPLIED => ⟨.pf, 0xE1008, 64, 32, 1, 0, .global⟩
  | .TWN_RX_COMMITTED => ⟨.pf, 0xE1010, 64, 32, 1, 0, .global⟩
  | .TWN_RX_COUNT => ⟨.pf, 0xE1018, 64, 32, 1, 0, .global⟩
  | .TWN_PSTAT => ⟨.page, 0x400, 1, 0, 1, 0, .page⟩
  | .TWN_PEPOCH => ⟨.page, 0x408, 1, 0, 1, 0, .page⟩
  | .TWN_PBYTES => ⟨.page, 0x410, 1, 0, 1, 0, .page⟩
  | .FLT_PRING_BASE => ⟨.page, 0x30000, 1, 0, 1, 0, .page⟩
  | .FLT_PRING_CFG => ⟨.page, 0x30008, 1, 0, 1, 0, .page⟩
  | .FLT_PRING_HEAD => ⟨.page, 0x30010, 1, 0, 1, 0, .page⟩
  | .FLT_PRING_STAT => ⟨.page, 0x30018, 1, 0, 1, 0, .page⟩
  | .FLT_PLOST => ⟨.page, 0x30020, 4, 8, 1, 0, .page⟩
  | .FLT_RING_BASE => ⟨.pf, 0xF0000, 1, 0, 1, 0, .global⟩
  | .FLT_RING_CFG => ⟨.pf, 0xF0008, 1, 0, 1, 0, .global⟩
  | .FLT_RING_HEAD => ⟨.pf, 0xF0010, 1, 0, 1, 0, .global⟩
  | .FLT_RING_STAT => ⟨.pf, 0xF0018, 1, 0, 1, 0, .global⟩
  | .FLT_LOST => ⟨.pf, 0xF0020, 4, 8, 1, 0, .global⟩
  | .FLT_SEV => ⟨.pf, 0xF0040, 1, 0, 1, 0, .global⟩
  | .EMB_CFG => ⟨.pf, 0x100000, 1, 0, 1, 0, .pilot⟩
  | .EMB_CTL => ⟨.pf, 0x100008, 1, 0, 1, 0, .pilot⟩
  | .EMB_STATUS => ⟨.pf, 0x100010, 1, 0, 1, 0, .pilot⟩
  | .EMB_RSEQ => ⟨.pf, 0x100018, 1, 0, 1, 0, .pilot⟩
  | .EMB_SLOTS => ⟨.pf, 0x100020, 1, 0, 1, 0, .pilot⟩
  | .EMB_FAULT_OUT => ⟨.pf, 0x100028, 1, 0, 1, 0, .pilot⟩
  | .EMB_WIN_SEL => ⟨.pf, 0x100030, 1, 0, 1, 0, .pilot⟩
  | .EMB_NOTE => ⟨.pf, 0x100038, 1, 0, 1, 0, .pilot⟩
  | .EMB_DIR => ⟨.pf, 0x100100, 120, 8, 1, 0, .pilot⟩
  | .MGT_STATUS => ⟨.pf, 0x180000, 1, 0, 1, 0, .pilot⟩
  | .MGT_ERR => ⟨.pf, 0x180008, 1, 0, 1, 0, .pilot⟩
  | .DF_LINK => ⟨.cfg, 0x39C, 1, 0, 1, 0, .global⟩
  | .DF_IDENT => ⟨.cfg, 0x3A0, 1, 0, 1, 0, .global⟩
  | .DF_FUNC => ⟨.cfg, 0x3A8, 1, 0, 1, 0, .global⟩

/-- The fields of each register, lowest bit first. -/
def Reg.fields : Reg → List Fld
  | .GLB_IDENT => [.GLB_IDENT_PART_NUM, .GLB_IDENT_BIN, .GLB_IDENT_FUSE_EXT, .GLB_IDENT_STEP_MINOR, .GLB_IDENT_STEP_MAJOR, .GLB_IDENT_KEY_SLOTS, .GLB_IDENT_BOOST_CLK]
  | .GLB_TOPO => [.GLB_TOPO_MESH_COLS, .GLB_TOPO_MESH_ROWS, .GLB_TOPO_GW_COL_FIRST, .GLB_TOPO_GW_COL_LAST, .GLB_TOPO_DEV_X, .GLB_TOPO_DEV_Y, .GLB_TOPO_DEV_Z, .GLB_TOPO_COORD_VALID]
  | .GLB_UNITS => [.GLB_UNITS_TILES_USABLE, .GLB_UNITS_SPARES_LEFT, .GLB_UNITS_HBM_STACKS, .GLB_UNITS_LNT_CORES, .GLB_UNITS_SEQ_COUNT, .GLB_UNITS_DL_EXPANDERS]
  | .PWR_DOM_STATE => [.PWR_DOM_STATE_STATE_0, .PWR_DOM_STATE_STATE_1, .PWR_DOM_STATE_STATE_2, .PWR_DOM_STATE_STATE_3, .PWR_DOM_STATE_STATE_4, .PWR_DOM_STATE_STATE_5, .PWR_DOM_STATE_STATE_6, .PWR_DOM_STATE_STATE_7, .PWR_DOM_STATE_STATE_8, .PWR_DOM_STATE_STATE_9, .PWR_DOM_STATE_STATE_10, .PWR_DOM_STATE_STATE_11, .PWR_DOM_STATE_STATE_12, .PWR_DOM_STATE_STATE_13, .PWR_DOM_STATE_STATE_14, .PWR_DOM_STATE_STATE_15, .PWR_DOM_STATE_STATE_16, .PWR_DOM_STATE_STATE_17, .PWR_DOM_STATE_STATE_18, .PWR_DOM_STATE_STATE_19, .PWR_DOM_STATE_STATE_20, .PWR_DOM_STATE_STATE_21, .PWR_DOM_STATE_STATE_22, .PWR_DOM_STATE_STATE_23]
  | .PWR_HOLD => [.PWR_HOLD_HOLD]
  | .PWR_GOV => [.PWR_GOV_ISSUE_DUTY, .PWR_GOV_BOOST_ACTIVE, .PWR_GOV_PROCHOT_IN, .PWR_GOV_LIMIT_HIT, .PWR_GOV_THROTTLE_EVENTS, .PWR_GOV_THROTTLE_SAT, .PWR_GOV_AVG_10MS_W]
  | .PWR_DOM_CFG => [.PWR_DOM_CFG_POLICY, .PWR_DOM_CFG_WAKE_LEAD, .PWR_DOM_CFG_HYST, .PWR_DOM_CFG_MIN_DOZE, .PWR_DOM_CFG_PLAN_VALID]
  | .PWR_DOM_WAKES => [.PWR_DOM_WAKES_COUNT, .PWR_DOM_WAKES_SAT]
  | .PWR_DOM_DOZE => [.PWR_DOM_DOZE_COUNT, .PWR_DOM_DOZE_SAT]
  | .CLK_TICK => [.CLK_TICK_TICK]
  | .CLK_STATUS => [.CLK_STATUS_PILOT_REF_OK, .CLK_STATUS_HUB_LOCK, .CLK_STATUS_LNT_LOCK, .CLK_STATUS_HL_REF_OK, .CLK_STATUS_FAB_REF_OK, .CLK_STATUS_DIE_LOCK, .CLK_STATUS_TILE_CLK, .CLK_STATUS_LOCK_LOSS, .CLK_STATUS_LOCK_LOSS_SAT]
  | .RST_STATUS => [.RST_STATUS_PILOT_READY, .RST_STATUS_MAIN_READY, .RST_STATUS_LAST_SCOPE, .RST_STATUS_LAST_CAUSE, .RST_STATUS_WARM_COUNT, .RST_STATUS_WARM_SAT]
  | .RST_REQ => [.RST_REQ_WARM, .RST_REQ_FAB_PORT]
  | .KIM_CMD => [.KIM_CMD_OP, .KIM_CMD_BUSY]
  | .KIM_SRC_ADDR => [.KIM_SRC_ADDR_ADDR]
  | .KIM_SRC_LEN => [.KIM_SRC_LEN_LEN]
  | .KIM_ARM_C => [.KIM_ARM_C_C]
  | .KIM_ARM_CFG => [.KIM_ARM_CFG_COMMIT_ID, .KIM_ARM_CFG_PARTICIPANTS, .KIM_ARM_CFG_COORD, .KIM_ARM_CFG_EXTERNAL, .KIM_ARM_CFG_LOCAL]
  | .KIM_STATUS => [.KIM_STATUS_STATE, .KIM_STATUS_LAST_FAULT, .KIM_STATUS_LATE, .KIM_STATUS_ARB_FAIL, .KIM_STATUS_COMMITTED_ID_VALID, .KIM_STATUS_LAST_ID]
  | .KIM_EPOCH => [.KIM_EPOCH_EPOCH, .KIM_EPOCH_BASE_VALID]
  | .KIM_ARB => [.KIM_ARB_FUSE_VALUE, .KIM_ARB_REVOKED]
  | .KIM_UID => [.KIM_UID_UID]
  | .KIM_COUNT => [.KIM_COUNT_COMMITS, .KIM_COUNT_COMMITS_SAT, .KIM_COUNT_FAILS, .KIM_COUNT_FAILS_SAT]
  | .KIM_DIG_BASE => [.KIM_DIG_BASE_DIGEST]
  | .KIM_DIG_DOMAIN => [.KIM_DIG_DOMAIN_DIGEST]
  | .KIM_DIG_COMP => [.KIM_DIG_COMP_DIGEST]
  | .KIM_DIG_STAGED => [.KIM_DIG_STAGED_DIGEST]
  | .KIM_PART_REV => [.KIM_PART_REV_REV, .KIM_PART_REV_VALID]
  | .PART_STATE => [.PART_STATE_STATE, .PART_STATE_INCARNATION, .PART_STATE_PART, .PART_STATE_BOUND, .PART_STATE_PF_BOUND, .PART_STATE_VF, .PART_STATE_COMMIT_HOLD, .PART_STATE_RESET_DONE, .PART_STATE_INC_GATE, .PART_STATE_RESETS, .PART_STATE_RESETS_SAT]
  | .PART_CTL => [.PART_CTL_FETCH_EN]
  | .PART_RES => [.PART_RES_TILES, .PART_RES_QUOTA, .PART_RES_FLOWS, .PART_RES_LNT_CORES]
  | .PART_STATS => [.PART_STATS_CMDS, .PART_STATS_SAT]
  | .PART_JOB_TAG => [.PART_JOB_TAG_TAG]
  | .PART_SQ_BASE => [.PART_SQ_BASE_BASE]
  | .PART_SQ_CFG => [.PART_SQ_CFG_EN, .PART_SQ_CFG_SIZE_LOG2, .PART_SQ_CFG_HEAD]
  | .PART_CQ_BASE => [.PART_CQ_BASE_BASE]
  | .PART_CQ_CFG => [.PART_CQ_CFG_EN, .PART_CQ_CFG_IRQ_EN, .PART_CQ_CFG_SIZE_LOG2, .PART_CQ_CFG_VECTOR, .PART_CQ_CFG_COAL_COUNT, .PART_CQ_CFG_TAIL, .PART_CQ_CFG_PHASE]
  | .PART_Q_ERR => [.PART_Q_ERR_DB_ERR, .PART_Q_ERR_HOST_ERR, .PART_Q_ERR_STOPPED, .PART_Q_ERR_DB_ERRS, .PART_Q_ERR_DB_ERRS_SAT]
  | .PART_SQ_DB => [.PART_SQ_DB_TAIL]
  | .PART_CQ_DB => [.PART_CQ_DB_HEAD]
  | .PART_PROV_CTL => [.PART_PROV_CTL_QUIESCE, .PART_PROV_CTL_FORCE, .PART_PROV_CTL_RESUME, .PART_PROV_CTL_RESET, .PART_PROV_CTL_TIMEOUT_MS]
  | .PART_FWU_ADDR => [.PART_FWU_ADDR_ADDR]
  | .PART_FWU_LEN => [.PART_FWU_LEN_LEN]
  | .PART_FWU_CMD => [.PART_FWU_CMD_OP, .PART_FWU_CMD_BUSY]
  | .PART_FWU_STATUS => [.PART_FWU_STATUS_STATE, .PART_FWU_STATUS_FAULT, .PART_FWU_STATUS_UPDATED, .PART_FWU_STATUS_WAITING]
  | .PART_FWU_VER => [.PART_FWU_VER_RUN_MINOR, .PART_FWU_VER_RUN_MAJOR, .PART_FWU_VER_STG_MINOR, .PART_FWU_VER_STG_MAJOR]
  | .TILE_STATUS => [.TILE_STATUS_CORE, .TILE_STATUS_MATQ_BUSY, .TILE_STATUS_SENDQ, .TILE_STATUS_STRIKER, .TILE_STATUS_PC]
  | .TILE_EXC => [.TILE_EXC_CODE, .TILE_EXC_IMPRECISE, .TILE_EXC_TILE_FATAL, .TILE_EXC_NEW, .TILE_EXC_PC, .TILE_EXC_COUNT, .TILE_EXC_COUNT_SAT]
  | .TILE_EXC_ADDR => [.TILE_EXC_ADDR_ADDR, .TILE_EXC_ADDR_INFO]
  | .TILE_RETIRED => [.TILE_RETIRED_COUNT, .TILE_RETIRED_SAT]
  | .TILE_CAPS => [.TILE_CAPS_ISA_MINOR, .TILE_CAPS_ISA_MAJOR, .TILE_CAPS_IMEM_KIB, .TILE_CAPS_STORE_KIB, .TILE_CAPS_SENDQ, .TILE_CAPS_MATQ]
  | .TILE_ECC => [.TILE_ECC_CORRECTED, .TILE_ECC_SAT]
  | .MSG_CFG => [.MSG_CFG_RSV_WAIT]
  | .MSG_TASKS => [.MSG_TASKS_DONE, .MSG_TASKS_FAULTED, .MSG_TASKS_CANCELLED, .MSG_TASKS_DONE_SAT, .MSG_TASKS_FAULTED_SAT, .MSG_TASKS_CANCELLED_SAT, .MSG_TASKS_RACED_SEEN]
  | .MSG_ERR => [.MSG_ERR_FAILED, .MSG_ERR_DROPPED, .MSG_ERR_RETRIES, .MSG_ERR_FAILED_SAT, .MSG_ERR_DROPPED_SAT, .MSG_ERR_RETRIES_SAT]
  | .MSG_CTR_SEL => [.MSG_CTR_SEL_TX, .MSG_CTR_SEL_TY, .MSG_CTR_SEL_CTR]
  | .MSG_CTR_DATA => [.MSG_CTR_DATA_VALUE, .MSG_CTR_DATA_LIVE, .MSG_CTR_DATA_VALID]
  | .LNT_CORE_CFG => [.LNT_CORE_CFG_PART, .LNT_CORE_CFG_ASSIGNED, .LNT_CORE_CFG_STATE, .LNT_CORE_CFG_ASSIGN, .LNT_CORE_CFG_RELEASE, .LNT_CORE_CFG_ASSIGN_ERR, .LNT_CORE_CFG_FAULT_EN, .LNT_CORE_CFG_FAULT_PART, .LNT_CORE_CFG_RESTARTS, .LNT_CORE_CFG_RESTARTS_SAT]
  | .LNT_DB_ROUTE => [.LNT_DB_ROUTE_CORE, .LNT_DB_ROUTE_EN]
  | .LNT_PROV_DB => [.LNT_PROV_DB_DATA]
  | .LNT_WDOG => [.LNT_WDOG_TIMEOUT_MS, .LNT_WDOG_KICK]
  | .LNT_DB => [.LNT_DB_DATA]
  | .LNT_DB_STAT => [.LNT_DB_STAT_DEPTH, .LNT_DB_STAT_LOST, .LNT_DB_STAT_LOST_SAT]
  | .LNT_HOSTIRQ => [.LNT_HOSTIRQ_VECTOR]
  | .XLAT_CTX_CFG => [.XLAT_CTX_CFG_PASID, .XLAT_CTX_CFG_PASID_VALID, .XLAT_CTX_CFG_MISS_MODE, .XLAT_CTX_CFG_PRI_EN, .XLAT_CTX_CFG_PF_LOG2, .XLAT_CTX_CFG_VALID]
  | .XLAT_CTX_STAT => [.XLAT_CTX_STAT_DRAIN_TOKEN, .XLAT_CTX_STAT_PAGES_WAITING, .XLAT_CTX_STAT_PARKED]
  | .XLAT_SEG_IN => [.XLAT_SEG_IN_IN_BASE]
  | .XLAT_SEG_LIM => [.XLAT_SEG_LIM_IN_LIMIT]
  | .XLAT_SEG_OUT => [.XLAT_SEG_OUT_OUT_BASE]
  | .XLAT_SEG_ATTR => [.XLAT_SEG_ATTR_TARGET, .XLAT_SEG_ATTR_R, .XLAT_SEG_ATTR_W, .XLAT_SEG_ATTR_A, .XLAT_SEG_ATTR_VALID, .XLAT_SEG_ATTR_STALE]
  | .XLAT_PSTAT => [.XLAT_PSTAT_ATS_REQS, .XLAT_PSTAT_SAT]
  | .XLAT_PFAULT => [.XLAT_PFAULT_FAULTS, .XLAT_PFAULT_FAULTS_SAT, .XLAT_PFAULT_LAST_CODE]
  | .XLAT_PPRI => [.XLAT_PPRI_PAGE_REQS, .XLAT_PPRI_SAT]
  | .XLAT_CFG => [.XLAT_CFG_PRI_TIMEOUT_MS]
  | .XLAT_GSTAT => [.XLAT_GSTAT_ATS_OUT, .XLAT_GSTAT_PRI_OUT, .XLAT_GSTAT_PRI_ALLOC, .XLAT_GSTAT_PRI_STOPPED, .XLAT_GSTAT_BAD_PRG]
  | .XLAT_L2 => [.XLAT_L2_USED, .XLAT_L2_MERGED]
  | .XLAT_HINV => [.XLAT_HINV_HOST_INVS, .XLAT_HINV_BAD_PRG_SAT, .XLAT_HINV_MERGED_SAT, .XLAT_HINV_SAT]
  | .CCH_CFG => [.CCH_CFG_MODE, .CCH_CFG_NL_EN, .CCH_CFG_NL_DEPTH, .CCH_CFG_SSD_EN, .CCH_CFG_CLEAN_NOTIFY]
  | .CCH_DEV => [.CCH_DEV_STATE, .CCH_DEV_STALE_RISK, .CCH_DEV_BUSY, .CCH_DEV_RETAINED, .CCH_DEV_VALID]
  | .CCH_EVB => [.CCH_EVB_USED, .CCH_EVB_TRK0, .CCH_EVB_TRK1, .CCH_EVB_TRK2, .CCH_EVB_TRK3]
  | .CCH_ERR => [.CCH_ERR_POISON_FILLS, .CCH_ERR_POISON_SAT, .CCH_ERR_GO_ERRS, .CCH_ERR_GO_ERR_SAT]
  | .CCH_HITS => [.CCH_HITS_COUNT, .CCH_HITS_SAT]
  | .CCH_MISSES => [.CCH_MISSES_COUNT, .CCH_MISSES_SAT]
  | .CCH_PREFETCHES => [.CCH_PREFETCHES_COUNT, .CCH_PREFETCHES_SAT]
  | .CCH_STREAM_WRITES => [.CCH_STREAM_WRITES_COUNT, .CCH_STREAM_WRITES_SAT]
  | .CCH_EVICT_DIRTY => [.CCH_EVICT_DIRTY_COUNT, .CCH_EVICT_DIRTY_SAT]
  | .CCH_EVICT_NOTIFIED => [.CCH_EVICT_NOTIFIED_COUNT, .CCH_EVICT_NOTIFIED_SAT]
  | .CCH_SNOOPS => [.CCH_SNOOPS_COUNT, .CCH_SNOOPS_SAT]
  | .CCH_SNOOP_EVB => [.CCH_SNOOP_EVB_COUNT, .CCH_SNOOP_EVB_SAT]
  | .DIR_CFG => [.DIR_CFG_DRAIN]
  | .DIR_STATUS => [.DIR_STATUS_MODE, .DIR_STATUS_DRAINING, .DIR_STATUS_BI_PENDING, .DIR_STATUS_USED]
  | .DIR_BISNP => [.DIR_BISNP_COUNT, .DIR_BISNP_SAT]
  | .DIR_BI_EVICT => [.DIR_BI_EVICT_COUNT, .DIR_BI_EVICT_SAT]
  | .DIR_BI_STALE => [.DIR_BI_STALE_COUNT, .DIR_BI_STALE_SAT]
  | .DIR_CONFLICTS => [.DIR_CONFLICTS_COUNT, .DIR_CONFLICTS_SAT]
  | .CCH_PSTATE => [.CCH_PSTATE_STATE, .CCH_PSTATE_STALE_RISK, .CCH_PSTATE_BUSY, .CCH_PSTATE_RETAINED, .CCH_PSTATE_OCCUPANCY]
  | .CCH_PHITS => [.CCH_PHITS_COUNT, .CCH_PHITS_SAT]
  | .CCH_PMISSES => [.CCH_PMISSES_COUNT, .CCH_PMISSES_SAT]
  | .MEM_CFG => [.MEM_CFG_SCRUB_HOURS]
  | .MEM_ERRLOG => [.MEM_ERRLOG_ADDR, .MEM_ERRLOG_STACK, .MEM_ERRLOG_SCRUB, .MEM_ERRLOG_NEW]
  | .MEM_DBGWIN => [.MEM_DBGWIN_BASE]
  | .MEM_STACK => [.MEM_STACK_TRAINED, .MEM_STACK_SELF_REFRESH, .MEM_STACK_CE, .MEM_STACK_UE, .MEM_STACK_CE_SAT, .MEM_STACK_UE_SAT]
  | .CRY_KEK => [.CRY_KEK_KEK_VALID, .CRY_KEK_FAB_KEY_VALID, .CRY_KEK_TWIN_KEY_VALID]
  | .CRY_LINK => [.CRY_LINK_FAB_KEY_ID, .CRY_LINK_TWIN_KEY_ID]
  | .CRY_STAT => [.CRY_STAT_TAG_FAILS, .CRY_STAT_TAG_SAT, .CRY_STAT_LINKUP_EXHAUSTED]
  | .CRY_WAITS => [.CRY_WAITS_COUNT, .CRY_WAITS_SAT]
  | .CRY_KR_ID => [.CRY_KR_ID_CUR_ID, .CRY_KR_ID_NEXT_ID]
  | .CRY_KR_RK => [.CRY_KR_RK_BOUNDARY, .CRY_KR_RK_STATE, .CRY_KR_RK_NEXT_VALID, .CRY_KR_RK_VALID, .CRY_KR_RK_DONE, .CRY_KR_RK_HOLD, .CRY_KR_RK_STARTER, .CRY_KR_RK_PACE]
  | .CRY_PKR_ID => [.CRY_PKR_ID_CUR_ID, .CRY_PKR_ID_NEXT_ID]
  | .CRY_PKR_RK => [.CRY_PKR_RK_BOUNDARY, .CRY_PKR_RK_STATE, .CRY_PKR_RK_NEXT_VALID, .CRY_PKR_RK_VALID, .CRY_PKR_RK_DONE, .CRY_PKR_RK_HOLD, .CRY_PKR_RK_STARTER, .CRY_PKR_RK_PACE]
  | .HL_CFG => [.HL_CFG_CACHE_TO_MS, .HL_CFG_QUAR_EN]
  | .HL_STATUS => [.HL_STATUS_QUARANTINE, .HL_STATUS_RELEASE, .HL_STATUS_PF_DSTATE, .HL_STATUS_D3COLD_ENTRY, .HL_STATUS_LINK_UP, .HL_STATUS_LAST_CODE, .HL_STATUS_QUARANTINES, .HL_STATUS_QUAR_SAT]
  | .HL_VIOL => [.HL_VIOL_COUNT, .HL_VIOL_SAT]
  | .HL_VIOL_LOG => [.HL_VIOL_LOG_CODE, .HL_VIOL_LOG_FUNC, .HL_VIOL_LOG_TICK]
  | .HL_CTO => [.HL_CTO_TIMEOUTS, .HL_CTO_TO_SAT, .HL_CTO_LATE, .HL_CTO_LATE_SAT]
  | .HL_GVEC => [.HL_GVEC_FAULT_VEC, .HL_GVEC_FAULT_EN, .HL_GVEC_KIM_VEC, .HL_GVEC_KIM_EN, .HL_GVEC_FWU_VEC, .HL_GVEC_FWU_EN, .HL_GVEC_HL_VEC, .HL_GVEC_HL_EN, .HL_GVEC_EMB_VEC, .HL_GVEC_EMB_EN]
  | .HL_INTX_PART => [.HL_INTX_PART_PART]
  | .HL_INTX_GLB => [.HL_INTX_GLB_GLB, .HL_INTX_GLB_LEVEL]
  | .HL_WAKE => [.HL_WAKE_SIDEBAND_EN, .HL_WAKE_TWIN_HB_EN, .HL_WAKE_GPIO_EN, .HL_WAKE_WAKE_OUT, .HL_WAKE_WAKES, .HL_WAKE_WAKES_SAT]
  | .HL_FLR => [.HL_FLR_PF_FLRS, .HL_FLR_PF_SAT, .HL_FLR_VF_FLRS, .HL_FLR_VF_SAT, .HL_FLR_LAST_VF]
  | .HL_PSTAT => [.HL_PSTAT_HOST_ERRS, .HL_PSTAT_HOST_ERRS_SAT, .HL_PSTAT_HELD]
  | .DL_CFG => [.DL_CFG_ILV_EN, .DL_CFG_MEM_TO_MS, .DL_CFG_QUAR_EN]
  | .DL_STATUS => [.DL_STATUS_BIF, .DL_STATUS_ENUM_DONE, .DL_STATUS_ILV_ACTIVE, .DL_STATUS_ILV_FAILED, .DL_STATUS_ACTIVE_PORTS]
  | .DL_CMD => [.DL_CMD_OP, .DL_CMD_PORT, .DL_CMD_ALL, .DL_CMD_BUSY]
  | .DL_PORT_STAT => [.DL_PORT_STAT_STATE, .DL_PORT_STAT_MODE, .DL_PORT_STAT_SPEED, .DL_PORT_STAT_WIDTH, .DL_PORT_STAT_CONTENT_LOST, .DL_PORT_STAT_VENDOR, .DL_PORT_STAT_DEVICE]
  | .DL_PORT_BASE => [.DL_PORT_BASE_BASE]
  | .DL_PORT_SIZE => [.DL_PORT_SIZE_SIZE]
  | .DL_PORT_ERR => [.DL_PORT_ERR_VIOL, .DL_PORT_ERR_VIOL_SAT, .DL_PORT_ERR_LAST_CODE, .DL_PORT_ERR_DOWNS, .DL_PORT_ERR_DOWNS_SAT, .DL_PORT_ERR_POISON, .DL_PORT_ERR_POISON_SAT]
  | .FAB_PORT_STAT => [.FAB_PORT_STAT_STATE, .FAB_PORT_STAT_HALF, .FAB_PORT_STAT_REVERSED, .FAB_PORT_STAT_POL, .FAB_PORT_STAT_LINKUP, .FAB_PORT_STAT_NEIGH, .FAB_PORT_STAT_NEIGH_PORT]
  | .FAB_PORT_FEC => [.FAB_PORT_FEC_CORRECTED, .FAB_PORT_FEC_SAT]
  | .FAB_PORT_ERR => [.FAB_PORT_ERR_UNCORR, .FAB_PORT_ERR_UNCORR_SAT, .FAB_PORT_ERR_FCRC_FAILS, .FAB_PORT_ERR_FCRC_SAT]
  | .FAB_PORT_VIOL => [.FAB_PORT_VIOL_TX_HELD, .FAB_PORT_VIOL_TX_SAT, .FAB_PORT_VIOL_RX_SLOT, .FAB_PORT_VIOL_RX_SAT]
  | .FAB_PORT_DELAY => [.FAB_PORT_DELAY_DELAY]
  | .FAB_PORT_RETRY => [.FAB_PORT_RETRY_REPLAYS, .FAB_PORT_RETRY_REPLAYS_SAT, .FAB_PORT_RETRY_EXHAUSTED, .FAB_PORT_RETRY_DOWNS, .FAB_PORT_RETRY_DOWNS_SAT, .FAB_PORT_RETRY_DOWN_CAUSE]
  | .FAB_PORT_QUAR => [.FAB_PORT_QUAR_CAUSE, .FAB_PORT_QUAR_LAST_VIOL, .FAB_PORT_QUAR_VIOLS, .FAB_PORT_QUAR_VIOLS_SAT, .FAB_PORT_QUAR_ENTRIES, .FAB_PORT_QUAR_ENTRIES_SAT]
  | .FAB_CADENCE => [.FAB_CADENCE_CADENCE]
  | .FAB_SYNC => [.FAB_SYNC_STATE, .FAB_SYNC_PARENT, .FAB_SYNC_ERR, .FAB_SYNC_HOPS, .FAB_SYNC_SLOT, .FAB_SYNC_SYNC_LOST, .FAB_SYNC_SYNC_LOST_SAT]
  | .FAB_TBL_SEL => [.FAB_TBL_SEL_PORT, .FAB_TBL_SEL_RX, .FAB_TBL_SEL_SLOT]
  | .FAB_TBL_DATA => [.FAB_TBL_DATA_ENTRY]
  | .FAB_OCC_SEL => [.FAB_OCC_SEL_PORT, .FAB_OCC_SEL_SLOT]
  | .FAB_OCC_DATA => [.FAB_OCC_DATA_FLITS]
  | .FAB_SAMPLE => [.FAB_SAMPLE_SAMPLES]
  | .FAB_ERRCFG => [.FAB_ERRCFG_RESEND_US, .FAB_ERRCFG_QUAR_EN]
  | .FAB_RECOV => [.FAB_RECOV_RETAIN_KIB, .FAB_RECOV_MGMT_DROPS, .FAB_RECOV_EPOCH_DROPS, .FAB_RECOV_MGMT_SAT, .FAB_RECOV_EPOCH_SAT]
  | .FAB_FENCE => [.FAB_FENCE_CAUSE, .FAB_FENCE_FENCES, .FAB_FENCE_FENCES_SAT]
  | .SEQ_STAT => [.SEQ_STAT_ACTIVE, .SEQ_STAT_ABORTS, .SEQ_STAT_ABORTS_SAT]
  | .SEQ_COLL => [.SEQ_COLL_COLL_ID, .SEQ_COLL_PART, .SEQ_COLL_FLOW, .SEQ_COLL_STATE, .SEQ_COLL_DEGRADED, .SEQ_COLL_POISONED, .SEQ_COLL_COMMITTED]
  | .FAB_PFLOW => [.FAB_PFLOW_COUNT, .FAB_PFLOW_SAT]
  | .FAB_PVIOL => [.FAB_PVIOL_COUNT, .FAB_PVIOL_SAT]
  | .SEQ_PSTAT => [.SEQ_PSTAT_DONE, .SEQ_PSTAT_ABORTED, .SEQ_PSTAT_DEGRADED, .SEQ_PSTAT_DONE_SAT, .SEQ_PSTAT_ABORTED_SAT, .SEQ_PSTAT_DEGRADED_SAT]
  | .FAB_PRECOV => [.FAB_PRECOV_RESENDS, .FAB_PRECOV_DUPS, .FAB_PRECOV_FAILED, .FAB_PRECOV_RESENDS_SAT, .FAB_PRECOV_DUPS_SAT, .FAB_PRECOV_FAILED_SAT]
  | .FAB_PFAILOVER => [.FAB_PFAILOVER_FLOWS]
  | .TWN_STATUS => [.TWN_STATUS_STATE, .TWN_STATUS_HB_IN_OK, .TWN_STATUS_HB_FAULT, .TWN_STATUS_TWIN, .TWN_STATUS_LOSSES, .TWN_STATUS_LOSSES_SAT]
  | .TWN_CFG => [.TWN_CFG_APPLY_LAG, .TWN_CFG_AUTO_HOLD]
  | .TWN_CMD => [.TWN_CMD_OP, .TWN_CMD_ALL, .TWN_CMD_PART, .TWN_CMD_BUSY, .TWN_CMD_STATUS]
  | .TWN_CMD_EPOCH => [.TWN_CMD_EPOCH_EPOCH]
  | .TWN_RX_STAT => [.TWN_RX_STAT_COPY, .TWN_RX_STAT_HOLD, .TWN_RX_STAT_CATCHUP, .TWN_RX_STAT_RESTORING]
  | .TWN_RX_APPLIED => [.TWN_RX_APPLIED_EPOCH]
  | .TWN_RX_COMMITTED => [.TWN_RX_COMMITTED_EPOCH]
  | .TWN_RX_COUNT => [.TWN_RX_COUNT_FAILED, .TWN_RX_COUNT_FAILED_SAT, .TWN_RX_COUNT_PARTIAL, .TWN_RX_COUNT_PARTIAL_SAT]
  | .TWN_PSTAT => [.TWN_PSTAT_STATE, .TWN_PSTAT_LAGGING, .TWN_PSTAT_FAILS, .TWN_PSTAT_FAILS_SAT]
  | .TWN_PEPOCH => [.TWN_PEPOCH_EPOCH]
  | .TWN_PBYTES => [.TWN_PBYTES_COUNT, .TWN_PBYTES_SAT]
  | .FLT_PRING_BASE => [.FLT_PRING_BASE_BASE]
  | .FLT_PRING_CFG => [.FLT_PRING_CFG_EN, .FLT_PRING_CFG_IRQ_EN, .FLT_PRING_CFG_SAT_EVENT, .FLT_PRING_CFG_SIZE_LOG2]
  | .FLT_PRING_HEAD => [.FLT_PRING_HEAD_HEAD]
  | .FLT_PRING_STAT => [.FLT_PRING_STAT_TAIL, .FLT_PRING_STAT_PHASE, .FLT_PRING_STAT_OVERFLOW, .FLT_PRING_STAT_HEAD_ERR, .FLT_PRING_STAT_CLR_LOST, .FLT_PRING_STAT_PARKED]
  | .FLT_PLOST => [.FLT_PLOST_COUNT0, .FLT_PLOST_SAT0, .FLT_PLOST_COUNT1, .FLT_PLOST_SAT1, .FLT_PLOST_COUNT2, .FLT_PLOST_SAT2, .FLT_PLOST_COUNT3, .FLT_PLOST_SAT3]
  | .FLT_RING_BASE => [.FLT_RING_BASE_BASE]
  | .FLT_RING_CFG => [.FLT_RING_CFG_EN, .FLT_RING_CFG_IRQ_EN, .FLT_RING_CFG_SAT_EVENT, .FLT_RING_CFG_SIZE_LOG2]
  | .FLT_RING_HEAD => [.FLT_RING_HEAD_HEAD]
  | .FLT_RING_STAT => [.FLT_RING_STAT_TAIL, .FLT_RING_STAT_PHASE, .FLT_RING_STAT_OVERFLOW, .FLT_RING_STAT_HEAD_ERR, .FLT_RING_STAT_CLR_LOST, .FLT_RING_STAT_PARKED]
  | .FLT_LOST => [.FLT_LOST_COUNT0, .FLT_LOST_SAT0, .FLT_LOST_COUNT1, .FLT_LOST_SAT1, .FLT_LOST_COUNT2, .FLT_LOST_SAT2, .FLT_LOST_COUNT3, .FLT_LOST_SAT3]
  | .FLT_SEV => [.FLT_SEV_PART_FATALS, .FLT_SEV_PART_FATALS_SAT, .FLT_SEV_ERRORS, .FLT_SEV_ERRORS_SAT]
  | .EMB_CFG => [.EMB_CFG_POST_COUNT, .EMB_CFG_QUAR_TRIG, .EMB_CFG_AUTO_REARM]
  | .EMB_CTL => [.EMB_CTL_FREEZE, .EMB_CTL_REARM]
  | .EMB_STATUS => [.EMB_STATUS_STATE, .EMB_STATUS_COPYING, .EMB_STATUS_MRAM_FULL, .EMB_STATUS_LAST_SLOT, .EMB_STATUS_LAST_CAUSE, .EMB_STATUS_LOST_FAULTS, .EMB_STATUS_LOST, .EMB_STATUS_LOST_FAULTS_SAT, .EMB_STATUS_LOST_SAT]
  | .EMB_RSEQ => [.EMB_RSEQ_NEXT]
  | .EMB_SLOTS => [.EMB_SLOTS_KEEP, .EMB_SLOTS_COMPLETE]
  | .EMB_FAULT_OUT => [.EMB_FAULT_OUT_LATCH, .EMB_FAULT_OUT_DEV_EN, .EMB_FAULT_OUT_EN, .EMB_FAULT_OUT_PIN, .EMB_FAULT_OUT_DEV_FATALS, .EMB_FAULT_OUT_DEV_FATALS_SAT]
  | .EMB_WIN_SEL => [.EMB_WIN_SEL_SLOT]
  | .EMB_NOTE => [.EMB_NOTE_VALUE]
  | .EMB_DIR => [.EMB_DIR_WORD]
  | .MGT_STATUS => [.MGT_STATUS_EID, .MGT_STATUS_BUS, .MGT_STATUS_ADDR, .MGT_STATUS_SESSIONS]
  | .MGT_ERR => [.MGT_ERR_DROPPED, .MGT_ERR_SAT]
  | .DF_LINK => [.DF_LINK_LINK_MODE, .DF_LINK_FLIT, .DF_LINK_SPEED, .DF_LINK_WIDTH, .DF_LINK_HDM_MODE, .DF_LINK_BI_ACTIVE, .DF_LINK_CACHE_ACTIVE, .DF_LINK_FALLBACKS, .DF_LINK_FALLBACK_SAT]
  | .DF_IDENT => [.DF_IDENT_IDENT]
  | .DF_FUNC => [.DF_FUNC_PART, .DF_FUNC_BOUND]

/-- The sticky flag of a SAT counter (R715). -/
def Fld.satFlag : Fld → Option Fld
  | .PWR_GOV_THROTTLE_EVENTS => some .PWR_GOV_THROTTLE_SAT
  | .PWR_DOM_WAKES_COUNT => some .PWR_DOM_WAKES_SAT
  | .PWR_DOM_DOZE_COUNT => some .PWR_DOM_DOZE_SAT
  | .CLK_STATUS_LOCK_LOSS => some .CLK_STATUS_LOCK_LOSS_SAT
  | .RST_STATUS_WARM_COUNT => some .RST_STATUS_WARM_SAT
  | .KIM_COUNT_COMMITS => some .KIM_COUNT_COMMITS_SAT
  | .KIM_COUNT_FAILS => some .KIM_COUNT_FAILS_SAT
  | .PART_STATE_RESETS => some .PART_STATE_RESETS_SAT
  | .PART_STATS_CMDS => some .PART_STATS_SAT
  | .PART_Q_ERR_DB_ERRS => some .PART_Q_ERR_DB_ERRS_SAT
  | .TILE_EXC_COUNT => some .TILE_EXC_COUNT_SAT
  | .TILE_RETIRED_COUNT => some .TILE_RETIRED_SAT
  | .TILE_ECC_CORRECTED => some .TILE_ECC_SAT
  | .MSG_TASKS_DONE => some .MSG_TASKS_DONE_SAT
  | .MSG_TASKS_FAULTED => some .MSG_TASKS_FAULTED_SAT
  | .MSG_TASKS_CANCELLED => some .MSG_TASKS_CANCELLED_SAT
  | .MSG_ERR_FAILED => some .MSG_ERR_FAILED_SAT
  | .MSG_ERR_DROPPED => some .MSG_ERR_DROPPED_SAT
  | .MSG_ERR_RETRIES => some .MSG_ERR_RETRIES_SAT
  | .LNT_CORE_CFG_RESTARTS => some .LNT_CORE_CFG_RESTARTS_SAT
  | .LNT_DB_STAT_LOST => some .LNT_DB_STAT_LOST_SAT
  | .XLAT_PSTAT_ATS_REQS => some .XLAT_PSTAT_SAT
  | .XLAT_PFAULT_FAULTS => some .XLAT_PFAULT_FAULTS_SAT
  | .XLAT_PPRI_PAGE_REQS => some .XLAT_PPRI_SAT
  | .XLAT_GSTAT_BAD_PRG => some .XLAT_HINV_BAD_PRG_SAT
  | .XLAT_L2_MERGED => some .XLAT_HINV_MERGED_SAT
  | .XLAT_HINV_HOST_INVS => some .XLAT_HINV_SAT
  | .CCH_ERR_POISON_FILLS => some .CCH_ERR_POISON_SAT
  | .CCH_ERR_GO_ERRS => some .CCH_ERR_GO_ERR_SAT
  | .CCH_HITS_COUNT => some .CCH_HITS_SAT
  | .CCH_MISSES_COUNT => some .CCH_MISSES_SAT
  | .CCH_PREFETCHES_COUNT => some .CCH_PREFETCHES_SAT
  | .CCH_STREAM_WRITES_COUNT => some .CCH_STREAM_WRITES_SAT
  | .CCH_EVICT_DIRTY_COUNT => some .CCH_EVICT_DIRTY_SAT
  | .CCH_EVICT_NOTIFIED_COUNT => some .CCH_EVICT_NOTIFIED_SAT
  | .CCH_SNOOPS_COUNT => some .CCH_SNOOPS_SAT
  | .CCH_SNOOP_EVB_COUNT => some .CCH_SNOOP_EVB_SAT
  | .DIR_BISNP_COUNT => some .DIR_BISNP_SAT
  | .DIR_BI_EVICT_COUNT => some .DIR_BI_EVICT_SAT
  | .DIR_BI_STALE_COUNT => some .DIR_BI_STALE_SAT
  | .DIR_CONFLICTS_COUNT => some .DIR_CONFLICTS_SAT
  | .CCH_PHITS_COUNT => some .CCH_PHITS_SAT
  | .CCH_PMISSES_COUNT => some .CCH_PMISSES_SAT
  | .MEM_STACK_CE => some .MEM_STACK_CE_SAT
  | .MEM_STACK_UE => some .MEM_STACK_UE_SAT
  | .CRY_STAT_TAG_FAILS => some .CRY_STAT_TAG_SAT
  | .CRY_WAITS_COUNT => some .CRY_WAITS_SAT
  | .HL_STATUS_QUARANTINES => some .HL_STATUS_QUAR_SAT
  | .HL_VIOL_COUNT => some .HL_VIOL_SAT
  | .HL_CTO_TIMEOUTS => some .HL_CTO_TO_SAT
  | .HL_CTO_LATE => some .HL_CTO_LATE_SAT
  | .HL_WAKE_WAKES => some .HL_WAKE_WAKES_SAT
  | .HL_FLR_PF_FLRS => some .HL_FLR_PF_SAT
  | .HL_FLR_VF_FLRS => some .HL_FLR_VF_SAT
  | .HL_PSTAT_HOST_ERRS => some .HL_PSTAT_HOST_ERRS_SAT
  | .DL_PORT_ERR_VIOL => some .DL_PORT_ERR_VIOL_SAT
  | .DL_PORT_ERR_DOWNS => some .DL_PORT_ERR_DOWNS_SAT
  | .DL_PORT_ERR_POISON => some .DL_PORT_ERR_POISON_SAT
  | .FAB_PORT_FEC_CORRECTED => some .FAB_PORT_FEC_SAT
  | .FAB_PORT_ERR_UNCORR => some .FAB_PORT_ERR_UNCORR_SAT
  | .FAB_PORT_ERR_FCRC_FAILS => some .FAB_PORT_ERR_FCRC_SAT
  | .FAB_PORT_VIOL_TX_HELD => some .FAB_PORT_VIOL_TX_SAT
  | .FAB_PORT_VIOL_RX_SLOT => some .FAB_PORT_VIOL_RX_SAT
  | .FAB_PORT_RETRY_REPLAYS => some .FAB_PORT_RETRY_REPLAYS_SAT
  | .FAB_PORT_RETRY_DOWNS => some .FAB_PORT_RETRY_DOWNS_SAT
  | .FAB_PORT_QUAR_VIOLS => some .FAB_PORT_QUAR_VIOLS_SAT
  | .FAB_PORT_QUAR_ENTRIES => some .FAB_PORT_QUAR_ENTRIES_SAT
  | .FAB_SYNC_SYNC_LOST => some .FAB_SYNC_SYNC_LOST_SAT
  | .FAB_RECOV_MGMT_DROPS => some .FAB_RECOV_MGMT_SAT
  | .FAB_RECOV_EPOCH_DROPS => some .FAB_RECOV_EPOCH_SAT
  | .FAB_FENCE_FENCES => some .FAB_FENCE_FENCES_SAT
  | .SEQ_STAT_ABORTS => some .SEQ_STAT_ABORTS_SAT
  | .FAB_PFLOW_COUNT => some .FAB_PFLOW_SAT
  | .FAB_PVIOL_COUNT => some .FAB_PVIOL_SAT
  | .SEQ_PSTAT_DONE => some .SEQ_PSTAT_DONE_SAT
  | .SEQ_PSTAT_ABORTED => some .SEQ_PSTAT_ABORTED_SAT
  | .SEQ_PSTAT_DEGRADED => some .SEQ_PSTAT_DEGRADED_SAT
  | .FAB_PRECOV_RESENDS => some .FAB_PRECOV_RESENDS_SAT
  | .FAB_PRECOV_DUPS => some .FAB_PRECOV_DUPS_SAT
  | .FAB_PRECOV_FAILED => some .FAB_PRECOV_FAILED_SAT
  | .TWN_STATUS_LOSSES => some .TWN_STATUS_LOSSES_SAT
  | .TWN_RX_COUNT_FAILED => some .TWN_RX_COUNT_FAILED_SAT
  | .TWN_RX_COUNT_PARTIAL => some .TWN_RX_COUNT_PARTIAL_SAT
  | .TWN_PSTAT_FAILS => some .TWN_PSTAT_FAILS_SAT
  | .TWN_PBYTES_COUNT => some .TWN_PBYTES_SAT
  | .FLT_PLOST_COUNT0 => some .FLT_PLOST_SAT0
  | .FLT_PLOST_COUNT1 => some .FLT_PLOST_SAT1
  | .FLT_PLOST_COUNT2 => some .FLT_PLOST_SAT2
  | .FLT_PLOST_COUNT3 => some .FLT_PLOST_SAT3
  | .FLT_LOST_COUNT0 => some .FLT_LOST_SAT0
  | .FLT_LOST_COUNT1 => some .FLT_LOST_SAT1
  | .FLT_LOST_COUNT2 => some .FLT_LOST_SAT2
  | .FLT_LOST_COUNT3 => some .FLT_LOST_SAT3
  | .FLT_SEV_PART_FATALS => some .FLT_SEV_PART_FATALS_SAT
  | .FLT_SEV_ERRORS => some .FLT_SEV_ERRORS_SAT
  | .EMB_STATUS_LOST_FAULTS => some .EMB_STATUS_LOST_FAULTS_SAT
  | .EMB_STATUS_LOST => some .EMB_STATUS_LOST_SAT
  | .EMB_FAULT_OUT_DEV_FATALS => some .EMB_FAULT_OUT_DEV_FATALS_SAT
  | .MGT_ERR_DROPPED => some .MGT_ERR_SAT
  | .DF_LINK_FALLBACKS => some .DF_LINK_FALLBACK_SAT
  | _ => none

/-- The counter that a sticky SAT flag belongs to: writing 1 to the flag clears both (R715). -/
def Fld.satCounter : Fld → Option Fld
  | .PWR_GOV_THROTTLE_SAT => some .PWR_GOV_THROTTLE_EVENTS
  | .PWR_DOM_WAKES_SAT => some .PWR_DOM_WAKES_COUNT
  | .PWR_DOM_DOZE_SAT => some .PWR_DOM_DOZE_COUNT
  | .CLK_STATUS_LOCK_LOSS_SAT => some .CLK_STATUS_LOCK_LOSS
  | .RST_STATUS_WARM_SAT => some .RST_STATUS_WARM_COUNT
  | .KIM_COUNT_COMMITS_SAT => some .KIM_COUNT_COMMITS
  | .KIM_COUNT_FAILS_SAT => some .KIM_COUNT_FAILS
  | .PART_STATE_RESETS_SAT => some .PART_STATE_RESETS
  | .PART_STATS_SAT => some .PART_STATS_CMDS
  | .PART_Q_ERR_DB_ERRS_SAT => some .PART_Q_ERR_DB_ERRS
  | .TILE_EXC_COUNT_SAT => some .TILE_EXC_COUNT
  | .TILE_RETIRED_SAT => some .TILE_RETIRED_COUNT
  | .TILE_ECC_SAT => some .TILE_ECC_CORRECTED
  | .MSG_TASKS_DONE_SAT => some .MSG_TASKS_DONE
  | .MSG_TASKS_FAULTED_SAT => some .MSG_TASKS_FAULTED
  | .MSG_TASKS_CANCELLED_SAT => some .MSG_TASKS_CANCELLED
  | .MSG_ERR_FAILED_SAT => some .MSG_ERR_FAILED
  | .MSG_ERR_DROPPED_SAT => some .MSG_ERR_DROPPED
  | .MSG_ERR_RETRIES_SAT => some .MSG_ERR_RETRIES
  | .LNT_CORE_CFG_RESTARTS_SAT => some .LNT_CORE_CFG_RESTARTS
  | .LNT_DB_STAT_LOST_SAT => some .LNT_DB_STAT_LOST
  | .XLAT_PSTAT_SAT => some .XLAT_PSTAT_ATS_REQS
  | .XLAT_PFAULT_FAULTS_SAT => some .XLAT_PFAULT_FAULTS
  | .XLAT_PPRI_SAT => some .XLAT_PPRI_PAGE_REQS
  | .XLAT_HINV_BAD_PRG_SAT => some .XLAT_GSTAT_BAD_PRG
  | .XLAT_HINV_MERGED_SAT => some .XLAT_L2_MERGED
  | .XLAT_HINV_SAT => some .XLAT_HINV_HOST_INVS
  | .CCH_ERR_POISON_SAT => some .CCH_ERR_POISON_FILLS
  | .CCH_ERR_GO_ERR_SAT => some .CCH_ERR_GO_ERRS
  | .CCH_HITS_SAT => some .CCH_HITS_COUNT
  | .CCH_MISSES_SAT => some .CCH_MISSES_COUNT
  | .CCH_PREFETCHES_SAT => some .CCH_PREFETCHES_COUNT
  | .CCH_STREAM_WRITES_SAT => some .CCH_STREAM_WRITES_COUNT
  | .CCH_EVICT_DIRTY_SAT => some .CCH_EVICT_DIRTY_COUNT
  | .CCH_EVICT_NOTIFIED_SAT => some .CCH_EVICT_NOTIFIED_COUNT
  | .CCH_SNOOPS_SAT => some .CCH_SNOOPS_COUNT
  | .CCH_SNOOP_EVB_SAT => some .CCH_SNOOP_EVB_COUNT
  | .DIR_BISNP_SAT => some .DIR_BISNP_COUNT
  | .DIR_BI_EVICT_SAT => some .DIR_BI_EVICT_COUNT
  | .DIR_BI_STALE_SAT => some .DIR_BI_STALE_COUNT
  | .DIR_CONFLICTS_SAT => some .DIR_CONFLICTS_COUNT
  | .CCH_PHITS_SAT => some .CCH_PHITS_COUNT
  | .CCH_PMISSES_SAT => some .CCH_PMISSES_COUNT
  | .MEM_STACK_CE_SAT => some .MEM_STACK_CE
  | .MEM_STACK_UE_SAT => some .MEM_STACK_UE
  | .CRY_STAT_TAG_SAT => some .CRY_STAT_TAG_FAILS
  | .CRY_WAITS_SAT => some .CRY_WAITS_COUNT
  | .HL_STATUS_QUAR_SAT => some .HL_STATUS_QUARANTINES
  | .HL_VIOL_SAT => some .HL_VIOL_COUNT
  | .HL_CTO_TO_SAT => some .HL_CTO_TIMEOUTS
  | .HL_CTO_LATE_SAT => some .HL_CTO_LATE
  | .HL_WAKE_WAKES_SAT => some .HL_WAKE_WAKES
  | .HL_FLR_PF_SAT => some .HL_FLR_PF_FLRS
  | .HL_FLR_VF_SAT => some .HL_FLR_VF_FLRS
  | .HL_PSTAT_HOST_ERRS_SAT => some .HL_PSTAT_HOST_ERRS
  | .DL_PORT_ERR_VIOL_SAT => some .DL_PORT_ERR_VIOL
  | .DL_PORT_ERR_DOWNS_SAT => some .DL_PORT_ERR_DOWNS
  | .DL_PORT_ERR_POISON_SAT => some .DL_PORT_ERR_POISON
  | .FAB_PORT_FEC_SAT => some .FAB_PORT_FEC_CORRECTED
  | .FAB_PORT_ERR_UNCORR_SAT => some .FAB_PORT_ERR_UNCORR
  | .FAB_PORT_ERR_FCRC_SAT => some .FAB_PORT_ERR_FCRC_FAILS
  | .FAB_PORT_VIOL_TX_SAT => some .FAB_PORT_VIOL_TX_HELD
  | .FAB_PORT_VIOL_RX_SAT => some .FAB_PORT_VIOL_RX_SLOT
  | .FAB_PORT_RETRY_REPLAYS_SAT => some .FAB_PORT_RETRY_REPLAYS
  | .FAB_PORT_RETRY_DOWNS_SAT => some .FAB_PORT_RETRY_DOWNS
  | .FAB_PORT_QUAR_VIOLS_SAT => some .FAB_PORT_QUAR_VIOLS
  | .FAB_PORT_QUAR_ENTRIES_SAT => some .FAB_PORT_QUAR_ENTRIES
  | .FAB_SYNC_SYNC_LOST_SAT => some .FAB_SYNC_SYNC_LOST
  | .FAB_RECOV_MGMT_SAT => some .FAB_RECOV_MGMT_DROPS
  | .FAB_RECOV_EPOCH_SAT => some .FAB_RECOV_EPOCH_DROPS
  | .FAB_FENCE_FENCES_SAT => some .FAB_FENCE_FENCES
  | .SEQ_STAT_ABORTS_SAT => some .SEQ_STAT_ABORTS
  | .FAB_PFLOW_SAT => some .FAB_PFLOW_COUNT
  | .FAB_PVIOL_SAT => some .FAB_PVIOL_COUNT
  | .SEQ_PSTAT_DONE_SAT => some .SEQ_PSTAT_DONE
  | .SEQ_PSTAT_ABORTED_SAT => some .SEQ_PSTAT_ABORTED
  | .SEQ_PSTAT_DEGRADED_SAT => some .SEQ_PSTAT_DEGRADED
  | .FAB_PRECOV_RESENDS_SAT => some .FAB_PRECOV_RESENDS
  | .FAB_PRECOV_DUPS_SAT => some .FAB_PRECOV_DUPS
  | .FAB_PRECOV_FAILED_SAT => some .FAB_PRECOV_FAILED
  | .TWN_STATUS_LOSSES_SAT => some .TWN_STATUS_LOSSES
  | .TWN_RX_COUNT_FAILED_SAT => some .TWN_RX_COUNT_FAILED
  | .TWN_RX_COUNT_PARTIAL_SAT => some .TWN_RX_COUNT_PARTIAL
  | .TWN_PSTAT_FAILS_SAT => some .TWN_PSTAT_FAILS
  | .TWN_PBYTES_SAT => some .TWN_PBYTES_COUNT
  | .FLT_PLOST_SAT0 => some .FLT_PLOST_COUNT0
  | .FLT_PLOST_SAT1 => some .FLT_PLOST_COUNT1
  | .FLT_PLOST_SAT2 => some .FLT_PLOST_COUNT2
  | .FLT_PLOST_SAT3 => some .FLT_PLOST_COUNT3
  | .FLT_LOST_SAT0 => some .FLT_LOST_COUNT0
  | .FLT_LOST_SAT1 => some .FLT_LOST_COUNT1
  | .FLT_LOST_SAT2 => some .FLT_LOST_COUNT2
  | .FLT_LOST_SAT3 => some .FLT_LOST_COUNT3
  | .FLT_SEV_PART_FATALS_SAT => some .FLT_SEV_PART_FATALS
  | .FLT_SEV_ERRORS_SAT => some .FLT_SEV_ERRORS
  | .EMB_STATUS_LOST_FAULTS_SAT => some .EMB_STATUS_LOST_FAULTS
  | .EMB_STATUS_LOST_SAT => some .EMB_STATUS_LOST
  | .EMB_FAULT_OUT_DEV_FATALS_SAT => some .EMB_FAULT_OUT_DEV_FATALS
  | .MGT_ERR_SAT => some .MGT_ERR_DROPPED
  | .DF_LINK_FALLBACK_SAT => some .DF_LINK_FALLBACKS
  | _ => none

/-- The registers in the order of Table 18-6 by block. -/
def Reg.all : List Reg :=
  ([.GLB_IDENT, .GLB_TOPO, .GLB_UNITS, .PWR_DOM_STATE, .PWR_HOLD, .PWR_GOV, .PWR_DOM_CFG, .PWR_DOM_WAKES, .PWR_DOM_DOZE, .CLK_TICK, .CLK_STATUS, .RST_STATUS, .RST_REQ, .KIM_CMD, .KIM_SRC_ADDR, .KIM_SRC_LEN, .KIM_ARM_C, .KIM_ARM_CFG, .KIM_STATUS, .KIM_EPOCH] : List Reg) ++
  ([.KIM_ARB, .KIM_UID, .KIM_COUNT, .KIM_DIG_BASE, .KIM_DIG_DOMAIN, .KIM_DIG_COMP, .KIM_DIG_STAGED, .KIM_PART_REV, .PART_STATE, .PART_CTL, .PART_RES, .PART_STATS, .PART_JOB_TAG, .PART_SQ_BASE, .PART_SQ_CFG, .PART_CQ_BASE, .PART_CQ_CFG, .PART_Q_ERR, .PART_SQ_DB, .PART_CQ_DB] : List Reg) ++
  ([.PART_PROV_CTL, .PART_FWU_ADDR, .PART_FWU_LEN, .PART_FWU_CMD, .PART_FWU_STATUS, .PART_FWU_VER, .TILE_STATUS, .TILE_EXC, .TILE_EXC_ADDR, .TILE_RETIRED, .TILE_CAPS, .TILE_ECC, .MSG_CFG, .MSG_TASKS, .MSG_ERR, .MSG_CTR_SEL, .MSG_CTR_DATA, .LNT_CORE_CFG, .LNT_DB_ROUTE, .LNT_PROV_DB] : List Reg) ++
  ([.LNT_WDOG, .LNT_DB, .LNT_DB_STAT, .LNT_HOSTIRQ, .XLAT_CTX_CFG, .XLAT_CTX_STAT, .XLAT_SEG_IN, .XLAT_SEG_LIM, .XLAT_SEG_OUT, .XLAT_SEG_ATTR, .XLAT_PSTAT, .XLAT_PFAULT, .XLAT_PPRI, .XLAT_CFG, .XLAT_GSTAT, .XLAT_L2, .XLAT_HINV, .CCH_CFG, .CCH_DEV, .CCH_EVB] : List Reg) ++
  ([.CCH_ERR, .CCH_HITS, .CCH_MISSES, .CCH_PREFETCHES, .CCH_STREAM_WRITES, .CCH_EVICT_DIRTY, .CCH_EVICT_NOTIFIED, .CCH_SNOOPS, .CCH_SNOOP_EVB, .DIR_CFG, .DIR_STATUS, .DIR_BISNP, .DIR_BI_EVICT, .DIR_BI_STALE, .DIR_CONFLICTS, .CCH_PSTATE, .CCH_PHITS, .CCH_PMISSES, .MEM_CFG, .MEM_ERRLOG] : List Reg) ++
  ([.MEM_DBGWIN, .MEM_STACK, .CRY_KEK, .CRY_LINK, .CRY_STAT, .CRY_WAITS, .CRY_KR_ID, .CRY_KR_RK, .CRY_PKR_ID, .CRY_PKR_RK, .HL_CFG, .HL_STATUS, .HL_VIOL, .HL_VIOL_LOG, .HL_CTO, .HL_GVEC, .HL_INTX_PART, .HL_INTX_GLB, .HL_WAKE, .HL_FLR] : List Reg) ++
  ([.HL_PSTAT, .DL_CFG, .DL_STATUS, .DL_CMD, .DL_PORT_STAT, .DL_PORT_BASE, .DL_PORT_SIZE, .DL_PORT_ERR, .FAB_PORT_STAT, .FAB_PORT_FEC, .FAB_PORT_ERR, .FAB_PORT_VIOL, .FAB_PORT_DELAY, .FAB_PORT_RETRY, .FAB_PORT_QUAR, .FAB_CADENCE, .FAB_SYNC, .FAB_TBL_SEL, .FAB_TBL_DATA, .FAB_OCC_SEL] : List Reg) ++
  ([.FAB_OCC_DATA, .FAB_SAMPLE, .FAB_ERRCFG, .FAB_RECOV, .FAB_FENCE, .SEQ_STAT, .SEQ_COLL, .FAB_PFLOW, .FAB_PVIOL, .SEQ_PSTAT, .FAB_PRECOV, .FAB_PFAILOVER, .TWN_STATUS, .TWN_CFG, .TWN_CMD, .TWN_CMD_EPOCH, .TWN_RX_STAT, .TWN_RX_APPLIED, .TWN_RX_COMMITTED, .TWN_RX_COUNT] : List Reg) ++
  ([.TWN_PSTAT, .TWN_PEPOCH, .TWN_PBYTES, .FLT_PRING_BASE, .FLT_PRING_CFG, .FLT_PRING_HEAD, .FLT_PRING_STAT, .FLT_PLOST, .FLT_RING_BASE, .FLT_RING_CFG, .FLT_RING_HEAD, .FLT_RING_STAT, .FLT_LOST, .FLT_SEV, .EMB_CFG, .EMB_CTL, .EMB_STATUS, .EMB_RSEQ, .EMB_SLOTS, .EMB_FAULT_OUT] : List Reg) ++
  ([.EMB_WIN_SEL, .EMB_NOTE, .EMB_DIR, .MGT_STATUS, .MGT_ERR, .DF_LINK, .DF_IDENT, .DF_FUNC] : List Reg)

end Sys2Proof.Machine
end

