-- ==== Sys2Proof/Machine/Maps.lean ====
section
/-! DEFINITION. Plain containers: sparse maps with natural-number keys in ascending order, byte stores in one
canonical form (R16), and the byte-list and bit-field helpers that every other file uses. -/
namespace Sys2Proof.Machine

/-- A sparse map: keys strictly ascending. -/
abbrev KMap (α : Type) := List (Nat × α)

/-- The entry of key k, if one is listed. -/
def kfind? {α : Type} (k : Nat) : KMap α → Option α
  | [] => none
  | (j, v) :: rest => if j = k then some v else kfind? k rest

/-- The entry of key k, or d. -/
def kgetD {α : Type} (m : KMap α) (k : Nat) (d : α) : α := (kfind? k m).getD d

/-- m with the entry of key k put in its place or replaced. -/
def kput {α : Type} (k : Nat) (v : α) : KMap α → KMap α
  | [] => [(k, v)]
  | (j, w) :: rest =>
    if k < j then (k, v) :: (j, w) :: rest
    else if k = j then (k, v) :: rest
    else (j, w) :: kput k v rest

/-- m without an entry of key k. -/
def kdel {α : Type} (k : Nat) (m : KMap α) : KMap α := m.filter (fun e => e.1 != k)

/-- m with the entry of key k changed by f, from d where none is listed. -/
def kmod {α : Type} (m : KMap α) (k : Nat) (d : α) (f : α → α) : KMap α := kput k (f (kgetD m k d)) m

/-! ### Byte stores -/

/-- A byte store: (address, byte) pairs, addresses strictly rising, no listed byte equal to 0, which is what an
unlisted address reads as (notes/assumptions/4.md). -/
abbrev Mem := List Host.Cell

/-- The byte at an address. -/
def Mem.read (a : Nat) : Mem → Byte
  | [] => 0
  | (j, b) :: rest => if j = a then b else Mem.read a rest

/-- The store with one byte written, in canonical form. -/
def Mem.write (a : Nat) (b : Byte) : Mem → Mem
  | [] => if b = 0 then [] else [(a, b)]
  | (j, c) :: rest =>
    if a < j then (if b = 0 then (j, c) :: rest else (a, b) :: (j, c) :: rest)
    else if a = j then (if b = 0 then rest else (a, b) :: rest)
    else (j, c) :: Mem.write a b rest

/-- The addresses of a store are strictly rising above lo. -/
def Mem.above (lo : Option Nat) : Mem → Bool
  | [] => true
  | (j, b) :: rest => (match lo with | none => true | some l => decide (l < j)) && b != 0 && Mem.above (some j) rest

/-- The canonical form: strictly rising addresses, no listed zero. -/
def Mem.wf (m : Mem) : Bool := Mem.above none m

/-- n bytes from address a, lowest address first. -/
def Mem.readN (m : Mem) (a : Nat) : Nat → List Byte
  | 0 => []
  | n + 1 => m.read a :: Mem.readN m (a + 1) n

/-- The bytes written from address a on, in order. -/
def Mem.writeN (a : Nat) : List Byte → Mem → Mem
  | [], m => m
  | b :: bs, m => Mem.writeN (a + 1) bs (m.write a b)

/-! ### Byte lists and bit fields -/

/-- The value of a byte list stored little-endian (R16). -/
def leNat : List Byte → Nat
  | [] => 0
  | b :: bs => b.toNat + 256 * leNat bs

/-- The n low bytes of a value, little-endian (R16). -/
def leBytes : Nat → Nat → List Byte
  | 0, _ => []
  | n + 1, v => BitVec.ofNat 8 (v % 256) :: leBytes n (v / 256)

/-- The value of a byte list stored big-endian. -/
def beNat (bs : List Byte) : Nat := bs.foldl (fun a b => a * 256 + b.toNat) 0

/-- The n low bytes of a value, big-endian. -/
def beBytes (n v : Nat) : List Byte := (leBytes n v).reverse

/-- Bits [lo + w - 1 : lo] of a value (R15). -/
def bits (v lo w : Nat) : Nat := (v / 2 ^ lo) % 2 ^ w

/-- Bit n of a value. -/
def bit (v n : Nat) : Bool := bits v n 1 = 1

/-- A value with bits [lo + w - 1 : lo] replaced. -/
def setBits (v lo w x : Nat) : Nat := v - bits v lo w * 2 ^ lo + (x % 2 ^ w) * 2 ^ lo

/-- A Boolean as a bit. -/
def b2n (b : Bool) : Nat := if b then 1 else 0

/-- n bytes of a byte list from an offset; bytes past its end read 0. -/
def slice (bs : List Byte) (off n : Nat) : List Byte :=
  let t := (bs.drop off).take n
  t ++ List.replicate (n - t.length) 0

/-- The little-endian field of n bytes at an offset. -/
def leAt (bs : List Byte) (off n : Nat) : Nat := leNat (slice bs off n)

/-- The two's-complement reading of the low w bits of a value. -/
def sInt (w v : Nat) : Int := (BitVec.ofNat w v).toInt

/-- An integer wrapped to w bits. -/
def wrap (w : Nat) (i : Int) : Nat := (BitVec.ofInt w i).toNat

/-- A value counted modulo 2^w. -/
def modW (w n : Nat) : Nat := n % 2 ^ w

/-- Element i of a list, or d. -/
def nthD {α : Type} (l : List α) (i : Nat) (d : α) : α := (l[i]?).getD d

/-- A list with element i replaced. -/
def setNth {α : Type} (l : List α) (i : Nat) (v : α) : List α := l.set i v

/-- A list with v at the end. -/
def snoc {α : Type} (l : List α) (v : α) : List α := l ++ [v]

/-- The numbers from a up, n of them. -/
def rangeFrom (a n : Nat) : List Nat := (List.range n).map (· + a)

end Sys2Proof.Machine
end

