-- ==== Sys2Proof/Machine/Fp.lean ====
section
/-! DEFINITION. The number formats of Table 5-2 and the arithmetic on them: exact results rounded once, conversions,
comparisons, stochastic rounding and the matrix step (R182 to R185, R193, R194, R597). -/
namespace Sys2Proof.Machine

/-- The formats a tile computes in (Table 5-2). -/
inductive Fmt where
  | f32 | bf16 | e4m3 | e5m2
deriving DecidableEq, Repr

/-- Exponent bits, fraction bits and bias (Table 5-2). -/
def Fmt.ebits : Fmt → Nat | .f32 => 8 | .bf16 => 8 | .e4m3 => 4 | .e5m2 => 5
def Fmt.fbits : Fmt → Nat | .f32 => 23 | .bf16 => 7 | .e4m3 => 3 | .e5m2 => 2
def Fmt.bias : Fmt → Nat | .f32 => 127 | .bf16 => 127 | .e4m3 => 7 | .e5m2 => 15

/-- Bytes of an element. -/
def Fmt.bytes : Fmt → Nat | .f32 => 4 | .bf16 => 2 | .e4m3 => 1 | .e5m2 => 1

/-- The format has infinities (Table 5-2). -/
def Fmt.hasInf : Fmt → Bool | .e4m3 => false | _ => true

/-- The canonical NaN (Table 5-2). -/
def Fmt.nan : Fmt → Nat | .f32 => 0x7FC00000 | .bf16 => 0x7FC0 | .e4m3 => 0x7F | .e5m2 => 0x7F

/-- The sign bit of an encoding. -/
def Fmt.signBit (f : Fmt) : Nat := 2 ^ (f.ebits + f.fbits)

/-- The exponent of the quantum of subnormals. -/
def Fmt.qmin (f : Fmt) : Int := 1 - (f.bias : Int) - f.fbits

/-- The exponent of the quantum at the largest finite value, and its significand (Table 5-2). -/
def Fmt.qmax (f : Fmt) : Int := (2 ^ f.ebits - (if f.hasInf then 2 else 1) : Int) - f.bias - f.fbits
def Fmt.maxSig (f : Fmt) : Nat := 2 ^ (f.fbits + 1) - (if f.hasInf then 1 else 2)

/-- A value: NaN (signalling or quiet), an infinity, or (-1)^neg * m * 2^e. -/
inductive FVal where
  | nan (sig : Bool)
  | inf (neg : Bool)
  | fin (neg : Bool) (m : Nat) (e : Int)
deriving DecidableEq, Repr

/-- The four IEEE flags of FPCSR and MFLAGS (Table 5-13). -/
structure FFlags where
  nv : Bool := false
  of : Bool := false
  uf : Bool := false
  nx : Bool := false
deriving DecidableEq, Repr

/-- Flags of two steps together. -/
def FFlags.or (a b : FFlags) : FFlags := ⟨a.nv || b.nv, a.of || b.of, a.uf || b.uf, a.nx || b.nx⟩

/-- The flags as bits, NV lowest (Table 5-13). -/
def FFlags.bits (a : FFlags) : Nat := b2n a.nv + 2 * b2n a.of + 4 * b2n a.uf + 8 * b2n a.nx

/-- The value of an encoding (Table 5-2). A NaN of binary32 or bfloat16 whose leading fraction bit is 0 signals. -/
def Fmt.decode (f : Fmt) (x : Nat) : FVal :=
  let neg := bit x (f.ebits + f.fbits)
  let ex := Machine.bits x f.fbits f.ebits
  let fr := Machine.bits x 0 f.fbits
  let top := 2 ^ f.ebits - 1
  if ex = top ∧ f.hasInf then
    if fr = 0 then .inf neg
    else .nan ((f = .f32 || f = .bf16) && !bit fr (f.fbits - 1))
  else if ex = top ∧ fr = 2 ^ f.fbits - 1 then .nan false
  else if ex = 0 then .fin neg fr f.qmin
  else .fin neg (2 ^ f.fbits + fr) (f.qmin + ex - 1)

/-- The encoding of a representable finite magnitude m * 2^q with its sign. -/
def Fmt.encodeFin (f : Fmt) (neg : Bool) (m : Nat) (q : Int) : Nat :=
  b2n neg * f.signBit +
    (if m < 2 ^ f.fbits then m else (q - f.qmin + 1).toNat * 2 ^ f.fbits + (m - 2 ^ f.fbits))

/-- The encodings of an infinity and of the largest finite value; E4M3 has no infinity and gives its NaN. -/
def Fmt.encodeInf (f : Fmt) (neg : Bool) : Nat :=
  if f.hasInf then b2n neg * f.signBit + (2 ^ f.ebits - 1) * 2 ^ f.fbits else f.nan
def Fmt.encodeMax (f : Fmt) (neg : Bool) : Nat := f.encodeFin neg f.maxSig f.qmax

/-- Rounding modes of FPCSR.RM (Table 5-13): 0 nearest even, 1 toward zero, 2 down, 3 up. -/
def roundUp (rm : Nat) (neg : Bool) (odd : Bool) (rem half : Nat) : Bool :=
  match rm with
  | 0 => half < rem || (rem = half && odd)
  | 1 => false
  | 2 => neg
  | _ => !neg

/-- How a magnitude above the largest finite ends: by the rounding direction as IEEE 754 gives, or by Table 5-3 with
SAT 1 or 0. -/
inductive Ovf where
  | ieee | sat | inf
deriving DecidableEq, Repr

/-- The position of the leading one of a non-zero number. -/
def msb (m : Nat) : Nat := Nat.log2 m

/-- The value m * 2^k as a natural number, bits below the point cut off. -/
def shiftN (m : Nat) (k : Int) : Nat := if 0 ≤ k then m * 2 ^ k.toNat else m / 2 ^ (-k).toNat

/-- A value rounded once to a format: the encoding and the flags. Tininess is judged before rounding
(notes/assumptions/10.md). -/
def Fmt.round (f : Fmt) (rm : Nat) (ovf : Ovf) (v : FVal) : Nat × FFlags :=
  match v with
  | .nan sig => (f.nan, { nv := sig })
  | .inf neg =>
    match ovf with
    | .sat => (f.encodeMax neg, { nx := true })
    | _ => (f.encodeInf neg, { nv := !f.hasInf })
  | .fin neg m e =>
    if m = 0 then (b2n neg * f.signBit, {})
    else
      let top : Int := msb m + e
      let q := max (top - f.fbits) f.qmin
      let d := (q - e).toNat
      let base := if e ≤ q then m / 2 ^ d else m * 2 ^ (e - q).toNat
      let rem := if e ≤ q then m % 2 ^ d else 0
      let inexact := rem != 0
      let up := inexact && roundUp rm neg (base % 2 = 1) rem (2 ^ (d - 1))
      let m1 := base + b2n up
      let (m2, q2) := if m1 = 2 ^ (f.fbits + 1) then (2 ^ f.fbits, q + 1) else (m1, q)
      let tiny := decide (top < 1 - (f.bias : Int))
      if f.qmax < q2 ∨ (q2 = f.qmax ∧ f.maxSig < m2) then
        let r := match ovf with
          | .sat => f.encodeMax neg
          | .inf => f.encodeInf neg
          | .ieee => if rm = 0 ∨ (rm = 2 ∧ neg) ∨ (rm = 3 ∧ !neg) then f.encodeInf neg else f.encodeMax neg
        (r, { of := true, nx := true })
      else (f.encodeFin neg m2 q2, { uf := tiny && inexact, nx := inexact })

/-! ### Exact arithmetic -/

/-- Some operand is NaN: the NaN result and its flag. -/
def nanOf (vs : List FVal) : Option (FVal × FFlags) :=
  if vs.any (fun v => match v with | .nan _ => true | _ => false) then
    some (.nan false, { nv := vs.any (fun v => v == .nan true) })
  else none

/-- The exact product of two values that are not NaN. -/
def mulV (a b : FVal) : FVal × FFlags :=
  match a, b with
  | .fin na ma ea, .fin nb mb eb => (.fin (na != nb) (ma * mb) (ea + eb), {})
  | .inf na, .fin nb mb _ => if mb = 0 then (.nan false, { nv := true }) else (.inf (na != nb), {})
  | .fin na ma _, .inf nb => if ma = 0 then (.nan false, { nv := true }) else (.inf (na != nb), {})
  | .inf na, .inf nb => (.inf (na != nb), {})
  | _, _ => (.nan false, {})

/-- A signed significand. -/
def sgn (neg : Bool) (m : Nat) : Int := if neg then -(m : Int) else m

/-- The exact sum of two values that are not NaN; an exact zero of opposite signs is +0, or −0 rounding down. -/
def addV (rm : Nat) (a b : FVal) : FVal × FFlags :=
  match a, b with
  | .inf na, .inf nb => if na = nb then (.inf na, {}) else (.nan false, { nv := true })
  | .inf na, _ => (.inf na, {})
  | _, .inf nb => (.inf nb, {})
  | .fin na ma ea, .fin nb mb eb =>
    if ma = 0 ∧ mb = 0 then (.fin (if na = nb then na else rm = 2) 0 0, {})
    else
      let e := min ea eb
      let t := sgn na (ma * 2 ^ (ea - e).toNat) + sgn nb (mb * 2 ^ (eb - e).toNat)
      if t = 0 then (.fin (rm = 2) 0 0, {}) else (.fin (t < 0) t.natAbs e, {})
  | _, _ => (.nan false, {})

/-- a + b, a * b and a * b + c of a format, each computed exactly and rounded once (R183). -/
def Fmt.add (f : Fmt) (rm : Nat) (x y : Nat) : Nat × FFlags :=
  let a := f.decode x
  let b := f.decode y
  let (v, g) := (nanOf [a, b]).getD (addV rm a b)
  let (r, h) := f.round rm .ieee v
  (r, g.or h)

def Fmt.neg (f : Fmt) (x : Nat) : Nat := if bit x (f.ebits + f.fbits) then x - f.signBit else x + f.signBit

def Fmt.sub (f : Fmt) (rm : Nat) (x y : Nat) : Nat × FFlags := f.add rm x (f.neg y)

def Fmt.mul (f : Fmt) (rm : Nat) (x y : Nat) : Nat × FFlags :=
  let a := f.decode x
  let b := f.decode y
  let (v, g) := (nanOf [a, b]).getD (mulV a b)
  let (r, h) := f.round rm .ieee v
  (r, g.or h)

/-- The exact a * b + c. -/
def fmaV (rm : Nat) (a b c : FVal) : FVal × FFlags :=
  match nanOf [a, b, c] with
  | some r => r
  | none =>
    let (p, g) := mulV a b
    match p with
    | .nan _ => (p, g)
    | _ => let (s, h) := addV rm p c; (s, g.or h)

def Fmt.fma (f : Fmt) (rm : Nat) (x y z : Nat) : Nat × FFlags :=
  let (v, g) := fmaV rm (f.decode x) (f.decode y) (f.decode z)
  let (r, h) := f.round rm .ieee v
  (r, g.or h)

/-- The encoding is a NaN. -/
def Fmt.isNan (f : Fmt) (x : Nat) : Bool := match f.decode x with | .nan _ => true | _ => false
def Fmt.isSnan (f : Fmt) (x : Nat) : Bool := f.decode x == .nan true

/-- a < b for values that are not NaN; −0 and +0 are equal. -/
def ltV (a b : FVal) : Bool :=
  match a, b with
  | .inf na, .inf nb => na && !nb
  | .inf na, _ => na
  | _, .inf nb => !nb
  | .fin na ma ea, .fin nb mb eb =>
    let e := min ea eb
    decide (sgn na (ma * 2 ^ (ea - e).toNat) < sgn nb (mb * 2 ^ (eb - e).toNat))
  | _, _ => false

/-- a = b for values that are not NaN. -/
def eqV (a b : FVal) : Bool := !ltV a b && !ltV b a

/-- VFMIN (want false) and VFMAX (want true): the non-NaN operand where exactly one is NaN, −0 below +0 (R183). -/
def Fmt.minmax (f : Fmt) (want : Bool) (x y : Nat) : Nat × FFlags :=
  let fl : FFlags := { nv := f.isSnan x || f.isSnan y }
  if f.isNan x && f.isNan y then (f.nan, fl)
  else if f.isNan x then (y, fl)
  else if f.isNan y then (x, fl)
  else
    let a := f.decode x
    let b := f.decode y
    let xLow := ltV a b || (eqV a b && bit x (f.ebits + f.fbits))
    (if xLow = want then y else x, fl)

/-- VFABS and VFNEG; every NaN produced is canonical (R183). -/
def Fmt.fabs (f : Fmt) (x : Nat) : Nat := if f.isNan x then f.nan else x % f.signBit
def Fmt.fneg (f : Fmt) (x : Nat) : Nat := if f.isNan x then f.nan else f.neg x

/-- The float compares of Table 5-7: 0 FEQ, 1 FLT, 2 FLE, 3 FUNORD, with the flags of IEEE 754-2019. -/
def Fmt.cmp (f : Fmt) (op x y : Nat) : Bool × FFlags :=
  let nan := f.isNan x || f.isNan y
  let snan := f.isSnan x || f.isSnan y
  let a := f.decode x
  let b := f.decode y
  match op with
  | 0 => (!nan && eqV a b, { nv := snan })
  | 1 => (!nan && ltV a b, { nv := nan })
  | 2 => (!nan && !ltV b a, { nv := nan })
  | _ => (nan, { nv := snan })

/-- The pairwise tree sum of R193: elements 2k and 2k + 1 first, then adjacent pairs of those sums. -/
def redPairs (rm : Nat) : List Nat → List Nat × FFlags
  | a :: b :: rest =>
    let (r, g) := Fmt.f32.add rm a b
    let (rs, h) := redPairs rm rest
    (r :: rs, g.or h)
  | l => (l, {})

/-- The sum of 2^n binary32 elements in n rounds of pairs (R193). -/
def redTree (rm : Nat) : Nat → List Nat → Nat × FFlags
  | 0, l => (nthD l 0 0, {})
  | n + 1, l =>
    let (l', g) := redPairs rm l
    let (r, h) := redTree rm n l'
    (r, g.or h)

/-! ### Conversions (R184, R185, Table 5-3) -/

/-- SEED advanced by 32 steps of its Galois LFSR; the result is r (R185). -/
def lfsrStep (x : Nat) : Nat := if x % 2 = 1 then (x / 2) ^^^ 0x80200003 else x / 2
def lfsrAdvance (seed : Nat) : Nat := (List.range 32).foldl (fun x _ => lfsrStep x) seed

/-- A float value to S32 under a rounding mode: out of range saturates, NaN gives 0, NV in both cases (Table 5-3). -/
def toS32 (rm : Nat) (v : FVal) : Nat × FFlags :=
  match v with
  | .nan _ => (0, { nv := true })
  | .inf neg => (if neg then 0x80000000 else 0x7FFFFFFF, { nv := true })
  | .fin neg m e =>
    let d := (-e).toNat
    let base := if 0 ≤ e then m * 2 ^ e.toNat else m / 2 ^ d
    let rem := if 0 ≤ e then 0 else m % 2 ^ d
    let n := base + b2n (rem != 0 && roundUp rm neg (base % 2 = 1) rem (2 ^ (d - 1)))
    if neg then
      if 2 ^ 31 < n then (0x80000000, { nv := true }) else ((2 ^ 32 - n) % 2 ^ 32, { nx := rem != 0 })
    else if 2 ^ 31 ≤ n then (0x7FFFFFFF, { nv := true }) else (n, { nx := rem != 0 })

/-- Stochastic rounding of a finite non-zero magnitude (R185): r >> (32 − d) binary32 units are added where d is 1 to
31, then the magnitude is truncated to the target; the flags are judged against the value converted. -/
def Fmt.stoch (f : Fmt) (ovf : Ovf) (r : Nat) (neg : Bool) (m : Nat) (e : Int) : Nat × FFlags :=
  let top : Int := msb m + e
  let qt := max (top - f.fbits) f.qmin
  let qs := max (top - 23) (-149)
  let d := qt - qs
  let eb := min e qs
  let m1 := m * 2 ^ (e - eb).toNat
  let m2 := if 1 ≤ d ∧ d ≤ 31 then m1 + (r / 2 ^ (32 - d.toNat)) * 2 ^ (qs - eb).toNat else m1
  let (x, g) := f.round 1 ovf (.fin neg m2 eb)
  if g.of then (x, g)
  else
    let inexact := !eqV (f.decode x) (.fin neg m e)
    (x, { nx := inexact, uf := inexact && decide (top < 1 - (f.bias : Int)) })

/-- The types of VCVT (Table 5-8). -/
inductive CvtTy where
  | s32 | fl (f : Fmt)
deriving DecidableEq, Repr

/-- The type codes of Table 5-8; 101b to 111b are reserved. -/
def cvtTy : Nat → Option CvtTy
  | 0 => some .s32 | 1 => some (.fl .f32) | 2 => some (.fl .bf16) | 3 => some (.fl .e4m3) | 4 => some (.fl .e5m2)
  | _ => none

/-- Bytes of a VCVT type. -/
def CvtTy.bytes : CvtTy → Nat
  | .s32 => 4
  | .fl f => f.bytes

/-- One element converted (Table 5-3): the result, its flags and SEED after it, which advances where SR is 1. -/
def convert (src dst : CvtTy) (rm : Nat) (sat sr : Bool) (seed x : Nat) : Nat × FFlags × Nat :=
  let seed' := if sr then lfsrAdvance seed else seed
  let v : FVal := match src with
    | .s32 => .fin (decide (sInt 32 x < 0)) (sInt 32 x).natAbs 0
    | .fl f => f.decode x
  let (r, g) : Nat × FFlags := match dst with
    | .s32 => toS32 rm v
    | .fl f =>
      let ovf := if sat then Ovf.sat else Ovf.inf
      let wider := match src with
        | .fl g => decide (g.ebits ≤ f.ebits ∧ g.fbits ≤ f.fbits ∧ f.hasInf)
        | .s32 => false
      if wider then f.round 0 .inf v
      else match v with
        | .fin neg m e => if sr && m != 0 then f.stoch ovf seed' neg m e else f.round rm ovf v
        | _ => f.round rm ovf v
  (r, g, seed')

/-! ### Matrix and collective steps (R194, R597) -/

/-- One accumulator element over ascending k: a[i][j] = fma(A, B, a[i][j]), each with one rounding to nearest even. -/
def mmaDot (fa fb : Fmt) (acc : Nat) (ab : List (Nat × Nat)) : Nat × FFlags :=
  ab.foldl (fun (c, fl) (a, b) =>
    let (v, g) := fmaV 0 (fa.decode a) (fb.decode b) (Fmt.f32.decode c)
    let (r, h) := Fmt.f32.round 0 .ieee v
    (r, fl.or (g.or h))) (acc, {})

/-- One reduction step of a collective (R597): DTYPE 0 F32, 1 BF16, 2 S32; REDOP 0 SUM, 1 MAX, 2 MIN. -/
def collCombine (dtype redop x y : Nat) : Nat :=
  match dtype with
  | 2 =>
    match redop with
    | 0 => (x + y) % 2 ^ 32
    | 1 => if sInt 32 x < sInt 32 y then y else x
    | _ => if sInt 32 x < sInt 32 y then x else y
  | 1 =>
    let a := (Fmt.f32.round 0 .inf (Fmt.bf16.decode x)).1
    let b := (Fmt.f32.round 0 .inf (Fmt.bf16.decode y)).1
    let r := match redop with
      | 0 => (Fmt.f32.add 0 a b).1
      | 1 => (Fmt.f32.minmax true a b).1
      | _ => (Fmt.f32.minmax false a b).1
    (Fmt.bf16.round 0 .ieee (Fmt.f32.decode r)).1
  | _ =>
    match redop with
    | 0 => (Fmt.f32.add 0 x y).1
    | 1 => (Fmt.f32.minmax true x y).1
    | _ => (Fmt.f32.minmax false x y).1

end Sys2Proof.Machine
end

