-- ==== Sys2Proof/Machine/Reduce.lean ====
section
/-! DEFINITION. The reduction of a collective element by element (R597). -/
namespace Sys2Proof.Machine

/-- Two elements combined: DTYPE 0 F32, 1 BF16, 2 S32; REDOP 0 SUM, 1 MAX, 2 MIN (R597, Table 14-11). -/
def reduceElem (dtype redop x y : Nat) : Nat :=
  match dtype with
  | 0 => if redop = 0 then (Fmt.f32.add 0 x y).1 else (Fmt.f32.minmax (redop = 1) x y).1
  | 1 =>
    let a := x * 2 ^ 16
    let b := y * 2 ^ 16
    let r := if redop = 0 then (Fmt.f32.add 0 a b).1 else (Fmt.f32.minmax (redop = 1) a b).1
    (Fmt.bf16.round 0 .ieee (Fmt.f32.decode r)).1
  | _ =>
    let a := sInt 32 x
    let b := sInt 32 y
    match redop with
    | 0 => wrap 32 (a + b)
    | 1 => if a < b then y else x
    | _ => if b < a then y else x

/-- Bytes of an element. -/
def elemBytes (dtype : Nat) : Nat := if dtype = 1 then 2 else 4

/-- n elements combined. -/
def reduceN (dtype redop : Nat) : Nat → List Byte → List Byte → List Byte
  | 0, _, _ => []
  | n + 1, x, y =>
    let w := elemBytes dtype
    leBytes w (reduceElem dtype redop (leAt x 0 w) (leAt y 0 w)) ++ reduceN dtype redop n (x.drop w) (y.drop w)

/-- Two spans of elements combined; x is the earlier operand. -/
def reduceBytes (dtype redop : Nat) (x y : List Byte) : List Byte := reduceN dtype redop (y.length / elemBytes dtype) x y

end Sys2Proof.Machine
end

