-- ==== Sys2Proof/Config.lean ====
section
/-! DEFINITION. The free values: what the spec leaves open after a command that goes on (R9, undefined data) is an
opaque constant applied to a counter the step advances, so nothing can be proved of the value it gives.
See notes/assumptions/2.md. -/
namespace Sys2Proof

/-- The n-th free value: an unbounded natural number that nothing constrains; a use of it keeps the bits it needs. -/
opaque Config.free : Nat → Nat

/-- The byte at an address of a span whose contents are undefined (R111, R431, Table 2-6), by the span's number. -/
opaque Config.freeByte : Nat → Nat → Byte

/-- The entry point of a firmware bundle by its digest: at kernel level where the second argument is true, at warden level
otherwise (R276, Table 2-9). The bundle header of Table 4-13 gives none. -/
opaque Config.entry : Nat → Bool → Nat

end Sys2Proof
end

