-- ==== Sys2Proof/Machine/Image.lean ====
section
/-! DEFINITION. A KINDLING structure image as data: the header and every section of Tables 3-1 to 3-14, and what the
committed structure says of a tile, a flow, a port or a window (R91 to R119). -/
namespace Sys2Proof.Machine

/-- One PART_MAP entry (Table 3-4). -/
structure PartEnt where
  part : Nat := 0
  mirrored : Bool := false
  hbmKd : Nat := 0
  farKd : Nat := 0
  quotaMax : Nat := 0
  flows : Nat := 0
  lntCores : Nat := 0
  routeSets : Nat := 0
deriving DecidableEq, Repr

/-- One TILE_ASSIGN rectangle (Table 3-5). -/
structure TileRect where
  part : Nat := 0
  x0 : Nat := 0
  y0 : Nat := 0
  x1 : Nat := 0
  y1 : Nat := 0
deriving DecidableEq, Repr

/-- One TILE_REMAP entry (Table 3-6); lend tells a LEND entry from a REMAP entry. -/
structure RemapEnt where
  tx : Nat := 0
  ty : Nat := 0
  lend : Bool := false
  die : Nat := 0
  spare : Nat := 0
  lendPart : Nat := 0
deriving DecidableEq, Repr

/-- One route set: its head and, for each destination device, the PRIMARY and BACKUP port masks (Table 3-7). -/
structure RouteSet where
  set : Nat := 0
  owner : Nat := 0
  flows : Nat := 0
  entries : List (Nat × Nat) := []
deriving DecidableEq, Repr

/-- The kinds of a slot entry (Table 3-8). -/
inductive SlotKind where
  | idle | slack | flow | backup
deriving DecidableEq, Repr

/-- One slot entry (Table 3-8). -/
structure SlotEnt where
  kind : SlotKind := .idle
  part : Nat := 0
  flow : Nat := 0
deriving DecidableEq, Repr

/-- One slot block: a port with its TX and RX tables of 4,096 entries (Table 3-8). -/
structure SlotBlock where
  port : Nat := 0
  tx : List SlotEnt := []
  rx : List SlotEnt := []
deriving DecidableEq, Repr

/-- One port of LINK_PLAN (Table 3-9). -/
structure PortPlan where
  en : Bool := false
  neigh : Nat := 0
  neighPort : Nat := 0
  lanes : Nat := 0
  e2e : Nat := 0
deriving DecidableEq, Repr

/-- The LINK_PLAN body (Table 3-9). -/
structure LinkPlan where
  sizeX : Nat := 1
  sizeY : Nat := 1
  sizeZ : Nat := 1
  self : Nat := 0
  root : Nat := 0
  slotLen : Nat := 0
  ports : List PortPlan := []
deriving DecidableEq, Repr

/-- One key-range entry of MEM_RANGES (Table 3-10). -/
structure KeyRange where
  base : Nat := 0
  size : Nat := 0
  lbnBase : Nat := 0
  valid : Bool := false
deriving DecidableEq, Repr

/-- One window entry of MEM_RANGES (Table 3-10). -/
structure Window where
  base : Nat := 0
  size : Nat := 0
  owner : Nat := 0
  provider : Bool := false
  keyRange : Nat := 0
deriving DecidableEq, Repr

/-- One KEY_WRAPS entry (Table 3-11). -/
structure WrapEnt where
  target : Nat := 0
  next : Bool := false
  kek : Nat := 0
  keyId : Nat := 0
  wrapped : List Byte := []
deriving DecidableEq, Repr

/-- One mirrored region of TWIN_PLAN (Table 3-12). -/
structure MirrorRegion where
  base : Nat := 0
  size : Nat := 0
  part : Nat := 0
deriving DecidableEq, Repr

/-- The TWIN_PLAN body (Table 3-12). -/
structure TwinPlan where
  twin : Nat := 0
  share : Nat := 0
  rxBase : Nat := 0
  rxSize : Nat := 0
  regions : List MirrorRegion := []
deriving DecidableEq, Repr

/-- One domain word of POWER_PLAN with its awake map: bit j marks slot j (R113). -/
structure DomPlan where
  policy : Nat := 0
  wakeLead : Nat := 0
  hyst : Nat := 0
  minDoze : Nat := 0
  awake : Nat := 0
deriving DecidableEq, Repr

/-- The TELEMETRY_PLAN body (Table 3-13). -/
structure TelePlan where
  sampleN : Nat := 0
  occMap : Bool := false
  owner : Nat := 0
  all : Bool := false
  ringBase : Nat := 0
  ringBytes : Nat := 0
deriving DecidableEq, Repr

/-- One VF_BIND entry (R114). -/
structure BindEnt where
  part : Nat := 0
  pf : Bool := false
  vf : Nat := 0
deriving DecidableEq, Repr

/-- A parsed image: header fields (Table 3-1), IMAGE_DIGEST (R115), and the body of each section present. -/
structure Image where
  target : Nat := 255
  bootLoad : Bool := false
  arbAdvance : Bool := false
  epoch : Nat := 0
  arb : Nat := 0
  partRev : Nat := 0
  fwMinMinor : Nat := 0
  fwMinMajor : Nat := 0
  uid : Nat := 0
  domainDigest : Nat := 0
  baseDigest : Nat := 0
  digest : Nat := 0
  partMap : List PartEnt := []
  tiles : Option (List TileRect) := none
  remap : Option (List RemapEnt) := none
  routes : Option (List RouteSet) := none
  slots : Option (List SlotBlock) := none
  link : LinkPlan := {}
  quotas : Option (List (Nat × Nat)) := none
  ranges : List KeyRange := []
  windows : List Window := []
  wraps : Option (List WrapEnt) := none
  twin : Option TwinPlan := none
  power : List DomPlan := []
  tele : Option TelePlan := none
  binds : List BindEnt := []
deriving DecidableEq, Repr

/-- A base image has TARGET 0xFF (Table 3-1). -/
def Image.isBase (im : Image) : Bool := im.target == 255

/-- The committed structure: one base image and the committed partition images (R117). -/
structure Struct where
  base : Option Image := none
  parts : KMap Image := []
deriving DecidableEq, Repr

/-- The base image, or an empty one where none is committed. -/
def Struct.img (c : Struct) : Image := c.base.getD {}

/-- The committed partition image of p, if one is committed. -/
def Struct.part? (c : Struct) (p : Nat) : Option Image := kfind? p c.parts

/-- The PART_MAP entry of p in an image. -/
def Image.ent? (im : Image) (p : Nat) : Option PartEnt := im.partMap.find? (fun e => e.part == p)

/-- A partition is assigned when the committed base image has an entry for it (R40, Table 3-4). -/
def Struct.assigned (c : Struct) (p : Nat) : Bool := (c.img.ent? p).isSome && c.base.isSome

/-- The resources PART_MAP grants to p. -/
def Struct.grant (c : Struct) (p : Nat) : PartEnt := (c.img.ent? p).getD {}

/-- A rectangle holds a tile. -/
def TileRect.has (r : TileRect) (x y : Nat) : Bool := r.x0 ≤ x && x ≤ r.x1 && r.y0 ≤ y && y ≤ r.y1

/-- The partition that owns a tile by the base image's TILE_ASSIGN (R96). -/
def Struct.owner? (c : Struct) (x y : Nat) : Option Nat :=
  match c.base with
  | none => none
  | some im => (((im.tiles.getD []).find? (fun r => r.has x y))).map (·.part)

/-- A tile takes messages: it is owned, and the owner's partition image, where it has a TILE_ASSIGN section, names it (R97). -/
def Struct.takes (c : Struct) (x y : Nat) : Bool :=
  match c.owner? x y with
  | none => false
  | some p =>
    match c.part? p with
    | some im => (match im.tiles with | some rs => rs.any (fun r => r.has x y) | none => true)
    | none => true

/-- Every REMAP and LEND entry in force: the base image's with those of every committed partition image (R98, R99). -/
def Struct.remaps (c : Struct) : List RemapEnt :=
  (c.img.remap.getD []) ++ (c.parts.map (fun e => e.2.remap.getD [])).flatten

/-- The route set in force for flow f of partition p: the partition image's where it has the section (R94, R100). -/
def Struct.routeSet? (c : Struct) (p f : Nat) : Option RouteSet :=
  let rs := match (c.part? p).bind (·.routes) with
    | some l => l
    | none => c.img.routes.getD []
  rs.find? (fun r => r.owner == p && bit r.flows f)

/-- The cache quota in force for p, in 64 KiB units (R107). -/
def Struct.quota (c : Struct) (p : Nat) : Nat :=
  let look (l : List (Nat × Nat)) : Nat := ((l.find? (fun e => e.1 == p)).map (·.2)).getD 0
  match (c.part? p).bind (·.quotas) with
  | some l => look l
  | none => look (c.img.quotas.getD [])

/-- The default slot entry of a port with no block: SLACK in slots 16k and IDLE elsewhere (R105). -/
def defaultSlot (slot : Nat) : SlotEnt := if slot % 16 = 0 then { kind := .slack } else {}

/-- The block of a port in an image. -/
def Image.block? (im : Image) (p : Nat) : Option SlotBlock := (im.slots.getD []).find? (fun b => b.port == p)

/-- The slot entry in force for a port: the base image's, changed by the partition image of the partition it names (R105). -/
def Struct.slotEnt (c : Struct) (rx : Bool) (port slot : Nat) : SlotEnt :=
  let base := match c.img.block? port with
    | some b => nthD (if rx then b.rx else b.tx) slot {}
    | none => defaultSlot slot
  match base.kind with
  | .flow | .backup =>
    match (c.part? base.part).bind (fun im => im.block? port) with
    | some b => nthD (if rx then b.rx else b.tx) slot base
    | none => base
  | _ => base

/-- The VF_BIND entry of p. -/
def Struct.bind? (c : Struct) (p : Nat) : Option BindEnt := c.img.binds.find? (fun b => b.part == p)

/-- The partition bound to VF v, v = 1 to 64 (R459). -/
def Struct.partOfVf? (c : Struct) (v : Nat) : Option Nat :=
  (c.img.binds.find? (fun b => !b.pf && b.vf + 1 == v)).map (·.part)

/-- The window that holds n bytes from a device physical address wholly. -/
def Struct.window? (c : Struct) (a n : Nat) : Option Window :=
  c.img.windows.find? (fun w => w.base ≤ a && a + n ≤ w.base + w.size)

/-- The key range index that holds a device physical address (R108). -/
def Image.rangeOf? (im : Image) (a : Nat) : Option Nat :=
  (im.ranges.zipIdx.find? (fun e => e.1.valid && e.1.base ≤ a && a < e.1.base + e.1.size)).map (·.2)

/-- The plan of one port (Table 3-9). -/
def Struct.portPlan (c : Struct) (p : Nat) : PortPlan := nthD c.img.link.ports p {}

/-- The telemetry plan in force: the base image's, unless it samples nothing or samples one partition whose own image holds a
plan; then that partition image's, or the first one's that holds one (R94, Table 3-13). -/
def Struct.tele? (c : Struct) : Option TelePlan :=
  let own := (c.parts.filterMap (fun e => e.2.tele)).head?
  match c.img.tele with
  | none => own
  | some t =>
    if t.all then some t
    else match (c.part? t.owner).bind (·.tele) with
      | some u => some u
      | none => if t.sampleN = 0 then (match own with | some u => some u | none => some t) else some t

/-- The committed twin plan. -/
def Struct.twin? (c : Struct) : Option TwinPlan := c.img.twin

end Sys2Proof.Machine
end

