-- ==== Sys2Proof/Machine/State.lean ====
section
/-! DEFINITION. The state of the block as plain data (every register field, every buffer, queue, engine and pin the spec
gives it), the reasons a step can stop, and the state after reset. -/
namespace Sys2Proof.Machine

/-- Why a command stops with a fault. No command of this block does: every row of the table has an effect (NOTES.md, Stops). -/
inductive Fault where
  /-- Raised by no command. Safe: it never happens. -/
  | none
deriving DecidableEq, Repr

/-- Why a command is refused. -/
inductive Refusal where
  /-- A row of the opcode table that has no meaning yet, raised by its arm of exec. Safe: nothing is claimed of it. -/
  | notModelled (mnemonic : String)
deriving DecidableEq, Repr

/-- One register field that differs from its cold-reset value. -/
structure FCell where
  fld : Fld
  inst : Nat
  val : Nat
deriving DecidableEq, Repr

/-- The board's pins and straps as they stand (R51, R526, R772, R779). -/
structure Pins where
  /-- PILOT_PWR_OK (R51). -/
  pilotPwrOk : Bool := false
  /-- MAIN_PWR_OK (R51). -/
  mainPwrOk : Bool := false
  /-- PERST# is asserted (R51). -/
  perst : Bool := true
  /-- PROCHOT# is asserted by the board (R70). -/
  prochot : Bool := false
  /-- THERM_TRIP# is asserted by the device (R71, R788). -/
  thermTrip : Bool := false
  /-- The HL_CLKMODE strap as last sampled: SRIS (R526, R772). -/
  hlClkMode : Bool := false
  /-- The level the device drives on TWIN_HB_OUT (R670). -/
  hbOut : Bool := false
deriving DecidableEq, Repr

/-- How far the cold or warm start has come (Tables 2-8, 2-9). -/
inductive StartPhase where
  /-- PILOT is not powered. -/
  | off
  /-- Table 2-8 runs: t0 has passed, PILOT_READY has not been set. -/
  | pilot
  /-- PILOT_READY holds and SPINE is unpowered or in reset. -/
  | mainOff
  /-- t1 of Table 2-9 has passed: SPINE powered, every switched domain OFF. -/
  | mainOn
  /-- t1 + 2 ms: all PLLs locked. -/
  | locked
  /-- t1 + 25 ms: the firmware bundle is loaded. -/
  | fwLoaded
  /-- t1 + 60 ms: MAIN_READY. -/
  | ready
deriving DecidableEq, Repr

/-- PILOT's own state beside its registers (R51 to R88, R784, R791). -/
structure Pilot where
  /-- The phase of the start (R79). -/
  phase : StartPhase := .off
  /-- The scope and cause that the running start completes, as RST_STATUS will show them (R74, R795). -/
  scope : Nat := 1
  /-- Its cause (Table 2-18). -/
  cause : Nat := 1
  /-- A start is in progress, which RST_STATUS has not recorded yet (R75, R795). -/
  starting : Bool := false
  /-- The tick counter runs (Table 2-8, t0 + 100 us). -/
  ticking : Bool := false
  /-- The fuses have been sensed (Table 2-8, t0 + 1.5 ms). -/
  sensed : Bool := false
  /-- EMBER records (Table 2-8, t0 + 3 ms). -/
  emberOn : Bool := false
  /-- The 25 MHz reference is lost: the tick is inexact (R73). -/
  tickInexact : Bool := false
  /-- The cause of the warm reset that the next MAIN_PWR_OK rise performs: 3, 6, 2 or 7; none where the rise only starts or restarts a main phase (R87, R515, R788, R795). -/
  onMainRise : Option Nat := none
  /-- The main phase waits for PERST# to deassert: a warm reset by PERST# lasts until then (R74). -/
  waitPerst : Bool := false
  /-- HL_STATUS.D3COLD_ENTRY was 1 when the device left the state it had: the exit from D3cold has cause 6 (R513, R515). -/
  d3coldEntry : Bool := false
  /-- Main power is off after a D3cold entry (R516). -/
  inD3cold : Bool := false
  /-- The configuration space is ready (Table 2-9, t2 + 100 ms). -/
  cfgReady : Bool := false
  /-- Throttling steps of ISSUE_DUTY that the power limits of R68 took (R69). -/
  powerSteps : Nat := 0
  /-- The boost clock was dropped for the power limits (R69). -/
  powerDrop : Bool := false
  /-- Throttling steps of ISSUE_DUTY that die temperature took (R784). -/
  thermalSteps : Nat := 0
  /-- The boost clock was dropped for die temperature (R784). -/
  thermalDrop : Bool := false
  /-- An AVSBus write is unconfirmed: the tile clock runs at 2.0 GHz (R791). -/
  avsPending : Bool := false
  /-- Domains that leave OFF rather than DOZE while they are WAKING: bit d (R57, Table 2-1). -/
  fromOff : Nat := 0
  /-- Quadrants and domains clocked by STRIKER: bit d (R65, R67). -/
  striker : Nat := 0
  /-- Fabric port resets in progress: bit p (R74). -/
  portReset : Nat := 0
  /-- Tiles under a tile reset (R83). -/
  tileReset : List Nat := []
  /-- An FLR in progress: function 0 for the PF, v for VF v (R508). -/
  flr : List Nat := []
  /-- Hot reset or link-down in progress (R517). -/
  hotReset : Bool := false
  /-- The device is stopped by INTERNAL_UE (R702): fabric and twin ports send only ordered sets and idle flits. -/
  internalUe : Bool := false
  /-- The tick at which the count of LNT_WDOG began (Table 7-13). -/
  wdogFrom : Nat := 0
deriving DecidableEq, Repr

/-- What one EMBER record holds (Table 17-8); w20 to w38 are the four 64-bit words of PAYLOAD. -/
structure EmbRec where
  tick : Nat := 0
  inexact : Bool := false
  rseq : Nat := 0
  typ : Nat := 0
  sub : Nat := 0
  code : Nat := 0
  part : Option Nat := none
  jobTag : Nat := 0
  cadence : Nat := 0
  w20 : Nat := 0
  w28 : Nat := 0
  w30 : Nat := 0
  w38 : Nat := 0
deriving DecidableEq, Repr

/-- One MRAM snapshot slot: its directory entry (Table 17-12) and the records copied (R729). -/
structure EmbSlot where
  cause : Nat := 0
  keep : Bool := false
  preserved : Bool := false
  complete : Bool := false
  used : Bool := false
  trigTick : Nat := 0
  trigRseq : Nat := 0
  lastRseq : Nat := 0
  post : Nat := 0
  lostFaults : Nat := 0
  extra : Nat := 0
  ident : Nat := 0
  epoch : Nat := 0
  fwMinor : Nat := 0
  fwMajor : Nat := 0
  uid : Nat := 0
  /-- The slot and both CRCs read back right (R730). -/
  crcOk : Bool := false
  /-- The order of its last complete copy, for R726. -/
  age : Nat := 0
  recs : List EmbRec := []
deriving DecidableEq, Repr

/-- EMBER beside its registers: the 4,096-record SRAM buffer, newest first, the hold queue, the freeze in force and
the MRAM slots 1 to 15 (R720 to R730). -/
structure Ember where
  buf : List EmbRec := []
  /-- FAULT records held while FROZEN, oldest first, at most 256 (R727). -/
  hold : List EmbRec := []
  /-- Records not kept since the last LOST record, and how many of them FAULT records (R727, Table 17-9). -/
  lostRecs : Nat := 0
  lostFaults : Nat := 0
  /-- FAULT records dropped beyond the hold queue while this freeze is in force (Table 17-12, LOST_FAULTS). -/
  snapLost : Nat := 0
  /-- The freeze in force: cause, tick and RSEQ of its TRIGGER record, records after it, absorbed causes (R722 to R728). -/
  cause : Nat := 0
  trigTick : Nat := 0
  trigRseq : Nat := 0
  post : Nat := 0
  extra : Nat := 0
  /-- The trigger latched during FROZEN (R728). -/
  latched : Option Nat := none
  /-- A freeze with cause FATAL, THERMAL or WATCHDOG has occurred since the last warm or cold reset (R725). -/
  fatal : Bool := false
  /-- A reset has passed since the trigger in force, so that its freeze counts no more for R725. -/
  past : Bool := false
  /-- The next copy's order number (R726). -/
  ageNext : Nat := 1
  slots : KMap EmbSlot := []
deriving DecidableEq, Repr

/-- A fault on its way to its ring: the fields of Table 17-4 that are fixed when the fault occurs. -/
structure FaultRec where
  cls : Nat := 0
  code : Nat := 0
  /-- The partition the fault belongs to, if one (NO_PART otherwise). -/
  part : Option Nat := none
  /-- The ring it goes to: a partition's, or the device's (R700). -/
  ring : Option Nat := none
  jobTag : Nat := 0
  cadence : Nat := 0
  tick : Nat := 0
  tx : Nat := 0x3F
  ty : Nat := 0x1F
  dev : Nat := 0
  port : Nat := 15
  ctx : Nat := 0xFF
  queue : Nat := 0
  inc : Nat := 0
  sev : Nat := 1
  addr : Option Nat := none
  info0 : Nat := 0
  info1 : Nat := 0
  /-- The stream that parks with this fault where its ring is full: engine and request (R709). -/
  park : Option (Nat × Nat) := none
deriving DecidableEq, Repr

/-- One fault ring beside its registers (R704 to R712, R719). -/
structure Ring where
  fseq : Nat := 0
  /-- Classes that lost a record since the previous marker, and how many records (R710, Table 17-5). -/
  lostMask : Nat := 0
  lostCount : Nat := 0
  /-- The ring interrupt has been sent since the last HEAD write (R719). -/
  irqSent : Bool := false
  /-- XLAT faults held for their parked streams, oldest first (R709, R712). -/
  parked : List FaultRec := []
deriving DecidableEq, Repr

/-- One MSI-X table entry and its pending bit (R498, R499). -/
structure MsixEnt where
  addr : Nat := 0
  data : Nat := 0
  masked : Bool := true
  pending : Bool := false
deriving DecidableEq, Repr

/-- The configuration space of one function beside its read-only fields (Tables 11-2 to 11-7, R458 to R474, R511, R516). -/
structure FnCfg where
  /-- Command: Memory Space Enable, Bus Master Enable, Parity Error Response, SERR# Enable, Interrupt Disable (Table 11-2). -/
  memEn : Bool := false
  busMaster : Bool := false
  parityErr : Bool := false
  serrEn : Bool := false
  intxDis : Bool := false
  cacheLine : Nat := 0
  intLine : Nat := 0
  /-- The BAR addresses and the expansion ROM BAR with its enable (R471, R472, R474). -/
  bars : KMap Nat := []
  rom : Nat := 0
  romEn : Bool := false
  /-- PowerState: 0 D0, 3 D3hot (R511). -/
  dstate : Nat := 0
  pmeEn : Bool := false
  pmeStatus : Bool := false
  /-- Device Control: Max_Payload_Size and Max_Read_Request_Size encodings, Extended Tag; error reporting enables (Table 11-4). -/
  mps : Nat := 0
  mrrs : Nat := 2
  devCtl : Nat := 0
  /-- Device Control 2: Completion Timeout Value, Completion Timeout Disable, 10-bit Tag Requester Enable (R494, R492). -/
  ctoVal : Nat := 0
  ctoDis : Bool := false
  tag10 : Bool := false
  /-- MSI-X Enable and Function Mask (R499). -/
  msixEn : Bool := false
  fnMask : Bool := false
  /-- ATS Enable and STU (R465). -/
  atsEn : Bool := false
  stu : Nat := 0
  /-- PASID Enable; PRI Enable and Outstanding Page Request Allocation (R464). -/
  pasidEn : Bool := false
  priEn : Bool := false
  priAlloc : Nat := 0
  /-- SR-IOV: VF Enable, VF MSE, ARI Capable Hierarchy, NumVFs, System Page Size, VF BARs (R459, R473, R487). -/
  vfEn : Bool := false
  vfMse : Bool := false
  ari : Bool := false
  numVfs : Nat := 0
  sysPage : Nat := 1
  vfBar0 : Nat := 0
  vfBar2 : Nat := 0
  /-- AER status, masks and severities of the PF (Table 11-4, R502): uncorrectable and correctable status, masks, severity. -/
  aerUncor : Nat := 0
  aerUncorMask : Nat := 0x400000
  aerUncorSev : Nat := 0x462030
  aerCor : Nat := 0
  aerCorMask : Nat := 0x2000
  /-- The AER header log (Table 11-4); the error bits of Status and the error detected bits of Device Status (Table 11-2). -/
  aerLog : List Byte := []
  status : Nat := 0
  devSta : Nat := 0
  /-- Dwords that are plainly read and written and change nothing in the device, by offset: Link Control, Link Control 2, L1
  PM Substates Control 1, and the Range 1 base (Table 11-6). -/
  plain : KMap Nat := []
  /-- CXL Device DVSEC: Cache_Enable, Mem_Enable, Disable Caching, Cache Invalid (R469). -/
  cxlCacheEn : Bool := false
  cxlMemEn : Bool := false
  disCaching : Bool := false
  cacheInvalid : Bool := false
deriving DecidableEq, Repr

/-- Who issued a device-originated request on the host link, so that its answer finds it (Table 12-1, R497). -/
inductive Requester where
  /-- A submission-queue fetch of a partition's queue. -/
  | sqFetch (p q : Nat)
  /-- An ATS Translation Request, by its number. -/
  | ats (id : Nat)
  /-- A memory access of a stream, the copy engine or a sequencer, by its number. -/
  | acc (id : Nat)
  /-- The image DMA of STAGE. -/
  | kimStage
  /-- The bundle DMA of the firmware update. -/
  | fwuStage
  /-- Nobody any more: its requester was reset, and the completion is dropped (R509, R523). -/
  | nobody
  /-- Its function was reset by an FLR: its completion is discarded uncounted (R509). -/
  | flr
deriving DecidableEq, Repr

/-- One CXL.io request: a non-posted read that is outstanding or held, or a posted write that is held (R489 to R498, R512). -/
structure HostReq where
  tag : Nat := 0
  fn : Nat := 0
  part : Option Nat := none
  who : Requester := .nobody
  addr : Nat := 0
  len : Nat := 0
  /-- Bytes of its completions so far, and whether any was poisoned (R493, R497). -/
  got : List Byte := []
  bad : Bool := false
  /-- The bytes of a held posted write. -/
  wr : List Byte := []
  /-- AT field and PASID prefix (Table 12-1). -/
  at_ : Nat := 0
  pasid : Option Nat := none
  /-- An ATS Translation Request: its 4 KiB translations asked for, and No Write (R337). -/
  ats : Option (Nat × Bool) := none
deriving DecidableEq, Repr

/-- An HDM decoder of the CXL component registers (R475 to R478). -/
structure Decoder where
  base : Nat := 0
  size : Nat := 0
  skip : Nat := 0
  ways : Nat := 1
  gran : Nat := 256
  lock : Bool := false
  commit : Bool := false
  committed : Bool := false
  err : Bool := false
  /-- Commit was cleared and the drain of its range runs (R478). -/
  draining : Bool := false
deriving DecidableEq, Repr

/-- The host link beside its registers (ch. 11 and 12). -/
structure HostLink where
  fns : KMap FnCfg := []
  /-- MSI-X tables: key 4096 * function + vector (R471, R498). -/
  msix : KMap MsixEnt := []
  /-- Non-posted requests outstanding (R492). -/
  reqs : List HostReq := []
  /-- Requests that wait to be sent, in issue order (R490, R492, R512, R798). -/
  waitq : List HostReq := []
  /-- Tags that may not be reused yet (R495, R523). -/
  heldTags : List Nat := []
  /-- Ticks of the violations marked yes, newest first, at most 16 (R503). -/
  violTicks : List Nat := []
  decoders : KMap Decoder := []
  /-- PME_Turn_Off has arrived and the flush runs (R513). -/
  turnOff : Bool := false
  /-- The option ROM image of the bundle (R474). -/
  romImage : List Byte := []
deriving DecidableEq, Repr

/-- The images and the commit in progress (ch. 3). -/
structure Kim where
  /-- The committed structure (R117, R131). -/
  com : Struct := {}
  /-- Bytes in the staging area (R121). -/
  staging : List Byte := []
  /-- Sideband chunks received so far: (offset, bytes) (R121). -/
  chunks : List (Nat × List Byte) := []
  /-- The transfer length of the STAGE that runs: the mailbox length latched, none when no DMA runs; and that it has ended. -/
  dmaLen : Option Nat := none
  dmaEnd : Bool := false
  /-- The length the transfer had (code 0x01). -/
  xferLen : Nat := 0
  /-- The staged image, parsed once VALID. -/
  staged : Option Image := none
  /-- Keys unwrapped at VALIDATE: (target, next slot, KEY_ID, key) (R110). -/
  keys : List (Nat × Bool × Nat × Nat) := []
  /-- The values latched at ARM: C, COMMIT_ID, N, coordinator, EXTERNAL, LOCAL (R124, R138). -/
  armC : Nat := 0
  armId : Nat := 0
  armN : Nat := 0
  armCoord : Nat := 0
  armExt : Bool := false
  armLocal : Bool := false
  /-- The decision held: GO or ABORT (R128). -/
  decision : Option Bool := none
  /-- Partitions that the armed commit changes: bit p (R125). -/
  changed : Nat := 0
  /-- Partitions changed by the last commit and the low byte of the epoch before it, until slot 0 ends (R132). -/
  prevEpoch : Option Nat := none
  lastChanged : Nat := 0
  /-- This device as coordinator: KIM_ARMED messages held (sender, COMMIT_ID, prefix, C) (R126). -/
  armedMsgs : List (Nat × Nat × Nat × Nat) := []
  /-- The decisions kept: (COMMIT_ID, GO, C, participants that have not acknowledged) (R126). -/
  kept : List (Nat × Bool × Nat × List Nat) := []
  /-- The burn of R116 runs towards this count. -/
  burn : Option Nat := none
deriving DecidableEq, Repr

/-- The phase of a command that a queue engine has fetched. -/
inductive CmdPhase where
  /-- Fetched; it waits for FENCE_BEFORE or for its engine (R145, R150). -/
  | waiting
  /-- Its engine works. -/
  | running
  /-- Ended: the status and the result of its completion record (R146, R154). -/
  | done (status result : Nat)
deriving DecidableEq, Repr

/-- One fetched command of a partition (R145, R150, Table 4-2). -/
structure ActiveCmd where
  /-- The device's own number of the command within the partition. -/
  num : Nat := 0
  queue : Nat := 0
  opcode : Nat := 0
  fenceBefore : Bool := false
  noCqe : Bool := false
  cmdId : Nat := 0
  /-- The 64 bytes of the entry. -/
  bytes : List Byte := []
  /-- Submission queue head after this command was fetched (Table 4-7). -/
  sqHead : Nat := 0
  phase : CmdPhase := .waiting
  /-- Progress of a command that works tile by tile. -/
  progress : Nat := 0
  /-- LAUNCH: the program read, and the task blocks read, by tile of its rectangle (R247). -/
  prog : List Byte := []
  descs : KMap (List Byte) := []
  /-- TASK_CANCEL and JOB_END: running tasks that have a cancel of this command pending: (node, task) (R255, R257). -/
  cancels : List (Nat × Nat) := []
deriving DecidableEq, Repr

/-- One partition beside its page registers (ch. 4). -/
structure Part where
  /-- Commands fetched and not yet completed, in the order they were fetched (R145). -/
  active : List ActiveCmd := []
  /-- Numbers of the commands that have ended, in that order; their completion records are due (R145). -/
  doneQ : List Nat := []
  nextNum : Nat := 0
  /-- The queue served last, for the round robin (R145). -/
  lastQ : Nat := 15
  /-- Records written per queue since the vector was last sent (R149). -/
  coal : KMap Nat := []
  /-- Queues whose fetch DMA is outstanding (R145). -/
  fetching : List Nat := []
  /-- The cadence number at which each incarnation value was last held (R159). -/
  incHeld : KMap Nat := []
  /-- Cadence boundaries that the gate still waits for (R159). -/
  gateLeft : Nat := 0
  /-- The incarnation the reset in progress will give, and its cause for RST_STATUS (R159, Table 2-18). -/
  nextInc : Nat := 0
  resetCause : Nat := 11
deriving DecidableEq, Repr

/-- The firmware update (R164 to R168, R176). -/
structure Fwu where
  /-- The bundle in the store. -/
  bytes : List Byte := []
  xferLen : Nat := 0
  /-- Digest of the running bundle and of the staged one (R164, R168). -/
  runDigest : Nat := 0
  stgDigest : Nat := 0
  /-- The core being restarted by the rollout, and whether the rollout reverts (R165, R167). -/
  core : Nat := 0
  reverting : Bool := false
  /-- Digest of the bundle of each core that does not run the running bundle (R167, R176). -/
  cores : KMap Nat := []
deriving DecidableEq, Repr

/-- The two key slots of a range: KEY_ID and 512-bit key (R419, R430). -/
structure RangeKeys where
  cur : Option (Nat × Nat) := none
  next : Option (Nat × Nat) := none
deriving DecidableEq, Repr

/-- A REKEY_START that waits: partition, command number, range, BOUNDARY at its start (R434). -/
structure RekeyWait where
  part : Nat := 0
  num : Nat := 0
  range : Nat := 0
  start : Nat := 0
deriving DecidableEq, Repr

/-- HBM behind the inline encryptor (ch. 10). -/
structure MemSys where
  /-- The stored ciphertext bytes of HBM by device physical address (R423). -/
  cells : Mem := []
  /-- Spans of device physical addresses whose plaintext is undefined until written: number, first byte, end (R111, R431, Table 2-6). -/
  undef : List (Nat × Nat × Nat) := []
  /-- Line addresses of poisoned lines (R414, R415). -/
  poison : List Nat := []
  /-- The held keys by range (R430). -/
  keys : KMap RangeKeys := []
  /-- The background key (R420). -/
  bg : Nat := 0
  /-- Installed KEKs 0 to 3 (R426). -/
  keks : KMap Nat := []
  /-- Link keys held, KEY_ID and 256-bit key: fabric and twin, and the previous ones until slot 0 ends (R440, R444). -/
  fab : Option (Nat × Nat) := none
  twin : Option (Nat × Nat) := none
  prevFab : Option (Nat × Nat) := none
  prevTwin : Option (Nat × Nat) := none
  /-- REKEY_START commands that wait for the re-key (R434). -/
  rekeyWaits : List RekeyWait := []
deriving DecidableEq, Repr

/-- One landing region (R231); state 0 disarmed, 1 ARMED, 2 COMPLETE, 3 RELEASING. -/
structure Region where
  mode : Nat := 0
  base : Nat := 0
  size : Nat := 0
  granted : Nat := 0
  landed : Nat := 0
  state : Nat := 0
  /-- A FENCE packet that landed here has been counted (R232). -/
  fence : Bool := false
deriving DecidableEq, Repr

/-- What a SUSPENDED task waits for (Table 6-4, R206). -/
inductive WaitOn where
  | ctr (c target : Nat)
  | region (r d : Nat)
  /-- Cadence time bits [62:0] to reach; the register that receives it. -/
  | time (t d : Nat)
  /-- The next start of a slot. -/
  | slot (n d : Nat)
deriving DecidableEq, Repr

/-- The states of Table 6-4. -/
inductive TaskState where
  | waiting | ready | running | suspended (w : WaitOn)
  /-- Ended; it stays live until its regions are disarmed (R248). -/
  | ended
deriving DecidableEq, Repr

/-- One live task of a tile with its context slot (R188, R249, Table 6-3). -/
structure TaskRec where
  id : Nat := 0
  state : TaskState := .ready
  prio : Nat := 0
  /-- The order in which tasks became READY (R251). -/
  readySeq : Nat := 0
  entry : Nat := 0
  depEn : Bool := false
  depCtr : Nat := 0
  depTarget : Nat := 0
  recEn : Bool := false
  recOff : Nat := 0
  endEn : Bool := false
  endCtr : Nat := 0
  args : List Nat := []
  dispatched : Bool := false
  cancel : Bool := false
  /-- The wait whose condition has held: its instruction completes at the next dispatch (R202, R201, R206). -/
  resume : Option WaitOn := none
  otherRan : Bool := false
  regions : List Region := []
  /-- The context slot: s1 to s31, p1 to p7, PC, FPCSR, MFLAGS (R188). -/
  regs : KMap Word := []
  preds : KMap Word := []
  pc : Nat := 0
  fpcsr : Nat := 0
  mflags : Nat := 0
  /-- PC of the last instruction retired or faulting (Table 6-5). -/
  lastPc : Nat := 0
deriving DecidableEq, Repr

/-- A grant table entry (R233, R234): its sender and message, the region it belongs to, the bytes still to land, and
the FENCE packet that waits to be counted (R639). -/
structure Grant where
  sd : Nat := 0
  sx : Nat := 0
  sy : Nat := 0
  mtag : Nat := 0
  task : Nat := 0
  region : Nat := 0
  land : Nat := 0
  len : Nat := 0
  left : Nat := 0
  fence : Option Pkt := none
deriving DecidableEq, Repr

/-- A message that a node has issued: its send queue entry and, after that, what is still awaited (R196 to R199). -/
structure SendEnt where
  mtag : Nat := 0
  /-- 0 DATA, 1 GET, 2 PUT. -/
  kind : Nat := 0
  dd : Nat := 0
  dtx : Nat := 0
  dty : Nat := 0
  flow : Nat := 0
  ctr : Nat := 0
  lctr : Nat := 0
  lctrEn : Bool := false
  ctx : Nat := 0
  /-- The own-store span: source of DATA and PUT, landing of GET. -/
  off : Nat := 0
  /-- LAND of DATA; the stream address of GET and PUT. -/
  addr : Nat := 0
  len : Nat := 0
  fence : Bool := false
  part : Nat := 0
  inc : Nat := 0
  /-- It holds a send queue entry (R199). -/
  queued : Bool := true
  granted : Bool := false
  /-- All its source bytes have been read, or it failed: LCTR has advanced (R242). -/
  counted : Bool := false
  /-- Source bytes written by the program since issue (R199). -/
  dirty : List (Nat × Nat) := []
  /-- Bytes sent (PUT pieces), and bytes landed or acknowledged. -/
  sent : Nat := 0
  done : Nat := 0
  /-- Further RETRY answers of an engine: the backoff doubles (R320). -/
  retries : Nat := 0
  /-- A RETRY has been received and the request is to be sent again (R234, R320). -/
  retry : Bool := false
  /-- The record a sequencer sends, which lies in no store (R600). -/
  bytes : List Byte := []
deriving DecidableEq, Repr

/-- The messaging side of a tile or a LANTERN core (R233, R234, R242, R293). -/
structure NodeMsg where
  ctrs : KMap Nat := []
  sends : List SendEnt := []
  nextTag : Nat := 0
  grants : List Grant := []
  pendRsv : List Pkt := []
deriving DecidableEq, Repr

/-- A queued matrix instruction (R195). -/
structure MatEnt where
  /-- 0 MMA, 1 MZERO, 2 MLOAD, 3 MSTORE. -/
  op : Nat := 0
  acc : Nat := 0
  fmt : Nat := 0
  a : Nat := 0
  b : Nat := 0
  k : Nat := 0
  sat : Bool := false
  sr : Bool := false
  pc : Nat := 0
  /-- A later access touched its bytes: its result is undefined (R195, R223). -/
  spoilt : Bool := false
deriving DecidableEq, Repr

/-- One tile (R178, R186, R249). -/
structure Tile where
  regs : KMap Word := []
  vregs : KMap Vec := []
  preds : KMap Word := []
  accs : KMap (List Nat) := []
  pc : Nat := 0
  fpcsr : Nat := 0
  mflags : Nat := 0
  cycle : Nat := 0
  /-- CSR SEED; none: its reset value 1 + 48 * TY + TX (Table 5-13). -/
  seed : Option Nat := none
  wdog : Nat := 0
  /-- Clocks since the last dispatch or yield point (R211). -/
  runClocks : Nat := 0
  imem : KMap Nat := []
  store : Mem := []
  /-- Spans of the store whose contents are undefined until written: number, first byte, end (Table 2-1). -/
  undef : List (Nat × Nat × Nat) := []
  /-- Poisoned 64-byte granules by number (R181). -/
  poison : List Nat := []
  matq : List MatEnt := []
  /-- A matrix read met poison (7) or an uncorrectable word (9): the fault waits for MWAIT or a yield point (R213). -/
  imprecise : Option (Nat × Nat) := none
  tasks : List TaskRec := []
  cur : Option Nat := none
  readyCtr : Nat := 0
  launches : Nat := 0
  msg : NodeMsg := {}
deriving DecidableEq, Repr

/-- One store in a LANTERN store buffer (R302); a mark there is a BAR.ST: the stores after it wait for those before it
(Table 7-8). -/
structure BufStore where
  addr : Nat := 0
  bytes : List Byte := []
  devB : Bool := false
  mark : Bool := false
deriving DecidableEq, Repr

/-- One entry of the combining buffer: line address, bytes written by offset (R303). -/
structure NtEnt where
  line : Nat := 0
  bytes : KMap Byte := []
deriving DecidableEq, Repr

/-- One mailbox entry (R291). -/
structure MboxEnt where
  data : Nat := 0
  part : Nat := 0
  prov : Bool := false
deriving DecidableEq, Repr

/-- One LANTERN TLB entry (R284, R287). -/
structure TlbEnt where
  va : Nat := 0
  big : Bool := false
  asid : Nat := 0
  glob : Bool := false
  pa : Nat := 0
  flags : Nat := 0
deriving DecidableEq, Repr

/-- One LANTERN core beside LNT_CORE_CFGn (ch. 7). -/
structure Core where
  regs : KMap Word := []
  pc : Nat := 0
  cycle : Nat := 0
  retired : Nat := 0
  retiredSat : Bool := false
  /-- CSRs 0x40 to 0x53 that are plain registers, by number; unlisted ones read their reset value (Table 7-15). -/
  csrs : KMap Nat := []
  /-- Lines raised by events and not yet taken: IPI, PART_EVENT, FAULT, SIDEBAND, KIM (Table 7-6). -/
  lines : Nat := 0
  storeBuf : List BufStore := []
  nt : List NtEnt := []
  /-- A DEV-S store, or an AMO with ACQ, may still be unacknowledged: no later access goes before it (R281, R298). -/
  hold : Bool := false
  mbox : List MboxEnt := []
  tlb : List TlbEnt := []
  inbox : Region := {}
  msg : NodeMsg := {}
  /-- MGMT packets in the inbound queue, oldest first (R655). -/
  inq : List Pkt := []
  /-- Lines that have come for its fetch, load or walk, by far-tier address: bytes, poison; no bytes and poison: it failed
  (R540). An HDM line that the host answered for lies at 2^64 plus its address, a BIRsp's mark at 2^65 plus it. -/
  far : KMap (List Byte × Bool) := []
  /-- The restart in progress empties the mailbox (R276) or keeps it (R165). -/
  assigning : Option Bool := none
deriving DecidableEq, Repr

/-- Whose memory access an entry of a stream table performs (Tables 8-1, 8-2). -/
inductive AccWho where
  /-- A GET or a PUT of a node, by its request packet. -/
  | get (p : Pkt)
  | put (p : Pkt)
  /-- A piece of a COPY: its source read, or its destination write; partition and command number. -/
  | copyRd (p n : Nat)
  | copyWr (p n : Nat)
  /-- A LAUNCH read: what is 0 for the program, 1 for the descriptors. -/
  | launch (p n what : Nat)
  | fence (p n : Nat)
  /-- An access of a sequencer: its slot, chunk, and what it is for. -/
  | seq (k slot chunk what : Nat)
deriving DecidableEq, Repr

/-- What a memory access waits for. -/
inductive AccWait where
  /-- Nothing: it can go on. -/
  | run
  /-- An ATS Translation Request, by its number (R337). -/
  | ats (id : Nat)
  /-- A page-request group, by its number (R343). -/
  | prg (id : Nat)
  /-- A CXL.io completion (R493). -/
  | io
  /-- Fills or write responses of the coherent cache (R366). -/
  | fill
  /-- A BIRsp for an HDM line (R393). -/
  | bi (line : Nat)
  /-- An answer of an expander (R541). -/
  | dl
  /-- PUT data for the piece whose GO was sent: its bytes (R322). -/
  | data (n : Nat)
  /-- A free resource or an earlier request of its stream (R338, R367, R368, R375, R376, R394, R541). -/
  | turn
  /-- The record of its translation fault, by its code: for the fault arbiter, or for space in the ring (R349). -/
  | parked (code : Nat)
deriving DecidableEq, Repr

/-- One request in a stream table (R319), or a piece of a copy engine command. -/
structure Acc where
  id : Nat := 0
  who : AccWho := .fence 0 0
  eng : Nat := 0
  /-- The source of its stream: a node TX + 64 * TY, or a submission queue (R318). -/
  src : Nat := 0
  part : Nat := 0
  ctx : Nat := 0
  seg : Nat := 0
  /-- 0 read, 1 write, 2 ATOMIC (Table 8-2). -/
  kind : Nat := 0
  /-- Reduction of an ATOMIC: element type and operation (R597). -/
  redop : Nat := 0
  dtype : Nat := 0
  /-- Stream address of its start, and the output address the segment gave it (R324). -/
  addr : Nat := 0
  out : Nat := 0
  /-- 0 HOST, 1 HDM, 2 FAR, 3 device physical bytes of a RAW COPY. -/
  target : Nat := 0
  /-- The segment's IN_LIMIT, and that it grants no W (R336, R337). -/
  lim : Nat := 0
  nw : Bool := false
  /-- ATS Enable was 0 when it was accepted (R341). -/
  untrans : Bool := false
  len : Nat := 0
  /-- Bytes performed. -/
  pos : Nat := 0
  /-- Bytes to write from pos on, or bytes read that have not been handed on; and whether poison came with them. -/
  buf : List Byte := []
  bad : Bool := false
  /-- A sequencer's: the 2,048-byte spans of it that are poisoned (R601). -/
  bads : List Nat := []
  wait : AccWait := .run
  /-- It has performed a memory access (R353). -/
  touched : Bool := false
  /-- The portion in progress under HOST: address, bytes, and that it goes by CXL.io (R366, R333). -/
  page : Option (Nat × Nat × Bool) := none
  /-- Lines or completions that have come for it, by address: bytes, poison (R366, R541). -/
  got : KMap (List Byte × Bool) := []
  /-- A line whose BIRsp it has waited for (R393). -/
  biOk : Option Nat := none
  /-- It has failed with this completion status and ends when it next goes on (R347, R379, R548). -/
  fail : Option Nat := none
  /-- Its DL fault record has been written (R548). -/
  dlRec : Bool := false
  /-- A page of its span that PRI has served once: the missing right then gives STILL_ABSENT (R345). -/
  retried : List Nat := []
  /-- PUT: the end of the piece whose GO was sent, and its index (R322). -/
  pieceEnd : Nat := 0
  piece : Nat := 0
deriving DecidableEq, Repr

/-- What an engine keeps of a stream beside its requests (R336, R371, R372). -/
structure StreamRec where
  eng : Nat := 0
  src : Nat := 0
  part : Nat := 0
  ctx : Nat := 0
  /-- The absent list: stream pages, newest first (R336). -/
  absent : List Nat := []
  /-- Streaming-store detector: lines counted, the next line, and STREAMING. -/
  ssd : Nat := 0
  next : Nat := 0
  streaming : Bool := false
  parked : Bool := false
deriving DecidableEq, Repr

/-- One L2 TLB entry (R330): size 12, 16 (merged, with its page mask), 21 or 30. -/
structure L2Ent where
  part : Nat := 0
  pasid : Option Nat := none
  iova : Nat := 0
  size : Nat := 12
  mask : Nat := 0
  hpa : Nat := 0
  r : Bool := false
  w : Bool := false
  u : Bool := false
  g : Bool := false
deriving DecidableEq, Repr

/-- One micro-TLB entry (R329). -/
structure MicroEnt where
  eng : Nat := 0
  ctx : Nat := 0
  seg : Nat := 0
  ent : L2Ent := {}
deriving DecidableEq, Repr

/-- One ATS Translation Request outstanding (R337): a page, or a group of 16. -/
structure AtsReq where
  id : Nat := 0
  part : Nat := 0
  fn : Nat := 0
  pasid : Option Nat := none
  iova : Nat := 0
  group : Bool := false
  nw : Bool := false
  /-- Stream whose prefetch it is: engine, source, context, and the distance from IOVA to stream address. -/
  pre : Option (Nat × Nat × Nat × Nat) := none
  /-- Overlapped by an ATS Invalidate Request (R354). -/
  marked : Bool := false
deriving DecidableEq, Repr

/-- One page-request group (R343): state 0 open, 1 closed and waiting to be sent, 2 sent, 3 timed out. -/
structure PrgRec where
  id : Nat := 0
  idx : Nat := 0
  state : Nat := 0
  eng : Nat := 0
  src : Nat := 0
  part : Nat := 0
  fn : Nat := 0
  ctx : Nat := 0
  seg : Nat := 0
  pasid : Option Nat := none
  /-- IOVA pages with the W bit asked. -/
  pages : List (Nat × Bool) := []
deriving DecidableEq, Repr

/-- One ATS Invalidate Request being served (R350): the accesses whose uses it waits for. -/
structure InvReq where
  fn : Nat := 0
  itag : Nat := 0
  base : Nat := 0
  size : Nat := 0
  pasid : Option Nat := none
  glob : Bool := false
  /-- Accesses in flight under a removed translation, with the bytes each had performed (R351). -/
  uses : List (Nat × Nat) := []
deriving DecidableEq, Repr

/-- An XLAT_INV that waits (R352): partition, command number, contexts, token, the accesses it waits for. -/
structure InvWait where
  part : Nat := 0
  num : Nat := 0
  ctxs : List Nat := []
  token : Nat := 0
  uses : List Nat := []
deriving DecidableEq, Repr

/-- One line of the coherent cache (R363, R364); state 1 S, 2 E, 3 M. -/
structure CLine where
  line : Nat := 0
  st : Nat := 1
  owner : Nat := 0
  data : List Byte := []
  poison : Bool := false
deriving DecidableEq, Repr

/-- One eviction buffer entry (R375, R376). -/
structure EvEnt where
  line : Nat := 0
  data : List Byte := []
  poison : Bool := false
  taken : Bool := false
  part : Nat := 0
  /-- Its DirtyEvict is still to be sent (R504). -/
  due : Bool := false
deriving DecidableEq, Repr

/-- The D2H requests of Table 9-2. -/
inductive D2HOp where
  | rdShared | rdOwn | rdOwnNoData | rdCurr | itoMWr | woWrInv | dirtyEvict | cleanEvictNoData
deriving DecidableEq, Repr

/-- One D2H request outstanding (R369). -/
structure D2H where
  id : Nat := 0
  op : D2HOp := .rdCurr
  line : Nat := 0
  acc : Option Nat := none
  chan : Nat := 0
  part : Nat := 0
  /-- A prefetch of R370; the line is not installed for a bypassing access. -/
  prefetch : Bool := false
  alloc : Bool := false
  /-- Answers received: the GO, and the data with its poison. -/
  go : Option Nat := none
  data : Option (List Byte × Bool) := none
  /-- Write data with its byte offset (ItoMWr, WOWrInv). -/
  off : Nat := 0
  wr : List Byte := []
  /-- The LANTERN core whose access to an HDM line it performs (R396). -/
  core : Option Nat := none
deriving DecidableEq, Repr

/-- One directory entry (R389); a: state A, otherwise S. -/
structure DirEnt where
  line : Nat := 0
  a : Bool := false
deriving DecidableEq, Repr

/-- One BISnp outstanding: kind 0 BISnpCur, 1 BISnpData, 2 BISnpInv (Table 9-8, R391, R395). -/
structure BiReq where
  line : Nat := 0
  kind : Nat := 0
  /-- It holds a BI pending buffer entry: a victim, a drain or a decoder's range (R391, R395, R478). -/
  victim : Bool := false
  /-- The partition of the access that waits, for its fault record. -/
  part : Option Nat := none
  /-- LANTERN cores whose access to the line waits (R393). -/
  cores : List Nat := []
deriving DecidableEq, Repr

/-- Who waits for a flush of a cache scope. -/
inductive FlushWho where
  /-- A CACHE_DISABLE_FLUSH: partition and command number. -/
  | cmd (p n : Nat)
  /-- The host's write-back control, GPF, a reset of the scope, D3cold entry, or CACHE going OFF. -/
  | host | gpf | reset | power
deriving DecidableEq, Repr

/-- A flush of a cache scope in progress (R382, R401, R469, R470, R513): the partition, or none for the device; the dirty
lines written back so far. -/
structure CacheFlush where
  scope : Option Nat := none
  who : FlushWho := .host
  count : Nat := 0
deriving DecidableEq, Repr

/-- The coherent cache and the host-copy directory (ch. 9). -/
structure Cch where
  /-- Valid lines, most recently used first. -/
  lines : List CLine := []
  evb : List EvEnt := []
  d2h : List D2H := []
  nextId : Nat := 0
  /-- Directory entries, most recently used first. -/
  dir : List DirEnt := []
  bi : List BiReq := []
  /-- Host requests that wait for a BIRsp or a BI pending buffer entry, in arrival order (R391, R399). -/
  m2s : List M2S := []
  /-- A drain of the whole directory runs (R395). -/
  drain : Bool := false
  flushes : List CacheFlush := []
  /-- The host's cache controls that wait for the device scope's flush, in order: 1 Disable Caching set, 2 write back and
  invalidate, 3 Disable Caching cleared, 4 GPF (R469, R470). -/
  hostOps : List Nat := []
deriving DecidableEq, Repr

/-- Translation, the stream engines and their requests (ch. 8). -/
structure Xlat where
  accs : List Acc := []
  nextAcc : Nat := 0
  streams : List StreamRec := []
  l2 : List L2Ent := []
  micro : List MicroEnt := []
  ats : List AtsReq := []
  nextAts : Nat := 0
  prgs : List PrgRec := []
  nextPrg : Nat := 0
  hinv : List InvReq := []
  /-- ATS Invalidate Requests beyond the 32 accepted, in arrival order (violation 0x09). -/
  hinvWait : List InvReq := []
  invs : List InvWait := []
deriving DecidableEq, Repr

/-- Who waits for an expander's answer. -/
inductive DlWho where
  | acc (id : Nat)
  | core (c : Nat)
  /-- A read or write of the ciphertext window, or of the JTAG port: its address, its length, the bytes so far, and that
  one of their lines was poisoned; length 0 for a write. -/
  | window (jtag : Bool) (addr len : Nat) (got : List Byte) (bad : Bool)
  | drop
deriving DecidableEq, Repr

/-- One M2S request of a downlink port (R541). A partial write reads first; its merge bytes wait in wr. -/
structure DlReq where
  tag : Nat := 0
  port : Nat := 0
  line : Nat := 0
  write : Bool := false
  who : DlWho := .drop
  part : Option Nat := none
  off : Nat := 0
  wr : List Byte := []
  raw : Bool := false
deriving DecidableEq, Repr

/-- One downlink port beside its registers (ch. 13). -/
structure DlPort where
  /-- Usable capacity (R533). -/
  cap : Nat := 0
  /-- It has been ACTIVE since the map was formed, so that its contents count (R549). -/
  enrolled : Bool := false
  /-- A REENUM waits for the port's drain (R556). -/
  reenum : Bool := false
  violTicks : List Nat := []
  heldTags : List Nat := []
deriving DecidableEq, Repr

/-- The downlink (ch. 13). -/
structure Downlink where
  ports : KMap DlPort := []
  reqs : List DlReq := []
  nextTag : Nat := 0
  /-- The interleaved window has been formed (R536, R537). -/
  ilv : Bool := false
  /-- A REENUM of every port runs (R556). -/
  full : Bool := false
deriving DecidableEq, Repr

/-- The receive window of one (partition, flow, source device, mode) (R622). -/
structure RxWin where
  part : Nat := 0
  flow : Nat := 0
  src : Nat := 0
  e2e : Bool := false
  /-- B: the lowest SEQ not yet received; and the SEQs received above it. -/
  base : Nat := 0
  got : List Nat := []
  /-- SEQs accepted whose packets have not reached their node yet (R639). -/
  fly : List Nat := []
deriving DecidableEq, Repr

/-- SEQ numbering of one (partition, flow, destination device, mode) at the source (R573, R621). -/
structure TxSeq where
  part : Nat := 0
  flow : Nat := 0
  dest : Nat := 0
  e2e : Bool := false
  next : Nat := 0
deriving DecidableEq, Repr

/-- A packet that waits for a slot (R580, R587). -/
structure HeldPkt where
  pkt : Pkt := {}
  /-- The port it arrived on, for a packet in transit; its credits there return when it leaves (R580). -/
  inPort : Option Nat := none
  /-- Dateline sub-channel it arrived on, and the direction (R578). -/
  sub : Nat := 0
  dir : Nat := 6
  /-- A copy that R624 resends. -/
  resend : Bool := false
  /-- Its hold of a cadence has been counted (R587). -/
  counted : Bool := false
deriving DecidableEq, Repr

/-- A retained copy of an E2E-mode packet (R620, R624). -/
structure Retained where
  pkt : Pkt := {}
  tries : Nat := 0
  /-- The port it was last sent on, once it has been sent. -/
  port : Option Nat := none
  /-- Its resend time is treated as expired (R628). -/
  due : Bool := false
deriving DecidableEq, Repr

/-- One fabric or twin port beside its registers (ch. 14 and 15). -/
structure FabPort where
  /-- Ordered-set bodies due to be sent, oldest first. -/
  os : List (List Byte) := []
  /-- Stream bytes of groups begun in this slot and not yet sent, HOP and E2E; and the packets of the group in progress
  (R567, R569, R615). -/
  txHop : List Byte := []
  txE2e : List Byte := []
  txPkts : List HeldPkt := []
  /-- The next FSEQ, the unacknowledged HOP flits with their bodies, and the FSEQs still to replay (R616, R618). -/
  fseq : Nat := 1
  unacked : List (Nat × List Byte) := []
  replay : List Nat := []
  /-- The FSEQ from which the running retry started (R619). -/
  retry : Option Nat := none
  /-- Stream bytes received that have not made a whole group: HOP and E2E. -/
  rxHop : List Byte := []
  rxE2e : List Byte := []
  /-- The rest of this slot's stream of the mode is discarded (Table 15-7), and the slots of the streams. -/
  cutHop : Bool := false
  cutE2e : Bool := false
  slotHop : Nat := 0
  slotE2e : Nat := 0
  /-- The last FSEQ received intact and in order; a discard has been answered by REPLAY (R616, R617). -/
  rxFseq : Nat := 0
  discarding : Bool := false
  /-- Group counters of R441; the receiver takes its next count from the wire after a lost group. -/
  txGroup : Nat := 0
  rxGroup : Nat := 0
  resync : Bool := false
  /-- Credits held and advertised by the neighbour, and credits owed to it, by virtual channel (R576). -/
  credits : KMap Nat := []
  credMax : KMap Nat := []
  owe : KMap Nat := []
  /-- Delays of the ECHO exchanges so far, in 0.8 ns units (R591). -/
  echoes : List Nat := []
  /-- A CREDIT has been received in this training. -/
  creditGot : Bool := false
  /-- The last HAIL received: IMG, EPOCH, DIGEST, KEY_ID, FW_MAJOR (Table 14-3). -/
  hail : Option (Nat × Nat × Nat × Nat × Nat) := none
  /-- HOPS of the last SYNC accepted from a sender that is ALIGNED or ROOT. -/
  syncHops : Option Nat := none
  violTicks : List Nat := []
  /-- A SYNC and a HAIL are due in the next SLACK slot (R590, R594). -/
  syncDue : Bool := false
  hailDue : Bool := false
  /-- Consecutive uncorrectable codewords (R570). -/
  badRun : Nat := 0
  /-- LINKUP before the commit that installed a new key, for groups under the previous key in slot 0 (R444). -/
  prevLinkup : Nat := 0
  /-- The cause of the fabric port reset in progress (Table 2-18). -/
  cause : Nat := 0
deriving DecidableEq, Repr

/-- The fabric (ch. 14 and 15). -/
structure Fab where
  /-- Packets at the fabric exit, in the order they reached column 59 (R33, R579, R620). -/
  exit : List Pkt := []
  /-- Packets accepted at the exit or in transit, oldest first (R587). -/
  held : List HeldPkt := []
  retained : List Retained := []
  seqs : List TxSeq := []
  wins : List RxWin := []
  /-- Route entries that have failed over: partition, flow, destination (R629, R630). -/
  failed : List (Nat × Nat × Nat) := []
  ports : KMap FabPort := []
  /-- Mirror stream packets that wait at column 60 for the twin ports (R101, R576). -/
  twinq : List Pkt := []
  /-- Consecutive SYNCs within 8 ns (Table 14-10). -/
  lock : Nat := 0
  /-- SLOT_LEN in force of the timer (R585, R592). -/
  slotLen : Nat := 320
  /-- Flit times left in this slot by port, where some have passed. -/
  left : KMap Nat := []
  /-- Flit times used by slot: this cadence and the last complete one, key 4096 * port + slot (R602). -/
  occNow : KMap Nat := []
  occLast : KMap Nat := []
  /-- Packets of sampled partitions counted so far (R603). -/
  sampled : Nat := 0
deriving DecidableEq, Repr

/-- A sequencer access that has ended: its slot, chunk, what it was for, the bytes read, the 2,048-byte spans poisoned, and
whether it failed. -/
structure SeqEvt where
  slot : Nat := 0
  chunk : Nat := 0
  what : Nat := 0
  bytes : List Byte := []
  bads : List Nat := []
  failed : Bool := false
deriving DecidableEq, Repr

/-- A chunk being received (R598, R632). -/
structure RxChunk where
  chunk : Nat := 0
  phase : Nat := 0
  /-- Packets landed: offset, bytes, poison; and the SEQs landed. -/
  parts : KMap (List Byte × Bool) := []
  seqs : List Nat := []
deriving DecidableEq, Repr

/-- A chunk in a retain buffer (R598, R654). -/
structure TxChunk where
  chunk : Nat := 0
  phase : Nat := 0
  bytes : List Byte := []
  bads : List Nat := []
  /-- It waits for the local contribution, whose read may be running; its result has still to be written; it has still to
  be sent and then acknowledged. -/
  needSrc : Bool := false
  reading : Bool := false
  /-- A chunk that arrived and is combined with the local contribution; otherwise the contribution alone. -/
  reduce : Bool := false
  needWrite : Bool := false
  writing : Bool := false
  needSend : Bool := false
  sent : Bool := false
  tries : Nat := 0
  notReady : Bool := false
  pkts : List Pkt := []
deriving DecidableEq, Repr

/-- One collective in a slot of a sequencer (R595 to R600, R633 to R637). -/
structure Coll where
  id : Nat := 0
  part : Nat := 0
  inc : Nat := 0
  flow : Nat := 0
  op : Nat := 0
  dtype : Nat := 0
  redop : Nat := 0
  ctx : Nat := 0
  accum : Bool := false
  n : Nat := 1
  rank : Nat := 0
  root : Nat := 0
  start : Nat := 0
  src : Nat := 0
  dst : Nat := 0
  len : Nat := 0
  ring : Nat := 0
  ntx : Nat := 0
  nty : Nat := 0
  nctr : Nat := 0
  nland : Nat := 0
  /-- 1 WAITING for the ring table, 2 ACTIVE, 3 ABORTING (Table 14-19). -/
  state : Nat := 1
  ringDevs : List Nat := []
  rx : List RxChunk := []
  tx : List TxChunk := []
  /-- Receive credits held of the successor (R654). -/
  credits : Nat := 2
  /-- The next chunk to look at for origination; the leading chunks committed; what is done of later ones: 0 and 1 the
  sends of a phase acknowledged, 2 the result written (R598). -/
  nextOrig : Nat := 0
  lead : Nat := 0
  prog : KMap (List Nat) := []
  /-- Chunks received whole: chunk and phase. -/
  got : List (Nat × Nat) := []
  degraded : Bool := false
  poisoned : Bool := false
  /-- Abort: cause, and the value of R636. -/
  cause : Nat := 0
  commit : Nat := 0
  /-- STATUS of the end record once it is known, and the message that carries it. -/
  status : Option Nat := none
  mtag : Option Nat := none
deriving DecidableEq, Repr

/-- One collective sequencer (ch. 14). -/
structure SeqUnit where
  msg : NodeMsg := {}
  /-- The collectives in its slots, by slot (R595, R609). -/
  colls : KMap Coll := []
  /-- Accesses that have ended and wait to be acted on within the same step. -/
  evts : List SeqEvt := []
  /-- Aborts received for collectives not started: partition, COLL_ID, COMMIT, boundaries left (R660); and collectives
  aborted here whose COLL_ID is refused (R637). -/
  early : List (Nat × Nat × Nat × Nat) := []
  barred : List (Nat × Nat × Nat) := []
deriving DecidableEq, Repr

/-- A run of captured or re-read lines that waits to leave as one MIRROR_DATA (R674, R679). -/
structure MirCap where
  epoch : Nat := 0
  off : Nat := 0
  data : List Byte := []
  poison : Bool := false
  catchup : Bool := false
deriving DecidableEq, Repr

/-- What has left of one epoch of a source partition (R680, Table 16-4). -/
structure MirEpoch where
  epoch : Nat := 0
  count : Nat := 0
  first : Nat := 0
  digest : Nat := 0
deriving DecidableEq, Repr

/-- A source partition of the mirror engine (R674 to R683). -/
structure MirSrc where
  /-- The partition's part of the capture queue, oldest first (R675). -/
  queue : List MirCap := []
  /-- The next JSEQ; the first JSEQ that may not leave yet (R675, R676). -/
  next : Nat := 0
  lim : Nat := 0
  /-- Dirty map: spans of 64 KiB blocks, first and end, with the epoch of their last write (R677). -/
  dirty : List (Nat × Nat × Nat) := []
  /-- Catch-up: spans of blocks still to be read, the epoch it began in, and the one its last block was read in (R679). -/
  todo : List (Nat × Nat) := []
  catchFrom : Option Nat := none
  catchEnd : Option Nat := none
  /-- The next DIGEST carries FIRST. -/
  first : Bool := false
  epochs : List MirEpoch := []
  /-- The next epoch to send the DIGEST of, and the next one whose verdict is awaited (R682, R683). -/
  nextDig : Nat := 0
  nextVer : Nat := 0
  /-- The cause of the last failure: 4 or 5 (Table 16-11). -/
  cause : Nat := 5
  /-- A restore into this partition runs: R, packets received, the XOR of their entry CRCs (R688). -/
  restore : Option (Nat × Nat × Nat) := none
deriving DecidableEq, Repr

/-- One journal entry (R684), with its whole epoch number. -/
structure MirEnt where
  jseq : Nat := 0
  epoch : Nat := 0
  off : Nat := 0
  data : List Byte := []
  poison : Bool := false
  catchup : Bool := false
deriving DecidableEq, Repr

/-- A received MIRROR_DIGEST that waits to be judged (Table 16-4). -/
structure MirDig where
  epoch : Nat := 0
  digest : Nat := 0
  count : Nat := 0
  firstJ : Nat := 0
  catchup : Bool := false
  catchEnd : Bool := false
  first : Bool := false
deriving DecidableEq, Repr

/-- Who started a mirror operation: a command of a partition, or TWN_CMD. -/
inductive TwinWho where
  | cmd (p n : Nat)
  | reg
deriving DecidableEq, Repr

/-- A restore of a copy into the twin (Table 16-9): phase 0 awaits RESTORE_READY, 1 sends, 2 awaits RESTORE_DONE. -/
structure MirRestore where
  who : TwinWho := .reg
  epoch : Nat := 0
  phase : Nat := 0
  /-- Bytes sent, packets sent, the XOR of their entry CRCs. -/
  pos : Nat := 0
  count : Nat := 0
  digest : Nat := 0
deriving DecidableEq, Repr

/-- The copy of a partition of the twin, beside its registers (R667, R682 to R688). -/
structure MirRx where
  /-- Journal entries in the order of their JSEQs; one past the last JSEQ received. -/
  journal : List MirEnt := []
  next : Nat := 0
  digs : List MirDig := []
  /-- The epoch to be judged next, and the result of the one before: 0 COMMITTED, 1 PARTIAL, 2 FAILED. -/
  expect : Option Nat := none
  last : Option Nat := none
  cause : Nat := 5
  /-- Epochs judged and not applied, oldest first: committed, or PARTIAL (R684). -/
  judged : List (Nat × Bool) := []
  restore : Option MirRestore := none
deriving DecidableEq, Repr

/-- What a PAIR has told of the twin (Table 16-3): RX_SIZE, its regions as (partition, size), and its report of 2 bits a partition. -/
structure TwinPeer where
  rxSize : Nat := 0
  regions : List (Nat × Nat) := []
  report : Nat := 0
deriving DecidableEq, Repr

/-- Twin mirroring beside its registers (ch. 16). -/
structure Twin where
  srcs : KMap MirSrc := []
  rxs : KMap MirRx := []
  /-- The regions by which the copies held are laid out (R667, R669). -/
  layout : List (Nat × Nat) := []
  /-- The PAIR received in this exchange, and that this device's own has been acknowledged (R668). -/
  peer : Option TwinPeer := none
  acked : Bool := false
  /-- Ticks of the last edge on TWIN_HB_IN, of the last intact flit of a twin port, and of the last toggle (R670, R671). -/
  edge : Nat := 0
  flit : Nat := 0
  toggle : Nat := 0
  /-- SEQ numbering of the mirror packets by partition (R573, R678). -/
  seqs : KMap Nat := []
  /-- The write being performed is a restore write, which is not captured (R672). -/
  quiet : Bool := false
deriving DecidableEq, Repr

/-- The discrete pins the device drives (R51). -/
inductive Pin where
  | thermTrip | faultOut | wake | twinHbOut
deriving DecidableEq, Repr

/-- Messages the device sends on the host link (Table 12-1). -/
inductive HostMsg where
  | assertInta | deassertInta | pmPme | pmeToAck | errCor | errNonFatal | errFatal
deriving DecidableEq, Repr

/-- What the device sends to the outside of the block. -/
inductive Output where
  /-- A posted DMA write under a function's requester ID. -/
  | hostWrite (fn addr : Nat) (bytes : List Byte)
  /-- A non-posted DMA read: tag, function, address, length, AT field, PASID where one is sent (Table 12-1). -/
  | hostRead (tag fn addr len at_ : Nat) (pasid : Option Nat)
  /-- An MSI-X write: function, Message Address, Message Data (R498). -/
  | msix (fn addr data : Nat)
  /-- A message on the host link. -/
  | hostMsg (m : HostMsg)
  /-- A CXL.io completion to the host: status 0 SC, 1 UR, 2 CRS, 4 CA, with its data. -/
  | hostCompletion (status : Nat) (bytes : List Byte) (poison : Bool)
  /-- An answer of the JTAG memory-access port. -/
  | jtag (bytes : List Byte) (poison : Bool)
  /-- A line that a re-key transit writes back to an expander, with its poison (R437). -/
  | rekeyWrite (port line : Nat) (data : List Byte) (poison : Bool)
  /-- A UR completion to an expander. -/
  | dlUr (port : Nat)
  /-- A level on a pin the device drives. -/
  | pin (p : Pin) (asserted : Bool)
  /-- An answer on the management sideband: message bytes. -/
  | sideband (bytes : List Byte)
  /-- An answer to an MCTP control message: command, completion code, the endpoint ID (R780). -/
  | mctp (cmd cc eid : Nat)
  /-- An answer to a PLDM request: type, command, completion code; for GetSensorReading the sensor, its reading (none:
  unavailable), and that it is at or above its upper critical threshold (R780, Table 19-11). -/
  | pldm (typ cmd cc : Nat) (sensor : Option (Nat × Option Int × Bool))
  /-- An SPDM response, by DOE or on the sideband: response code, its parameter, the measurement blocks it carries (Table 19-12). -/
  | spdm (doe : Bool) (code param : Nat) (blocks : List (Nat × List Byte))
  /-- A DOE Discovery answer: vendor ID, object type, the next index (Table 11-5). -/
  | doeObject (vendor typ next : Nat)
  /-- The CDAT answer: the DSMAS entry's first and last DPA, volatile, and the DSLBIS entries' read and write latency in ns and
  bandwidth in GB/s (Table 11-5). -/
  | cdat (first last : Nat) (vol : Bool) (readNs writeNs gbs : Nat)
  /-- The DOE error that the standard defines (R467). -/
  | doeError
  /-- A packet put onto the on-die mesh. -/
  | mesh (p : Pkt)
  /-- An ATS Translation Request: tag, function, IOVA, translations asked for, No Write, PASID (R337). -/
  | atsReq (tag fn iova n : Nat) (nw : Bool) (pasid : Option Nat)
  /-- A Page Request Message: function, page, PRG index, W asked, Last, PASID (R343). -/
  | pageReq (fn page idx : Nat) (w last : Bool) (pasid : Option Nat)
  /-- An Invalidate Completion: function and ITag (R350). -/
  | invCpl (fn itag : Nat)
  /-- A D2H request: its identifier, opcode, line, byte offset and data where it carries them (Table 9-2). -/
  | d2h (id : Nat) (op : D2HOp) (line off : Nat) (data : List Byte)
  /-- A D2H snoop answer: state left at the device (0 I, 1 S, 2 E, 3 M) and the data forwarded; none: a miss. -/
  | snoopRsp (line : Nat) (hit : Bool) (left : Nat) (data : Option (List Byte)) (poison : Bool)
  /-- Write data that the host pulled; bogus where a snoop had taken it (R399). -/
  | pullData (line : Nat) (bogus : Bool) (data : List Byte) (poison : Bool)
  /-- A BISnp: kind 0 BISnpCur, 1 BISnpData, 2 BISnpInv (Table 9-8). -/
  | biSnp (line kind : Nat)
  | biConflictAck (line : Nat)
  /-- An S2M completion (data none) or data with its poison, to a host M2S request. -/
  | s2m (tag : Nat) (data : Option (List Byte)) (poison : Bool)
  /-- An M2S request to an expander: port, tag, line, write data (R541). -/
  | dlM2S (port tag line : Nat) (data : Option (List Byte))
  /-- A flit on a fabric or twin port: its 256 bytes (Table 14-2). -/
  | flit (port : Nat) (bytes : List Byte)
deriving DecidableEq, Repr

/-- The state of the block. -/
structure State where
  /-- Every register field that differs from its cold-reset value, in the order of the register tables (R26, R27). -/
  fields : List FCell := []
  /-- The fuses (R79, R116). -/
  fuses : Fuses := {}
  /-- The board's pins and straps. -/
  pins : Pins := {}
  /-- PILOT (ch. 2). -/
  pilot : Pilot := {}
  /-- The images and the commit (ch. 3). -/
  kim : Kim := {}
  /-- The partitions' queue engines and resets (ch. 4), by partition. -/
  parts : KMap Part := []
  /-- The firmware update (R164 to R168). -/
  fwu : Fwu := {}
  /-- The host link (ch. 11, 12). -/
  host : HostLink := {}
  /-- Faults waiting at the fault arbiter, oldest first (R708). -/
  faultQ : List FaultRec := []
  /-- Fault rings: 0 to 63 the partitions', 64 the device's (R704). -/
  rings : KMap Ring := []
  /-- EMBER (R720 to R730). -/
  ember : Ember := {}
  /-- HBM and the encryptor (ch. 10). -/
  mem : MemSys := {}
  /-- The tiles by node TX + 64 * TY (ch. 5, 6). -/
  tiles : KMap Tile := []
  /-- The LANTERN cores (ch. 7). -/
  cores : KMap Core := []
  /-- Translation and the stream engines (ch. 8). -/
  xlat : Xlat := {}
  /-- The coherent cache and the host-copy directory (ch. 9). -/
  cch : Cch := {}
  /-- The downlink (ch. 13). -/
  dl : Downlink := {}
  /-- The fabric (ch. 14, 15). -/
  fab : Fab := {}
  /-- The collective sequencers by number (ch. 14). -/
  seqs : KMap SeqUnit := []
  /-- Twin mirroring (ch. 16). -/
  twin : Twin := {}
  /-- The model's own: everything the block has sent, newest first (notes/assumptions/5.md). -/
  out : List Output := []
  /-- The model's own: how many free values have been drawn (notes/assumptions/2.md). -/
  freeCtr : Nat := 0
  /-- The model's own: the commands that wait, first in, first out. -/
  pending : List Instr := []
deriving DecidableEq, Repr

/-- The block before its first cold start: every register field at its cold-reset value, no supply good, nothing stored,
no command waiting (R27, R76; notes/assumptions/1.md). -/
def State.reset : State := {}

end Sys2Proof.Machine
end

