-- ==== Sys2Proof/Machine/Ops.lean ====
section
/-! DEFINITION. The named operations that every command's meaning is written with: register fields and counters, free
values, what the device sends, interrupts, EMBER records and the freeze, and raising a fault. -/
namespace Sys2Proof.Machine

/-! ### Register fields (R26, R27, R714, R715) -/

/-- The cold-reset value of a field instance (R27); a field given by the image or the fuses reads 0 until it is loaded. -/
def Fld.dflt (f : Fld) (i : Nat) : Nat :=
  match f.info.reset with
  | .val n => n
  | .part => i
  | .img => 0
  | .fuse => 0

/-- The place of a field instance in the canonical order. -/
def FCell.before (f : Fld) (i : Nat) (c : FCell) : Bool :=
  f.ctorIdx < c.fld.ctorIdx || (f.ctorIdx == c.fld.ctorIdx && i < c.inst)

/-- The listed value of a field instance. -/
def cellFind (f : Fld) (i : Nat) : List FCell → Option Nat
  | [] => none
  | c :: rest => if c.fld = f ∧ c.inst = i then some c.val else cellFind f i rest

/-- The list without a field instance. -/
def cellDel (f : Fld) (i : Nat) : List FCell → List FCell
  | [] => []
  | c :: rest => if c.fld = f ∧ c.inst = i then cellDel f i rest else c :: cellDel f i rest

/-- The list with a field instance put in its place. -/
def cellPut (f : Fld) (i v : Nat) : List FCell → List FCell
  | [] => [⟨f, i, v⟩]
  | c :: rest =>
    if c.fld = f ∧ c.inst = i then ⟨f, i, v⟩ :: rest
    else if c.before f i then ⟨f, i, v⟩ :: c :: rest
    else c :: cellPut f i v rest

/-- The value of a register field, instance i. -/
def State.get (s : State) (f : Fld) (i : Nat := 0) : Nat := (cellFind f i s.fields).getD (f.dflt i)

/-- The state with a register field at a value, cut to the field's width; a field at its cold-reset value is not listed. -/
def State.put (s : State) (f : Fld) (i : Nat) (v : Nat) : State :=
  let w := v % 2 ^ f.info.width
  { s with fields := if w = f.dflt i then cellDel f i s.fields else cellPut f i w s.fields }

/-- A one-bit field as a Boolean. -/
def State.flag (s : State) (f : Fld) (i : Nat := 0) : Bool := s.get f i != 0

/-- The largest value a field holds. -/
def Fld.max (f : Fld) : Nat := 2 ^ f.info.width - 1

/-- The state with bit b of a field set. -/
def State.setBit (s : State) (f : Fld) (i b : Nat) : State := s.put f i (s.get f i ||| 2 ^ b)

/-- The state with bit b of a field cleared. -/
def State.clrBit (s : State) (f : Fld) (i b : Nat) : State :=
  if bit (s.get f i) b then s.put f i (s.get f i - 2 ^ b) else s

/-- The state with one more output. -/
def State.emit (s : State) (o : Output) : State := { s with out := o :: s.out }

/-- A free value of w bits, and the state with its draw counted (R9). -/
def State.draw (s : State) (w : Nat) : Nat × State := (Config.free s.freeCtr % 2 ^ w, { s with freeCtr := s.freeCtr + 1 })

/-! ### What the committed structure says of this device -/

/-- The committed structure. -/
def State.com (s : State) : Struct := s.kim.com

/-- This device's coordinate in SELF encoding (Table 1-6). -/
def State.self (s : State) : Nat := s.get .GLB_TOPO_DEV_X + 8 * s.get .GLB_TOPO_DEV_Y + 64 * s.get .GLB_TOPO_DEV_Z

/-- Aligned to SYNC: state ALIGNED or ROOT (R593). -/
def State.aligned (s : State) : Bool := 2 ≤ s.get .FAB_SYNC_STATE

/-- Cadence time with its UNALIGNED bit 63 (R205). -/
def State.cadenceTime (s : State) : Nat :=
  (s.get .FAB_CADENCE_CADENCE * 4096 + s.get .FAB_SYNC_SLOT) % 2 ^ 63 + (if s.aligned then 0 else 2 ^ 63)

/-- The state of partition p (Table 4-9). -/
def State.pstate (s : State) (p : Nat) : Nat := s.get .PART_STATE_STATE p

/-- The partition record of p. -/
def State.part (s : State) (p : Nat) : Part := kgetD s.parts p {}

/-- The state with the record of p changed. -/
def State.modPart (s : State) (p : Nat) (f : Part → Part) : State := { s with parts := kmod s.parts p {} f }

/-- The configuration of a function: 0 the PF, v the VF v. -/
def State.fn (s : State) (n : Nat) : FnCfg := kgetD s.host.fns n {}

/-- The state with the configuration of a function changed. -/
def State.modFn (s : State) (n : Nat) (f : FnCfg → FnCfg) : State :=
  { s with host := { s.host with fns := kmod s.host.fns n {} f } }

/-- The state with the host link record changed. -/
def State.modHost (s : State) (f : HostLink → HostLink) : State := { s with host := f s.host }

/-- The state with PILOT's record changed. -/
def State.modPilot (s : State) (f : Pilot → Pilot) : State := { s with pilot := f s.pilot }

/-- The state with the commit record changed. -/
def State.modKim (s : State) (f : Kim → Kim) : State := { s with kim := f s.kim }

/-- The function a partition is bound to: 0 the PF, v the VF v (R459, R114). -/
def State.fnOf? (s : State) (p : Nat) : Option Nat :=
  if s.com.base.isSome then (s.com.bind? p).map (fun b => if b.pf then 0 else b.vf + 1) else none

/-- A partition is bound to the PF (R141). -/
def State.pfBound (s : State) (p : Nat) : Bool := s.fnOf? p == some 0

/-- A function exists on the bus: the PF, or a VF up to NumVFs while VF Enable is 1 (R459, R482). -/
def State.fnLive (s : State) (n : Nat) : Bool := n == 0 || ((s.fn 0).vfEn && n ≤ (s.fn 0).numVfs)

/-- A function is in D3hot: the PF's D3hot covers every function (R511). -/
def State.inD3 (s : State) (n : Nat) : Bool := (s.fn 0).dstate == 3 || (s.fn n).dstate == 3

/-- A function is under an FLR, or the host link under hot reset (R507, R517). -/
def State.underFlr (s : State) (n : Nat) : Bool := s.pilot.flr.contains n || s.pilot.flr.contains 0 || s.pilot.hotReset

/-- The device can send a memory request for a function now: the link is up and outside QUARANTINE, the function is
live, its Bus Master Enable is 1, it is in D0 and under no FLR (R798, R504, R512, R482, R507). -/
def State.canSend (s : State) (n : Nat) : Bool :=
  s.flag .HL_STATUS_LINK_UP && !s.flag .HL_STATUS_QUARANTINE && s.fnLive n && (s.fn n).busMaster && !s.inD3 n && !s.underFlr n

/-- A function's requests are held rather than failed: Bus Master Enable 0, D3hot, or a VF that is not enabled
(R798, R512, R482). -/
def State.holdsReqs (s : State) (n : Nat) : Bool := !s.fnLive n || !(s.fn n).busMaster || s.inD3 n || s.host.turnOff

/-! ### EMBER (R720 to R730) -/

/-- The slot that R726 takes now, if any: from the slots with KEEP 0, an incomplete copy first, then an empty slot,
then the oldest complete copy; among equals the lowest number. -/
def State.emberSlot? (s : State) : Option Nat :=
  let slot (n : Nat) : EmbSlot := kgetD s.ember.slots n {}
  let cand := (rangeFrom 1 15).filter (fun n => !(slot n).keep)
  match cand.find? (fun n => (slot n).used && !(slot n).complete) with
  | some n => some n
  | none =>
    match cand.find? (fun n => !(slot n).used) with
    | some n => some n
    | none =>
      cand.foldl (fun best n => match best with
        | none => some n
        | some b => if (slot n).age < (slot b).age then some n else some b) none

/-- The level FAULT_OUT# should have: some enabled latch bit is set (R719). -/
def State.faultOutLevel (s : State) : Bool :=
  let l := s.get .EMB_FAULT_OUT_LATCH
  let en := 1 + 2 * s.get .EMB_FAULT_OUT_EN
  (l &&& en) != 0

/-- FAULT_OUT# driven to its level (R719). -/
def State.updFaultOut (s : State) : State :=
  if s.faultOutLevel = s.flag .EMB_FAULT_OUT_PIN then s
  else (s.put .EMB_FAULT_OUT_PIN 0 (b2n s.faultOutLevel)).emit (.pin .faultOut s.faultOutLevel)

/-- A latch bit of EMB_FAULT_OUT set (Table 17-7). -/
def State.latchOut (s : State) (b : Nat) : State := (s.setBit .EMB_FAULT_OUT_LATCH 0 b).updFaultOut

/-! ### Raising a fault (R700 to R708) -/

/-- A fault of a class and code for a partition or for none, with every field at what the state gives (Table 17-4). -/
def State.mkFault (s : State) (cls code : Nat) (p : Option Nat) : FaultRec :=
  { cls := cls, code := code, part := p
    ring := match p with
      | some q => if s.pstate q = 0 then none else some q
      | none => none
    jobTag := match p with | some q => s.get .PART_JOB_TAG_TAG q | none => 0
    cadence := s.cadenceTime
    tick := s.get .CLK_TICK_TICK
    dev := s.self
    inc := match p with | some q => s.get .PART_STATE_INCARNATION q | none => 0 }

/-- A fault handed to the fault arbiter, where it waits its turn (R708). -/
def State.raise (s : State) (f : FaultRec) : State := { s with faultQ := s.faultQ ++ [f] }

/-- The ring that the SAT_EVENT bit of a register's page governs: a partition's, or the device's (R718). -/
def State.satRing (s : State) (f : Fld) (i : Nat) : Option (Option Nat) :=
  match f.info.reg.info.space with
  | .pf => some none
  | .cfg => none
  | .page =>
    match f.info.reg.info.cls with
    | .tile => (s.com.owner? (i % 48) (i / 48)).map some
    | _ => some (some (i / f.info.reg.info.count))

/-- The offset of a register instance within its page or PF BAR0 (R755). -/
def Reg.offset (r : Reg) (i : Nat) : Nat :=
  let j := match r.info.space, r.info.cls with
    | .page, .tile => i
    | .page, _ => i % r.info.count
    | _, _ => i
  r.info.off + r.info.stride * (j / r.info.inner) + r.info.innerStride * (j % r.info.inner)

/-- A SAT flag sets: it sticks, and with SAT_EVENT 1 a GLB COUNTER_SAT record goes to its page's ring (R715, R718). -/
def State.setSat (s : State) (flag : Fld) (i : Nat) : State :=
  if s.flag flag i then s
  else
    let s := s.put flag i 1
    match s.satRing flag i with
    | none => s
    | some ring =>
      let ev := match ring with | none => s.flag .FLT_RING_CFG_SAT_EVENT | some p => s.flag .FLT_PRING_CFG_SAT_EVENT p
      if ev then
        s.raise { s.mkFault 0x0C 0x07 ring with
          ring := ring, sev := 0, addr := some (flag.info.reg.offset i), info0 := flag.info.lo }
      else s

/-- A counter counts n events: a SAT counter stops at its maximum and sets its flag (R714, R715). -/
def State.bump (s : State) (f : Fld) (i : Nat := 0) (n : Nat := 1) : State :=
  match f.info.counter with
  | .sat =>
    let v := s.get f i + n
    if f.max ≤ v then
      let s := s.put f i f.max
      match f.satFlag with | some g => s.setSat g i | none => s
    else s.put f i v
  | _ => s.put f i (s.get f i + n)

/-! ### Interrupts (R498 to R501, R141, R719) -/

/-- The MSI-X entry of a function's vector. -/
def State.msixEnt (s : State) (n v : Nat) : MsixEnt := kgetD s.host.msix (4096 * n + v) {}

/-- The state with an MSI-X entry changed. -/
def State.modMsix (s : State) (n v : Nat) (f : MsixEnt → MsixEnt) : State :=
  s.modHost (fun h => { h with msix := kmod h.msix (4096 * n + v) {} f })

/-- A wake event of a function in D3hot: PME_Status, and PM_PME when PME_En is 1 (R514). -/
def State.pmeEvent (s : State) (n : Nat) : State :=
  if s.inD3 n then
    let s := s.modFn 0 (fun c => { c with pmeStatus := true })
    if (s.fn 0).pmeEn then s.emit (.hostMsg .pmPme) else s
  else s

/-- An event for a vector of a function whose MSI-X Enable is 1: sent, or kept pending (R498, R499, R798, R512). -/
def State.msixEvent (s : State) (n v : Nat) : State :=
  let e := s.msixEnt n v
  if s.flag .HL_STATUS_QUARANTINE || !s.flag .HL_STATUS_LINK_UP || s.underFlr n then s
  else if e.masked || (s.fn n).fnMask || !(s.fn n).busMaster || s.inD3 n then
    (s.modMsix n v (fun e => { e with pending := true })).pmeEvent n
  else (s.modMsix n v (fun e => { e with pending := false })).emit (.msix n e.addr e.data)

/-- The INTx level and its message (R501). -/
def State.updIntx (s : State) : State :=
  let lvl := (s.get .HL_INTX_PART_PART != 0 || s.get .HL_INTX_GLB_GLB != 0)
  let s1 := s.put .HL_INTX_GLB_LEVEL 0 (b2n lvl)
  let up := s.flag .HL_INTX_GLB_LEVEL
  if (s.fn 0).msixEn || (s.fn 0).intxDis then s1
  else if lvl && !up then s1.emit (.hostMsg .assertInta)
  else if !lvl && up then s1.emit (.hostMsg .deassertInta)
  else s1

/-- An event for vector v of partition p (R141, R482, R499, R501). -/
def State.partVector (s : State) (p v : Nat) : State :=
  match s.fnOf? p with
  | none => s
  | some 0 =>
    if (s.fn 0).msixEn then s.msixEvent 0 (32 * p + v)
    else if (s.fn 0).intxDis then s
    else ((s.setBit .HL_INTX_PART_PART 0 p).updIntx).pmeEvent 0
  | some n => if s.fnLive n && (s.fn n).msixEn then s.msixEvent n v else s

/-- A global event, in the bit order FAULT, KIM, FWU, HL, EMB of HL_INTX_GLB, on the vector HL_GVEC names (R500, R501). -/
def State.globalEvent (s : State) (k : Nat) : State :=
  let (vec, en) : Fld × Fld := match k with
    | 0 => (.HL_GVEC_FAULT_VEC, .HL_GVEC_FAULT_EN)
    | 1 => (.HL_GVEC_KIM_VEC, .HL_GVEC_KIM_EN)
    | 2 => (.HL_GVEC_FWU_VEC, .HL_GVEC_FWU_EN)
    | 3 => (.HL_GVEC_HL_VEC, .HL_GVEC_HL_EN)
    | _ => (.HL_GVEC_EMB_VEC, .HL_GVEC_EMB_EN)
  if !s.flag en then s
  else if (s.fn 0).msixEn then s.msixEvent 0 (s.get vec)
  else if (s.fn 0).intxDis then s
  else ((s.setBit .HL_INTX_GLB_GLB 0 k).updIntx).pmeEvent 0

/-! ### EMBER records and the freeze -/

/-- The state with EMBER's record changed. -/
def State.modEmber (s : State) (f : Ember → Ember) : State := { s with ember := f s.ember }

/-- The freeze (t1 of Table 17-11): the buffer stops, the slot is chosen and the copy to MRAM starts; with every slot
kept nothing is copied and MRAM_FULL sets (R724, R726, R719). -/
def State.emberFreeze (s : State) : State :=
  let s := s.put .EMB_STATUS_STATE 0 2
  let s := s.modEmber (fun e => { e with snapLost := 0, fatal := e.fatal || (!e.past && (e.cause == 1 || e.cause == 2 || e.cause == 3)) })
  let s := match s.emberSlot? with
    | none => s.put .EMB_STATUS_MRAM_FULL 0 1
    | some n =>
      let e := s.ember
      let ent : EmbSlot :=
        { cause := e.cause, used := true, trigTick := e.trigTick, trigRseq := e.trigRseq
          lastRseq := (s.get .EMB_RSEQ_NEXT + 2 ^ 32 - 1) % 2 ^ 32, post := e.post, extra := e.extra
          ident := s.get .GLB_IDENT_PART_NUM + s.get .GLB_IDENT_BIN * 2 ^ 16 + s.get .GLB_IDENT_FUSE_EXT * 2 ^ 20
            + s.get .GLB_IDENT_STEP_MINOR * 2 ^ 24 + s.get .GLB_IDENT_STEP_MAJOR * 2 ^ 28
            + s.get .GLB_IDENT_KEY_SLOTS * 2 ^ 32 + s.get .GLB_IDENT_BOOST_CLK * 2 ^ 40
          epoch := s.get .KIM_EPOCH_EPOCH, fwMinor := s.get .PART_FWU_VER_RUN_MINOR
          fwMajor := s.get .PART_FWU_VER_RUN_MAJOR, uid := s.get .KIM_UID_UID, recs := e.buf }
      ((((s.modEmber (fun e => { e with slots := kput n ent e.slots })).put .EMB_STATUS_COPYING 0 1).put
        .EMB_STATUS_LAST_SLOT 0 n).put .EMB_STATUS_LAST_CAUSE 0 s.ember.cause)
  (s.latchOut 3).globalEvent 4

/-- A record of EMBER with the fields common to every type filled in (Table 17-8). -/
def State.embRec (s : State) (typ sub code : Nat) (p : Option Nat) (w20 w28 w30 w38 : Nat) : EmbRec :=
  { tick := s.get .CLK_TICK_TICK, inexact := s.pilot.tickInexact, typ := typ, sub := sub, code := code, part := p
    jobTag := match p with | some q => s.get .PART_JOB_TAG_TAG q | none => 0
    cadence := s.cadenceTime, w20 := w20, w28 := w28, w30 := w30, w38 := w38 }

/-- A record put into the buffer with the next RSEQ; the 4,096 newest are kept; in the post window the record counts
(R720, R724). -/
def State.embAppend (s : State) (r : EmbRec) : State :=
  let n := s.get .EMB_RSEQ_NEXT
  let s := s.modEmber (fun e => { e with
    buf := (({ r with rseq := n } : EmbRec) :: e.buf).take 4096
    post := if s.get .EMB_STATUS_STATE = 1 then e.post + 1 else e.post })
  s.put .EMB_RSEQ_NEXT 0 (n + 1)

/-- EMBER records an event: into the buffer while it records, to the hold queue while FROZEN and it is a FAULT, dropped
and counted otherwise; the post window ends when POST_COUNT records have followed (R713, R721, R724, R727). -/
def State.embWrite (s : State) (r : EmbRec) : State :=
  if !s.pilot.emberOn then s
  else if s.get .EMB_STATUS_STATE = 2 then
    if r.typ = 3 then
      if s.ember.hold.length < 256 then s.modEmber (fun e => { e with hold := e.hold ++ [r] })
      else (s.modEmber (fun e => { e with
        lostRecs := e.lostRecs + 1, lostFaults := e.lostFaults + 1, snapLost := e.snapLost + 1 })).bump .EMB_STATUS_LOST_FAULTS
    else (s.modEmber (fun e => { e with lostRecs := e.lostRecs + 1 })).bump .EMB_STATUS_LOST
  else
    let s := s.embAppend r
    if s.get .EMB_STATUS_STATE = 1 && s.get .EMB_CFG_POST_COUNT ≤ s.ember.post then s.emberFreeze else s

/-- EMBER records an event of a type with its payload. -/
def State.ember' (s : State) (typ sub code : Nat) (p : Option Nat) (w20 : Nat := 0) (w28 : Nat := 0) (w30 : Nat := 0)
    (w38 : Nat := 0) : State :=
  s.embWrite (s.embRec typ sub code p w20 w28 w30 w38)

/-- A freeze trigger (R722, R724, R728): its TRIGGER record and the post window; absorbed in the post window, latched
or absorbed while FROZEN. Causes 2 and 9 have no post window. -/
def State.emberTrigger (s : State) (cause : Nat) : State :=
  let now := cause = 2 ∨ cause = 9
  if !s.pilot.emberOn then s
  else if s.get .EMB_STATUS_STATE = 2 then
    match s.ember.latched with
    | none => s.modEmber (fun e => { e with latched := some cause })
    | some _ => s.modEmber (fun e => { e with extra := e.extra ||| 2 ^ cause })
  else if s.get .EMB_STATUS_STATE = 1 then
    let s := (s.modEmber (fun e => { e with extra := e.extra ||| 2 ^ cause })).ember' 7 cause 0 none (s.emberSlot?.getD 0)
    if now ∧ s.get .EMB_STATUS_STATE = 1 then s.emberFreeze else s
  else
    let s := s.modEmber (fun e => { e with
      cause := cause, extra := 0, post := 0, past := false, trigTick := s.get .CLK_TICK_TICK, trigRseq := s.get .EMB_RSEQ_NEXT })
    let s := s.ember' 7 cause 0 none (s.emberSlot?.getD 0)
    if now ∨ s.get .EMB_CFG_POST_COUNT = 0 then s.emberFreeze else s.put .EMB_STATUS_STATE 0 1

/-- Recording resumes (R727): one LOST record first where anything was held or dropped, then the held faults in order,
then the trigger that was latched (R728). -/
def State.emberResume (s : State) : State :=
  let e := s.ember
  let s := s.put .EMB_STATUS_STATE 0 0
  let s := s.modEmber (fun e => { e with hold := [], lostRecs := 0, lostFaults := 0, latched := none })
  let s := if e.lostRecs = 0 ∧ e.hold = [] then s
    else s.ember' 0x0A 0 0 none (e.lostRecs % 2 ^ 32 + (e.lostFaults % 2 ^ 32) * 2 ^ 32)
  let s := e.hold.foldl (fun s r => s.embWrite r) s
  match e.latched with
  | some c => s.emberTrigger c
  | none => s

/-- A BREACH record naming the offset of the register or structure concerned (R8, R749, Table 17-9). -/
def State.breach (s : State) (off : Nat) : State := s.ember' 0x0D 0 0 none off

/-- The word of a register instance as its fields hold it (R26). -/
def State.regWord (s : State) (r : Reg) (i : Nat) : Nat :=
  (r.fields.map (fun f => s.get f i * 2 ^ f.info.lo)).sum

/-- The state of switched domain d: 0 OFF, 1 DOZE, 2 WAKING, 3 ON (Table 2-1). -/
def State.domState (s : State) (d : Nat) : Nat := bits (s.regWord .PWR_DOM_STATE 0) (2 * d) 2

/-- The state field of domain d. -/
def domFld (d : Nat) : Fld := nthD Reg.PWR_DOM_STATE.fields d .PWR_DOM_STATE_STATE_0

/-- The state with domain d in a state: 0 OFF, 1 DOZE, 2 WAKING, 3 ON. -/
def State.setDom (s : State) (d st : Nat) : State := s.put (domFld d) 0 st

/-- A wake trigger at a dozing domain (R63, Table 2-15). -/
def State.wake (s : State) (d : Nat) : State :=
  if s.domState d = 1 then (s.setDom d 2).bump .PWR_DOM_WAKES_COUNT d else s

/-- An event raises line b of a LANTERN core; one that the core has enabled wakes the domain (R288, Table 7-6, Table 2-3). -/
def State.coreLine (s : State) (c b : Nat) : State :=
  let k := kgetD s.cores c {}
  let s := { s with cores := kput c { k with lines := k.lines ||| 2 ^ b } s.cores }
  if bit (kgetD k.csrs 0x4A 0) b then s.wake 16 else s

/-- An event raises line b of every core that meets a condition. -/
def State.coreLines (s : State) (c : Nat → Bool) (b : Nat) : State :=
  ((List.range 16).filter c).foldl (fun s c => s.coreLine c b) s

/-- A POWER record (Table 17-9). -/
def State.powerRec (s : State) (code : Nat) (w30 : Nat := 0) : State :=
  s.ember' 9 0 code none (s.regWord .PWR_GOV 0) (s.regWord .CLK_STATUS 0) w30

/-- GLB_IDENT as one word (Table 0-8). -/
def State.ident (s : State) : Nat := s.regWord .GLB_IDENT 0

/-- The causes of a fence: 1 ALIGN, which the loss of the 156.25 MHz reference gives too, 2 COMMIT (Table 15-8, R73). -/
def State.fenceCause (s : State) : Nat := (if s.aligned && s.flag .CLK_STATUS_FAB_REF_OK then 0 else 1) + (if s.get .KIM_STATUS_STATE = 5 then 2 else 0)

/-- FAB_FENCE brought up to date; an entry after the main phase counts and writes FENCED (R650). -/
def State.fenceSettle (s : State) : State :=
  let c := s.fenceCause
  let s1 := s.put .FAB_FENCE_CAUSE 0 c
  if s.get .FAB_FENCE_CAUSE = 0 && c != 0 && s.pilot.phase == .ready then (s1.bump .FAB_FENCE_FENCES).raise (s1.mkFault 0x09 0x09 none)
  else s1

/-- A change of KIM_STATUS.STATE: its EMBER COMMIT record, its global event and line 7 of every core (Tables 17-9, 7-6, R500). -/
def State.setKimState (s : State) (st : Nat) : State :=
  let s := (s.put .KIM_STATUS_STATE 0 st).fenceSettle
  ((s.ember' 6 st (s.get .KIM_STATUS_LAST_FAULT) none (s.get .KIM_EPOCH_EPOCH) s.kim.armId s.kim.armC).globalEvent 1).coreLines
    (fun _ => true) 7

/-- A change of a partition's state; vector 0 carries it, and line 4 of its assigned cores (R141, R156, R278). -/
def State.setPartState (s : State) (p st : Nat) : State :=
  ((s.put .PART_STATE_STATE p st).partVector p 0).coreLines
    (fun c => s.flag .LNT_CORE_CFG_ASSIGNED c && s.get .LNT_CORE_CFG_PART c == p) 4

/-- A device fault of class GLB without a partition (Table 17-3). -/
def State.raiseGlb (s : State) (code : Nat) (addr : Option Nat) (info0 : Nat) : State :=
  s.raise { s.mkFault 0x0C code none with addr := addr, info0 := info0 }

/-- One LOCKED_WRITE record for a write that covers locked fields: register offset and value written (R27, R138). -/
def State.lockedWrite (s : State) (off v : Nat) : State := s.raiseGlb 0x01 (some off) v

end Sys2Proof.Machine
end

