-- ==== Sys2Proof/Machine/Capture.lean ====
section
/-! DEFINITION. What a memory controller passes to the mirror engine: the dirty map, the capture queue and catch-up's
start (R672 to R679). -/
namespace Sys2Proof.Machine

/-- The state with HBM and the encryptor changed. -/
def State.modMem (s : State) (f : MemSys → MemSys) : State := { s with mem := f s.mem }

/-- Spans without the bytes from lo up to hi. -/
def cutSpans (lo hi : Nat) : List (Nat × Nat × Nat) → List (Nat × Nat × Nat)
  | [] => []
  | (id, a, b) :: rest =>
    if hi ≤ a ∨ b ≤ lo then (id, a, b) :: cutSpans lo hi rest
    else
      (if a < lo then [(id, a, lo)] else []) ++ (if hi < b then [(id, hi, b)] else []) ++ cutSpans lo hi rest

/-- The contents of a span become undefined (R111, R431, Table 2-6). -/
def State.undefine (s : State) (lo hi : Nat) : State :=
  let s1 := s.modMem (fun m => { m with undef := (s.freeCtr, lo, hi) :: cutSpans lo hi m.undef })
  { s1 with freeCtr := s1.freeCtr + 1 }

/-! ### The mirror engine's records -/

/-- The state with mirroring changed; the records of a source partition and of a copy. -/
def State.modTwin (s : State) (f : Twin → Twin) : State := { s with twin := f s.twin }
def State.mirSrc (s : State) (p : Nat) : MirSrc := kgetD s.twin.srcs p {}
def State.modSrc (s : State) (p : Nat) (f : MirSrc → MirSrc) : State := s.modTwin (fun t => { t with srcs := kmod t.srcs p {} f })
def State.mirRx (s : State) (p : Nat) : MirRx := kgetD s.twin.rxs p {}
def State.modRx (s : State) (p : Nat) (f : MirRx → MirRx) : State := s.modTwin (fun t => { t with rxs := kmod t.rxs p {} f })

/-- The cadence number. -/
def State.cadence (s : State) : Nat := s.get .FAB_CADENCE_CADENCE

/-- The partition and the offset within its regions, in region order, of a device physical address (Table 16-2). -/
def mirrorOff : List MirrorRegion → Nat → KMap Nat → Option (Nat × Nat)
  | [], _, _ => none
  | r :: rest, a, before =>
    if r.base ≤ a ∧ a < r.base + r.size then some (r.part, kgetD before r.part 0 + (a - r.base))
    else mirrorOff rest a (kput r.part (kgetD before r.part 0 + r.size) before)

/-- The committed regions of this device. -/
def State.ownRegions (s : State) : List MirrorRegion := (s.com.twin?.map (·.regions)).getD []

/-- Bytes of a partition's regions of this device. -/
def State.ownBytes (s : State) (p : Nat) : Nat := ((s.ownRegions.filter (fun r => r.part == p)).map (·.size)).sum

/-- The partitions that this device mirrors. -/
def State.ownParts (s : State) : List Nat := (List.range 64).filter (fun p => s.ownRegions.any (fun r => r.part == p))

/-- A dirty map with blocks from a up to b marked as written in an epoch (R677). -/
def markDirty (e a b : Nat) (m : List (Nat × Nat × Nat)) : List (Nat × Nat × Nat) := (e, a, b) :: cutSpans a b m

/-- A partition enters catch-up: every block that its dirty map marks is to be sent (R679); with none marked the catch-up
ends in the epoch it began in. -/
def State.startCatchup (s : State) (p : Nat) : State :=
  (s.put .TWN_PSTAT_STATE p 1).modSrc p (fun r => { r with
    todo := r.dirty.map (fun d => d.2), catchFrom := some s.cadence, catchEnd := if r.dirty = [] then some s.cadence else none })

/-- Bytes that a partition holds in the capture queue, its own share left out. -/
def capBeyond (q : List MirCap) : Nat := ((q.filter (fun c => !c.catchup)).map (fun c => c.data.length)).sum - 131072

/-- The capture queue has room for one more line of a partition: its 128 KiB, then what is not reserved of 16 MiB (R675). -/
def State.capRoom (s : State) (p : Nat) : Bool :=
  let own := (((s.mirSrc p).queue.filter (fun c => !c.catchup)).map (fun c => c.data.length)).sum
  own + 64 ≤ 131072 || (s.ownParts.map (fun q => capBeyond (s.mirSrc q).queue)).sum + 64 ≤ 2 ^ 24 - 131072 * s.ownParts.length

/-- A line joins the capture queue: with the lines before it where its offset follows theirs (R674). -/
def enqueueLine (e off : Nat) (bs : List Byte) (poison : Bool) : List MirCap → List MirCap
  | [] => [{ epoch := e, off := off, data := bs, poison := poison }]
  | [c] =>
    if c.epoch = e ∧ c.off + c.data.length = off ∧ c.data.length < 2048 ∧ c.catchup = false ∧ c.poison = false ∧ poison = false
    then [{ c with data := c.data ++ bs }]
    else [c, { epoch := e, off := off, data := bs, poison := poison }]
  | c :: rest => c :: enqueueLine e off bs poison rest

/-- A line that the queue has no room for: its partition enters catch-up with cause LAGGING; one in catch-up sends the
line's block once more (R675). -/
def State.lagging (s : State) (p b : Nat) : State :=
  if s.get .TWN_PSTAT_STATE p = 1 then
    s.modSrc p (fun r => { r with todo := if r.todo.any (fun t => t.1 ≤ b && b < t.2) then r.todo else r.todo ++ [(b, b + 1)], catchEnd := none })
  else
    ((s.startCatchup p).put .TWN_PSTAT_LAGGING p 1).raise
      { s.mkFault 0x0B 0x06 (some p) with addr := some s.cadence, info1 := (s.mirSrc p).next }

/-- A line written in a mirrored region is passed to the mirror engine as plaintext (R672, R675, R677). While a restore
into its partition runs, another master's write leaves the line undefined (R688). -/
def State.capture (s : State) (line : Nat) (bytes : List Byte) (poison : Bool) : State :=
  if s.twin.quiet then s
  else
    match mirrorOff s.ownRegions line [] with
    | none => s
    | some (p, off) =>
      if (s.mirSrc p).restore.isSome then s.undefine line (line + 64)
      else
        let b := off / 65536
        let s := s.modSrc p (fun r => { r with dirty := markDirty s.cadence b (b + 1) r.dirty })
        if s.get .TWN_STATUS_STATE != 2 || !(s.get .TWN_PSTAT_STATE p = 1 || s.get .TWN_PSTAT_STATE p = 2) then s
        else if s.capRoom p then s.modSrc p (fun r => { r with queue := enqueueLine s.cadence off bytes poison r.queue })
        else s.lagging p b

end Sys2Proof.Machine
end

