-- ==== Sys2Proof/Machine/Crypto.lean ====
section
/-! DEFINITION. The published algorithms the spec names: SHA-384 and ECDSA P-384 (R115), AES-256 with XTS (R423), GCM
(R440 to R444) and the SP 800-38F key wrap (Table 3-11), CRC-32C, CRC-32 and CRC-64. PRESUMED: their definitions come from the
standards the rules name (R11); see notes/assumptions/7.md. -/
namespace Sys2Proof.Machine

/-! ### SHA-384 (FIPS 180-4) -/

/-- The round constants of SHA-512. -/
def shaK : List Nat :=
  ([0x428a2f98d728ae22, 0x7137449123ef65cd, 0xb5c0fbcfec4d3b2f, 0xe9b5dba58189dbbc,
   0x3956c25bf348b538, 0x59f111f1b605d019, 0x923f82a4af194f9b, 0xab1c5ed5da6d8118,
   0xd807aa98a3030242, 0x12835b0145706fbe, 0x243185be4ee4b28c, 0x550c7dc3d5ffb4e2,
   0x72be5d74f27b896f, 0x80deb1fe3b1696b1, 0x9bdc06a725c71235, 0xc19bf174cf692694,
   0xe49b69c19ef14ad2, 0xefbe4786384f25e3, 0x0fc19dc68b8cd5b5, 0x240ca1cc77ac9c65,
   0x2de92c6f592b0275, 0x4a7484aa6ea6e483, 0x5cb0a9dcbd41fbd4, 0x76f988da831153b5,
   0x983e5152ee66dfab, 0xa831c66d2db43210, 0xb00327c898fb213f, 0xbf597fc7beef0ee4,
   0xc6e00bf33da88fc2, 0xd5a79147930aa725, 0x06ca6351e003826f, 0x142929670a0e6e70,
   0x27b70a8546d22ffc, 0x2e1b21385c26c926, 0x4d2c6dfc5ac42aed, 0x53380d139d95b3df,
   0x650a73548baf63de, 0x766a0abb3c77b2a8, 0x81c2c92e47edaee6, 0x92722c851482353b] : List Nat) ++
  ([0xa2bfe8a14cf10364, 0xa81a664bbc423001, 0xc24b8b70d0f89791, 0xc76c51a30654be30,
   0xd192e819d6ef5218, 0xd69906245565a910, 0xf40e35855771202a, 0x106aa07032bbd1b8,
   0x19a4c116b8d2d0c8, 0x1e376c085141ab53, 0x2748774cdf8eeb99, 0x34b0bcb5e19b48a8,
   0x391c0cb3c5c95a63, 0x4ed8aa4ae3418acb, 0x5b9cca4f7763e373, 0x682e6ff3d6b2b8a3,
   0x748f82ee5defb2fc, 0x78a5636f43172f60, 0x84c87814a1f0ab72, 0x8cc702081a6439ec,
   0x90befffa23631e28, 0xa4506cebde82bde9, 0xbef9a3f7b2c67915, 0xc67178f2e372532b,
   0xca273eceea26619c, 0xd186b8c721c0c207, 0xeada7dd6cde0eb1e, 0xf57d4f7fee6ed178,
   0x06f067aa72176fba, 0x0a637dc5a2c898a6, 0x113f9804bef90dae, 0x1b710b35131c471b,
   0x28db77f523047d84, 0x32caab7b40c72493, 0x3c9ebe0a15c9bebc, 0x431d67c49c100d4c,
   0x4cc5d4becb3e42b6, 0x597f299cfc657e2a, 0x5fcb6fab3ad6faec, 0x6c44198c4a475817] : List Nat)

/-- The initial hash value of SHA-384. -/
def shaH0 : List Nat := [0xcbbb9d5dc1059ed8, 0x629a292a367cd507, 0x9159015a3070dd17, 0x152fecd8f70e5939, 0x67332667ffc00b31, 0x8eb44a8768581511, 0xdb0c2e0d64f98fa7, 0x47b5481dbefa4fa4]

/-- Rotation of a 64-bit word to the right. -/
def rotr64 (x n : Nat) : Nat := (x / 2 ^ n + x * 2 ^ (64 - n)) % 2 ^ 64

/-- The message schedule: 64 words after the first 16, built newest first. -/
def shaSched : Nat → List Nat → List Nat
  | 0, w => w
  | n + 1, w =>
    let g (i : Nat) : Nat := nthD w i 0
    let s0 := rotr64 (g 14) 1 ^^^ rotr64 (g 14) 8 ^^^ (g 14 / 2 ^ 7)
    let s1 := rotr64 (g 1) 19 ^^^ rotr64 (g 1) 61 ^^^ (g 1 / 2 ^ 6)
    shaSched n (((g 15 + s0 + g 6 + s1) % 2 ^ 64) :: w)

/-- One round on the eight working words. -/
def shaRound (h : List Nat) (kw : Nat × Nat) : List Nat :=
  match h with
  | [a, b, c, d, e, f, g, hh] =>
    let s1 := rotr64 e 14 ^^^ rotr64 e 18 ^^^ rotr64 e 41
    let ch := (e &&& f) ^^^ ((2 ^ 64 - 1 - e) &&& g)
    let t1 := (hh + s1 + ch + kw.1 + kw.2) % 2 ^ 64
    let s0 := rotr64 a 28 ^^^ rotr64 a 34 ^^^ rotr64 a 39
    let maj := (a &&& b) ^^^ (a &&& c) ^^^ (b &&& c)
    [(t1 + s0 + maj) % 2 ^ 64, a, b, c, (d + t1) % 2 ^ 64, e, f, g]
  | _ => h

/-- One 128-byte block. -/
def shaBlock (h : List Nat) (blk : List Byte) : List Nat :=
  let w := (List.range 16).map (fun i => beNat (slice blk (8 * i) 8))
  let r := ((shaK.zip (shaSched 64 w.reverse).reverse)).foldl shaRound h
  (h.zip r).map (fun p => (p.1 + p.2) % 2 ^ 64)

/-- n blocks from the front of a byte list. -/
def shaBlocks : Nat → List Byte → List Nat → List Nat
  | 0, _, h => h
  | n + 1, m, h => shaBlocks n (m.drop 128) (shaBlock h (m.take 128))

/-- SHA-384 of a byte list, 48 bytes. -/
def sha384 (m : List Byte) : List Byte :=
  let pad := m ++ [0x80] ++ List.replicate ((239 - m.length % 128) % 128) 0 ++ beBytes 16 (8 * m.length)
  ((shaBlocks (pad.length / 128) pad shaH0).take 6).flatMap (beBytes 8)

/-! ### ECDSA P-384 (FIPS 186-5) -/

/-- The field prime of P-384. -/
def p384 : Nat := 2 ^ 384 - 2 ^ 128 - 2 ^ 96 + 2 ^ 32 - 1
/-- The group order of P-384. -/
def n384 : Nat := 0xffffffffffffffffffffffffffffffffffffffffffffffffc7634d81f4372ddf581a0db248b0a77aecec196accc52973
/-- The curve coefficient b of P-384. -/
def b384 : Nat := 0xb3312fa7e23ee7e4988e056be3f82d19181d9c6efe8141120314088f5013875ac656398d8a2ed19d2a85c8edd3ec2aef
/-- The generator of P-384. -/
def g384 : Nat × Nat :=
  (0xaa87ca22be8b05378eb1c71ef320ad746e1d3b628ba79b9859f741e082542a385502f25dbf55296c3a545e3872760ab7,
   0x3617de4a96262c6f5d9e98bf9292dc29f8f41dbd289a147ce9da3113b5f0b8c00a60b1ce1d7e819d7a431d7c90ea0e5f)

/-- x ^ e mod m over fuel bits of e. -/
def powMod (m : Nat) : Nat → Nat → Nat → Nat
  | 0, _, _ => 1 % m
  | f + 1, x, e =>
    let r := powMod m f (x * x % m) (e / 2)
    if e % 2 = 1 then r * x % m else r

/-- The inverse modulo a prime. -/
def invMod (m x : Nat) : Nat := powMod m 384 (x % m) (m - 2)

/-- Addition of points of P-384; none is the point at infinity. -/
def ecAdd (P Q : Option (Nat × Nat)) : Option (Nat × Nat) :=
  match P, Q with
  | none, q => q
  | p, none => p
  | some (x1, y1), some (x2, y2) =>
    if x1 = x2 ∧ (y1 + y2) % p384 = 0 then none
    else
      let l := if x1 = x2 then (3 * x1 * x1 + p384 - 3) % p384 * invMod p384 (2 * y1) % p384
        else (y2 + p384 - y1) % p384 * invMod p384 (x2 + p384 - x1) % p384
      let x := (l * l + 2 * p384 - x1 - x2) % p384
      some (x, (l * ((x1 + p384 - x) % p384) + p384 - y1) % p384)

/-- k times a point, over fuel bits of k. -/
def ecMul : Nat → Nat → Option (Nat × Nat) → Option (Nat × Nat)
  | 0, _, _ => none
  | f + 1, k, P =>
    let r := ecMul f (k / 2) (ecAdd P P)
    if k % 2 = 1 then ecAdd P r else r

/-- The verification of an ECDSA P-384 signature (r, s) under a public key, with a 384-bit hash value. -/
def ecdsaVerify (hash qx qy r s : Nat) : Bool :=
  let onCurve := qx < p384 && qy < p384 && (qy * qy % p384 == (qx * qx % p384 * qx + (p384 - 3) * qx + b384) % p384)
  let w := invMod n384 s
  let u1 := hash % n384 * w % n384
  let u2 := r * w % n384
  onCurve && 0 < r && r < n384 && 0 < s && s < n384 &&
    (match ecAdd (ecMul 384 u1 (some g384)) (ecMul 384 u2 (some (qx, qy))) with
     | none => false
     | some (x, _) => x % n384 == r)

/-! ### AES-256 (FIPS 197) -/

/-- Multiplication by x in GF(2^8). -/
def gfX (a : Nat) : Nat := if 128 ≤ a then (2 * a % 256) ^^^ 0x1B else 2 * a

/-- Multiplication in GF(2^8), over fuel bits of the second factor. -/
def gfMul : Nat → Nat → Nat → Nat
  | 0, _, _ => 0
  | f + 1, a, b => (if b % 2 = 1 then a else 0) ^^^ gfMul f (gfX a) (b / 2)

/-- a ^ 254 in GF(2^8): the inverse, and 0 of 0. -/
def gfInv (a : Nat) : Nat :=
  let a2 := gfMul 8 a a
  let a4 := gfMul 8 a2 a2
  let a8 := gfMul 8 a4 a4
  let a16 := gfMul 8 a8 a8
  let a32 := gfMul 8 a16 a16
  let a64 := gfMul 8 a32 a32
  let a128 := gfMul 8 a64 a64
  gfMul 8 a128 (gfMul 8 a64 (gfMul 8 a32 (gfMul 8 a16 (gfMul 8 a8 (gfMul 8 a4 a2)))))

/-- Rotation of a byte to the left. -/
def rotl8 (a n : Nat) : Nat := (a * 2 ^ n + a / 2 ^ (8 - n)) % 256

/-- The S-box. -/
def aesSbox (a : Nat) : Nat :=
  let i := gfInv a
  i ^^^ rotl8 i 1 ^^^ rotl8 i 2 ^^^ rotl8 i 3 ^^^ rotl8 i 4 ^^^ 0x63

/-- The inverse S-box. -/
def aesSboxInv (b : Nat) : Nat := gfInv (rotl8 b 1 ^^^ rotl8 b 3 ^^^ rotl8 b 6 ^^^ 0x05)

/-- Words 8 to 59 of the key schedule, newest first; n words remain. -/
def aesSched : Nat → Nat → List (List Nat) → List (List Nat)
  | 0, _, w => w
  | n + 1, i, w =>
    let prev := nthD w 0 []
    let t := if i % 8 = 0 then
        (match (prev.drop 1 ++ prev.take 1).map aesSbox with
         | x :: xs => (x ^^^ 2 ^ (i / 8 - 1)) :: xs
         | [] => [])
      else if i % 8 = 4 then prev.map aesSbox
      else prev
    aesSched n (i + 1) (((nthD w 7 []).zip t).map (fun p => p.1 ^^^ p.2) :: w)

/-- The 15 round keys of a 32-byte key, 16 bytes each. -/
def aesKeys (key : List Nat) : List (List Nat) :=
  let w0 := (List.range 8).map (fun i => (key.drop (4 * i)).take 4)
  let w := (aesSched 52 8 w0.reverse).reverse.flatten
  (List.range 15).map (fun r => (w.drop (16 * r)).take 16)

/-- Byte-wise exclusive or. -/
def xorL (a b : List Nat) : List Nat := (a.zip b).map (fun p => p.1 ^^^ p.2)

/-- ShiftRows, and its inverse by the step 13. -/
def aesShift (step : Nat) (st : List Nat) : List Nat := (List.range 16).map (fun i => nthD st ((i * (if step = 5 then 5 else 13)) % 16) 0)

/-- MixColumns with the given row of coefficients. -/
def aesMix (co : List Nat) (st : List Nat) : List Nat :=
  (List.range 16).map (fun i =>
    let c := (st.drop (i / 4 * 4)).take 4
    (List.range 4).foldl (fun a j => a ^^^ gfMul 8 (nthD c j 0) (nthD co ((j + 4 - i % 4) % 4) 0)) 0)

/-- AES-256 encryption of a 16-byte block. -/
def aesEnc (key blk : List Nat) : List Nat :=
  let rk := aesKeys key
  let st := xorL blk (nthD rk 0 [])
  let st := (List.range 13).foldl (fun st r =>
    xorL (aesMix [2, 3, 1, 1] (aesShift 5 (st.map aesSbox))) (nthD rk (r + 1) [])) st
  xorL (aesShift 5 (st.map aesSbox)) (nthD rk 14 [])

/-- AES-256 decryption of a 16-byte block. -/
def aesDec (key blk : List Nat) : List Nat :=
  let rk := aesKeys key
  let st := (aesShift 13 (xorL blk (nthD rk 14 []))).map aesSboxInv
  let st := (List.range 13).foldl (fun st r =>
    (aesShift 13 (aesMix [14, 11, 13, 9] (xorL st (nthD rk (13 - r) [])))).map aesSboxInv) st
  xorL st (nthD rk 0 [])

/-- The n bytes of a number, lowest first, as numbers. -/
def natBytes (n v : Nat) : List Nat := (leBytes n v).map BitVec.toNat

/-! ### XTS-AES-256 (IEEE 1619) -/

/-- Multiplication of a 128-bit tweak by alpha. -/
def xtsAlpha (t : Nat) : Nat := (2 * t % 2 ^ 128) ^^^ (if 2 ^ 127 ≤ t then 0x87 else 0)

/-- The tweak of block j of data unit number du under the second half of a 512-bit key pair. -/
def xtsTweak (key : Nat) (du j : Nat) : Nat :=
  let t0 := leNat ((aesEnc (natBytes 32 (key / 2 ^ 256)) (natBytes 16 du)).map (BitVec.ofNat 8))
  (List.range j).foldl (fun t _ => xtsAlpha t) t0

/-- One 16-byte block of a data unit encrypted or decrypted; key holds K1 in its low 256 bits, K2 in its high ones. -/
def xtsBlock (enc : Bool) (key du j : Nat) (blk : List Byte) : List Byte :=
  let t := natBytes 16 (xtsTweak key du j)
  let k1 := natBytes 32 (key % 2 ^ 256)
  let x := xorL (blk.map BitVec.toNat) t
  (xorL (if enc then aesEnc k1 x else aesDec k1 x) t).map (BitVec.ofNat 8)

/-! ### The SP 800-38F key wrap -/

/-- One unwrap step t of a list of n semiblocks with register a. -/
def kwStep (kek : List Nat) (n t : Nat) (st : Nat × List Nat) : Nat × List Nat :=
  let i := (t - 1) % n
  let blk := (beBytes 8 (st.1 ^^^ t) ++ beBytes 8 (nthD st.2 i 0)).map BitVec.toNat
  let d := (aesDec kek blk).map (BitVec.ofNat 8)
  (beNat (d.take 8), setNth st.2 i (beNat (d.drop 8)))

/-- KW-AD: the unwrapped bytes, or none where the integrity check fails. -/
def kwUnwrap (kek : Nat) (c : List Byte) : Option (List Byte) :=
  let n := c.length / 8 - 1
  let a := beNat (c.take 8)
  let r := (List.range n).map (fun i => beNat (slice c (8 * (i + 1)) 8))
  let st := (List.range (6 * n)).foldl (fun st k => kwStep (natBytes 32 kek) n (6 * n - k) st) (a, r)
  if st.1 = 0xA6A6A6A6A6A6A6A6 then some (st.2.flatMap (beBytes 8)) else none

/-! ### GCM with AES-256 (SP 800-38D) -/

/-- Multiplication in GF(2^128) of GCM, over fuel bits of x from its most significant one. -/
def ghMul : Nat → Nat → Nat → Nat
  | 0, _, _ => 0
  | f + 1, x, v =>
    (if x / 2 ^ f % 2 = 1 then v else 0) ^^^
      ghMul f x (if v % 2 = 1 then (v / 2) ^^^ (0xE1 * 2 ^ 120) else v / 2)

/-- The GHASH of a byte list padded to whole blocks. -/
def ghash (h : Nat) (m : List Byte) : Nat :=
  (List.range ((m.length + 15) / 16)).foldl (fun y i => ghMul 128 (y ^^^ beNat (slice m (16 * i) 16)) h) 0

/-- A byte list padded with zeros to whole 16-byte blocks. -/
def pad16 (m : List Byte) : List Byte := m ++ List.replicate ((16 - m.length % 16) % 16) 0

/-- The key stream of GCM: n blocks from counter c. -/
def gcmCtr (key : List Nat) (iv : Nat) : Nat → Nat → List Byte
  | 0, _ => []
  | n + 1, c => (aesEnc key ((beBytes 12 iv ++ beBytes 4 c).map BitVec.toNat)).map (BitVec.ofNat 8) ++ gcmCtr key iv n (c + 1)

/-- The text of GCM under a 256-bit key and a 96-bit nonce: encryption and decryption are the same. -/
def gcmText (key iv : Nat) (m : List Byte) : List Byte :=
  (m.zip (gcmCtr (natBytes 32 key) iv ((m.length + 15) / 16) 2)).map (fun p => p.1 ^^^ p.2)

/-- The 128-bit tag of GCM over additional data and ciphertext. -/
def gcmTag (key iv : Nat) (aad ct : List Byte) : Nat :=
  let k := natBytes 32 key
  let h := beNat ((aesEnc k (List.replicate 16 0)).map (BitVec.ofNat 8))
  let s := ghash h (pad16 aad ++ pad16 ct ++ beBytes 8 (8 * aad.length) ++ beBytes 8 (8 * ct.length))
  s ^^^ beNat ((aesEnc k ((beBytes 12 iv ++ beBytes 4 1).map BitVec.toNat)).map (BitVec.ofNat 8))

/-! ### Cyclic redundancy checks -/

/-- Eight steps of a reflected CRC. -/
def crcStep (poly : Nat) : Nat → Nat → Nat
  | 0, c => c
  | n + 1, c => crcStep poly n (if c % 2 = 1 then (c / 2) ^^^ poly else c / 2)

/-- A reflected CRC of w bits, initial and final value all ones. -/
def crcRefl (w poly : Nat) (m : List Byte) : Nat :=
  (m.foldl (fun c b => crcStep poly 8 (c ^^^ b.toNat)) (2 ^ w - 1)) ^^^ (2 ^ w - 1)

/-- CRC-32C, reflected polynomial 0x82F63B78 (R574). -/
def crc32c (m : List Byte) : Nat := crcRefl 32 0x82F63B78 m

/-- A CRC of w bits that is not reflected, initial value and final XOR all ones, one bit at a time from the highest. -/
def crcBits (w poly : Nat) (c : Nat) (b : Byte) : Nat :=
  (List.range 8).foldl (fun c i =>
    let top := (c / 2 ^ (w - 1)) % 2
    let inb := (b.toNat / 2 ^ (7 - i)) % 2
    let c := (2 * c) % 2 ^ w
    if top = inb then c else c ^^^ poly) c
def crcPlain (w poly : Nat) (m : List Byte) : Nat := (m.foldl (crcBits w poly) (2 ^ w - 1)) ^^^ (2 ^ w - 1)

/-- The flit CRC (R565) and the CRC-64 of R680. -/
def crc32 (m : List Byte) : Nat := crcPlain 32 0x04C11DB7 m
def crc64 (m : List Byte) : Nat := crcPlain 64 0x42F0E1EBA9EA3693 m

end Sys2Proof.Machine
end

