-- ==== Sys2Proof/Machine/ImageCheck.lean ====
section
/-! DEFINITION. Reading a KINDLING image from its bytes and checking it: the layout of Tables 3-1 to 3-14 and the
validation rules of Table 3-16 in the order of R120. A failure is a fault code with its place: the LOCUS of Table 17-5
and a byte offset. -/
namespace Sys2Proof.Machine

/-- Where a check failed: LOCUS and byte offset (Table 17-5). -/
structure Place where
  locus : Nat := 0
  off : Nat := 0
deriving DecidableEq, Repr

/-- A failed validation: its code of Table 3-16 and its place. -/
structure ImgFault where
  code : Nat := 0
  place : Place := {}
deriving DecidableEq, Repr

/-- The place with the lowest byte offset (R120). -/
def firstPlace : List Place → Option Place
  | [] => none
  | p :: rest => match firstPlace rest with
    | none => some p
    | some q => if q.off < p.off then some q else some p

/-- The first failure of a list of checks in their order (R120): each check gives the places that break its code. -/
def firstFault : List (Nat × List Place) → Option ImgFault
  | [] => none
  | (c, ps) :: rest => match firstPlace ps with
    | some p => some ⟨c, p⟩
    | none => firstFault rest

/-- One section found in the image (Table 3-2): its header's offset, type, OPTIONAL bit, reserved bits and body length. -/
structure Sec where
  off : Nat := 0
  typ : Nat := 0
  optional : Bool := false
  rsv : Nat := 0
  len : Nat := 0
deriving DecidableEq, Repr

/-- What the device knows when it validates (R116, R118, R120). -/
structure ImgEnv where
  com : Struct := {}
  comRev : Nat := 0
  keySlots : Nat := 4
  revoked : Nat := 0
  hashes : KMap Nat := []
  uid : Nat := 0
  arb : Nat := 0
  fwMajor : Nat := 0
  fwMinor : Nat := 0
  goodSpares : Nat := 0
  keks : KMap Nat := []
  /-- Ranges whose re-key is RUNNING or PAUSED: range, held KEY_ID of CURRENT and of NEXT (R446). -/
  busy : List (Nat × Option Nat × Option Nat) := []
deriving DecidableEq, Repr

/-- A check at a place. -/
def breaks (b : Bool) (locus off : Nat) : List Place := if b then [⟨locus, off⟩] else []

/-- A reserved field of n bytes at an offset under a mask (R10, R17). -/
def rsvAt (b : List Byte) (locus off n mask : Nat) : List Place := breaks ((leAt b off n &&& mask) != 0) locus off

/-- The sections from an offset up to SIG_OFFSET; the flag tells that they fill the space exactly (R91, R93). -/
def walkSecs (b : List Byte) (sig : Nat) : Nat → Nat → List Sec × List Place
  | 0, off => ([], breaks (off != sig) 0 off)
  | f + 1, off =>
    if off = sig then ([], [])
    else if sig < off + 8 then ([], [⟨leAt b off 2, off⟩])
    else
      let w := leAt b off 4
      let len := leAt b (off + 4) 4
      let s : Sec := { off := off, typ := bits w 0 16, optional := bit w 16, rsv := bits w 17 15, len := len }
      if len % 8 ≠ 0 ∨ sig < off + 8 + len then ([s], [⟨s.typ, off⟩])
      else
        let (ss, ps) := walkSecs b sig f (off + 8 + len)
        (s :: ss, ps)

/-- Body length that a section's layout admits (Tables 3-4 to 3-13); log entry 8. -/
def Sec.lenOk (b : List Byte) (s : Sec) : Bool :=
  match s.typ with
  | 0x0001 => s.len % 32 == 0
  | 0x0002 | 0x0003 | 0x0007 | 0x000D => s.len % 8 == 0
  | 0x0004 => s.len % 1032 == 0
  | 0x0005 => s.len % 16392 == 0
  | 0x0006 => s.len == 104
  | 0x0008 => 776 ≤ s.len && s.len == 776 + 24 * leAt b (s.off + 776) 8
  | 0x0009 => s.len % 96 == 0
  | 0x000A => 24 ≤ s.len && s.len == 24 + 24 * leAt b (s.off + 12) 4
  | 0x000B =>
    192 ≤ s.len &&
      s.len == 192 + 512 * ((List.range 24).filter (fun i => leAt b (s.off + 8 + 8 * i) 1 % 4 == 2)).length
  | 0x000C => s.len == 24
  | _ => true

/-- The section of a type, where present. -/
def findSec (ss : List Sec) (t : Nat) : Option Sec := ss.find? (fun s => s.typ == t)

/-- Offsets of the n-byte entries of a section's body. -/
def Sec.entries (s : Sec) (n : Nat) : List Nat := (List.range (s.len / n)).map (fun i => s.off + 8 + n * i)

/-! ### Reading the sections -/

/-- A PART_MAP entry (Table 3-4). -/
def readPart (b : List Byte) (o : Nat) : PartEnt :=
  let w := leAt b o 4
  let v := leAt b (o + 4) 4
  { part := bits w 0 6, mirrored := bit w 8, hbmKd := bits w 16 16, farKd := bits v 0 8, quotaMax := bits v 8 10
    flows := leAt b (o + 8) 2, lntCores := leAt b (o + 10) 2, routeSets := leAt b (o + 16) 8 }

/-- A TILE_ASSIGN entry (Table 3-5). -/
def readRect (b : List Byte) (o : Nat) : TileRect :=
  let w := leAt b o 8
  { part := bits w 0 6, x0 := bits w 8 6, y0 := bits w 16 5, x1 := bits w 32 6, y1 := bits w 40 5 }

/-- A TILE_REMAP entry (Table 3-6). -/
def readRemap (b : List Byte) (o : Nat) : RemapEnt :=
  let w := leAt b o 8
  { tx := bits w 0 6, ty := bits w 8 5, lend := bits w 16 2 == 1, die := bits w 20 2, spare := bits w 24 4, lendPart := bits w 32 6 }

/-- A route set (Table 3-7). -/
def readRoute (b : List Byte) (o : Nat) : RouteSet :=
  let h := leAt b o 8
  { set := bits h 0 6, owner := bits h 8 6, flows := bits h 16 16
    entries := (List.range 256).map (fun i => let e := leAt b (o + 8 + 4 * i) 4; (bits e 0 12, bits e 16 12)) }

/-- A slot entry (Table 3-8). -/
def readSlot (e : Nat) : SlotEnt :=
  { kind := match bits e 14 2 with | 0 => .idle | 1 => .slack | 2 => .flow | _ => .backup
    part := bits e 8 6, flow := bits e 4 4 }

/-- A slot block (Table 3-8). -/
def readBlock (b : List Byte) (o : Nat) : SlotBlock :=
  { port := leAt b o 1 % 16
    tx := (List.range 4096).map (fun i => readSlot (leAt b (o + 8 + 2 * i) 2))
    rx := (List.range 4096).map (fun i => readSlot (leAt b (o + 8200 + 2 * i) 2)) }

/-- LINK_PLAN (Table 3-9). -/
def readLink (b : List Byte) (o : Nat) : LinkPlan :=
  let w := leAt b o 4
  { sizeX := bits w 0 4, sizeY := bits w 4 4, sizeZ := bits w 8 3, self := bits w 16 8, root := bits w 24 8
    slotLen := bits (leAt b (o + 4) 4) 0 12
    ports := (List.range 12).map (fun p =>
      let v := leAt b (o + 8 + 8 * p) 8
      { en := bit v 0, neigh := bits v 8 8, neighPort := bits v 16 4, lanes := bits v 24 8, e2e := bits v 32 6 }) }

/-- A key-range entry (Table 3-10). -/
def readRange (b : List Byte) (o : Nat) : KeyRange :=
  { base := leAt b o 8, size := leAt b (o + 8) 8, lbnBase := leAt b (o + 16) 8, valid := bit (leAt b (o + 24) 8) 0 }

/-- A window entry (Table 3-10). -/
def readWindow (b : List Byte) (o : Nat) : Window :=
  let v := leAt b (o + 16) 8
  { base := leAt b o 8, size := leAt b (o + 8) 8, owner := bits v 0 6, provider := bit v 7, keyRange := bits v 8 5 }

/-- A KEY_WRAPS entry (Table 3-11). -/
def readWrap (b : List Byte) (o : Nat) : WrapEnt :=
  let w := leAt b o 4
  { target := bits w 0 5, next := bit w 8, kek := bits w 16 2, keyId := leAt b (o + 4) 4
    wrapped := slice b (o + 8) (if bits w 0 5 < 24 then 72 else 40) }

/-- TWIN_PLAN (Table 3-12). -/
def readTwin (b : List Byte) (o : Nat) : TwinPlan :=
  let w := leAt b o 8
  { twin := bits w 0 8, share := bits w 8 6, rxBase := leAt b (o + 8) 8, rxSize := leAt b (o + 16) 8
    regions := (List.range (bits w 32 32)).map (fun r =>
      { base := leAt b (o + 24 + 24 * r) 8, size := leAt b (o + 32 + 24 * r) 8, part := leAt b (o + 40 + 24 * r) 8 % 64 }) }

/-- POWER_PLAN: the domain words, then the maps of the SLOT_DRIVEN domains in index order (R113). -/
def readPower (b : List Byte) (o : Nat) : List DomPlan :=
  let pol (i : Nat) : Nat := leAt b (o + 8 * i) 1 % 4
  (List.range 24).map (fun i =>
    let w := leAt b (o + 8 * i) 8
    let k := ((List.range i).filter (fun j => pol j == 2)).length
    { policy := bits w 0 2, wakeLead := bits w 4 12, hyst := bits w 16 12, minDoze := bits w 28 12
      awake := if pol i = 2 then leAt b (o + 192 + 512 * k) 512 else 0 })

/-- TELEMETRY_PLAN (Table 3-13). -/
def readTele (b : List Byte) (o : Nat) : TelePlan :=
  let w := leAt b o 8
  { sampleN := bits w 0 5, occMap := bit w 8, owner := bits w 9 6, all := bit w 15
    ringBase := leAt b (o + 8) 8, ringBytes := leAt b (o + 16) 4 }

/-- A VF_BIND entry (R114). -/
def readBind (b : List Byte) (o : Nat) : BindEnt :=
  let w := leAt b o 8
  { part := bits w 0 6, pf := bit w 7, vf := bits w 16 6 }

/-- The image as data, from its bytes and its sections (Tables 3-1 to 3-14). -/
def readImage (b : List Byte) (ss : List Sec) (sig : Nat) : Image :=
  let body (t n : Nat) : Option (List Nat) := (findSec ss t).map (fun s => s.entries n)
  let one (t : Nat) : Option Nat := (findSec ss t).map (fun s => s.off + 8)
  let w8 := leAt b 8 4
  let mem := one 0x0008
  { target := bits w8 0 8, bootLoad := bit w8 8, arbAdvance := bit w8 9
    epoch := leAt b 0x14 4, arb := leAt b 0x18 4, partRev := leAt b 0x20 4
    fwMinMinor := leAt b 0x24 2, fwMinMajor := leAt b 0x26 2, uid := leAt b 0x28 8
    domainDigest := leAt b 0x30 48, baseDigest := leAt b 0x60 48
    digest := leNat (sha384 (b.take (sig + 0x68)))
    partMap := ((body 0x0001 32).getD []).map (readPart b)
    tiles := (body 0x0002 8).map (·.map (readRect b))
    remap := (body 0x0003 8).map (·.map (readRemap b))
    routes := (body 0x0004 1032).map (·.map (readRoute b))
    slots := (body 0x0005 16392).map (·.map (readBlock b))
    link := ((one 0x0006).map (readLink b)).getD {}
    quotas := (body 0x0007 8).map (·.map (fun o => let w := leAt b o 8; (bits w 0 6, bits w 16 10)))
    ranges := (mem.map (fun o => (List.range 24).map (fun i => readRange b (o + 32 * i)))).getD []
    windows := (mem.map (fun o => (List.range (leAt b (o + 768) 8)).map (fun i => readWindow b (o + 776 + 24 * i)))).getD []
    wraps := (body 0x0009 96).map (·.map (readWrap b))
    twin := (one 0x000A).map (readTwin b)
    power := ((one 0x000B).map (readPower b)).getD []
    tele := (one 0x000C).map (readTele b)
    binds := ((body 0x000D 8).getD []).map (readBind b) }

/-! ### Code 0x04 in the sections (R10, R17) -/

/-- The reserved fields and encodings of one section (R10). -/
def Sec.reserved (b : List Byte) (s : Sec) : List Place :=
  let t := s.typ
  let o := s.off + 8
  let e (n : Nat) (f : Nat → List Place) : List Place := (s.entries n).flatMap f
  let m64 := 2 ^ 64 - 1
  breaks (s.rsv != 0) t s.off ++
  match t with
  | 0x0001 => e 32 (fun o => rsvAt b t o 4 0xFEC0 ++ rsvAt b t (o + 4) 4 0xFFFC0000 ++ rsvAt b t (o + 12) 4 0xFFFFFFFF
      ++ rsvAt b t (o + 24) 8 m64)
  | 0x0002 => e 8 (fun o => rsvAt b t o 8 0xFFFFE0C0FFE0C0C0)
  | 0x0003 => e 8 (fun o =>
      let w := leAt b o 8
      let k := bits w 16 2
      breaks ((w &&& 0xFFFFFFC0F0CCE0C0) != 0 || 2 ≤ k || (k == 1 && (w &&& 0x1F3F) != 0)
        || (k == 0 && (w &&& 0x3F00000000) != 0)) t o)
  | 0x0004 => e 1032 (fun o => rsvAt b t o 8 0xFFFFFFFF0000C0C0
      ++ (List.range 256).flatMap (fun i => rsvAt b t (o + 8 + 4 * i) 4 0xF000F000))
  | 0x0005 => e 16392 (fun o => rsvAt b t o 8 (m64 - 0xF)
      ++ (List.range 8192).flatMap (fun i => rsvAt b t (o + 8 + 2 * i) 2 0x000F))
  | 0x0006 => rsvAt b t o 4 0xF800 ++ rsvAt b t (o + 4) 4 0xFFFFF000
      ++ (List.range 12).flatMap (fun p => rsvAt b t (o + 8 + 8 * p) 8 0xFFFFFFC000F000FE)
  | 0x0007 => e 8 (fun o => rsvAt b t o 8 0xFFFFFFFFFC00FFC0)
  | 0x0008 => (List.range 24).flatMap (fun i => rsvAt b t (o + 32 * i + 24) 8 (m64 - 1))
      ++ (List.range (leAt b (o + 768) 8)).flatMap (fun i => rsvAt b t (o + 776 + 24 * i + 16) 8 0xFFFFFFFFFFFFE040)
  | 0x0009 => e 96 (fun o =>
      let w := leAt b o 4
      let g := bits w 0 5
      breaks ((w &&& 0xFFFCFEE0) != 0 || 26 ≤ g || (24 ≤ g && bit w 8)) t o
      ++ breaks (24 ≤ g && leAt b (o + 48) 32 != 0) t (o + 48) ++ breaks (leAt b (o + 80) 16 != 0) t (o + 80))
  | 0x000A => rsvAt b t o 4 0xFFFFC000
      ++ (List.range (leAt b (o + 4) 4)).flatMap (fun r => rsvAt b t (o + 40 + 24 * r) 8 (m64 - 63))
  | 0x000B => (List.range 24).flatMap (fun i => rsvAt b t (o + 8 * i) 8 0xFFFFFF000000000C)
  | 0x000C => rsvAt b t o 8 0xFFFFFFFFFFFF00E0 ++ rsvAt b t (o + 20) 4 0xFFFFFFFF
  | 0x000D => e 8 (fun o => rsvAt b t o 8 0xFFFFFFFFFFC0FF40)
  | _ => []

/-! ### The contents (codes 0x15 to 0x25) -/

/-- Indices i < j of a list whose elements stand in a relation: the later ones. -/
def clashes {α : Type} (r : α → α → Bool) : List α → List Nat
  | l => (List.range l.length).filter (fun j =>
      (List.range j).any (fun i => match l[i]?, l[j]? with | some x, some y => r x y | _, _ => false))

/-- 2 MiB. -/
def mib2 : Nat := 2 ^ 21

/-- The end of HBM (R740). -/
def hbmEnd : Nat := 0x004800000000
/-- The far tier's span (R740). -/
def farBase : Nat := 0x010000000000
/-- The end of the far tier's span (R740). -/
def farEnd : Nat := 0x090000000000

/-- The compute die of a logical tile (R29). -/
def dieOf (x y : Nat) : Nat := x / 24 + 2 * (y / 16)

/-- The quadrant of a logical tile (R56). -/
def quadOf (x y : Nat) : Nat := 4 * dieOf x y + (x % 24) / 12 + 2 * ((y % 16) / 8)

/-- The direction of a torus port: 0 +X, 1 -X, 2 +Y, 3 -Y, 4 +Z, 5 -Z (Table 14-1). -/
def portDir (p : Nat) : Nat := p / 2

/-- The coordinate adjacent to a coordinate in a port's direction, modulo the domain size (R106, R560). -/
def LinkPlan.adjacent (l : LinkPlan) (p : Nat) : Nat :=
  let x := l.self % 8
  let y := l.self / 8 % 8
  let z := l.self / 64
  match portDir p with
  | 0 => (x + 1) % l.sizeX + 8 * y + 64 * z
  | 1 => (x + l.sizeX - 1) % l.sizeX + 8 * y + 64 * z
  | 2 => x + 8 * ((y + 1) % l.sizeY) + 64 * z
  | 3 => x + 8 * ((y + l.sizeY - 1) % l.sizeY) + 64 * z
  | 4 => x + 8 * y + 64 * ((z + 1) % l.sizeZ)
  | _ => x + 8 * y + 64 * ((z + l.sizeZ - 1) % l.sizeZ)

/-- A coordinate lies inside the domain (R106). -/
def LinkPlan.inside (l : LinkPlan) (c : Nat) : Bool := c % 8 < l.sizeX && c / 8 % 8 < l.sizeY && c / 64 < l.sizeZ

/-- The size of the dimension of a port. -/
def LinkPlan.dimSize (l : LinkPlan) (p : Nat) : Nat := match portDir p / 2 with | 0 => l.sizeX | 1 => l.sizeY | _ => l.sizeZ

/-- One port of LINK_PLAN breaks R106, R561 or the LANES values. -/
def LinkPlan.portBad (l : LinkPlan) (p : Nat) : Bool :=
  let e := nthD l.ports p {}
  e.en && (!(e.lanes == 0xFF || e.lanes == 0xF0 || e.lanes == 0x0F)
    || l.dimSize p ≤ 1 || e.neigh != l.adjacent p || 12 ≤ e.neighPort
    || portDir e.neighPort / 2 != portDir p / 2
    || (2 < l.dimSize p && portDir e.neighPort % 2 == portDir p % 2)
    || (List.range p).any (fun q => let f := nthD l.ports q {}; f.en && f.neigh == e.neigh && f.neighPort == e.neighPort))

/-- The number of set bits below n. -/
def popc (n v : Nat) : Nat := ((List.range n).filter (fun i => bit v i)).length

/-- The device physical span of a key range or window lies inside another. -/
def spanIn (a n lo hi : Nat) : Bool := lo ≤ a && a + n ≤ hi

/-- Two spans share a byte. -/
def spansMeet (a n b m : Nat) : Bool := a < b + m && b < a + n

/-- Codes 0x15 to 0x25 of an image, in ascending order, with the places that break each (R120, Table 3-16). -/
def contentChecks (env : ImgEnv) (_b : List Byte) (ss : List Sec) (im : Image) : List (Nat × List Place) :=
  let base := im.isBase
  let ctx : Image := if base then im else env.com.img
  let p := im.target
  let ents (t n : Nat) : List Nat := ((findSec ss t).map (fun s => s.entries n)).getD []
  let off (t n i : Nat) : Nat := nthD (ents t n) i 0
  let at_ (t n : Nat) (is : List Nat) : List Place := is.map (fun i => ⟨t, off t n i⟩)
  let body (t : Nat) : Nat := ((findSec ss t).map (fun s => s.off + 8)).getD 0
  let idx {α : Type} (l : List α) (f : α → Bool) : List Nat := (l.zipIdx.filter (fun e => f e.1)).map (·.2)
  let rects := im.tiles.getD []
  let remaps := im.remap.getD []
  let routes := im.routes.getD []
  let blocks := im.slots.getD []
  let wraps := im.wraps.getD []
  let quotas := im.quotas.getD []
  -- the committed remap the commit would produce (R98)
  let others : List RemapEnt := if base then [] else
    (env.com.img.remap.getD []) ++ ((env.com.parts.filter (fun e => e.1 != p)).map (fun e => e.2.remap.getD [])).flatten
  let ownerIn (img : Image) (x y : Nat) : Option Nat := ((img.tiles.getD []).find? (fun r => r.has x y)).map (·.part)
  let remapBad (i : Nat) (e : RemapEnt) : Bool :=
    let rest := others ++ (remaps.take i)
    let spareBad :=
      (let same := (rest.filter (fun f => f.die == e.die && f.spare == e.spare))
       same.any (fun f =>
         if f.lend == e.lend then true
         else
           let l := if f.lend then f else e
           let r := if f.lend then e else f
           ownerIn ctx r.tx r.ty != some l.lendPart))
    if e.lend then (ctx.ent? e.lendPart).isNone || !base || spareBad
    else
      48 ≤ e.tx || e.die != dieOf e.tx e.ty || !bit env.goodSpares (16 * e.die + e.spare) || spareBad
      || rest.any (fun f => !f.lend && f.tx == e.tx && f.ty == e.ty)
      || (!base && (ownerIn ctx e.tx e.ty != some p
           || !(env.com.img.remap.getD []).any (fun f => f.lend && f.die == e.die && f.spare == e.spare && f.lendPart == p)))
  let enPorts : Nat := ((List.range 12).map (fun q => if (nthD ctx.link.ports q {}).en then 2 ^ q else 0)).sum
  let routeBad (e : RouteSet) : Bool :=
    (e.entries.zipIdx).any (fun en =>
      let i := en.2
      let m := en.1.1 ||| en.1.2
      (m &&& (0xFFF - enPorts)) != 0 || ((i == ctx.link.self || !ctx.link.inside i) && m != 0))
    || (e.flows &&& (0xFFFF - ((ctx.ent? e.owner).map (·.flows)).getD 0)) != 0
    || !bit ((ctx.ent? e.owner).map (·.routeSets) |>.getD 0) e.set
  let setsOf (q f : Nat) : List RouteSet :=
    (if base then routes else if im.routes.isSome then routes else ctx.routes.getD []).filter (fun r => r.owner == q && bit r.flows f)
  let slotBad (port : Nat) (tx : Bool) (slot : Nat) (e : SlotEnt) : Bool :=
    let r103 := match e.kind with
      | .idle | .slack => e.part != 0 || e.flow != 0
      | .backup =>
        12 ≤ port || !bit (((ctx.ent? e.part).map (·.flows)).getD 0) e.flow || (ctx.ent? e.part).isNone
        || (tx && !(setsOf e.part e.flow).any (fun r => r.entries.any (fun en => bit en.2 port)))
      | .flow =>
        (ctx.ent? e.part).isNone
        || (if 12 ≤ port then e.flow != 0
            else !bit (((ctx.ent? e.part).map (·.flows)).getD 0) e.flow
              || (tx && !(setsOf e.part e.flow).any (fun r => r.entries.any (fun en => bit en.1 port))))
    let r105 := !base &&
      (let o := match ctx.block? port with
        | some bl => nthD (if tx then bl.tx else bl.rx) slot {}
        | none => defaultSlot slot
       e != o &&
         !((o.kind == .flow || o.kind == .backup) && o.part == p &&
           (e.kind == .idle || ((e.kind == .flow || e.kind == .backup) && e.part == p))))
    r103 || r105
  let blockPlaces (i : Nat) (bl : SlotBlock) : List Place :=
    let o := off 0x0005 16392 i
    breaks ((bl.port < 12 && !(nthD ctx.link.ports bl.port {}).en) || (12 ≤ bl.port && ctx.twin.isNone) || 14 ≤ bl.port
      || (blocks.take i).any (fun q => q.port == bl.port)) 0x0005 o
    ++ ((idx bl.tx.zipIdx (fun e => slotBad bl.port true e.2 e.1)).map (fun k => ⟨0x0005, o + 8 + 2 * k⟩))
    ++ ((idx bl.rx.zipIdx (fun e => slotBad bl.port false e.2 e.1)).map (fun k => ⟨0x0005, o + 8200 + 2 * k⟩))
  let slackPlaces (i : Nat) (bl : SlotBlock) : List Place :=
    ((List.range 256).filter (fun g => !((bl.tx.drop (16 * g)).take 16).any (fun e => e.kind == .slack))).map
      (fun g => ⟨0x0005, off 0x0005 16392 i + 8 + 32 * g⟩)
  let l := im.link
  let rangeBad (i : Nat) (r : KeyRange) : Bool :=
    r.valid && (r.base % mib2 != 0 || r.size % mib2 != 0 || r.size == 0
      || !(if i < 16 then spanIn r.base r.size 0 hbmEnd else spanIn r.base r.size farBase farEnd)
      || ((im.ranges.take i).any (fun q => q.valid && spansMeet q.base q.size r.base r.size)))
  let winBad (i : Nat) (w : Window) : Bool :=
    let r := nthD im.ranges w.keyRange {}
    w.base % mib2 != 0 || w.size % mib2 != 0 || w.size == 0 || 24 ≤ w.keyRange || !r.valid
      || !spanIn w.base w.size r.base (r.base + r.size)
      || (w.provider && w.owner != 0)
      || (!w.provider && !bit ((((im.ent? w.owner).map (·.hbmKd)).getD 0) + 2 ^ 16 * (((im.ent? w.owner).map (·.farKd)).getD 0)) w.keyRange)
      || ((im.windows.take i).any (fun q => spansMeet q.base q.size w.base w.size)) || 64 ≤ i
  let kdOf (q k : Nat) : Bool := match ctx.ent? q with | some e => bit (e.hbmKd + 2 ^ 16 * e.farKd) k | none => false
  let keyBad (i : Nat) (w : WrapEnt) : Bool :=
    ((wraps.take i).any (fun q => q.target == w.target && q.next == w.next))
    || (w.target < 24 && !(nthD ctx.ranges w.target {}).valid)
    || (!base && (24 ≤ w.target || !kdOf p w.target || (List.range 64).any (fun q => q != p && kdOf q w.target)))
    || env.busy.any (fun e => e.1 == w.target && (if w.next then e.2.2 else e.2.1) != some w.keyId)
    || (match kfind? w.kek env.keks with | none => true | some k => (kwUnwrap k w.wrapped).isNone)
  let twinBad (t : TwinPlan) : Bool :=
    t.twin == l.self || 33 ≤ t.share || 33 ≤ t.regions.length
    || t.rxBase % mib2 != 0 || t.rxSize % mib2 != 0 || t.rxSize < 2 ^ 36
    || !(im.windows.any (fun w => w.provider && spanIn t.rxBase t.rxSize w.base (w.base + w.size)))
    || 2 ^ 36 < (t.regions.map (·.size)).sum
    || !(blocks.any (fun bl => 12 ≤ bl.port))
    || t.regions.any (fun r => r.base % mib2 != 0 || r.size % mib2 != 0
        || !((im.ent? r.part).map (·.mirrored)).getD false
        || !(im.windows.any (fun w => !w.provider && w.owner == r.part && spanIn r.base r.size w.base (w.base + w.size))))
  let quadUsed (q : Nat) : Bool :=
    (List.range 48).any (fun x => (List.range 32).any (fun y => quadOf x y == q && (ownerIn im x y).isSome))
    || remaps.any (fun e => 4 * e.die + e.spare / 4 == q)
  let powerBad (i : Nat) (d : DomPlan) : Bool :=
    d.policy == 3 && (i == 22 || i == 23 || i == 16 || (i < 16 && quadUsed i))
  let teleBad (t : TelePlan) : Bool :=
    t.sampleN != 0 && (t.sampleN < 6 || 30 < t.sampleN || t.ringBase % 64 != 0
      || !((rangeFrom 16 11).any (fun k => t.ringBytes == 2 ^ k))
      || !(ctx.windows.any (fun w => spanIn t.ringBase t.ringBytes w.base (w.base + w.size)
            && (if t.all then w.provider else !w.provider && w.owner == t.owner))))
    || (t.all && t.owner != 0)
  let bindBad (i : Nat) (e : BindEnt) : Bool :=
    (im.ent? e.part).isNone || (e.pf && e.vf != 0)
    || (im.binds.take i).any (fun f => f.part == e.part || (!f.pf && !e.pf && f.vf == e.vf))
  [ (0x15, at_ 0x0001 32 (idx im.partMap.zipIdx (fun e =>
      (im.partMap.take e.2).any (fun f => f.part == e.1.part || (f.routeSets &&& e.1.routeSets) != 0)
      || (List.range 24).any (fun k => bit (e.1.hbmKd + 2 ^ 16 * e.1.farKd) k && !(nthD im.ranges k {}).valid))))
  , (0x16, at_ 0x0002 8 (idx rects (fun r => 48 ≤ r.x0 || 48 ≤ r.x1 || r.x1 < r.x0 || r.y1 < r.y0)))
  , (0x17, if base then at_ 0x0002 8 (idx rects.zipIdx (fun e => (im.ent? e.1.part).isNone
      || (rects.take e.2).any (fun f => f.x0 ≤ e.1.x1 && e.1.x0 ≤ f.x1 && f.y0 ≤ e.1.y1 && e.1.y0 ≤ f.y1))) else [])
  , (0x18, at_ 0x0003 8 (idx remaps.zipIdx (fun e => remapBad e.2 e.1)))
  , (0x19, at_ 0x0004 1032 (idx routes.zipIdx (fun e => routeBad e.1
      || (routes.take e.2).any (fun f => f.set == e.1.set || (f.owner == e.1.owner && (f.flows &&& e.1.flows) != 0)))))
  , (0x1A, (blocks.zipIdx.map (fun e => slackPlaces e.2 e.1)).flatten)
  , (0x1B, (blocks.zipIdx.map (fun e => blockPlaces e.2 e.1)).flatten)
  , (0x1C, breaks (base && (l.slotLen < 16 || 2560 < l.slotLen)) 0x0006 (body 0x0006 + 4))
  , (0x1D, if !base then [] else
      breaks (l.sizeX = 0 || 8 < l.sizeX || l.sizeY = 0 || 8 < l.sizeY || l.sizeZ = 0 || 4 < l.sizeZ
        || !l.inside l.self || !l.inside l.root) 0x0006 (body 0x0006)
      ++ ((List.range 12).filter (fun q => l.portBad q)).map (fun q => ⟨0x0006, body 0x0006 + 8 + 8 * q⟩))
  , (0x1E,
      if base then
        at_ 0x0007 8 (idx quotas.zipIdx (fun e => (im.ent? e.1.1).isNone || (((im.ent? e.1.1).map (·.quotaMax)).getD 0) < e.1.2
          || (quotas.take e.2).any (fun f => f.1 == e.1.1)))
        ++ breaks (512 < (quotas.map (·.2)).sum || 512 < (im.partMap.map (·.quotaMax)).sum) 0x0007 (body 0x0007)
      else breaks (im.quotas.isSome &&
        !(match quotas with | [(q, v)] => q == p && v ≤ ((ctx.ent? p).map (·.quotaMax)).getD 0 | _ => false)) 0x0007 (body 0x0007))
  , (0x1F, if !base then [] else
      ((idx im.ranges.zipIdx (fun e => rangeBad e.2 e.1)).map (fun i => ⟨0x0008, body 0x0008 + 32 * i⟩))
      ++ ((idx im.windows.zipIdx (fun e => winBad e.2 e.1)).map (fun i => ⟨0x0008, body 0x0008 + 776 + 24 * i⟩)))
  , (0x20, at_ 0x0009 96 (idx wraps.zipIdx (fun e => keyBad e.2 e.1))
      ++ (if base then ((List.range 24).filter (fun k => (nthD im.ranges k {}).valid
            && !wraps.any (fun w => w.target == k && !w.next)
            || env.busy.any (fun e => e.1 == k && nthD im.ranges k {} != nthD env.com.img.ranges k {}))).map
              (fun k => ⟨0x0008, body 0x0008 + 32 * k⟩) else []))
  , (0x21, match im.twin with | some t => breaks (twinBad t) 0x000A (body 0x000A) | none => [])
  , (0x22, (idx im.power.zipIdx (fun e => powerBad e.2 e.1)).map (fun i => ⟨0x000B, body 0x000B + 8 * i⟩))
  , (0x23, match im.tele with | some t => breaks (teleBad t) 0x000C (body 0x000C) | none => [])
  , (0x24, at_ 0x000D 8 (idx im.binds.zipIdx (fun e => bindBad e.2 e.1))
      ++ breaks (base && im.partMap.any (fun e => !im.binds.any (fun f => f.part == e.part))) 0x000D (body 0x000D))
  , (0x25, if base then [] else
      breaks ((ctx.ent? p).isNone) 0 8
      ++ at_ 0x0002 8 (idx rects (fun r => r.part != p || (List.range 48).any (fun x => (List.range 32).any (fun y =>
            r.has x y && ownerIn ctx x y != some p))))
      ++ at_ 0x0004 1032 (idx routes (fun r => r.owner != p
            || !bit (((ctx.ent? p).map (·.routeSets)).getD 0) r.set
            || (r.entries.zipIdx).any (fun en =>
                 let bm := match (ctx.routes.getD []).find? (fun q => q.set == r.set) with
                   | some q => let e := nthD q.entries en.2 (0, 0); e.1 ||| e.2
                   | none => 0
                 ((en.1.1 ||| en.1.2) &&& (0xFFF - bm)) != 0)))
      ++ (match im.tele with
          | some t => breaks (t.owner != p || t.all) 0x000C (body 0x000C)
          | none => [])) ]

/-- The required sections of a base image and the forbidden ones of a partition image (Table 3-3). -/
def requiredSecs : List Nat := [0x0001, 0x0002, 0x0006, 0x0007, 0x0008, 0x000B, 0x000D]
/-- The sections a partition image may not hold (Table 3-3). -/
def forbiddenSecs : List Nat := [0x0001, 0x0006, 0x0008, 0x000A, 0x000B, 0x000D]

/-- The R91 length conditions and the transfer length: code 0x01 (R91, R120). -/
def lengthFault (b : List Byte) (xfer : Nat) : Option ImgFault :=
  let len := leAt b 0x10 4
  if len % 8 ≠ 0 ∨ len < 0x1C8 ∨ 2 ^ 24 < len then some ⟨0x01, ⟨0, 0x10⟩⟩
  else if xfer ≠ len then some ⟨0x01, ⟨0xFFFE, 0⟩⟩
  else none

/-- The image read from bytes of which the framing holds. -/
def imageOf (b : List Byte) : Image :=
  let sig := leAt b 0x1C 4
  readImage b (walkSecs b sig (b.length / 8 + 1) 0x100).1 sig

/-- A key slot whose fused hash matches the public key of the signature block at an offset (R115, R164). -/
def sigFault (env : ImgEnv) (b : List Byte) (sig : Nat) : Option ImgFault :=
  let slot := leAt b sig 1
  let pub := slice b (sig + 8) 96
  let digest := sha384 (b.take (sig + 0x68))
  firstFault
    [ (0x06, breaks (env.keySlots ≤ slot) 0xFFFF sig)
    , (0x07, breaks (bit env.revoked slot) 0xFFFF sig)
    , (0x08, breaks (kgetD env.hashes slot 0 != leNat (sha384 pub)) 0xFFFF (sig + 8))
    , (0x09, breaks (!ecdsaVerify (beNat digest) (beNat (slice b (sig + 8) 48)) (beNat (slice b (sig + 0x38) 48))
        (beNat (slice b (sig + 0x68) 48)) (beNat (slice b (sig + 0x98) 48))) 0xFFFF (sig + 0x68)) ]

/-- All the checks of Table 3-16 on an image, in the order of R120: the first failure, if any. -/
def validateImage (env : ImgEnv) (b : List Byte) (xfer : Nat) : Option ImgFault :=
  let len := leAt b 0x10 4
  let sig := leAt b 0x1C 4
  match lengthFault b xfer with
  | some f => some f
  | none =>
  match firstFault
    [ (0x02, breaks (leAt b 0 4 != 0x4C444E4B) 0 0)
    , (0x03, breaks (leAt b 6 2 != 1) 0 4)
    , (0x05, breaks (sig + 0xC8 != len) 0 0x1C) ] with
  | some f => some f
  | none =>
  match sigFault env b sig with
  | some f => some f
  | none =>
  let (ss, layout) := walkSecs b sig (b.length / 8 + 1) 0x100
  let known := ss.filter (fun s => decide (1 ≤ s.typ ∧ s.typ ≤ 13))
  let im := readImage b known sig
  let base := im.isBase
  match firstFault
    [ (0x04, rsvAt b 0 0x08 4 0xFFFFFC00 ++ rsvAt b 0 0x0C 4 0xFFFF0000 ++ breaks (leAt b 0x90 112 != 0) 0 0x90
        ++ rsvAt b 0xFFFF sig 8 (2 ^ 64 - 256))
    , (0x12, breaks (im.target != 255 && 64 ≤ im.target) 0 0x08 ++ breaks (!base && im.domainDigest != 0) 0 0x30
        ++ breaks (base && im.baseDigest != 0) 0 0x60 ++ breaks (!base && im.arbAdvance) 0 0x08
        ++ breaks (base && im.partRev != 0) 0 0x20)
    , (0x0A, breaks (im.arb < env.arb || 128 < im.arb) 0 0x18)
    , (0x0B, breaks (im.uid != 0 && im.uid != env.uid) 0 0x28)
    , (0x0C, breaks (env.fwMajor < im.fwMinMajor || (env.fwMajor == im.fwMinMajor && env.fwMinor < im.fwMinMinor)) 0 0x24)
    , (0x13, if base then breaks (im.epoch == 0 || (env.com.base.isSome && im.epoch ≤ env.com.img.epoch)) 0 0x14
        else breaks (im.epoch != env.com.img.epoch) 0 0x14 ++ breaks (im.partRev ≤ env.comRev) 0 0x20)
    , (0x14, breaks (!base && (env.com.base.isNone || im.baseDigest != env.com.img.digest)) 0 0x60) ] with
  | some f => some f
  | none =>
  match firstFault
    [ (0x0D, layout ++ breaks (ss.length != leAt b 0x0C 2) 0 0x0C
        ++ ((known.filter (fun s => !s.lenOk b)).map (fun s => ⟨s.typ, s.off⟩)))
    , (0x0E, (clashes (fun (x y : Sec) => decide (y.typ ≤ x.typ)) ss).map (fun i => let s := nthD ss i {}; ⟨s.typ, s.off⟩))
    , (0x0F, (ss.filter (fun s => !(1 ≤ s.typ && s.typ ≤ 13) && !s.optional)).map (fun s => ⟨s.typ, s.off⟩))
    , (0x10, if base then ((requiredSecs.filter (fun t => (findSec ss t).isNone)).take 1).map (fun t => ⟨t, 0⟩) else [])
    , (0x11, if base then [] else ((ss.filter (fun s => forbiddenSecs.contains s.typ)).map (fun s => ⟨s.typ, s.off⟩))) ] with
  | some f => some f
  | none => firstFault ((0x04, (ss.map (fun s => s.reserved b)).flatten) :: contentChecks env b known im)

/-- The keys that VALIDATE unwraps: (target, NEXT, KEY_ID, key) (R110). -/
def unwrapKeys (env : ImgEnv) (im : Image) : List (Nat × Bool × Nat × Nat) :=
  (im.wraps.getD []).filterMap (fun w =>
    (kfind? w.kek env.keks).bind (fun k => (kwUnwrap k w.wrapped).map (fun key => (w.target, w.next, w.keyId, leNat key))))

end Sys2Proof.Machine
end

