-- ==== Sys2Proof/Machine/Memory.lean ====
section
/-! DEFINITION. HBM and the inline encryptor: interleave, ECC and poison, key ranges, the XTS transform, KEKs, working
keys, the re-key engine and the ciphertext masters (ch. 10). -/
namespace Sys2Proof.Machine

/-- The stack of a device physical address (R409). -/
def stackOf (a : Nat) : Nat := bits a 12 3 ^^^ bits a 15 3 ^^^ bits a 18 3

/-- The stack-local address (R409). -/
def localOf (a : Nat) : Nat := (a / 2 ^ 15) * 2 ^ 12 + a % 2 ^ 12

/-- The line address of a byte. -/
def lineOf (a : Nat) : Nat := a - a % 64

/-- The line addresses that n bytes from a touch. -/
def linesOf (a n : Nat) : List Nat := if n = 0 then [] else rangeFrom 0 ((a + n - 1) / 64 - a / 64 + 1) |>.map (fun i => lineOf a + 64 * i)

/-- The range that holds an address, with its plan (R419). -/
def State.rangeAt (s : State) (a : Nat) : Option (Nat × KeyRange) :=
  match s.com.img.rangeOf? a with
  | some i => some (i, nthD s.com.img.ranges i {})
  | none => none

/-- The held keys of a range. -/
def State.rkeys (s : State) (i : Nat) : RangeKeys := kgetD s.mem.keys i {}

/-- The key and the LBN that govern an address (R420, R423, R425, R435). -/
def State.govern (s : State) (a : Nat) : Nat × Nat :=
  match s.rangeAt a with
  | some (i, r) =>
    let sec := (a - r.base) / 4096
    let k := s.rkeys i
    let slot := if s.get .CRY_KR_RK_STATE i != 0 && sec < s.get .CRY_KR_RK_BOUNDARY i then k.next else k.cur
    ((slot.map (·.2)).getD s.mem.bg, (sec + r.lbnBase) % 2 ^ 64)
  | none => (s.mem.bg, a / 4096)

/-- One 16-byte block at a block address under the key that governs it (R423, R424). -/
def State.cipher (s : State) (enc : Bool) (blk : Nat) (bs : List Byte) : List Byte :=
  let (k, lbn) := s.govern (16 * blk)
  xtsBlock enc k lbn (blk % 256) bs

/-- The stored bytes of HBM, as a ciphertext master sees them (R421). -/
def State.rawRead (s : State) (a n : Nat) : List Byte := s.mem.cells.readN a n

/-- The span of undefined contents that holds a byte, if any (R111, R431, Table 2-6). -/
def State.undef? (s : State) (a : Nat) : Option Nat :=
  (s.mem.undef.find? (fun u => u.2.1 ≤ a && a < u.2.2)).map (·.1)

/-- Bytes from an address, each free where its contents are undefined. -/
def State.maskUndef (s : State) : Nat → List Byte → List Byte
  | _, [] => []
  | a, b :: bs => (match s.undef? a with | some id => Config.freeByte id a | none => b) :: s.maskUndef (a + 1) bs

/-- n blocks of stored bytes decrypted, from block b on. -/
def State.decBlocks (s : State) : Nat → List Byte → Nat → List Byte
  | _, _, 0 => []
  | b, bs, n + 1 => s.cipher false b (slice bs 0 16) ++ s.decBlocks (b + 1) (bs.drop 16) n

/-- Stored bytes that begin at a block boundary, as a plaintext master sees them (R421, R423). -/
def State.plainOf (s : State) (a : Nat) (raw : List Byte) : List Byte :=
  s.maskUndef a (s.decBlocks (a / 16) raw (raw.length / 16))

/-- n bytes of HBM as a plaintext master sees them (R421, R423). -/
def State.plainRead (s : State) (a n : Nat) : List Byte :=
  if n = 0 then []
  else
    let b0 := a / 16
    slice (s.plainOf (16 * b0) (s.rawRead (16 * b0) (16 * ((a + n - 1) / 16 - b0 + 1)))) (a % 16) n

/-- The state with the bytes from lo up to hi defined again. -/
def State.define (s : State) (lo hi : Nat) : State :=
  if s.mem.undef = [] then s else s.modMem (fun m => { m with undef := cutSpans lo hi m.undef })

/-- A line is poisoned (R415). -/
def State.poisoned (s : State) (line : Nat) : Bool := s.mem.poison.contains line

/-- Some line that n bytes from a touch is poisoned. -/
def State.anyPoison (s : State) (a n : Nat) : Bool := (linesOf a n).any s.poisoned

/-- The state with a line's poison mark set or cleared. -/
def State.setPoison (s : State) (line : Nat) (on : Bool) : State :=
  if on = s.poisoned line then s
  else if on then s.modMem (fun m => { m with poison := line :: m.poison })
  else s.modMem (fun m => { m with poison := m.poison.filter (· != line) })

/-- Blocks of plaintext encrypted and stored from block b on. -/
def State.storeBlocks (s : State) (b : Nat) : List Byte → Nat → Mem → Mem
  | _, 0, m => m
  | bs, n + 1, m => s.storeBlocks (b + 1) (bs.drop 16) n (Mem.writeN (16 * b) (s.cipher true b (slice bs 0 16)) m)

/-- One line written with bytes from an offset: read, decrypted, merged, encrypted and stored as one action (R410,
R424). A partial write of a poisoned line is discarded (R415); a write with poison marks the line. -/
def State.writeLine (s : State) (line off : Nat) (bs : List Byte) (poison : Bool) : State :=
  let full := off = 0 ∧ bs.length = 64
  if s.poisoned line ∧ ¬full then s
  else
    let old := if full then [] else s.plainRead line 64
    let new := if full then bs else old.take off ++ bs ++ old.drop (off + bs.length)
    let s1 := s.modMem (fun m => { m with cells := s.storeBlocks (line / 16) new 4 m.cells })
    ((s1.define line (line + 64)).setPoison line poison).capture line new poison

/-- Plaintext bytes written line by line from an address (R410). -/
def State.plainWriteF (poison : Bool) : Nat → Nat → List Byte → State → State
  | 0, _, _, s => s
  | f + 1, a, bs, s =>
    if bs = [] then s
    else
      let off := a % 64
      let n := min bs.length (64 - off)
      State.plainWriteF poison f (a + n) (bs.drop n) (s.writeLine (lineOf a) off (bs.take n) poison)

/-- Plaintext bytes written to HBM. -/
def State.plainWrite (s : State) (a : Nat) (bs : List Byte) (poison : Bool := false) : State :=
  State.plainWriteF poison (bs.length / 64 + 2) a bs s

/-- Ciphertext bytes stored in one line by a ciphertext master (R421, R415, R449); the mirror engine sees their
decryption (R672). -/
def State.rawLine (s : State) (line off : Nat) (bs : List Byte) : State :=
  let full := off = 0 ∧ bs.length = 64
  if s.poisoned line ∧ ¬full then s
  else
    let s0 := s.modMem (fun m => { m with cells := Mem.writeN (line + off) bs m.cells })
    let s1 := (if full then s0.define line (line + 64) else s0).setPoison line false
    s1.capture line (s1.plainRead line 64) false

def State.rawWriteF : Nat → Nat → List Byte → State → State
  | 0, _, _, s => s
  | f + 1, a, bs, s =>
    if bs = [] then s
    else
      let off := a % 64
      let n := min bs.length (64 - off)
      State.rawWriteF f (a + n) (bs.drop n) (s.rawLine (lineOf a) off (bs.take n))

/-- Ciphertext bytes stored by a ciphertext master. -/
def State.rawWrite (s : State) (a : Nat) (bs : List Byte) : State := State.rawWriteF (bs.length / 64 + 2) a bs s

/-! ### ECC (R413, R414, R416) -/

/-- What ECC finds in one line that is read: a correctable error is counted and written back, an uncorrectable one
poisons the line, is counted, logged and raised; an error the code does not show leaves one codeword's bytes open. -/
def State.eccEvent (scrub : Bool) (s : State) (e : EccEvent) : State :=
  let line := lineOf e.line
  let st := stackOf line
  if hbmEnd ≤ line then s
  else
    match e.err with
    | .corrected => s.bump .MEM_STACK_CE st
    | .uncorrectable =>
      if s.poisoned line then s
      else
        let s := (s.setPoison line true).bump .MEM_STACK_UE st
        let s := (((s.put .MEM_ERRLOG_ADDR 0 line).put .MEM_ERRLOG_STACK 0 st).put .MEM_ERRLOG_SCRUB 0 (b2n scrub)).put
          .MEM_ERRLOG_NEW 0 1
        s.raise { s.mkFault 0x07 0x01 none with
          addr := some line, info0 := st + 256 * ((s.rangeAt line).map (·.1)).getD 0 }
    | .silent cw =>
      let (v, s) := s.draw 128
      s.modMem (fun m => { m with cells := Mem.writeN (line + 16 * (cw % 4)) (leBytes 16 v) m.cells })

/-- What ECC finds in the lines that the command reads. -/
def State.eccRead (s : State) (es : List EccEvent) (scrub : Bool := false) : State := es.foldl (State.eccEvent scrub) s

/-- SCRUB_READ: the scrubber reads a line while its half is ON and SCRUB_HOURS is not 0 (R416). -/
def execScrubRead (line : Nat) (err : Option LineErr) (s : State) : Host.Outcome State Fault Refusal :=
  .next <|
    if s.get .MEM_CFG_SCRUB_HOURS = 0 || hbmEnd ≤ line || s.domState (22 + stackOf line / 4) != 3 then s
    else match err with
      | none => s
      | some e => s.eccEvent true ⟨line, e⟩

end Sys2Proof.Machine
end

