-- ==== Sys2Proof/Machine/Domains.lean ====
section
/-! DEFINITION. The switched domains: which domain serves what, and a request that needs one (R57, R62, R63). -/
namespace Sys2Proof.Machine

/-- A request that needs domain d: served while it is ON; otherwise held, with the wake started (R63). -/
def State.needs (s : State) (d : Nat) (f : State → State) : State := if s.domState d = 3 then f s else s.wake d

/-- The memory half behind a device physical address (Table 2-1). -/
def memDom (a : Nat) : Nat := 22 + stackOf a / 4

/-- The domains of LANTERN, the cache, the downlink and the twin ports; the domain of a torus port (Table 2-1). -/
def domLantern : Nat := 16
def domCache : Nat := 17
def domDownlink : Nat := 18
def domTwin : Nat := 21
def domPort (p : Nat) : Nat := if p < 8 then 19 else if p < 12 then 20 else 21

end Sys2Proof.Machine
end

