-- ==== Sys2Proof/Machine/DlOps.lean ====
section
/-! DEFINITION. The downlink: the far-tier map, its ports, the M2S requests of a port and its violations (ch. 13). -/
namespace Sys2Proof.Machine

/-- The state with the downlink changed. -/
def State.modDl (s : State) (f : Downlink → Downlink) : State := { s with dl := f s.dl }

/-- The record of a downlink port; the state with it changed. -/
def State.dlPort (s : State) (p : Nat) : DlPort := kgetD s.dl.ports p {}
def State.modDlPort (s : State) (p : Nat) (f : DlPort → DlPort) : State := s.modDl (fun d => { d with ports := kmod d.ports p {} f })

/-- The port count P: 1, 2 or 4 (R526). -/
def State.dlPorts (s : State) : Nat := 2 ^ s.get .DL_STATUS_BIF

/-- The slot size S (R535). -/
def State.dlSlot (s : State) : Nat := 2 ^ 43 / s.dlPorts

/-- The spans of the far tier that the map covers (R536). -/
def State.farSpans (s : State) : List (Nat × Nat) :=
  if s.dl.ilv then [(farBase, s.dlPorts * s.get .DL_PORT_SIZE_SIZE 0)]
  else ((List.range s.dlPorts).map (fun p => (farBase + p * s.dlSlot, s.get .DL_PORT_SIZE_SIZE p))).filter (fun e => e.2 != 0)

/-- The port that holds a far-tier address; none where the map does not cover it (R536). -/
def State.dlPortOf? (s : State) (a : Nat) : Option Nat :=
  if !s.farSpans.any (fun e => e.1 ≤ a && a < e.1 + e.2) then none
  else if s.dl.ilv then some ((a / 4096) % s.dlPorts)
  else some ((a - farBase) / s.dlSlot)

/-- Every byte of a span lies in HBM or in one mapped far-tier span (R153, R412). -/
def State.dpaMapped (s : State) (a n : Nat) : Bool :=
  a + n ≤ hbmEnd || s.farSpans.any (fun e => e.1 ≤ a && a + n ≤ e.1 + e.2)

/-- A port's state: 3 ACTIVE, 5 QUARANTINE, 6 DOWN (Table 13-8). -/
def State.dlState (s : State) (p : Nat) : Nat := s.get .DL_PORT_STAT_STATE p

/-- Ports ACTIVE counted (Tables 1-7, 13-7). -/
def State.dlCount (s : State) : State :=
  let n := ((List.range 4).filter (fun p => s.dlState p == 3)).length
  (s.put .DL_STATUS_ACTIVE_PORTS 0 n).put .GLB_UNITS_DL_EXPANDERS 0 n

/-- A port enters a state: its LINK record (Table 17-9). -/
def State.setDlState (s : State) (p st : Nat) : State :=
  if s.dlState p = st then s
  else
    let s := (s.put .DL_PORT_STAT_STATE p st).dlCount
    s.ember' 5 2 st none p (s.regWord .DL_PORT_STAT p)

/-- A DL fault record (Tables 13-5, 17-5): to a partition's ring, or to the device's. -/
def State.dlRecord (s : State) (code : Nat) (part : Option Nat) (port addr viol : Nat) : State :=
  s.raise { s.mkFault 0x08 code part with port := port, addr := some addr, info0 := viol }

/-- The failure code of an access to a port that does not serve: ABSENT (Table 13-5). -/
def dlAbsent : Nat := 0x01

/-- Time an expander has, in ms; 0 reads as 10 (Table 13-7). -/
def State.memTo (s : State) : Nat := if s.get .DL_CFG_MEM_TO_MS = 0 then 10 else s.get .DL_CFG_MEM_TO_MS

/-- A violation of Table 13-3 by the expander of port p: EMBER, the port's registers, and its count towards QUARANTINE
(R545, R546, R799). -/
def State.dlViolation (s : State) (p code : Nat) (hdr : List Byte) : State :=
  let s := s.ember' 4 2 code none p (leAt hdr 0 8) (leAt hdr 8 8) (leAt hdr 16 8)
  let s := (s.put .DL_PORT_ERR_LAST_CODE p code).bump .DL_PORT_ERR_VIOL p
  if code != 6 && s.flag .DL_CFG_QUAR_EN then
    let t := s.get .CLK_TICK_TICK
    let ticks := (t :: (s.dlPort p).violTicks.filter (fun u => t - u < 3125)).take 16
    let s := s.modDlPort p (fun r => { r with violTicks := ticks })
    if ticks.length = 16 && s.dlState p = 3 then
      let s := (s.setDlState p 5).dlRecord 0x04 none p (farBase + p * s.dlSlot) code
      if s.flag .EMB_CFG_QUAR_TRIG then s.emberTrigger 5 else s
    else s
  else s

/-- A tag of port p that is free, while fewer than 512 requests are outstanding on it (R541, R545). -/
def State.dlTag? (s : State) (p : Nat) : Option Nat :=
  let used := (s.dl.reqs.filter (fun r => r.port == p)).map (·.tag)
  if 512 ≤ used.length then none
  else (List.range 1024).find? (fun t => !used.contains t && !(s.dlPort p).heldTags.contains t)

/-- Every copy of a far-tier line that a LANTERN core holds or has asked for is invalidated before a write of the line is
performed (R272): the core asks again. -/
def State.coreDrop (s : State) (line : Nat) : State :=
  let s := { s with cores := s.cores.map (fun (e : Nat × Core) => (e.1, { e.2 with far := kdel line e.2.far })) }
  s.modDl (fun d => { d with reqs := d.reqs.map (fun q => match q.who with
    | .core _ => if q.line = line ∧ q.wr = [] then { q with who := .drop } else q
    | _ => q) })

/-- An M2S request handed to its port; none where the port has 512 outstanding (R541). -/
def State.dlIssue? (s : State) (r : DlReq) (data : Option (List Byte)) : Option State :=
  match s.dlTag? r.port with
  | none => none
  | some t =>
    let s := if data.isSome then s.coreDrop r.line else s
    some ((s.modDl (fun d => { d with reqs := d.reqs ++ [{ r with tag := t, write := data.isSome }] })).emit (.dlM2S r.port t r.line data))

/-- The ciphertext of a far-tier line as a plaintext master sees it, with undefined bytes free (R423, R539). -/
def State.farPlain (s : State) (line : Nat) (raw : List Byte) : List Byte := s.plainOf line (slice raw 0 64)

/-- A plaintext line as it goes onto the wire. -/
def State.farCipher (s : State) (line : Nat) (bs : List Byte) : List Byte :=
  (List.range 4).flatMap (fun i => s.cipher true (line / 16 + i) (slice bs (16 * i) 16))

/-- A line's 64 bytes with some replaced. -/
def mergeLine (old : List Byte) (off : Nat) (bs : List Byte) : List Byte := (slice old 0 64).take off ++ bs ++ (slice old 0 64).drop (off + bs.length)

/-- The write of a line sent after its read was merged, on the same tag (R424, R541). -/
def State.dlMerge (s : State) (r : DlReq) (raw : List Byte) : State :=
  let new := if r.raw then mergeLine raw r.off r.wr
    else s.farCipher r.line (mergeLine (s.farPlain r.line raw) r.off r.wr)
  let s := (if r.raw then s else s.define r.line (r.line + 64)).coreDrop r.line
  (s.modDl (fun d => { d with reqs := d.reqs.map (fun q => if q.port = r.port ∧ q.tag = r.tag then { q with write := true } else q) })).emit
    (.dlM2S r.port r.tag r.line (some new))

/-- A read of a far-tier line, or a write of bytes in it: a full line goes out at once, a partial one reads first. -/
def State.dlAccess? (s : State) (port line : Nat) (who : DlWho) (part : Option Nat) (off : Nat) (wr : Option (List Byte)) (raw : Bool) : Option State :=
  let r : DlReq := { port := port, line := line, who := who, part := part, off := off, wr := wr.getD [], raw := raw }
  match wr with
  | none => s.dlIssue? r none
  | some bs =>
    if off = 0 ∧ bs.length = 64 then
      (s.dlIssue? r (some (if raw then bs else s.farCipher line bs))).map (fun s => s.define line (line + 64))
    else s.dlIssue? r none

end Sys2Proof.Machine
end

