-- ==== Sys2Proof/Machine/HostIo.lean ====
section
/-! DEFINITION. The device as a requester on the host link, and the host's protocol violations: splitting, tags, what is
held and what is sent (R489 to R498, R502 to R505, R512, R798). -/
namespace Sys2Proof.Machine

/-! ### AER and violations (R502, R503, R799) -/

/-- An uncorrectable AER error of the PF, by its status bit: the status, and the message its mask, severity and the
standard's advisory rule select; a report is an HL global event (R500, R502). -/
def State.aerReport (s : State) (n : Nat) (advisory : Bool) (hdr : List Byte := []) : State :=
  let c := s.fn 0
  let fatal := bit c.aerUncorSev n
  let det := (if fatal then 4 else if advisory then 1 else 2) ||| (if n = 20 then 8 else 0)
  let s := s.modFn 0 (fun c => { c with
    aerUncor := c.aerUncor ||| 2 ^ n, devSta := c.devSta ||| det
    aerLog := if hdr = [] || bit c.aerUncorMask n then c.aerLog else slice hdr 0 16
    status := c.status ||| (if n = 12 then 0x8000 else if n = 15 then 0x0800 else 0) })
  if advisory && !fatal then
    let s := s.modFn 0 (fun c => { c with aerCor := c.aerCor ||| 2 ^ 13 })
    if bit c.aerCorMask 13 then s
    else (if bit c.devCtl 0 then s.emit (.hostMsg .errCor) else s).globalEvent 3
  else if bit c.aerUncorMask n then s
  else
    let s := s.globalEvent 3
    let s := if c.serrEn then s.modFn 0 (fun c => { c with status := c.status ||| 0x4000 }) else s
    if fatal then (if bit c.devCtl 2 || c.serrEn then s.emit (.hostMsg .errFatal) else s)
    else if (bit c.devCtl 1 && (n != 20 || bit c.devCtl 3)) || c.serrEn then s.emit (.hostMsg .errNonFatal)
    else s

/-- The AER error of a violation of Table 12-4, by its uncorrectable status bit. -/
def violAer (code : Nat) : Option Nat :=
  match code with
  | 0x01 | 0x10 | 0x04 => some 20
  | 0x02 => some 15
  | 0x03 => some 12
  | 0x05 => some 16
  | 0x06 | 0x07 => some 18
  | 0x0B | 0x0F => some 22
  | 0x13 => some 14
  | _ => none

/-- A violation of Table 12-4 that counts for QUARANTINE. -/
def violCounts (code : Nat) : Bool := (5 ≤ code && code ≤ 0x0F) || code == 0x13

/-- The three 64-bit words of a header's first 24 bytes (R799). -/
def hdrWord (hdr : List Byte) (i : Nat) : Nat := leAt hdr (8 * i) 8

/-- The host link enters QUARANTINE (R503, R504). -/
def State.enterQuarantine (s : State) : State :=
  let s := (s.put .HL_STATUS_QUARANTINE 0 1).bump .HL_STATUS_QUARANTINES
  let s := (s.aerReport 22 false).globalEvent 3
  if s.flag .EMB_CFG_QUAR_TRIG then s.emberTrigger 5 else s

/-- A violation of Table 12-4 by the host (R502, R503, R521): its records, its AER report, and its count towards
QUARANTINE. UR and CA answers to non-posted requests and unexpected completions are advisory; report tells that AER
reports it. -/
def State.violation (s : State) (code fn : Nat) (hdr : List Byte := []) (nonPosted : Bool := false) (report : Bool := true) : State :=
  let s := s.ember' 4 1 code none fn (hdrWord hdr 0) (hdrWord hdr 1) (hdrWord hdr 2)
  let s := s.bump .HL_VIOL_COUNT
  let s := ((s.put .HL_VIOL_LOG_CODE 0 code).put .HL_VIOL_LOG_FUNC 0 fn).put .HL_VIOL_LOG_TICK 0 (s.get .CLK_TICK_TICK)
  let s := s.put .HL_STATUS_LAST_CODE 0 code
  let s := match (if report then violAer code else none) with
    | some n => s.aerReport n (nonPosted || code == 5) hdr
    | none => s
  if violCounts code && s.flag .HL_CFG_QUAR_EN then
    let t := s.get .CLK_TICK_TICK
    let ticks := (t :: s.host.violTicks.filter (fun u => t - u < 3125)).take 16
    let s := s.modHost (fun h => { h with violTicks := ticks })
    if ticks.length = 16 && !s.flag .HL_STATUS_QUARANTINE then s.enterQuarantine else s
  else s

/-- A request of a partition that failed under R497 or R504 (HL_PSTAT.HOST_ERRS). -/
def State.hostErr (s : State) (p : Option Nat) : State :=
  match p with
  | some q => s.bump .HL_PSTAT_HOST_ERRS q
  | none => s

/-! ### Requests -/

/-- A request of a function would fail now: the link is down, in QUARANTINE, or the function is under FLR (R504, R507). -/
def State.hostBlocked (s : State) (fn : Nat) : Bool :=
  !s.flag .HL_STATUS_LINK_UP || s.flag .HL_STATUS_QUARANTINE || s.underFlr fn

/-- The limit of outstanding non-posted requests (R492). -/
def State.tagLimit (s : State) : Nat :=
  if s.flag .DF_LINK_FLIT || s.get .DF_LINK_LINK_MODE = 2 then 2048 else if (s.fn 0).tag10 then 768 else 256

/-- A tag that is free, while the limit of R492 allows one more. -/
def State.freeTag? (s : State) : Option Nat :=
  if s.tagLimit ≤ s.host.reqs.length then none
  else (List.range s.tagLimit).find? (fun t => !(s.host.reqs.any (fun r => r.tag == t)) && !s.host.heldTags.contains t)

/-- Max_Read_Request_Size and Max_Payload_Size of the PF, in bytes (R491). -/
def State.mrrs (s : State) : Nat := 128 * 2 ^ (s.fn 0).mrrs
def State.mps (s : State) : Nat := 128 * 2 ^ (s.fn 0).mps

/-- Bytes of the next piece of a span: up to the next boundary of the size, never across 4 KiB (R491). -/
def pieceLen (size addr len : Nat) : Nat := min len (min (size - addr % size) (4096 - addr % 4096))

/-- A posted write sent, split into pieces (R491). -/
def State.emitWrite (s : State) (fn : Nat) : Nat → Nat → List Byte → State
  | 0, _, _ => s
  | f + 1, a, bs =>
    if bs = [] then s
    else
      let n := pieceLen s.mps a bs.length
      (s.emit (.hostWrite fn a (bs.take n))).emitWrite fn f (a + n) (bs.drop n)

/-- A function's requests wait, or an earlier request of the function does (R490, R512, R798). -/
def State.mustWait (s : State) (fn : Nat) : Bool := s.holdsReqs fn || s.host.waitq.any (fun r => r.fn == fn)

/-- A request issued: sent, or put into the wait queue. The caller has checked hostBlocked. -/
def State.ioReq (s : State) (r : HostReq) : State :=
  if s.mustWait r.fn then s.modHost (fun h => { h with waitq := h.waitq ++ [r] })
  else if r.wr ≠ [] then s.emitWrite r.fn (r.wr.length + 1) r.addr r.wr
  else
    match s.freeTag? with
    | none => s.modHost (fun h => { h with waitq := h.waitq ++ [r] })
    | some t =>
      let s := s.modHost (fun h => { h with reqs := h.reqs ++ [{ r with tag := t }] })
      match r.ats with
      | some (n, nw) => s.emit (.atsReq t r.fn r.addr n nw r.pasid)
      | none => s.emit (.hostRead t r.fn r.addr r.len r.at_ r.pasid)

/-- The next piece of a read for a requester (R491). -/
def State.ioRead (s : State) (who : Requester) (fn : Nat) (part : Option Nat) (addr len : Nat) (at_ : Nat := 0)
    (pasid : Option Nat := none) : State :=
  s.ioReq { fn := fn, part := part, who := who, addr := addr, len := pieceLen s.mrrs addr len, at_ := at_, pasid := pasid }

/-- A posted write of a function. -/
def State.ioWrite (s : State) (fn : Nat) (part : Option Nat) (addr : Nat) (bs : List Byte) : State :=
  s.ioReq { fn := fn, part := part, addr := addr, wr := bs }

/-- The waiting requests that can go are sent, in order. -/
def State.pumpHost (s : State) : State :=
  s.host.waitq.foldl (fun s r => if s.hostBlocked r.fn then s.modHost (fun h => { h with waitq := h.waitq ++ [r] }) else s.ioReq r)
    (s.modHost (fun h => { h with waitq := [] }))

/-- Requests of a partition that are held now (HL_PSTAT.HELD). -/
def State.heldOf (s : State) (p : Nat) : Nat := (s.host.waitq.filter (fun r => r.part == some p)).length

/-- The requests that meet a condition are forgotten: those outstanding keep their tag until their late completion, those
that wait are dropped (R509, R519, R523, R357). -/
def State.dropReqs (s : State) (c : HostReq → Bool) (nw : Requester := .nobody) : State :=
  s.modHost (fun h => { h with
    reqs := h.reqs.map (fun r => if c r && r.who != .flr then { r with who := nw } else r)
    waitq := h.waitq.filter (fun r => !c r) })

/-- A completion whose tag names no outstanding request: dropped as late while the tag is held, otherwise a violation
(R495, Table 12-4). -/
def State.strayCpl (s : State) (tag : Nat) (hdr : List Byte) : State :=
  if s.host.heldTags.contains tag then
    (s.modHost (fun h => { h with heldTags := h.heldTags.filter (· != tag) })).bump .HL_CTO_LATE
  else s.violation 0x05 0 hdr

/-- The request of a tag is over: the tag is free. -/
def State.delReq (s : State) (tag : Nat) : State := s.modHost (fun h => { h with reqs := h.reqs.filter (fun q => q.tag != tag) })

/-- The pending MSI-X vectors of a function that are unmasked are sent (R499, R512, R798). -/
def State.sendPending (s : State) (n : Nat) : State :=
  s.host.msix.foldl (fun s e =>
    if e.1 / 4096 = n ∧ e.2.pending ∧ !e.2.masked then s.msixEvent n (e.1 % 4096) else s) s

end Sys2Proof.Machine
end

