-- ==== Sys2Proof/Machine/Queue.lean ====
section
/-! DEFINITION. Queues and commands of a partition: doorbells, the fetch and its checks, the start and the end of a
command, and completion records (R140 to R154). -/
namespace Sys2Proof.Machine

/-- The instance number of a queue's registers. -/
def qi (p q : Nat) : Nat := 16 * p + q

/-- The size of a submission queue, and of a completion queue. -/
def State.sqSize (s : State) (p q : Nat) : Nat := 2 ^ s.get .PART_SQ_CFG_SIZE_LOG2 (qi p q)
def State.cqSize (s : State) (p q : Nat) : Nat := 2 ^ s.get .PART_CQ_CFG_SIZE_LOG2 (qi p q)

/-- The device accepts commands for a partition: the committed base image assigns resources to it and binds it (R39, R40). -/
def State.admitted (s : State) (p : Nat) : Bool := s.com.assigned p && (s.com.bind? p).isSome

/-- The device fetches commands of the partition (R157). -/
def State.fetches (s : State) (p : Nat) : Bool :=
  1 ≤ s.pstate p && s.pstate p ≤ 4 && s.flag .PART_CTL_FETCH_EN p && s.admitted p && !s.pilot.internalUe

/-! ### Doorbells -/

/-- A doorbell that R144 refuses. -/
def State.dbError (s : State) (p q v : Nat) : State :=
  let s := (s.put .PART_Q_ERR_DB_ERR (qi p q) 1).bump .PART_Q_ERR_DB_ERRS (qi p q)
  s.raise { s.mkFault 0x02 0x01 (some p) with queue := q, info0 := v }

/-- A doorbell of a partition that R40 does not admit (R47). -/
def State.dbRefused (s : State) (p q v : Nat) : State := s.ember' 0x0C q 2 (some p) v ((s.fnOf? p).getD 0)

/-- A write of a submission tail doorbell (R143, R144, R157, R172). -/
def State.sqDoorbell (s : State) (p q tail : Nat) : State :=
  let i := qi p q
  let size := s.sqSize p q
  if !s.admitted p then s.dbRefused p q tail
  else if s.pstate p = 6 then s
  else
    let old := s.get .PART_SQ_DB_TAIL i
    let used := (old + size - s.get .PART_SQ_CFG_HEAD i) % size
    if size ≤ tail || size ≤ used + (tail + size - old) % size then s.dbError p q tail
    else s.put .PART_SQ_DB_TAIL i tail

def execSqDoorbell (p q tail : Nat) (s : State) : Host.Outcome State Fault Refusal := .next (s.sqDoorbell (p % 64) (q % 16) (tail % 2 ^ 16))

/-- A write of a completion head doorbell (R144, R147). -/
def State.cqDoorbell (s : State) (p q head : Nat) : State :=
  if !s.admitted p then s.dbRefused p q head
  else if s.pstate p = 6 then s
  else if s.cqSize p q ≤ head then s.dbError p q head
  else s.put .PART_CQ_DB_HEAD (qi p q) head

def execCqDoorbell (p q head : Nat) (s : State) : Host.Outcome State Fault Refusal := .next (s.cqDoorbell (p % 64) (q % 16) (head % 2 ^ 16))

/-! ### The commands of a partition -/

/-- The command number n of partition p. -/
def State.cmd? (s : State) (p n : Nat) : Option ActiveCmd := (s.part p).active.find? (fun c => c.num == n)

/-- The state with a command changed. -/
def State.modCmd (s : State) (p n : Nat) (f : ActiveCmd → ActiveCmd) : State :=
  s.modPart p (fun r => { r with active := r.active.map (fun c => if c.num = n then f c else c) })

/-- A command has ended with a status and a result; its completion record is due (R146, R154). -/
def State.finish (s : State) (p n status result : Nat) : State :=
  match s.cmd? p n with
  | none => s
  | some c =>
    match c.phase with
    | .done _ _ => s
    | _ => (s.modCmd p n (fun c => { c with phase := .done status result })).modPart p (fun r => { r with doneQ := r.doneQ ++ [n] })

/-- The operand field of n bytes at an offset of a command. -/
def ActiveCmd.arg (c : ActiveCmd) (off n : Nat) : Nat := leAt c.bytes off n

/-- The rectangle operand at 0x08 of TILE_RESET, LAUNCH and TASK_CANCEL. -/
def ActiveCmd.rect (c : ActiveCmd) : TileRect :=
  let w := c.arg 0x08 4
  { x0 := bits w 0 6, y0 := bits w 8 5, x1 := bits w 16 6, y1 := bits w 24 5 }

/-- The opcodes of Table 4-3. -/
def opcodes : List Nat := [0, 1, 2, 3, 4, 5, 6, 7, 8, 0x10, 0x11, 0x18, 0x19, 0x20, 0x21, 0x22, 0x30]

/-- The states in which a command is allowed (Table 4-3, R380, R686). -/
def allowedIn (opcode st : Nat) : Bool :=
  match opcode with
  | 1 => st == 1
  | 2 => st == 2
  | 3 => st == 2 || st == 4
  | 6 => st == 1 || st == 2 || st == 4
  | 8 => st == 2 || st == 3 || st == 4
  | _ => 1 ≤ st && st ≤ 4

/-- The operand bits that a command defines, as one number over bytes 0x08 to 0x3F; all others are RSV (R10, R150). -/
def operandMask (c : ActiveCmd) : Nat :=
  let rect := 0x1F3F1F3F
  let full := 2 ^ 64 - 1
  match c.opcode with
  | 1 => full
  | 2 => 1
  | 3 => rect + 0xFF * 2 ^ 32 + full * 2 ^ 64 + full * 2 ^ 128 + full * 2 ^ 192 + 0xFFFF * 2 ^ 256
  | 4 => full + full * 2 ^ 64 + (2 ^ 49 - 1) * 2 ^ 128
  | 5 => 0xFF03 + full * 2 ^ 64 + full * 2 ^ 128
  | 6 => rect
  | 7 => 0x1F
  | 8 => rect + 0xFFFFFFFF * 2 ^ 32
  | 0x10 =>
    let base := 0x37FF
    match bits (c.arg 0x08 4) 12 2 with
    | 0 => base + 0x7FFFFFF * 2 ^ 32
    | 1 => base + full * 2 ^ 64 + full * 2 ^ 128 + full * 2 ^ 192 + 0x1F * 2 ^ 256
    | _ => base
  | 0x11 => 0x3FF + 0xFFFFFFFF * 2 ^ 32
  | 0x18 => 0xFFFF
  | 0x19 => 0x1F
  | 0x20 => 7
  | 0x21 => 1
  | 0x22 => 7
  | 0x30 => 0x3F1F + (if bits (c.arg 0x08 4) 0 4 = 3 then full * 2 ^ 64 else 0)
  | _ => 0

/-- A reserved encoding inside the defined operand bits (R10): TARGET 11b, REKEY_START OP 11b, MIRROR_CTL OP, and the
fields that are 0 when an ALL bit is 1. -/
def reservedCode (c : ActiveCmd) : Bool :=
  let w := c.arg 0x08 4
  match c.opcode with
  | 0x10 => bits w 12 2 == 1 && bits (c.arg 0x28 4) 0 2 == 3
  | 0x11 => bit w 8 && bits w 0 8 != 0
  | 0x18 => bits w 5 2 == 3
  | 0x30 => bits w 0 4 == 0 || 5 < bits w 0 4 || (bit w 4 && (2 < bits w 0 4 || bits w 8 6 != 0))
  | _ => false

/-- A command carries a non-zero value in a reserved field or a reserved encoding (R10). -/
def ActiveCmd.reserved (c : ActiveCmd) : Bool :=
  let w := c.arg 0x08 56
  bits (c.arg 0 4) 10 6 != 0 || c.arg 4 4 != 0 || (w &&& operandMask c) != w || reservedCode c

/-- A fetched submission entry becomes a command of its partition (R145, R150, R151, R10). -/
def State.acceptCommand (s : State) (p q : Nat) (bs : List Byte) : State :=
  let i := qi p q
  let head := (s.get .PART_SQ_CFG_HEAD i + 1) % s.sqSize p q
  let r := s.part p
  let w := leAt bs 0 4
  let c : ActiveCmd :=
    { num := r.nextNum, queue := q, opcode := bits w 0 8, fenceBefore := bit w 8, noCqe := bit w 9, cmdId := bits w 16 16
      bytes := slice bs 0 64, sqHead := head }
  let s := (s.put .PART_SQ_CFG_HEAD i head).modPart p (fun r => { r with
    active := r.active ++ [c], nextNum := c.num + 1, lastQ := q, fetching := r.fetching.filter (· != q) })
  if !opcodes.contains c.opcode then s.finish p c.num 1 0
  else if c.reserved then s.finish p c.num 2 0
  else if !allowedIn c.opcode (s.pstate p) && r.active.all (fun d => d.queue != q || d.phase != .waiting) then s.finish p c.num 3 0
  else s

/-- A queue pair stops (R148): part 0 a fetch failed, 1 a completion write. -/
def State.stopPair (s : State) (p q part : Nat) : State :=
  let i := qi p q
  let s := ((s.put .PART_Q_ERR_STOPPED i 1).put .PART_Q_ERR_HOST_ERR i 1).modPart p (fun r => { r with fetching := r.fetching.filter (· != q) })
  (s.raise { s.mkFault 0x02 0x02 (some p) with queue := q, info0 := part }).hostErr (some p)

/-- The completion queue has no free entry (R147). -/
def State.cqFull (s : State) (p q : Nat) : Bool :=
  (s.get .PART_CQ_CFG_TAIL (qi p q) + 1) % s.cqSize p q == s.get .PART_CQ_DB_HEAD (qi p q)

/-- Queue q has a command to fetch now (R143, R147, R148). -/
def State.fetchable (s : State) (p q : Nat) : Bool :=
  let i := qi p q
  s.flag .PART_SQ_CFG_EN i && s.flag .PART_CQ_CFG_EN i && !s.flag .PART_Q_ERR_STOPPED i &&
    s.get .PART_SQ_CFG_HEAD i != s.get .PART_SQ_DB_TAIL i && !s.cqFull p q && !(s.part p).fetching.contains q

/-- The queue that the round robin serves next, if any (R145). -/
def State.nextQueue? (s : State) (p : Nat) : Option Nat :=
  ((rangeFrom ((s.part p).lastQ + 1) 16).map (· % 16)).find? (s.fetchable p)

/-- The host address of entry n of a queue with a base register value. -/
def queueAddr (base n size : Nat) : Nat := base * 4096 + n * size

/-- COMMAND_FETCH (R142, R145, R148, R157): the next queue's entry is read; entry holds it where its answer comes in this step. -/
def State.commandFetch (s : State) (p : Nat) (entry : Option (List Byte)) : State :=
  if !s.fetches p then s
  else
    match s.nextQueue? p, s.fnOf? p with
    | some q, some fn =>
      if s.hostBlocked fn then s.stopPair p q 0
      else
        match entry with
        | some bs => if s.mustWait fn then s else s.acceptCommand p q bs
        | none =>
          (s.modPart p (fun r => { r with fetching := q :: r.fetching })).ioRead (.sqFetch p q) fn (some p)
            (queueAddr (s.get .PART_SQ_BASE_BASE (qi p q)) (s.get .PART_SQ_CFG_HEAD (qi p q)) 64) 64
    | _, _ => s

def execCommandFetch (p : Nat) (entry : Option (List Byte)) (s : State) : Host.Outcome State Fault Refusal := .next (s.commandFetch (p % 64) entry)

/-- A command can start (R145, R150): it waits, every earlier command of its queue has started, and with FENCE_BEFORE
every one has completed. -/
def State.canStart (s : State) (p : Nat) (c : ActiveCmd) : Bool :=
  let earlier := ((s.part p).active.takeWhile (fun d => d.num != c.num)).filter (fun d => d.queue == c.queue)
  c.phase == .waiting && (if c.fenceBefore then earlier.isEmpty else earlier.all (fun d => d.phase != .waiting))

/-- The command n of partition p starts if it has the opcode and can start: f has its effect, unless the state of the
partition does not allow it (R151). -/
def State.start (s : State) (p n opcode : Nat) (f : ActiveCmd → State → State) : State :=
  match s.cmd? p n with
  | none => s
  | some c =>
    if c.opcode != opcode || !s.canStart p c then s
    else if !allowedIn opcode (s.pstate p) then s.finish p n 3 0
    else f c s

/-! ### Completion records -/

/-- The function's requests are held now, with the completion records that are due (HL_PSTAT.HELD). -/
def State.heldNow (s : State) (p : Nat) : Nat :=
  s.heldOf p + (match s.fnOf? p with | some fn => if s.holdsReqs fn then (s.part p).doneQ.length else 0 | none => 0)

/-- A completion record that cannot be written is lost (R148, R173). -/
def State.loseRecord (s : State) (p : Nat) (c : ActiveCmd) : State := s.ember' 0x0C c.queue 1 (some p) c.cmdId ((s.fnOf? p).getD 0)

/-- A command leaves the partition's list. -/
def State.retire (s : State) (p n : Nat) : State :=
  s.modPart p (fun r => { r with active := r.active.filter (fun c => c.num != n), doneQ := r.doneQ.filter (· != n) })

/-- The vector of a completion queue is sent (R141, R149). -/
def State.cqVector (s : State) (p q : Nat) : State :=
  (s.modPart p (fun r => { r with coal := kdel q r.coal })).partVector p (s.get .PART_CQ_CFG_VECTOR (qi p q))

/-- A completion record is written (R146, R149, R154, Table 4-7). -/
def State.writeRecord (s : State) (p fn : Nat) (c : ActiveCmd) (status result : Nat) : State :=
  let q := c.queue
  let i := qi p q
  let tail := s.get .PART_CQ_CFG_TAIL i
  let rec_ := leBytes 4 (c.cmdId + q * 2 ^ 16 + s.get .PART_CQ_CFG_PHASE i * 2 ^ 31) ++
    leBytes 4 (c.sqHead + status * 2 ^ 16) ++ leBytes 8 result
  let s := s.ioWrite fn (some p) (queueAddr (s.get .PART_CQ_BASE_BASE i) tail 16) rec_
  let next := (tail + 1) % s.cqSize p q
  let s := s.put .PART_CQ_CFG_TAIL i next
  let s := if next = 0 then s.put .PART_CQ_CFG_PHASE i (1 - s.get .PART_CQ_CFG_PHASE i) else s
  let n := kgetD (s.part p).coal q 0 + 1
  let s := s.modPart p (fun r => { r with coal := kput q n r.coal })
  if s.flag .PART_CQ_CFG_IRQ_EN i && s.get .PART_CQ_CFG_COAL_COUNT i ≤ n then s.cqVector p q else s

/-- A command whose end is due completes (R145 to R149, R154): the first of its queue in completion order; with NO_CQE
and SUCCESS no record is written. -/
def State.complete (s : State) (p n : Nat) : State :=
  match s.cmd? p n with
  | none => s
  | some c =>
    match c.phase, s.fnOf? p with
    | .done st res, some fn =>
      let first := (s.part p).doneQ.find? (fun m => ((s.cmd? p m).map (·.queue)) == some c.queue)
      let i := qi p c.queue
      if first != some n then s
      else if c.noCqe && st = 0 then (s.retire p n).bump .PART_STATS_CMDS p
      else if s.flag .PART_Q_ERR_STOPPED i then (s.loseRecord p c).retire p n
      else if !s.flag .PART_CQ_CFG_EN i || s.cqFull p c.queue then s
      else if s.hostBlocked fn then ((s.loseRecord p c).stopPair p c.queue 1).retire p n
      else if s.mustWait fn then s
      else ((s.writeRecord p fn c st res).retire p n).bump .PART_STATS_CMDS p
    | _, _ => s

def execCompletionRecordWrite (p n : Nat) (s : State) : Host.Outcome State Fault Refusal := .next (s.complete (p % 64) n)

/-- CQ_IRQ_TIMEOUT: records are pending and the queue has written none for 8 us (R149). -/
def execCqIrqTimeout (p q : Nat) (s : State) : Host.Outcome State Fault Refusal :=
  .next <|
    if s.flag .PART_CQ_CFG_IRQ_EN (qi (p % 64) (q % 16)) && (kgetD (s.part (p % 64)).coal (q % 16) 0 != 0)
    then s.cqVector (p % 64) (q % 16) else s

/-- NOP completes with no effect (Table 4-3). -/
def execNopCommand (p n : Nat) (s : State) : Host.Outcome State Fault Refusal :=
  .next (s.start (p % 64) n 0 (fun _ s => s.finish (p % 64) n 0 0))

end Sys2Proof.Machine
end

