-- ==== Sys2Proof/Machine/Tile.lean ====
section
/-! DEFINITION. Nodes: the tile store with its poison and the matrix window, the message window of a LANTERN core,
completion counters, tasks and their ends, landing regions, and the sender's side of a message (ch. 5 and 6). -/
namespace Sys2Proof

/-! ### Packets -/

/-- The header words at 0x00 and 0x04 (Table 14-5). -/
def Pkt.word0 (p : Pkt) : Nat :=
  p.dd % 2 ^ 8 + (p.dtx % 64) * 2 ^ 8 + (p.dty % 32) * 2 ^ 14 + (p.cls % 8) * 2 ^ 19 + (p.flow % 16) * 2 ^ 22 + (p.part % 64) * 2 ^ 26
def Pkt.word1 (p : Pkt) : Nat :=
  p.sd % 2 ^ 8 + (p.stx % 64) * 2 ^ 8 + (p.sty % 32) * 2 ^ 14 + (p.opcode % 64) * 2 ^ 19 + (p.inc % 16) * 2 ^ 25

/-- Header bytes 0x00 to 0x07, as fault records carry them (Table 17-5), and 0x08 to 0x0F. -/
def Pkt.head0 (p : Pkt) : Nat := p.word0 + p.word1 * 2 ^ 32
def Pkt.head1 (p : Pkt) : Nat :=
  p.seq % 2 ^ 16 + (p.epoch % 256) * 2 ^ 16 + (p.ctr % 64) * 2 ^ 24 +
  (p.data.length % 4096 + Machine.b2n p.fence * 2 ^ 12 + Machine.b2n p.last * 2 ^ 13 + Machine.b2n p.poison * 2 ^ 14 + Machine.b2n p.resend * 2 ^ 15 +
    Machine.b2n p.backup * 2 ^ 16) * 2 ^ 32

/-- The node a packet names, and the node it comes from. -/
def Pkt.node (p : Pkt) : Nat := p.dtx % 64 + 64 * (p.dty % 32)
def Pkt.src (p : Pkt) : Nat := p.stx % 64 + 64 * (p.sty % 32)

/-- MTAG of ARG, the piece index above it, and the NACK reason (Table 14-6). -/
def Pkt.mtag (p : Pkt) : Nat := Machine.bits p.arg 0 16
def Pkt.piece (p : Pkt) : Nat := Machine.bits p.arg 16 16
def Pkt.reason (p : Pkt) : Nat := Machine.bits p.arg 16 8

/-- Message length of an RSV (Table 14-6). -/
def Pkt.msgLen (p : Pkt) : Nat := Machine.bits p.arg 32 20

namespace Machine

/-! ### Nodes -/

/-- The key of node (TX, TY); and what it names. -/
def nodeKey (x y : Nat) : Nat := x % 64 + 64 * (y % 32)
def nodeX (n : Nat) : Nat := n % 64
def nodeY (n : Nat) : Nat := n / 64

/-- The instance number of a tile's registers (R224). -/
def tileIx (n : Nat) : Nat := 48 * nodeY n + nodeX n

/-- A tile; a LANTERN core of column 62; a collective sequencer of column 61 (Table 1-2). -/
def isTile (n : Nat) : Bool := nodeX n < 48 && nodeY n < 32
def isCore (n : Nat) : Bool := nodeX n == 62 && nodeY n < 16
def isSeq (n : Nat) : Bool := nodeX n == 61 && nodeY n < 8

/-- The tile of a node; the state with it changed. -/
def State.tile (s : State) (n : Nat) : Tile := kgetD s.tiles n {}
def State.modTile (s : State) (n : Nat) (f : Tile → Tile) : State := { s with tiles := kmod s.tiles n {} f }

/-- The LANTERN core c; the state with it changed. -/
def State.core (s : State) (c : Nat) : Core := kgetD s.cores c {}
def State.modCore (s : State) (c : Nat) (f : Core → Core) : State := { s with cores := kmod s.cores c {} f }

/-- The sequencer k; the state with it changed. -/
def State.seq (s : State) (k : Nat) : SeqUnit := kgetD s.seqs k {}
def State.modSeq (s : State) (k : Nat) (f : SeqUnit → SeqUnit) : State := { s with seqs := kmod s.seqs k {} f }

/-- The messaging side of a node. -/
def State.msgOf (s : State) (n : Nat) : NodeMsg :=
  if isCore n then (s.core (nodeY n)).msg else if isSeq n then (s.seq (nodeY n)).msg else (s.tile n).msg
def State.modMsg (s : State) (n : Nat) (f : NodeMsg → NodeMsg) : State :=
  if isSeq n then s.modSeq (nodeY n) (fun q => { q with msg := f q.msg })
  else if isCore n then s.modCore (nodeY n) (fun c => { c with msg := f c.msg }) else s.modTile n (fun t => { t with msg := f t.msg })

/-- The partition of a node: a tile's owner, a core's PART (R96, R294). -/
def State.nodePart? (s : State) (n : Nat) : Option Nat :=
  if isCore n then some (s.get .LNT_CORE_CFG_PART (nodeY n)) else s.com.owner? (nodeX n) (nodeY n)

/-- The tiles that a partition owns. -/
def State.tilesOf (s : State) (p : Nat) : List Nat :=
  ((List.range 32).flatMap (fun y => (List.range 48).map (fun x => nodeKey x y))).filter
    (fun n => s.com.owner? (nodeX n) (nodeY n) == some p)

/-- The quadrant of a tile: a remapped one lies where its spare does (R56, R30). -/
def State.quad (s : State) (n : Nat) : Nat :=
  match s.com.remaps.find? (fun e => !e.lend && e.tx == nodeX n && e.ty == nodeY n) with
  | some e => 4 * e.die + e.spare / 4
  | none => quadOf (nodeX n) (nodeY n)

/-- The incarnation of a partition (Table 4-17). -/
def State.incOf (s : State) (p : Nat) : Nat := s.get .PART_STATE_INCARNATION p

/-- The quadrant of a tile is OFF under the UNUSED policy (R82). -/
def State.unusedQuad (s : State) (n : Nat) : Bool :=
  let q := s.quad n
  s.domState q == 0 && (nthD s.com.img.power q {}).policy == 3

/-! ### The tile store (R178 to R181, R195) -/

/-- Bytes that a queued matrix instruction reads or writes: (first, count). -/
def MatEnt.spans (e : MatEnt) : List (Nat × Nat) :=
  match e.op with
  | 0 => let w := if e.fmt = 3 then 2 else 1
    [(e.a, 32 * e.k * w), (e.b, 32 * e.k * w)]
  | 2 => [(e.a, 4096)]
  | 3 => [(e.a, match e.fmt with | 0 => 4096 | 1 => 2048 | _ => 1024)]
  | _ => []

/-- An incomplete matrix instruction reads or writes byte a. -/
def Tile.matHas (t : Tile) (a : Nat) : Bool := t.matq.any (fun e => e.spans.any (fun p => p.1 ≤ a && a < p.1 + p.2))

/-- A write of n bytes from a spoils every queued matrix instruction whose bytes it touches (R195, R223). -/
def Tile.spoil (t : Tile) (a n : Nat) : Tile :=
  { t with matq := t.matq.map (fun e => if e.spans.any (fun p => spansMeet p.1 p.2 a n) then { e with spoilt := true } else e) }

/-- Poison marks after a write of n bytes from a (R181). -/
def granuleMarks (marks : List Nat) (a n : Nat) (poison : Bool) : List Nat :=
  if n = 0 then marks
  else
    let gs := rangeFrom (a / 64) ((a + n - 1) / 64 - a / 64 + 1)
    if poison then gs.filter (fun g => !marks.contains g) ++ marks
    else marks.filter (fun g => !(a ≤ 64 * g && 64 * g + 64 ≤ a + n))

/-- Bytes written to the tile store. -/
def Tile.write (t : Tile) (a : Nat) (bs : List Byte) (poison : Bool := false) : Tile :=
  let t := if bs = [] then t else t.spoil a bs.length
  { t with store := Mem.writeN a bs t.store, undef := cutSpans a (a + bs.length) t.undef, poison := granuleMarks t.poison a bs.length poison }

/-- A poisoned granule lies in n bytes from a. -/
def Tile.bad (t : Tile) (a n : Nat) : Bool :=
  n != 0 && t.poison.any (fun g => a / 64 ≤ g && g ≤ (a + n - 1) / 64)

/-- One byte of the tile store; free where an incomplete matrix instruction touches it (R195), or where its contents are
undefined (Table 2-1). -/
def Tile.byte (t : Tile) (id a : Nat) (b : Byte) : Byte :=
  if t.matHas a then Config.freeByte id a
  else match t.undef.find? (fun u => u.2.1 ≤ a && a < u.2.2) with | some u => Config.freeByte u.1 a | none => b

/-- n bytes of the tile store. -/
def Tile.read (t : Tile) (id a n : Nat) : List Byte := (t.store.readN a n).zipIdx.map (fun e => t.byte id (a + e.2) e.1)

/-- n bytes of a tile's store and the state with the draw that undefined bytes take. -/
def State.tileRead (s : State) (n a len : Nat) : List Byte × State :=
  let t := s.tile n
  if t.matq = [] && t.undef = [] then (t.store.readN a len, s)
  else (t.read s.freeCtr a len, { s with freeCtr := s.freeCtr + 1 })

/-! ### The store that a node's messages use -/

/-- A message window may lie at b: in HBM, and for an assigned core in a window of its partition (R277, R293, R315). -/
def State.windowOk (s : State) (c b : Nat) : Bool :=
  b + 2 ^ 19 ≤ hbmEnd &&
    (!s.flag .LNT_CORE_CFG_ASSIGNED c ||
      match s.com.window? b (2 ^ 19) with
      | some w => !w.provider && w.owner == s.get .LNT_CORE_CFG_PART c
      | none => false)

/-- The base of a core's message window, while it is enabled; EN is held at 0 where the window may not lie there (R293). -/
def State.window? (s : State) (c : Nat) : Option Nat :=
  let v := kgetD (s.core c).csrs 0x51 0
  let b := bits v 19 29 * 2 ^ 19
  if bit v 0 && s.windowOk c b then some b else none

/-- Source bytes of a message: store bytes and poison (R181, R199, R293). -/
def State.nodeRead (s : State) (n a len : Nat) : (List Byte × Bool) × State :=
  if isCore n then
    match s.window? (nodeY n) with
    | some b => ((s.plainRead (b + a) len, s.anyPoison (b + a) len), s)
    | none => (((List.range len).map (fun i => Config.freeByte s.freeCtr (a + i)), false), { s with freeCtr := s.freeCtr + 1 })
  else
    let r := s.tileRead n a len
    ((r.1, (s.tile n).bad a len), r.2)

/-- A packet's bytes landed (R181, R243, R293). -/
def State.nodeLand (s : State) (n a : Nat) (bs : List Byte) (poison : Bool) : State :=
  if isCore n then
    match s.window? (nodeY n) with
    | some b => s.plainWrite (b + a) bs poison
    | none => s
  else s.modTile n (fun t => t.write a bs poison)

/-- The class of an opcode (Table 14-6). -/
def opcodeClass (op : Nat) : Option Nat :=
  match op with
  | 0x01 => some 2
  | 0x02 | 0x06 | 0x07 | 0x09 | 0x0B => some 0
  | 0x03 | 0x04 | 0x05 | 0x08 | 0x0A | 0x0C | 0x20 => some 1
  | 0x10 | 0x11 | 0x12 => some 3
  | 0x18 | 0x19 | 0x1A | 0x1B => some 4
  | 0x28 => some 5
  | _ => none

/-- A header-only answer to a packet (Tables 6-1, 14-6). -/
def State.reply (s : State) (p : Pkt) (op arg : Nat) : Pkt :=
  { dd := p.sd, dtx := p.stx, dty := p.sty, cls := (opcodeClass op).getD 1, flow := p.flow, part := p.part, sd := s.self, stx := p.dtx
    sty := p.dty, opcode := op, inc := s.incOf p.part, epoch := s.get .KIM_EPOCH_EPOCH % 256, arg := arg }

/-! ### Counters and tasks -/

/-- A counter has reached a target (R245). -/
def ctrReached (c t : Nat) : Bool := (c + 2 ^ 32 - t % 2 ^ 32) % 2 ^ 32 < 2 ^ 31

/-- The completion condition of a region (R232). -/
def Region.done (r : Region) : Bool :=
  match r.mode with
  | 1 => r.landed == r.size
  | 2 => r.fence && r.landed == r.granted
  | _ => false

/-- A region whose condition has come to hold becomes COMPLETE (R231). -/
def Region.settle (r : Region) : Region :=
  if r.state = 1 && r.done then { r with state := 2 }
  else if r.state = 3 && r.landed = r.granted then { r with state := 0 }
  else r

/-- The wait of a suspended task holds now; time is cadence time bits [62:0] (R202, R201, R206). -/
def WaitOn.holds (w : WaitOn) (m : NodeMsg) (rs : List Region) (time : Nat) : Bool :=
  match w with
  | .ctr c t => ctrReached (kgetD m.ctrs c 0) t
  | .region r _ => (nthD rs r {}).state == 2
  | .time t _ => t ≤ time
  | .slot t _ => t ≤ time

/-- A task whose condition holds becomes READY (Table 6-4, R252). -/
def TaskRec.settle (m : NodeMsg) (time seq : Nat) (k : TaskRec) : TaskRec :=
  match k.state with
  | .waiting => if !k.depEn || ctrReached (kgetD m.ctrs k.depCtr 0) k.depTarget then { k with state := .ready, readySeq := seq } else k
  | .suspended w => if w.holds m k.regions time then { k with state := .ready, readySeq := seq, resume := some w } else k
  | _ => k

/-- Every task of a tile whose condition holds becomes READY, in the order of the table. -/
def settleTasks (m : NodeMsg) (time : Nat) : Nat → List TaskRec → List TaskRec × Nat
  | seq, [] => ([], seq)
  | seq, k :: ks =>
    let k1 := TaskRec.settle m time seq k
    let r := settleTasks m time (if k1.state = k.state then seq else seq + 1) ks
    (k1 :: r.1, r.2)

/-- A task is live until its end and until its regions are disarmed (R248). -/
def TaskRec.live (k : TaskRec) : Bool := k.state != .ended || k.regions.any (fun r => r.state != 0)

/-- Regions and tasks of a tile brought up to date with its counters and landings; tasks no longer live leave (R231,
R248, R250). -/
def Tile.settle (t : Tile) (time : Nat) : Tile :=
  let ks := t.tasks.map (fun k => { k with regions := k.regions.map Region.settle })
  let r := settleTasks t.msg time t.readyCtr ks
  { t with tasks := r.1.filter TaskRec.live, readyCtr := r.2 }

/-- Cadence time bits [62:0]. -/
def State.time (s : State) : Nat := s.cadenceTime % 2 ^ 63

/-- A node brought up to date. -/
def State.settleNode (s : State) (n : Nat) : State :=
  if isCore n then s.modCore (nodeY n) (fun c => { c with inbox := c.inbox.settle })
  else if !isTile n then s
  else s.modTile n (fun t => t.settle s.time)

/-- A completion counter advances (R242, R250). -/
def State.advance (s : State) (n ctr k : Nat) : State :=
  (s.modMsg n (fun m => { m with ctrs := kput ctr ((kgetD m.ctrs ctr 0 + k) % 2 ^ 32) m.ctrs })).settleNode n

/-! ### Landing regions (R231 to R240, R259) -/

/-- The regions of a node with the task they belong to: (task, index, region). -/
def State.regionsOf (s : State) (n : Nat) : List (Nat × Nat × Region) :=
  if isCore n then [(0, 0, (s.core (nodeY n)).inbox)]
  else if !isTile n then []
  else (s.tile n).tasks.flatMap (fun k => k.regions.zipIdx.map (fun e => (k.id, e.2, e.1)))

/-- The state with one region of a node changed. -/
def State.modRegion (s : State) (n task idx : Nat) (f : Region → Region) : State :=
  if isCore n then s.modCore (nodeY n) (fun c => { c with inbox := f c.inbox })
  else if !isTile n then s
  else s.modTile n (fun t => { t with tasks := t.tasks.map (fun k =>
    if k.id = task then { k with regions := k.regions.zipIdx.map (fun e => if e.2 = idx then f e.1 else e.1) } else k) })

/-- A region holds the span [land, land + len). -/
def Region.holds (r : Region) (land len : Nat) : Bool := r.mode != 0 && r.base ≤ land && land + len ≤ r.base + r.size

/-- The region that can grant an RSV now, if any (R233, R234). -/
def State.grantor? (s : State) (n : Nat) (p : Pkt) : Option (Nat × Nat) :=
  if 32 ≤ (s.msgOf n).grants.length then none
  else
    ((s.regionsOf n).find? (fun e => e.2.2.holds p.land p.msgLen && e.2.2.state == 1 &&
      (e.2.2.mode != 1 || e.2.2.granted + p.msgLen ≤ e.2.2.size))).map (fun e => (e.1, e.2.1))

/-! ### Routes (R579, R584, R629 to R631) -/

/-- Entry e of a TX table is of a kind and a flow of a partition. -/
def SlotEnt.names (e : SlotEnt) (kind : SlotKind) (part flow : Nat) : Bool := e.kind == kind && e.part == part && e.flow == flow

/-- A port's TX table holds entries of a kind for a flow, as R105 puts the tables together. -/
def Struct.hasSlots (c : Struct) (port part flow : Nat) (kind : SlotKind) : Bool :=
  match c.img.block? port with
  | none => false
  | some b =>
    match (c.part? part).bind (fun im => im.block? port) with
    | none => b.tx.any (fun e => e.names kind part flow)
    | some q => (b.tx.zip q.tx).any (fun e => (e.1.kind == .flow || e.1.kind == .backup) && e.1.part == part && e.2.names kind part flow)

/-- A port is UP (Table 14-17). -/
def State.portUp (s : State) (p : Nat) : Bool := s.get .FAB_PORT_STAT_STATE p == 7

/-- A port is usable for a flow by its entries of a kind (R629). -/
def State.usable (s : State) (p part flow : Nat) (kind : SlotKind) : Bool := s.portUp p && s.com.hasSlots p part flow kind

/-- The PRIMARY and BACKUP masks of a flow's route entry for a device. -/
def State.routeEnt (s : State) (part flow dest : Nat) : Nat × Nat :=
  match s.com.routeSet? part flow with
  | none => (0, 0)
  | some r => nthD r.entries dest (0, 0)

/-- The torus ports of a mask. -/
def maskPorts (m : Nat) : List Nat := (List.range 12).filter (fun p => bit m p)

/-- The ports on which a packet of a flow may go to a device now: PRIMARY's usable ones, or BACKUP's after failover;
MGMT packets, which use SLACK slots, take any port of the mask that is UP (R579, R586, R629). -/
def State.routePorts (s : State) (part flow dest : Nat) (mgmt : Bool) : List Nat :=
  let e := s.routeEnt part flow dest
  let moved := s.fab.failed.contains (part, flow, dest)
  if mgmt then (maskPorts (if moved then e.2 else e.1)).filter s.portUp
  else if moved then (maskPorts e.2).filter (fun p => s.usable p part flow .backup)
  else (maskPorts e.1).filter (fun p => s.usable p part flow .flow)

/-- A packet of a flow has no route to a device (R584, R631). -/
def State.noRoute (s : State) (p : Pkt) : Bool := s.routePorts p.part p.flow p.dd (p.opcode == 0x28) == []

/-! ### The sender's side -/

/-- The send entry of a message. -/
def State.send? (s : State) (n mtag : Nat) : Option SendEnt := (s.msgOf n).sends.find? (fun e => e.mtag == mtag)

/-- The state with a send entry changed, or removed. -/
def State.modSend (s : State) (n mtag : Nat) (f : SendEnt → SendEnt) : State :=
  s.modMsg n (fun m => { m with sends := m.sends.map (fun e => if e.mtag = mtag then f e else e) })
def State.delSend (s : State) (n mtag : Nat) : State :=
  s.modMsg n (fun m => { m with sends := m.sends.filter (fun e => e.mtag != mtag) })

/-- A message is over for its source buffer: LCTR advances once (R242). -/
def State.countSend (s : State) (n : Nat) (e : SendEnt) : State :=
  let s1 := s.modSend n e.mtag (fun e => { e with counted := true, queued := false })
  if e.counted || !e.lctrEn then s1 else s1.advance n e.lctr e.len

/-- A message fails at its sender without a record of its own (R241, R347). -/
def State.dropSend (s : State) (n mtag : Nat) : State :=
  match s.send? n mtag with
  | none => s
  | some e => ((s.countSend n e).bump .MSG_ERR_FAILED e.part).delSend n mtag

/-- The fault record of a message: its source node, offset, MTAG, opcode and header bytes (Table 17-5). -/
def State.meshFault (s : State) (code : Nat) (ring : Option Nat) (p : Pkt) : FaultRec :=
  { s.mkFault 0x04 code ring with
    tx := p.stx, ty := p.sty, dev := p.sd, addr := some p.land
    info0 := p.mtag + (p.opcode % 64) * 2 ^ 16, info1 := p.head0 }

/-- The header of the first packet that a message of a node sends. -/
def State.sendHead (s : State) (n : Nat) (e : SendEnt) : Pkt :=
  { dd := e.dd, dtx := e.dtx, dty := e.dty, flow := e.flow, part := e.part, sd := s.self, stx := nodeX n, sty := nodeY n
    inc := e.inc, epoch := s.get .KIM_EPOCH_EPOCH % 256
    cls := 0, opcode := match e.kind with | 0 => 0x02 | 1 => 0x07 | _ => 0x09
    land := if e.kind = 0 then e.addr else if e.kind = 1 then e.off else 0
    ctr := e.ctr
    data := if e.kind = 0 then [] else leBytes 8 e.addr ++ leBytes 4 e.len ++ leBytes 4 e.ctx
    arg := if e.kind = 0 then e.mtag + e.len * 2 ^ 32 else e.mtag }

/-- A message fails with a MESH code in its sender's ring (R241); the end record of a sequencer with NOTIFY_FAIL (R600). -/
def State.failSend (s : State) (n mtag code : Nat) : State :=
  match s.send? n mtag with
  | none => s
  | some e =>
    let f := if isSeq n then { s.mkFault 0x0A 0x02 (some e.part) with tx := nodeX n, ty := nodeY n }
      else s.meshFault code (some e.part) (s.sendHead n e)
    (s.raise f).dropSend n mtag

/-- A message fails with a FAB record (R584, R626); reason is the NACK's, 0 for none. -/
def State.failSendFab (s : State) (n mtag code reason : Nat) (p : Pkt) : State :=
  match s.send? n mtag with
  | none => s
  | some e => (s.raise { s.mkFault 0x09 code (some e.part) with
      tx := nodeX n, ty := nodeY n, info0 := p.head0, info1 := p.head1 % 2 ^ 56 + reason * 2 ^ 56 }).dropSend n mtag

/-- A packet finds no route at its source (R584): its message fails; one that belongs to no message is dropped, a
COLL_ABORT and an answer without a record (R635). -/
def State.noRouteAt (s : State) (p : Pkt) : State :=
  if p.cls = 1 ∨ p.cls = 3 then s
  else if p.opcode = 0x28 then s.raise { s.mkFault 0x09 0x01 (some p.part) with tx := p.stx, ty := p.sty, info0 := p.head0, info1 := p.head1 }
  else s.failSendFab p.src p.mtag 0x01 0 p

/-- A packet leaves a node: over the mesh, or to the fabric exit (R33, R43, R579, R584). -/
def State.sendPkt (s : State) (p : Pkt) : State :=
  if p.dd = s.self then s.emit (.mesh p)
  else if s.noRoute p then s.noRouteAt p
  else { s with fab := { s.fab with exit := s.fab.exit ++ [p] } }

/-! ### Grants and pending reservations -/

/-- An RSV is granted by a region: the grant table, GRANTED and the GRANT packet (R233). -/
def State.grant (s : State) (n : Nat) (p : Pkt) (task idx : Nat) : State :=
  let g : Grant :=
    { sd := p.sd, sx := p.stx, sy := p.sty, mtag := p.mtag, task := task, region := idx, land := p.land, len := p.msgLen, left := p.msgLen }
  let s := s.modMsg n (fun m => { m with grants := m.grants ++ [g] })
  (s.modRegion n task idx (fun r => { r with granted := r.granted + p.msgLen })).sendPkt (s.reply p 0x03 p.mtag)

/-- Pending RSVs examined in arrival order (R233, R239); the list given are those still to look at. -/
def State.examineL (n : Nat) : List Pkt → State → State
  | [], s => s
  | p :: ps, s =>
    match s.grantor? n p with
    | some (task, idx) => State.examineL n ps ((s.modMsg n (fun m => { m with pendRsv := m.pendRsv.erase p })).grant n p task idx)
    | none => State.examineL n ps s

/-- Pending RSVs of a node examined again (R233, R234, R239). -/
def State.examine (s : State) (n : Nat) : State := State.examineL n (s.msgOf n).pendRsv s

/-- Pending RSVs that no region of a live task can satisfy any more and that the ended regions could: answered NACK with
NO_REGION (R259). -/
def State.nackPending (s : State) (n : Nat) (ended : List Region) : State :=
  let rs := s.regionsOf n
  (s.msgOf n).pendRsv.foldl (fun s p =>
    if ended.any (fun r => r.holds p.land p.msgLen) && !rs.any (fun e => e.2.2.holds p.land p.msgLen && (e.2.2.state == 1 || e.2.2.state == 2))
    then (s.modMsg n (fun m => { m with pendRsv := m.pendRsv.erase p })).sendPkt (s.reply p 0x05 (p.mtag + 0x01 * 2 ^ 16))
    else s) s

/-! ### The end of a task (R254, R256, R257) -/

/-- How a task ends (Table 6-5). -/
structure TaskEnd where
  /-- 0 DONE, 1 FAULTED, 2 CANCELLED. -/
  how : Nat := 0
  user : Nat := 0
  exc : Nat := 0
  raced : Bool := false

/-- The 16 bytes of an end record (Table 6-5). -/
def endRecord (k : TaskRec) (e : TaskEnd) (time : Nat) : List Byte :=
  leBytes 4 (k.id + (e.user % 256) * 2 ^ 16 + e.how * 2 ^ 24 + b2n e.raced * 2 ^ 26 + b2n k.dispatched * 2 ^ 27) ++
    leBytes 4 (e.exc + k.lastPc * 2 ^ 16) ++ leBytes 8 time

/-- A task ends that commands wait for: they count it where it ended CANCELLED, and a TASK_CANCEL whose tasks have all
ended completes (R255, Table 4-7). -/
def State.cancelEnded (s : State) (p n id : Nat) (counts : Bool) : State :=
  if (s.part p).active.all (fun c => !c.cancels.contains (n, id)) then s
  else
    let s := s.modPart p (fun r => { r with active := r.active.map (fun c =>
      if c.cancels.contains (n, id) then { c with cancels := c.cancels.erase (n, id), progress := c.progress + b2n counts } else c) })
    ((s.part p).active.filter (fun c => c.opcode == 8 && c.phase == .running && c.cancels == [])).foldl
      (fun s c => s.finish p c.num 0 c.progress) s

/-- The task of a tile ends (R254): its record, END_CTR, its regions, MSG_TASKS, and pending RSVs (R259). -/
def State.endTask (s : State) (n id : Nat) (e : TaskEnd) : State :=
  match (s.tile n).tasks.find? (fun k => k.id == id && k.state != .ended) with
  | none => s
  | some k =>
    let p := (s.nodePart? n).getD 0
    let s := if k.recEn then s.modTile n (fun t => t.write k.recOff (endRecord k e s.cadenceTime)) else s
    let s := s.modTile n (fun t => { t with
      cur := if t.cur = some id then none else t.cur
      tasks := t.tasks.map (fun j => if j.id = id then { j with
        state := .ended, regions := j.regions.map (fun r => if r.state = 1 ∨ r.state = 2 then { r with state := 3 } else r) } else j) })
    let s := if k.endEn then s.advance n k.endCtr 1 else s
    let s := s.settleNode n
    let s := s.bump (match e.how with | 0 => .MSG_TASKS_DONE | 1 => .MSG_TASKS_FAULTED | _ => .MSG_TASKS_CANCELLED) p
    let s := if e.raced then s.put .MSG_TASKS_RACED_SEEN p 1 else s
    (s.nackPending n k.regions).cancelEnded p n id (e.how == 2)

/-! ### Tile exceptions (R212 to R215) -/

/-- An exception is tile-fatal: IMEM_PARITY and STORE_ECC (Table 5-14). -/
def excFatal (code : Nat) : Bool := code == 0x0A || code == 0x09

/-- The fault record and the TILE_EXC registers of an exception (R214, Tables 5-17, 17-5). -/
def State.tileExc (s : State) (n code pc addr info : Nat) (imprecise : Bool) : State :=
  let i := tileIx n
  let s := ((s.put .TILE_EXC_CODE i code).put .TILE_EXC_IMPRECISE i (b2n imprecise)).put .TILE_EXC_TILE_FATAL i (b2n (excFatal code))
  let s := ((s.put .TILE_EXC_NEW i 1).put .TILE_EXC_PC i pc).bump .TILE_EXC_COUNT i
  let s := (s.put .TILE_EXC_ADDR_ADDR i addr).put .TILE_EXC_ADDR_INFO i info
  s.raise { s.mkFault 0x03 code (s.nodePart? n) with
    tx := nodeX n, ty := nodeY n, addr := some addr, sev := if excFatal code then 2 else 1
    info0 := pc % 2 ^ 16 + b2n imprecise * 2 ^ 16, info1 := info }

/-- A tile-fatal exception halts the tile (R215). -/
def State.tileFatal (s : State) (n code pc addr : Nat) (imprecise : Bool) : State :=
  (s.tileExc n code pc addr 0 imprecise).put .TILE_STATUS_CORE (tileIx n) 2

/-- The tile's core is halted. -/
def State.halted (s : State) (n : Nat) : Bool := s.get .TILE_STATUS_CORE (tileIx n) == 2

/-- The eight accumulators with undefined contents, drawn from a counter value on. -/
def freeAccs (c : Nat) : KMap (List Nat) :=
  (List.range 8).map (fun a => (a, (List.range 1024).map (fun j => Config.free (c + 1024 * a + j) % 2 ^ 32)))

/-- A task-fatal exception (R214): queued matrix instructions are discarded and the accumulators are open; the task ends
FAULTED. -/
def State.taskFault (s : State) (n id code pc addr info : Nat) (imprecise : Bool) : State :=
  let s := s.tileExc n code pc addr info imprecise
  let s := s.modTile n (fun t => { t with
    matq := [], imprecise := none
    accs := freeAccs s.freeCtr
    tasks := t.tasks.map (fun k => if k.id = id then { k with lastPc := pc } else k) })
  { s with freeCtr := s.freeCtr + 8192 }.endTask n id { how := 1, exc := code }

/-- A cancel reaches a live task (R250, R256, R258): a running one keeps it pending. -/
def State.cancelTask (s : State) (n id : Nat) (raced : Bool) : State :=
  match (s.tile n).tasks.find? (fun k => k.id == id) with
  | none => s
  | some k =>
    match k.state with
    | .ended => s
    | .running => s.modTile n (fun t => { t with tasks := t.tasks.map (fun j => if j.id = id then { j with cancel := true } else j) })
    | _ => s.endTask n id { how := 2, raced := raced }

end Machine
end Sys2Proof
end

