-- ==== Sys2Proof/Machine/Msg.lean ====
section
/-! DEFINITION. Messages between nodes: reservations, grants, landings, releases, the sender's packets, and the
answers of a stream engine at the node that asked (ch. 6). -/
namespace Sys2Proof.Machine

/-! ### Arrival at a node -/

/-- A packet's partition counts it now: its incarnation is the current one, and a packet from the fabric finds the
partition RUNNING, ENDING or QUIESCING (R43, R158, R266). -/
def State.counts (s : State) (p : Pkt) : Bool :=
  p.inc == s.incOf p.part && (p.sd == s.self || (2 ≤ s.pstate p.part && s.pstate p.part ≤ 4))

/-- The packet of a fabric window has reached its node (R639). -/
def State.landedSeq (s : State) (p : Pkt) : State :=
  if p.sd = s.self then s
  else { s with fab := { s.fab with wins := s.fab.wins.map (fun w =>
    if w.part = p.part ∧ w.flow = p.flow ∧ w.src = p.sd then { w with fly := w.fly.erase p.seq } else w) } }

/-- A packet is dropped uncounted with a MESH record in the ring of its partition (R237, R266). -/
def State.dropPkt (s : State) (code : Nat) (p : Pkt) : State :=
  (s.raise (s.meshFault code (some (p.part % 64)) p)).bump .MSG_ERR_DROPPED (p.part % 64)

/-- A packet of another incarnation or of a partition that does not run: STALE; its source hears STALE_INC where the
packet came from the fabric and is not itself an answer (R158, R266). -/
def State.dropStale (s : State) (p : Pkt) : State :=
  let s := s.dropPkt 0x07 p
  if p.sd != s.self && p.cls != 1 then s.sendPkt (s.reply p 0x05 (p.mtag + 0x06 * 2 ^ 16)) else s

/-- A packet of opcode op reaches the node it names: held while the node's domain wakes or its tile is under reset
(R63, R83); f acts on it once its class, its device and its partition are right (R43, R158, R266, R575). -/
def State.arrive (s : State) (p : Pkt) (op : Nat) (f : State → State) : State :=
  let n := p.node
  if p.opcode != op || opcodeClass op != some p.cls || p.dd != s.self || s.pilot.internalUe then s
  else if isTile n && s.pilot.tileReset.contains n then s
  else
    let go (s : State) : State := if s.counts p then f (s.landedSeq p) else (s.landedSeq p).dropStale p
    if isTile n then s.needs (s.quad n) go
    else if isCore n then s.needs domLantern go
    else if isSeq n then s.needs 20 go
    else go s

/-! ### Reservations (R233 to R240) -/

/-- Why a node takes no message of a partition, by Table 6-2: RESERVED_NODE, UNUSED_QUADRANT, NOT_OWNER; 0 where it may. -/
def State.refusal (s : State) (n part : Nat) : Nat :=
  if isTile n then
    if s.unusedQuad n then 0x03
    else if s.nodePart? n != some part then 0x02
    else if !s.com.takes (nodeX n) (nodeY n) then 0x01
    else 0
  else if isCore n then (if s.nodePart? n = some part then 0 else 0x02)
  else if isSeq n then 0
  else 0x01

/-- A message that its destination refuses is dropped: a local sender fails it; for one from the fabric the node answers
NACK and the record goes to the header's partition or, for a node R37 does not name, to the device (R37, R42, R44). -/
def State.refuse (s : State) (code : Nat) (p : Pkt) : State :=
  if p.sd = s.self then s.failSend p.src p.mtag code
  else
    let s := s.landedSeq p
    let s := if code = 0x01 ∧ !isTile p.node then s.sendPkt (s.reply p 0x05 (p.mtag + 0x03 * 2 ^ 16)) else s
    s.raise (s.meshFault code (if code = 0x01 ∧ !isTile p.node then none else some (p.part % 64)) p)

/-- A sequencer grants the RSV of a descriptor while it has a free slot (R595). -/
def State.seqGrants (s : State) (n : Nat) (p : Pkt) : Bool :=
  let q := s.seq (nodeY n)
  p.land == 0 && p.msgLen == 64 && q.colls.length + q.msg.grants.length < 16

/-- An RSV at its destination node: granted, pending, or answered RETRY or NACK (R233, R234, R240, R293, R595). -/
def State.reserve (s : State) (p : Pkt) : State :=
  let n := p.node
  if isCore n && (s.window? (nodeY n)).isNone then s.sendPkt (s.reply p 0x05 (p.mtag + 0x01 * 2 ^ 16))
  else if isSeq n && s.seqGrants n p then s.grant n p 0 0
  else
    match (if isSeq n then none else s.grantor? n p) with
    | some (task, idx) => s.grant n p task idx
    | none =>
      if (s.msgOf n).pendRsv.length < 16 then s.modMsg n (fun m => { m with pendRsv := m.pendRsv ++ [p] })
      else s.sendPkt (s.reply p 0x04 p.mtag)

/-- RSV: a reservation request arrives. -/
def State.rsv (s : State) (p : Pkt) : State :=
  let n := p.node
  if p.opcode != 0x02 || p.cls != 0 || p.dd != s.self then s
  else if p.sd = s.self ∧ 48 ≤ p.dtx % 64 ∧ p.dtx % 64 ≤ 58 then s.sendPkt (s.reply p 0x05 (p.mtag + 0x02 * 2 ^ 16))
  else
    let code := s.refusal n (p.part % 64)
    if code != 0 then s.refuse code p else s.arrive p 0x02 (fun s => s.reserve p)

def execMeshRsv (p : Pkt) (s : State) : Host.Outcome State Fault Refusal := .next (s.rsv p)

/-- GRANT: the sender's engine may send the message; for a message that is no more the grant is given back (R233, R267). -/
def State.granted (s : State) (p : Pkt) : State :=
  match s.send? p.node p.mtag with
  | none => s.sendPkt (s.reply p 0x06 p.mtag)
  | some e => if e.kind = 0 then s.modSend p.node p.mtag (fun e => { e with granted := true, retry := false }) else s

def execMeshGrant (p : Pkt) (s : State) : Host.Outcome State Fault Refusal := .next (s.arrive p 0x03 (fun s => s.granted p))

/-- RETRY: the RSV or the stream request is to be sent again (R234, R320). -/
def execMeshRetry (p : Pkt) (s : State) : Host.Outcome State Fault Refusal :=
  .next (s.arrive p 0x04 (fun s => s.modSend p.node p.mtag (fun e => if e.granted then e else { e with retry := true, retries := e.retries + 1 })))

/-- RSV_RESEND: 128 ns after RETRY the RSV goes out again (R234). -/
def execRsvResend (node mtag : Nat) (s : State) : Host.Outcome State Fault Refusal :=
  .next <|
    match s.send? node mtag with
    | some e =>
      if e.kind = 0 && e.retry && !e.granted then
        ((s.modSend node mtag (fun e => { e with retry := false })).bump .MSG_ERR_RETRIES e.part).sendPkt (s.sendHead node e)
      else s
    | none => s

/-- RSV_WAIT_EXPIRE: no GRANT within RSV_WAIT of the sender's partition (R235). -/
def execRsvWaitExpire (node mtag : Nat) (s : State) : Host.Outcome State Fault Refusal :=
  .next <|
    match s.send? node mtag with
    | some e => if e.kind = 0 && !e.granted && s.get .MSG_CFG_RSV_WAIT e.part != 0 then s.failSend node mtag 0x04 else s
    | none => s

/-- PENDING_RSV_TIMEOUT: the RSV at place k of the pending queue has waited RSV_WAIT of the receiver's partition (R235). -/
def execPendingRsvTimeout (node k : Nat) (s : State) : Host.Outcome State Fault Refusal :=
  .next <|
    match (s.msgOf node).pendRsv[k]? with
    | some p =>
      let part := if isSeq node then p.part % 64 else (s.nodePart? node).getD 0
      if s.get .MSG_CFG_RSV_WAIT part = 0 then s
      else (s.modMsg node (fun m => { m with pendRsv := m.pendRsv.eraseIdx k })).sendPkt (s.reply p 0x05 (p.mtag + 0x01 * 2 ^ 16))
    | none => s

/-! ### Landings (R236, R237, R242 to R244) -/

/-- The grant of a packet's message at its node. -/
def State.grant? (s : State) (p : Pkt) : Option Grant :=
  (s.msgOf p.node).grants.find? (fun g => g.sd == p.sd && g.sx == p.stx % 64 && g.sy == p.sty % 32 && g.mtag == p.mtag)

/-- Two grants of one message. -/
def Grant.same (g h : Grant) : Bool := g.sd == h.sd && g.sx == h.sx && g.sy == h.sy && g.mtag == h.mtag

/-- Bytes of a grant are counted or released: landed bytes count in the region, others leave its GRANTED; an empty grant
frees and pending RSVs are examined (R233, R234, R268). -/
def State.useGrant (s : State) (n : Nat) (g : Grant) (k : Nat) (land fence : Bool) : State :=
  let s := s.modMsg n (fun m => { m with grants :=
    (m.grants.map (fun h => if h.same g then { h with left := h.left - k, fence := none } else h)).filter (fun h => h.left != 0) })
  let s := s.modRegion n g.task g.region (fun r =>
    if land then { r with landed := r.landed + k, fence := r.fence || fence } else { r with granted := r.granted - k })
  let s := s.settleNode n
  if g.left = k then s.examine n else s

/-- Every packet of the flow that the same tile issued earlier to this node, and every other packet of its own message,
has been counted (R200, R639). -/
def State.fenceReady (s : State) (g : Grant) (p : Pkt) : Bool :=
  g.left == p.data.length &&
    (if p.sd = s.self then
      ((s.msgOf p.src).sends.takeWhile (fun e => e.mtag != p.mtag)).all
        (fun e => !(e.kind == 0 && e.dd == p.dd && e.dtx == p.dtx && e.dty == p.dty && e.flow == p.flow))
    else
      s.fab.wins.all (fun w => !(w.part == p.part && w.flow == p.flow && w.src == p.sd) ||
        ((p.seq + 2 ^ 16 - w.base) % 2 ^ 16 ≥ 2 ^ 15 && w.fly.all (fun q => (q + 2 ^ 16 - p.seq) % 2 ^ 16 < 2 ^ 15))))

/-- A landed DATA packet is counted: its counter, its grant and region, and a local sender's message (R242 to R244). -/
def State.countData (s : State) (p : Pkt) (g : Grant) : State :=
  let k := p.data.length
  let s := s.useGrant p.node g k true p.fence
  let s := if isSeq p.node then s else s.advance p.node (p.ctr % 64) k
  if p.sd = s.self then
    match s.send? p.src p.mtag with
    | some e => if e.done + k = e.len then s.delSend p.src p.mtag else s.modSend p.src p.mtag (fun e => { e with done := e.done + k })
    | none => s
  else s

/-- FENCE packets of a node whose earlier packets have all been counted are counted in their turn; f bounds the rounds. -/
def State.releaseFences (n : Nat) : Nat → State → State
  | 0, s => s
  | f + 1, s =>
    match (s.msgOf n).grants.find? (fun g => match g.fence with | some p => s.fenceReady g p | none => false) with
    | some g =>
      match g.fence with
      | some p => State.releaseFences n f (s.countData p g)
      | none => s
    | none => s

/-- A packet within its sender's grant lands and is counted; a FENCE packet may wait for its count. -/
def State.landData (s : State) (p : Pkt) (g : Grant) : State :=
  let n := p.node
  let s := s.nodeLand n p.land p.data p.poison
  if p.fence && !s.fenceReady g p then
    s.modMsg n (fun m => { m with grants := m.grants.map (fun h => if h.same g then { h with fence := some p } else h) })
  else State.releaseFences n 32 (s.countData p g)

/-- DATA at a tile or a LANTERN core (R236, R237). -/
def State.dataAt (s : State) (p : Pkt) : State :=
  match s.grant? p with
  | some g =>
    if p.data.length != 0 && p.data.length ≤ 2048 && g.land ≤ p.land && p.land + p.data.length ≤ g.land + g.len && p.data.length ≤ g.left
    then s.landData p g else s.dropPkt 0x06 p
  | none => s.dropPkt 0x06 p

def execMeshData (p : Pkt) (s : State) : Host.Outcome State Fault Refusal :=
  .next (if isSeq p.node then s else s.arrive p 0x01 (fun s => s.dataAt p))

/-- RELEASE: bytes of a grant that will not be sent; the receiver writes ABANDONED to its own ring (R267). -/
def State.release (s : State) (p : Pkt) : State :=
  match s.grant? p with
  | some g =>
    let ring := if isSeq p.node then some (p.part % 64) else s.nodePart? p.node
    (s.useGrant p.node g g.left false false).raise (s.meshFault 0x08 ring p)
  | none => s

def execMeshRelease (p : Pkt) (s : State) : Host.Outcome State Fault Refusal := .next (s.arrive p 0x06 (fun s => s.release p))

/-! ### The sender's packets (R199, R226, R242) -/

/-- Bytes of a message with those the program wrote since its issue left open (R199). -/
def spoilSpans (id off : Nat) (dirty : List (Nat × Nat)) (bs : List Byte) : List Byte :=
  if dirty = [] then bs
  else bs.zipIdx.map (fun e => if dirty.any (fun d => d.1 ≤ off + e.2 && off + e.2 < d.1 + d.2) then Config.freeByte id (off + e.2) else e.1)

/-- Source bytes of a message from one offset on, with their poison. -/
def State.sourceBytes (s : State) (n : Nat) (e : SendEnt) (at_ len : Nat) : (List Byte × Bool) × State :=
  if e.bytes ≠ [] then ((slice e.bytes at_ len, false), s)
  else
    let r := s.nodeRead n (e.off + at_) len
    let s1 := if e.dirty = [] then r.2 else { r.2 with freeCtr := r.2.freeCtr + 1 }
    ((spoilSpans r.2.freeCtr (e.off + at_) e.dirty r.1.1, r.1.2), s1)

/-- A span cut into packets of at most 2,048 bytes, in order: (offset, count) (R226). -/
def packetCuts (len : Nat) : List (Nat × Nat) :=
  (List.range ((len + 2047) / 2048)).map (fun k => (2048 * k, min 2048 (len - 2048 * k)))

/-- The packets of bytes [first, first + len) of a message sent under a header; only those of the message's last packet
set LAST and, for SENDF, FENCE (R200, R226). -/
def State.sendCuts (n : Nat) (e : SendEnt) (head : Pkt) (first len : Nat) (s : State) : State :=
  (packetCuts len).foldl (fun s c =>
    let r := s.sourceBytes n e (first + c.1) c.2
    let last := first + c.1 + c.2 = e.len
    r.2.sendPkt { head with
      land := (if e.kind = 0 then e.addr else 0) + first + c.1, data := r.1.1, poison := r.1.2
      last := last, fence := e.fence && last, arg := e.mtag }) s

/-- SENDF waits with its source read until the exit has accepted every earlier packet of the flow to that node (R639). -/
def State.fenceHeld (s : State) (n : Nat) (e : SendEnt) : Bool :=
  e.fence && ((s.msgOf n).sends.takeWhile (fun d => d.mtag != e.mtag)).any
    (fun d => d.kind == 0 && !d.counted && d.dd == e.dd && d.dtx == e.dtx && d.dty == e.dty && d.flow == e.flow)

/-- An uncorrectable error in the tile store halts the tile; a correctable one is counted (R181, R215). -/
def State.storeEcc (s : State) (n : Nat) (ecc : Ecc) (addr : Nat) (f : State → State) : State :=
  if !isTile n then f s
  else
    match ecc with
    | .none => f s
    | .corrected => f (s.bump .TILE_ECC_CORRECTED)
    | .uncorrectable => s.tileFatal n 0x09 (s.tile n).pc addr false

/-- The node is powered and its core is not halted, so its send engine works. -/
def State.sendLive (s : State) (n : Nat) : Bool :=
  if isTile n then s.domState (s.quad n) == 3 && !s.pilot.tileReset.contains n && !s.halted n
  else if isCore n then s.domState domLantern == 3 else true

/-- SEND_SOURCE_READ: the send engine reads every source byte of a granted DATA message and its packets leave; the entry
frees and LCTR advances (R199, R226, R242). A message to another device is over for its sender then. -/
def execSendSourceRead (node mtag : Nat) (ecc : Ecc) (s : State) : Host.Outcome State Fault Refusal :=
  .next <|
    match s.send? node mtag with
    | some e =>
      if e.kind = 0 && e.granted && !e.counted && !s.fenceHeld node e && s.sendLive node then
        s.storeEcc node ecc e.off (fun s =>
          let head := { s.sendHead node e with opcode := 0x01, cls := 2 }
          let s := (State.sendCuts node e head 0 e.len s).countSend node e
          if e.dd = s.self then s else s.delSend node mtag)
      else s
    | none => s

/-! ### GET and PUT at the node that asked (R238, R242, R322) -/

/-- GET_DATA: a packet of a GET lands in the span its tile reserved at issue and is counted (R238, R242, R321). -/
def State.getData (s : State) (p : Pkt) : State :=
  match s.send? p.node p.mtag with
  | some e =>
    let k := p.data.length
    if e.kind = 1 && e.off ≤ p.land && p.land + k ≤ e.off + e.len then
      let s := s.nodeLand p.node p.land p.data p.poison
      let s := if e.done + k = e.len then s.delSend p.node p.mtag else s.modSend p.node p.mtag (fun e => { e with done := e.done + k })
      s.advance p.node (p.ctr % 64) k
    else s
  | none => s

def execGetData (p : Pkt) (s : State) : Host.Outcome State Fault Refusal := .next (s.arrive p 0x08 (fun s => s.getData p))

/-- The bytes of piece k of a PUT (R322). -/
def putPiece (len k : Nat) : Nat := min 16384 (len - 16384 * k)

/-- PUT_GO: the sender reads the piece and sends its packets; with the last piece the entry frees and LCTR advances
(R199, R242, R322). -/
def State.putGo (s : State) (p : Pkt) (ecc : Ecc) : State :=
  match s.send? p.node p.mtag with
  | some e =>
    let n := putPiece e.len p.piece
    if e.kind = 2 && e.sent = 16384 * p.piece && n != 0 then
      s.storeEcc p.node ecc (e.off + e.sent) (fun s =>
        let head := { s.sendHead p.node e with opcode := 0x0B, cls := 0 }
        let s := State.sendCuts p.node e head e.sent n s
        let s := s.modSend p.node p.mtag (fun e => { e with sent := e.sent + n })
        if e.sent + n = e.len then s.countSend p.node e else s)
    else s
  | none => s

def execPutGo (p : Pkt) (ecc : Ecc) (s : State) : Host.Outcome State Fault Refusal := .next (s.arrive p 0x0A (fun s => s.putGo p ecc))

/-- PUT_ACK: a piece is written and CTR advances by its bytes (R242). -/
def State.putAck (s : State) (p : Pkt) : State :=
  match s.send? p.node p.mtag with
  | some e =>
    let n := putPiece e.len p.piece
    if e.kind = 2 && 16384 * p.piece + n ≤ e.sent then
      let s := if e.done + n = e.len then s.delSend p.node p.mtag else s.modSend p.node p.mtag (fun e => { e with done := e.done + n })
      s.advance p.node e.ctr n
    else s
  | none => s

def execPutAck (p : Pkt) (s : State) : Host.Outcome State Fault Refusal := .next (s.arrive p 0x0C (fun s => s.putAck p))

/-- STREAM_RETRY_RESEND: the request an engine answered RETRY goes out again after its delay (R320). -/
def execStreamRetryResend (node mtag : Nat) (s : State) : Host.Outcome State Fault Refusal :=
  .next <|
    match s.send? node mtag with
    | some e =>
      if e.kind != 0 && e.retry then (s.modSend node mtag (fun e => { e with retry := false })).sendPkt (s.sendHead node e) else s
    | none => s

end Sys2Proof.Machine
end

