-- ==== Sys2Proof/Machine/XlatOps.lean ====
section
/-! DEFINITION. Translation for streams: contexts and segments, stream entries, the TLBs, ATS and page requests, and
translation faults (ch. 8). -/
namespace Sys2Proof.Machine

/-- The state with the translation unit changed. -/
def State.modXlat (s : State) (f : Xlat → Xlat) : State := { s with xlat := f s.xlat }

/-- The instance of a context's registers, and of a segment's. -/
def ctxIx (p c : Nat) : Nat := 16 * p + c
def segIx (p c g : Nat) : Nat := 128 * p + 8 * c + g

/-- An access by its number; the state with it changed or removed. -/
def State.acc? (s : State) (id : Nat) : Option Acc := s.xlat.accs.find? (fun a => a.id == id)
def State.modAcc (s : State) (id : Nat) (f : Acc → Acc) : State :=
  s.modXlat (fun x => { x with accs := x.accs.map (fun a => if a.id = id then f a else a) })
def State.waitAcc (s : State) (id : Nat) (w : AccWait) : State := s.modAcc id (fun a => { a with wait := w })

/-- Two requests belong to one stream (R318). -/
def Acc.sameStream (a b : Acc) : Bool := a.eng == b.eng && a.src == b.src && a.part == b.part && a.ctx == b.ctx

/-- The stream of an access: what its engine keeps of it; the state with that changed. -/
def StreamRec.of (r : StreamRec) (a : Acc) : Bool := r.eng == a.eng && r.src == a.src && r.part == a.part && r.ctx == a.ctx
def State.stream (s : State) (a : Acc) : StreamRec :=
  (s.xlat.streams.find? (fun r => r.of a)).getD { eng := a.eng, src := a.src, part := a.part, ctx := a.ctx }
def State.modStream (s : State) (a : Acc) (f : StreamRec → StreamRec) : State :=
  s.modXlat (fun x => { x with streams := f (s.stream a) :: x.streams.filter (fun r => !r.of a) })

/-! ### Segments (R323 to R325) -/

/-- The rights bits that a request kind needs are granted (Table 8-2): 0 read, 1 write, 2 ATOMIC. -/
def State.segGrants (s : State) (i kind : Nat) : Bool :=
  match kind with
  | 0 => s.flag .XLAT_SEG_ATTR_R i
  | 1 => s.flag .XLAT_SEG_ATTR_W i
  | _ => s.flag .XLAT_SEG_ATTR_R i && s.flag .XLAT_SEG_ATTR_W i && s.flag .XLAT_SEG_ATTR_A i

/-- The gateway column a request came through matches the target; copy engines reach every target (Table 8-2). -/
def gatewayOk (eng target : Nat) : Bool :=
  let col := eng / 4
  40 ≤ eng || (match target with | 0 => col == 9 | 1 => col < 8 | _ => col == 8)

/-- The segment check of R323 to R325 in code order: the failure code, or the access with its segment's results. -/
def State.segCheck (s : State) (a : Acc) : Except Nat Acc :=
  if 16 ≤ a.ctx || !s.flag .XLAT_CTX_CFG_VALID (ctxIx a.part a.ctx) then .error 0x01
  else
    match (List.range 8).find? (fun g => let i := segIx a.part a.ctx g
        s.flag .XLAT_SEG_ATTR_VALID i && s.get .XLAT_SEG_IN_IN_BASE i ≤ a.addr && a.addr ≤ s.get .XLAT_SEG_LIM_IN_LIMIT i) with
    | none => .error 0x02
    | some g =>
      let i := segIx a.part a.ctx g
      let lim := s.get .XLAT_SEG_LIM_IN_LIMIT i
      let target := s.get .XLAT_SEG_ATTR_TARGET i
      if lim < a.addr + a.len - 1 then .error 0x03
      else if !s.segGrants i a.kind then .error 0x04
      else if !gatewayOk a.eng target then .error 0x05
      else if s.flag .XLAT_SEG_ATTR_STALE i then .error 0x06
      else .ok { a with
        seg := g, out := a.addr - s.get .XLAT_SEG_IN_IN_BASE i + s.get .XLAT_SEG_OUT_OUT_BASE i, target := target, lim := lim
        nw := !s.flag .XLAT_SEG_ATTR_W i
        untrans := target == 0 && !(s.fn ((s.fnOf? a.part).getD 0)).atsEn }

/-! ### Stream table entries (R319, R320) -/

/-- Streams of an engine that hold an entry: the accesses that begin one. -/
def State.entries (s : State) (eng : Nat) : List Acc :=
  (s.xlat.accs.filter (fun a => a.eng == eng)).foldl (fun l a => if l.any (fun b => b.sameStream a) then l else a :: l) []

/-- An entry is free to a partition: one of its 2, or one of the 128 shared (R319). -/
def State.entryFree (s : State) (eng part : Nat) : Bool :=
  let es := s.entries eng
  let mine (p : Nat) : Nat := (es.filter (fun a => a.part == p)).length
  mine part < 2 || ((List.range 64).map (fun p => mine p - 2)).sum < 128

/-- A request finds room in its engine (R320). -/
def State.hasRoom (s : State) (a : Acc) : Bool :=
  let own := s.xlat.accs.filter (fun b => b.sameStream a)
  !(s.stream a).parked && own.length < 8 && (own != [] || s.entryFree a.eng a.part)

/-! ### Faults (R347, R349) -/

/-- The completion status that an XLAT code gives a command (Table 8-6). -/
def xlatStatus (code : Nat) : Nat :=
  match code with
  | 0x04 => 6
  | 0x0C => 0x0B
  | 0x0D => 9
  | _ => 7

/-- PASID of a context with its VALID bit, as fault records carry it. -/
def State.ctxPasid (s : State) (p c : Nat) : Nat :=
  if c < 16 then s.get .XLAT_CTX_CFG_PASID (ctxIx p c) + s.get .XLAT_CTX_CFG_PASID_VALID (ctxIx p c) * 2 ^ 20 else 0

/-- A request fails on translation: its record waits for the ring, and the request with it (R347, R349). -/
def State.xlatFail (s : State) (a : Acc) (code : Nat) : State :=
  let s := (s.bump .XLAT_PFAULT_FAULTS a.part).put .XLAT_PFAULT_LAST_CODE a.part code
  let (x, y) := if a.eng < 40 then (nodeX a.src, nodeY a.src) else (0x3F, 0x1F)
  (s.waitAcc a.id (.parked code)).raise { s.mkFault 0x05 code (some a.part) with
    tx := x, ty := y, ctx := a.ctx, queue := if a.eng < 40 then 0 else a.src % 16, addr := some (a.addr + a.pos)
    info0 := a.len % 2 ^ 32 + (if a.kind = 0 then 0 else 2 ^ 32) + a.eng * 2 ^ 33, info1 := s.ctxPasid a.part a.ctx
    park := some (a.eng, a.id) }

/-- The streams that parked faults hold: one request of each. -/
def State.parkedIn (s : State) (fs : List FaultRec) : List Acc :=
  (fs.filterMap (fun f => f.park.bind (fun k => s.acc? k.2))).foldl (fun l a => if l.any (fun b => b.sameStream a) then l else a :: l) []

/-- The parked marks of the streams and the PARKED fields follow the faults that the rings hold (R349, R709). -/
def State.parkSettle (s : State) : State :=
  let all := s.rings.flatMap (fun e => s.parkedIn e.2.parked)
  let s := s.modXlat (fun x => { x with streams := x.streams.map (fun r => { r with parked := all.any (fun a => r.of a) }) })
  s.rings.foldl (fun s e =>
    let n := (s.parkedIn e.2.parked).length
    if e.1 < 64 then s.put .FLT_PRING_STAT_PARKED e.1 n else s.put .FLT_RING_STAT_PARKED 0 n) s

/-- A request can go on now: it waits for nothing, and its stream is not parked (R349). -/
def State.ready (s : State) (a : Acc) : Bool := a.wait == .run && !(s.stream a).parked

/-! ### TLBs (R329 to R333) -/

/-- An entry covers an IOVA of a partition and PASID. -/
def L2Ent.covers (e : L2Ent) (part : Nat) (pasid : Option Nat) (iova : Nat) : Bool :=
  e.part == part && e.pasid == pasid &&
    (match e.size with
    | 16 => e.iova == iova / 2 ^ 16 * 2 ^ 16 && bit e.mask (iova / 4096 % 16)
    | n => e.iova == iova / 2 ^ n * 2 ^ n)

/-- The host physical address of an IOVA that an entry covers. -/
def L2Ent.pa (e : L2Ent) (iova : Nat) : Nat := (e.hpa + (iova - e.iova)) % 2 ^ 64

/-- The rights an entry grants meet a request kind. -/
def L2Ent.grants (e : L2Ent) (kind : Nat) : Bool := (kind == 1 || e.r) && (kind == 0 || e.w)

/-- The PASID a context's requests carry: its own where PASID_VALID and the PF's PASID Enable are 1 (R337, R466). -/
def State.pasidOf (s : State) (p c : Nat) : Option Nat :=
  if s.flag .XLAT_CTX_CFG_PASID_VALID (ctxIx p c) && (s.fn 0).pasidEn then some (s.get .XLAT_CTX_CFG_PASID (ctxIx p c)) else none

/-- The tag of L2 entries: PASID_VALID and PASID of the context (R330). -/
def State.tagOf (s : State) (p c : Nat) : Option Nat :=
  if s.flag .XLAT_CTX_CFG_PASID_VALID (ctxIx p c) then some (s.get .XLAT_CTX_CFG_PASID (ctxIx p c)) else none

/-- A micro-TLB entry of an access's stream covers an IOVA. -/
def MicroEnt.hits (m : MicroEnt) (a : Acc) (tag : Option Nat) (iova : Nat) : Bool :=
  m.eng == a.eng && m.ctx == a.ctx && m.seg == a.seg && m.ent.covers a.part tag iova

/-- The translation that an access finds, in its micro-TLB or in the L2 TLB, and the state after the lookup (R329). -/
def State.tlbLook (s : State) (a : Acc) (iova : Nat) : Option L2Ent × State :=
  let tag := s.tagOf a.part a.ctx
  match s.xlat.micro.find? (fun m => m.hits a tag iova) with
  | some m =>
    if m.ent.grants a.kind then (some m.ent, s.modXlat (fun x => { x with micro := m :: x.micro.erase m }))
    else (none, s)
  | none =>
    match s.xlat.l2.find? (fun e => e.covers a.part tag iova && e.grants a.kind) with
    | none => (none, s)
    | some e =>
      let m : MicroEnt := { eng := a.eng, ctx := a.ctx, seg := a.seg, ent := e }
      let own := (m :: s.xlat.micro.filter (fun k => k.eng == a.eng)).take 64
      (some e, s.modXlat (fun x => { x with
        micro := own ++ x.micro.filter (fun k => k.eng != a.eng), l2 := e :: x.l2.erase e }))

/-- A 4 KiB translation joins an entry of its group under R332. -/
def L2Ent.merges (e f : L2Ent) : Bool :=
  let base (x : L2Ent) : Nat := (x.hpa + 2 ^ 64 - (if x.size = 12 then x.iova % 2 ^ 16 else 0)) % 2 ^ 64
  (e.size == 12 || e.size == 16) && e.part == f.part && e.pasid == f.pasid && e.iova / 2 ^ 16 == f.iova / 2 ^ 16 &&
    e.r == f.r && e.w == f.w && e.u == f.u && e.g == f.g && base e == base f

/-- A group entry of the pages that two entries hold. -/
def L2Ent.join (e f : L2Ent) : L2Ent :=
  let mask (x : L2Ent) : Nat := if x.size = 12 then 2 ^ (x.iova / 4096 % 16) else x.mask
  let b := f.iova / 2 ^ 16 * 2 ^ 16
  { e with size := 16, iova := b, mask := mask e ||| mask f, hpa := (e.hpa + 2 ^ 64 - (e.iova - b)) % 2 ^ 64 }

/-- One entry put into the L2 TLB in place of those it overlaps; the newest 16,384 stay (R330, R332). -/
def State.l2Put (s : State) (e : L2Ent) : State :=
  let clash (x : L2Ent) : Bool := x.part == e.part && x.pasid == e.pasid &&
    (if e.size = 12 then x.size == 12 && x.iova == e.iova else x.size == e.size && x.iova == e.iova && (e.size != 16 || (x.mask &&& e.mask) != 0))
  let l2 := s.xlat.l2.filter (fun x => !clash x)
  if e.size = 12 then
    match l2.find? (fun x => x.merges e && (x.size == 16 || x.iova != e.iova)) with
    | some x => (s.modXlat (fun y => { y with l2 := x.join e :: l2.erase x })).bump .XLAT_L2_MERGED
    | none => s.modXlat (fun y => { y with l2 := (e :: l2).take 16384 })
  else s.modXlat (fun y => { y with l2 := (e :: l2).take 16384 })

/-- The translation of one page put into the L2 TLB as Table 8-4 stores it; none where R = W = 0 (R331, R333). -/
def State.l2Fill (s : State) (part : Nat) (tag : Option Nat) (iova : Nat) (t : AtsTrans) : State :=
  if !t.r && !t.w then s
  else
    let e : L2Ent := { part := part, pasid := tag, r := t.r, w := t.w, u := t.u, g := t.g }
    let pa := t.pa / 2 ^ t.size * 2 ^ t.size
    let at_ (x : Nat) : Nat := pa + x % 2 ^ t.size
    if t.size ≤ 12 then s.l2Put { e with size := 12, iova := iova / 4096 * 4096, hpa := t.pa / 4096 * 4096 }
    else if t.size < 21 then
      let b := iova / 2 ^ 16 * 2 ^ 16
      let lo := if t.size < 16 then iova / 2 ^ t.size * 2 ^ t.size else b
      let n := min 16 (2 ^ (t.size - 12))
      s.l2Put { e with size := 16, iova := b, mask := (2 ^ n - 1) * 2 ^ ((lo - b) / 4096), hpa := (at_ lo + 2 ^ 64 - (lo - b)) % 2 ^ 64 }
    else
      let sz := if t.size < 30 then 21 else 30
      let b := iova / 2 ^ sz * 2 ^ sz
      s.l2Put { e with size := sz, iova := b, hpa := at_ b }

/-- The bytes an entry covers overlap a range of IOVAs. -/
def L2Ent.meets (e : L2Ent) (base size : Nat) : Bool := spansMeet e.iova (2 ^ e.size) base size

/-- Entries that meet a condition leave both TLBs (R329, R350, R361). -/
def State.tlbDrop (s : State) (c : L2Ent → Bool) : State :=
  s.modXlat (fun x => { x with l2 := x.l2.filter (fun e => !c e), micro := x.micro.filter (fun m => !c m.ent) })

/-- Micro-TLB entries of some contexts of a partition leave (R327, R352). -/
def State.microDrop (s : State) (p : Nat) (ctxs : List Nat) : State :=
  s.modXlat (fun x => { x with micro := x.micro.filter (fun m => !(m.ent.part == p && ctxs.contains m.ctx)) })

/-! ### ATS requests (R335 to R338) -/

/-- The span an ATS request asks about. -/
def AtsReq.size (r : AtsReq) : Nat := if r.group then 2 ^ 16 else 4096

/-- The ATS request outstanding that will answer for a page (R337). -/
def State.atsFor? (s : State) (part : Nat) (tag : Option Nat) (iova : Nat) : Option AtsReq :=
  s.xlat.ats.find? (fun r => r.part == part && r.pasid == tag && r.iova ≤ iova && iova < r.iova + r.size)

/-- A Translation Request goes out (R337). -/
def State.atsSend (s : State) (r : AtsReq) (pasid : Option Nat) : State :=
  (s.ioReq { fn := r.fn, part := some r.part, who := .ats r.id, addr := r.iova, len := 8
             ats := some (if r.group then 16 else 1, r.nw), pasid := pasid }).bump .XLAT_PSTAT_ATS_REQS r.part

/-- A new ATS request for an access: for its page, or its group under STREAM-PREFETCH; a prefetch names its stream. -/
def State.atsNew (s : State) (a : Acc) (iova : Nat) (pre : Bool) : Nat × State :=
  let group := s.flag .XLAT_CTX_CFG_MISS_MODE (ctxIx a.part a.ctx)
  let id := s.xlat.nextAts
  let r : AtsReq :=
    { id := id, part := a.part, fn := (s.fnOf? a.part).getD 0, pasid := s.tagOf a.part a.ctx
      iova := if group then iova / 2 ^ 16 * 2 ^ 16 else iova / 4096 * 4096, group := group, nw := a.nw
      pre := if pre then some (a.eng, a.src, a.ctx, (a.out + 2 ^ 64 - a.addr) % 2 ^ 64) else none }
  (id, (s.modXlat (fun x => { x with ats := x.ats ++ [r], nextAts := id + 1 })).atsSend r (s.pasidOf a.part a.ctx))

/-- The missing page of an access is asked for, or it waits (R337, R338, R340). -/
def State.atsDemand (s : State) (a : Acc) (iova : Nat) : State :=
  match s.atsFor? a.part (s.tagOf a.part a.ctx) iova with
  | some r => s.waitAcc a.id (.ats r.id)
  | none =>
    if s.hostBlocked ((s.fnOf? a.part).getD 0) then s.xlatFail a 0x0C
    else if 256 ≤ s.xlat.ats.length then s.waitAcc a.id .turn
    else
      let r := s.atsNew a iova false
      r.2.waitAcc a.id (.ats r.1)

/-- One group of a prefetch window (R336, R338). -/
def State.prefetchGroup (s : State) (a : Acc) (g lo hi : Nat) : State :=
  let tag := s.tagOf a.part a.ctx
  let pages := (rangeFrom 0 16).map (fun i => g + 4096 * i)
  let lacks := pages.any (fun q => lo / 4096 * 4096 ≤ q && q < hi && !s.xlat.l2.any (fun e => e.covers a.part tag q))
  let out := (s.xlat.ats.filter (fun r => r.pre.isSome))
  let own := out.filter (fun r => r.part == a.part && (match r.pre with | some (e, x, c, _) => e == a.eng && x == a.src && c == a.ctx | none => false))
  if lacks && own.length < 4 && out.length < 128 && s.xlat.ats.length < 256 && (s.atsFor? a.part tag g).isNone
    && !s.hostBlocked ((s.fnOf? a.part).getD 0)
  then (s.atsNew a g true).2 else s

/-- The prefetch of a request under STREAM-PREFETCH as it is accepted (R336); the absent list leaves when the request
starts beyond every page on it. -/
def State.prefetch (s : State) (a : Acc) : State :=
  if a.target != 0 || a.untrans || !s.flag .XLAT_CTX_CFG_MISS_MODE (ctxIx a.part a.ctx) then s
  else
    let s := s.modStream a (fun r => if r.absent.all (fun q => q + 4096 ≤ a.addr) then { r with absent := [] } else r)
    let lo := a.out + a.len
    let hi := min (lo + 4096 * 2 ^ s.get .XLAT_CTX_CFG_PF_LOG2 (ctxIx a.part a.ctx)) (a.out + (a.lim + 1 - a.addr))
    if hi ≤ lo then s
    else (rangeFrom (lo / 2 ^ 16) ((hi - 1) / 2 ^ 16 - lo / 2 ^ 16 + 1)).foldl (fun s g => s.prefetchGroup a (g * 2 ^ 16) lo hi) s

/-! ### Page requests (R342 to R346) -/

/-- A page request may be sent for a context: PRI_EN, the PF's PRI Enable, PRI not stopped, and the PASID allowed
(R342, R464, R466). -/
def State.priOn (s : State) (p c : Nat) : Bool :=
  s.flag .XLAT_CTX_CFG_PRI_EN (ctxIx p c) && (s.fn 0).priEn && (!s.flag .XLAT_CTX_CFG_PASID_VALID (ctxIx p c) || (s.fn 0).pasidEn)

/-- The lowest page-request group index that no held group has. -/
def State.prgIdx (s : State) : Nat := ((List.range 513).find? (fun i => !s.xlat.prgs.any (fun g => g.idx == i))).getD 0

/-- Pages of held groups counted in the registers (Tables 8-10, 8-11). -/
def State.prgCount (s : State) (p c : Nat) : State :=
  let held := s.xlat.prgs
  let own := held.filter (fun g => g.part == p && g.ctx == c)
  (s.put .XLAT_CTX_STAT_PAGES_WAITING (ctxIx p c) (own.map (fun g => g.pages.length)).sum).put .XLAT_GSTAT_PRI_OUT 0
    ((held.filter (fun g => 2 ≤ g.state)).map (fun g => g.pages.length)).sum

/-- The absent-list pages of a stream's prefetch window, as IOVAs (R343). -/
def State.absentIova (s : State) (a : Acc) : List Nat :=
  if s.flag .XLAT_CTX_CFG_MISS_MODE (ctxIx a.part a.ctx) then
    ((s.stream a).absent.map (fun q => (q + (a.out + 2 ^ 64 - a.addr)) % 2 ^ 64)).filter (fun q =>
      q < a.out + a.len + 4096 * 2 ^ s.get .XLAT_CTX_CFG_PF_LOG2 (ctxIx a.part a.ctx))
  else []

/-- A page fault of an access (R342, R343): it joins or opens a group, or fails. -/
def State.pageFault (s : State) (a : Acc) (iova : Nat) : State :=
  let page := iova / 4096 * 4096
  if a.retried.contains page then s.xlatFail a 0x08
  else if !s.priOn a.part a.ctx then s.xlatFail a 0x07
  else if s.flag .XLAT_GSTAT_PRI_STOPPED then s.xlatFail a 0x0A
  else
    let mine (g : PrgRec) : Bool := g.eng == a.eng && g.src == a.src && g.part == a.part && g.ctx == a.ctx
    let needW := a.kind != 0
    match s.xlat.prgs.find? (fun g => mine g && g.state != 3 && g.pages.any (fun e => e.1 == page && (e.2 || !needW))) with
    | some g => s.waitAcc a.id (.prg g.id)
    | none =>
      match s.xlat.prgs.find? (fun g => mine g && g.state == 0 && g.seg == a.seg && g.pages.length < 32 && !g.pages.any (fun e => e.1 == page)) with
      | some g =>
        ((s.modXlat (fun x => { x with prgs := x.prgs.map (fun h => if h.id = g.id then { h with
          pages := h.pages ++ [(page, needW)], state := if h.pages.length = 31 then 1 else 0 } else h) })).waitAcc a.id (.prg g.id)).prgCount a.part a.ctx
      | none =>
        let extra := ((s.absentIova a).filter (· != page)).take 31
        let pages := (page, needW) :: extra.map (fun q => (q, needW))
        let g : PrgRec :=
          { id := s.xlat.nextPrg, idx := s.prgIdx, eng := a.eng, src := a.src, part := a.part
            fn := (s.fnOf? a.part).getD 0, ctx := a.ctx, seg := a.seg, pasid := s.pasidOf a.part a.ctx, pages := pages
            state := if pages.length = 32 then 1 else 0 }
        ((s.modXlat (fun x => { x with prgs := x.prgs ++ [g], nextPrg := g.id + 1 })).waitAcc a.id (.prg g.id)).prgCount a.part a.ctx

/-! ### Where a HOST page is found -/

/-- The host has enabled CXL.cache on a link that runs CXL (DF_LINK.CACHE_ACTIVE). -/
def State.cacheActive (s : State) : Bool := s.get .DF_LINK_LINK_MODE != 0 && (s.fn 0).cxlCacheEn

/-- What the translation of an access's next byte gives. -/
inductive HostPage where
  /-- The access waits, or has failed: the state says which. -/
  | blocked
  /-- By CXL.io at this address, with this AT field. -/
  | io (addr at_ : Nat)
  /-- Through the coherent cache at this HPA. -/
  | cache (hpa : Nat)

/-- The next byte of a HOST access translated (R333, R335, R336, R341, R342). -/
def State.hostPage (s : State) (a : Acc) : HostPage × State :=
  let iova := (a.out + a.pos) % 2 ^ 64
  if a.untrans then (.io iova 0, s)
  else
    let r := s.tlbLook a iova
    match r.1 with
    | some e =>
      if e.u then (.io iova 0, r.2)
      else if s.cacheActive then (.cache (e.pa iova), r.2)
      else if a.kind = 2 && s.get .DF_LINK_LINK_MODE = 0 then (.blocked, r.2.xlatFail a 0x0C)
      else (.io (e.pa iova) 2, r.2)
    | none =>
      let page := (a.addr + a.pos) / 4096 * 4096
      if (s.stream a).absent.contains page && !a.retried.contains (iova / 4096 * 4096) then (.blocked, s.pageFault a iova)
      else (.blocked, s.atsDemand a iova)

end Sys2Proof.Machine
end

