-- ==== Sys2Proof/Machine/CacheOps.lean ====
section
/-! DEFINITION. The coherent cache and the host-copy directory: lines, quotas, the eviction buffer, cache requests, D2H
requests and their answers, directory entries and back-invalidates (ch. 9). -/
namespace Sys2Proof.Machine

/-- The state with the coherent cache and the directory changed. -/
def State.modCch (s : State) (f : Cch → Cch) : State := { s with cch := f s.cch }

/-- The set of a host line (Table 9-1), and of a directory line. -/
def cchSet (line : Nat) : Nat := line / 64 % 2 ^ 15
def dirSet (line : Nat) : Nat := line / 64 % 2 ^ 20

/-- A line present in the cache; the state with a line put first, replaced or removed. -/
def State.cline? (s : State) (line : Nat) : Option CLine := s.cch.lines.find? (fun c => c.line == line)
def State.delLine (s : State) (line : Nat) : State := s.modCch (fun c => { c with lines := c.lines.filter (fun d => d.line != line) })
def State.putLine (s : State) (c : CLine) : State := s.modCch (fun k => { k with lines := c :: k.lines.filter (fun d => d.line != c.line) })

/-- Lines that a partition owns (R373). -/
def State.occupancy (s : State) (p : Nat) : Nat := (s.cch.lines.filter (fun c => c.owner == p)).length

/-- A partition's quota in lines (R373). -/
def State.quotaLines (s : State) (p : Nat) : Nat := 1024 * s.com.quota p

/-- The effective state of a partition: 0 ENABLED, 1 RETAINING, 2 DISABLED. -/
def State.cchState (s : State) (p : Nat) : Nat :=
  if s.get .CCH_DEV_STATE = 0 then s.get .CCH_PSTATE_STATE p else s.get .CCH_DEV_STATE

/-- Lines retained by a scope: none is the device's (R381). -/
def State.retained (s : State) (p : Option Nat) : Nat :=
  match p with
  | none => if s.get .CCH_DEV_STATE = 1 then s.cch.lines.length else 0
  | some p => if s.get .CCH_PSTATE_STATE p = 1 then s.occupancy p else 0

/-- STALE_RISK clears where a scope retains nothing any more (R384). -/
def State.staleSettle (s : State) : State :=
  let s := if s.flag .CCH_DEV_STALE_RISK && s.retained none == 0 then s.put .CCH_DEV_STALE_RISK 0 0 else s
  (List.range 64).foldl (fun s p =>
    if s.flag .CCH_PSTATE_STALE_RISK p && s.retained (some p) == 0 then s.put .CCH_PSTATE_STALE_RISK p 0 else s) s

/-- A CACHE fault record (Tables 9-10, 17-5). -/
def State.cacheFault (s : State) (code : Nat) (part : Option Nat) (addr : Option Nat) (n : Nat) : State :=
  s.raise { s.mkFault 0x06 code part with addr := addr, info0 := n, sev := if code = 2 then 0 else 1 }

/-! ### D2H requests (R369) -/

/-- A D2H request goes out. -/
def State.d2hSend (s : State) (d : D2H) : State :=
  let id := s.cch.nextId
  (s.modCch (fun c => { c with d2h := c.d2h ++ [{ d with id := id }], nextId := id + 1 })).emit (.d2h id d.op d.line d.off d.wr)

/-- Fills outstanding of a channel (R368). -/
def State.fills (s : State) (k : Nat) : Nat :=
  (s.cch.d2h.filter (fun d => d.chan == k && d.op != .dirtyEvict && d.op != .cleanEvictNoData)).length

/-- A D2H request for a line is outstanding. -/
def State.lineBusy (s : State) (line : Nat) : Bool := s.cch.d2h.any (fun d => d.line == line && d.op != .dirtyEvict)

/-- The eviction buffer's entry of a line whose data is still valid (R376). -/
def State.evEnt? (s : State) (line : Nat) : Option EvEnt := s.cch.evb.find? (fun e => e.line == line && !e.taken)

/-- New CXL.cache requests may go out: the link is up in a CXL mode and outside QUARANTINE (R458, R504). -/
def State.cacheLink (s : State) : Bool :=
  s.flag .HL_STATUS_LINK_UP && s.get .DF_LINK_LINK_MODE != 0 && !s.flag .HL_STATUS_QUARANTINE

/-- The DirtyEvict of an eviction buffer entry goes out (R375). -/
def State.sendEvict (s : State) (line part : Nat) : State :=
  (s.bump .CCH_EVICT_DIRTY_COUNT).d2hSend { op := .dirtyEvict, line := line, part := part }

/-- A dirty line moves to the eviction buffer, and DirtyEvict goes out once it may (R375, R504). -/
def State.dirtyEvict (s : State) (line part : Nat) (data : List Byte) (poison : Bool) : State :=
  let ok := s.cacheLink
  let s := s.modCch (fun c => { c with evb := c.evb ++ [{ line := line, data := data, poison := poison, part := part, due := !ok }] })
  if ok then s.sendEvict line part else s

/-- A victim leaves the cache (R375, R377). -/
def State.evict (s : State) (c : CLine) : State :=
  let s := s.delLine c.line
  let s := if c.st = 3 then s.dirtyEvict c.line c.owner c.data c.poison
    else if s.flag .CCH_CFG_CLEAN_NOTIFY then
      (s.bump .CCH_EVICT_NOTIFIED_COUNT).d2hSend { op := .cleanEvictNoData, line := c.line, part := c.owner }
    else s
  s.staleSettle

/-! ### Where a line is allocated (R374) -/

/-- What R374 gives an allocation. -/
inductive WayFor where
  | room (s : State)
  | bypass
  /-- The eviction buffer is full (R375). -/
  | wait

/-- A victim found: it leaves, unless it is dirty and the eviction buffer is full. -/
def State.victim (s : State) (c : CLine) : WayFor := if c.st = 3 ∧ 64 ≤ s.cch.evb.length then .wait else .room (s.evict c)

/-- A way for a line of partition p (R374); fills outstanding hold their ways. -/
def State.place (s : State) (p line : Nat) : WayFor :=
  let set := cchSet line
  let ways := s.cch.lines.filter (fun c => cchSet c.line == set)
  let due := (s.cch.d2h.filter (fun d => d.alloc && cchSet d.line == set && !(ways.any (fun c => c.line == d.line)))).length
  let lru (c : CLine → Bool) : Option CLine := (ways.filter c).getLast?
  if ways.length + due < 16 then .room s
  else
    match lru (fun c => s.quotaLines c.owner < s.occupancy c.owner || s.cchState c.owner == 1) with
    | some c => s.victim c
    | none =>
      if s.quotaLines p ≤ s.occupancy p then
        match lru (fun c => c.owner == p) with
        | some c => s.victim c
        | none => .bypass
      else match lru (fun _ => true) with | some c => s.victim c | none => .bypass

/-! ### The streaming-store detector (R371, R372) -/

/-- The detector after a write to a line. -/
def StreamRec.store (r : StreamRec) (on : Bool) (line : Nat) (full : Bool) : StreamRec :=
  if !full then { r with ssd := 0, streaming := false }
  else
    let follows := r.ssd != 0 && line == r.next
    let same := line / 4096 == (r.next - 64) / 4096
    let n := if follows && (same || 32 ≤ r.ssd) then min 32 (r.ssd + 1) else 1
    { r with ssd := n, next := line + 64, streaming := (r.streaming && follows) || (on && n == 32) }

/-- The detector after a read of host memory. -/
def StreamRec.load (r : StreamRec) : StreamRec := { r with ssd := 0, streaming := false }

/-! ### Cache requests (R365 to R372, R376, R378, R383) -/

/-- The channel of an access (R365). -/
def Acc.chan (a : Acc) : Nat := if a.eng < 40 then a.eng - 36 else a.src % 4

/-- The lines of a span with the bytes in each: (line, offset, count, place in the span). -/
def lineCuts (a n : Nat) : List (Nat × Nat × Nat × Nat) :=
  (linesOf a n).map (fun l =>
    let lo := max l a
    let hi := min (l + 64) (a + n)
    (l, lo - l, hi - lo, lo - a))

/-- A line of an access is done: its data is kept until the portion is. -/
def State.gotLine (s : State) (id line : Nat) (data : List Byte) (bad : Bool) : State :=
  s.modAcc id (fun a => { a with got := kput line (data, bad) a.got })

/-- The new bytes of a line under a write or an ATOMIC (R325, R597). -/
def Acc.merged (a : Acc) (old : List Byte) (off : Nat) (bs : List Byte) : List Byte :=
  mergeLine old off (if a.kind = 2 then reduceBytes a.dtype a.redop (slice old off bs.length) bs else bs)

/-- One line of a cache request: where it is served, what it sends; none where the request must wait. The second result
says that the line missed. -/
def State.cacheLine (s : State) (a : Acc) (l off n : Nat) (wr : List Byte) : Option (State × Bool) :=
  let r := s.stream a
  let full := n = 64
  let s := s.modStream a (fun r => if a.kind = 0 then r.load else r.store (s.flag .CCH_CFG_SSD_EN) l full)
  let d : D2H := { line := l, acc := some a.id, chan := a.chan, part := a.part, off := off, wr := wr }
  let itom (s : State) : Option (State × Bool) := some (s.d2hSend { d with op := .itoMWr }, true)
  if s.lineBusy l then none
  else if s.cchState a.part != 0 then
    match a.kind with
    | 0 => some (s.d2hSend { d with op := .rdCurr }, true)
    | 1 => if full then itom s else some (s.d2hSend { d with op := .woWrInv }, true)
    | _ => if 64 ≤ s.cch.evb.length then none else some (s.d2hSend { d with op := .rdOwn }, true)
  else
    match s.cline? l with
    | some c =>
      let c := { c with owner := if s.get .CCH_PSTATE_STATE c.owner = 1 then a.part else c.owner }
      if a.kind = 0 then some ((s.putLine c).gotLine a.id l c.data c.poison, false)
      else if a.kind = 1 && full && r.streaming then itom (((s.delLine l).bump .CCH_STREAM_WRITES_COUNT).staleSettle)
      else if c.st = 1 then some ((s.putLine c).d2hSend { d with op := .rdOwnNoData, alloc := true }, true)
      else some ((s.putLine { c with st := 3, data := a.merged c.data off wr, poison := c.poison && !full || a.bad }).gotLine a.id l [] false, false)
    | none =>
      match s.evEnt? l with
      | some e => if a.kind = 0 then some (s.gotLine a.id l e.data e.poison, false) else none
      | none =>
        if a.kind = 1 && full && r.streaming then itom (s.bump .CCH_STREAM_WRITES_COUNT)
        else
          match s.place a.part l with
          | .wait => none
          | .room s =>
            some (s.d2hSend { d with alloc := true, op := if a.kind = 0 then .rdShared else if a.kind = 1 && full then .rdOwnNoData else .rdOwn }, true)
          | .bypass =>
            match a.kind with
            | 0 => some (s.d2hSend { d with op := .rdCurr }, true)
            | 1 => if full then itom s else some (s.d2hSend { d with op := .woWrInv }, true)
            | _ => if 64 ≤ s.cch.evb.length then none else some (s.d2hSend { d with op := .rdOwn }, true)

/-- Every line of a cache request, in ascending order; none where it must wait. -/
def State.cacheLines (a : Acc) (buf : List Byte) : List (Nat × Nat × Nat × Nat) → State → Bool → Option (State × Bool)
  | [], s, miss => some (s, miss)
  | (l, off, n, at_) :: rest, s, miss =>
    match s.cacheLine a l off n (if a.kind = 0 then [] else slice buf at_ n) with
    | none => none
    | some (s, m) => State.cacheLines a buf rest s (miss || m)

/-- The next-line prefetch of a miss (R370). -/
def State.nextLines (s : State) (a : Acc) (last : Nat) : State :=
  if !bit (s.get .CCH_CFG_NL_EN) a.chan then s
  else
    (rangeFrom 1 (s.get .CCH_CFG_NL_DEPTH + 1)).foldl (fun s i =>
      let l := last + 64 * i
      if l / 4096 != last / 4096 || (s.cline? l).isSome || (s.evEnt? l).isSome || s.lineBusy l || 96 < s.fills a.chan + 1 then s
      else match s.place a.part l with
        | .room s => (s.bump .CCH_PREFETCHES_COUNT).d2hSend
            { op := .rdShared, line := l, chan := a.chan, part := a.part, prefetch := true, alloc := true }
        | _ => s) s

/-- Another cache request of the stream that misses is outstanding (R367). -/
def State.streamMiss (s : State) (a : Acc) : Bool :=
  s.xlat.accs.any (fun b => b.id != a.id && b.sameStream a && b.target == 0 && b.wait == .fill)

/-- A bypassing write of a scope that retains lines sets its STALE_RISK (R384). -/
def State.bypassWrite (s : State) (p : Nat) : State :=
  if s.get .CCH_DEV_STATE = 1 then (if s.retained none = 0 then s else s.put .CCH_DEV_STALE_RISK 0 1)
  else if s.get .CCH_DEV_STATE = 0 && s.get .CCH_PSTATE_STATE p = 1 then
    (if s.retained (some p) = 0 then s else s.put .CCH_PSTATE_STALE_RISK p 1)
  else s

/-- A cache request of an access for n bytes at an HPA (R366 to R368): its lines are served or asked for; where it must
wait, nothing has happened but the wait. -/
def State.cacheReq (s : State) (a : Acc) (hpa n : Nat) : State :=
  let cuts := lineCuts hpa n
  let hold := s.waitAcc a.id .turn
  let other := s.streamMiss a
  let block := !bit (s.get .CCH_CFG_MODE) a.chan
  if other && block then hold
  else
    match State.cacheLines a (a.buf.take n) cuts s false with
    | none => hold
    | some (t, miss) =>
      if miss && s.flag .HL_STATUS_QUARANTINE then
        (s.hostErr (some a.part)).modAcc a.id (fun b => { b with fail := some 0x0B, wait := .run })
      else if miss && (other || 128 < t.fills a.chan) then hold
      else
        let t := if s.cchState a.part != 0 then (if a.kind = 0 then t else t.bypassWrite a.part)
          else if miss then (t.bump .CCH_MISSES_COUNT).bump .CCH_PMISSES_COUNT a.part
          else (t.bump .CCH_HITS_COUNT).bump .CCH_PHITS_COUNT a.part
        let t := if miss && s.cchState a.part = 0 then t.nextLines a (lineOf (hpa + n - 1)) else t
        let t := t.modAcc a.id (fun b => { b with touched := true })
        if miss then t.waitAcc a.id .fill else t

/-! ### Answers to D2H requests (R375, R379, R399) -/

/-- An access has no D2H request outstanding any more: it goes on. -/
def State.fillDone (s : State) (acc : Option Nat) : State :=
  match acc with
  | none => s
  | some id =>
    if s.cch.d2h.any (fun d => d.acc == some id) then s
    else s.modAcc id (fun a => if a.wait = .fill then { a with wait := .run } else a)

/-- A D2H request leaves. -/
def State.d2hDel (s : State) (id : Nat) : State := s.modCch (fun c => { c with d2h := c.d2h.filter (fun d => d.id != id) })

/-- A D2H request has all that it waits for. -/
def D2H.complete (d : D2H) : Bool :=
  match d.op with
  | .rdShared | .rdOwn => d.go.isSome && d.data.isSome
  | .rdCurr => d.data.isSome
  | .dirtyEvict => false
  | _ => d.go.isSome

/-- A line that the host answered for reaches the LANTERN core that asked (R396). -/
def State.coreGot (s : State) (d : D2H) (v : List Byte × Bool) : State :=
  match d.core with
  | some c => if d.wr ≠ [] then s else s.modCore c (fun k => { k with far := kput (2 ^ 64 + d.line) v k.far })
  | none => s

/-- A D2H request has failed: its access ends with HOST_ERROR (R379, R496). -/
def State.d2hFail (s : State) (d : D2H) : State :=
  let s := (s.d2hDel d.id).coreGot d ([], true)
  match d.acc with
  | none => s
  | some id => ((s.hostErr (some d.part)).modAcc id (fun a => { a with fail := some 0x0B })).fillDone d.acc

/-- The data that came for a read reaches its access; poison fails it (R379). -/
def State.fillRead (s : State) (d : D2H) (data : List Byte) (bad : Bool) : State :=
  match d.acc with
  | none => s.coreGot d (data, bad)
  | some id => s.gotLine id d.line data bad

/-- A D2H request is answered in full: the line installs as its GO gives and the access has its line. -/
def State.d2hDone (s : State) (d : D2H) : State :=
  let s := s.d2hDel d.id
  let go := d.go.getD 0
  let (data, bad) := d.data.getD ([], false)
  let data := slice data 0 64
  let s := if bad then (s.bump .CCH_ERR_POISON_FILLS).cacheFault 0x03 (some d.part) (some d.line) 0 else s
  let a := d.acc.bind s.acc?
  let own : CLine := { line := d.line, owner := d.part }
  let s := match d.op with
    | .rdShared =>
      let s := if go = 0 then s else s.putLine { own with st := go, data := data, poison := bad }
      s.fillRead d data bad
    | .rdCurr => s.fillRead d data bad
    | .rdOwn =>
      match a with
      | none => if d.alloc && go != 0 then s.putLine { own with st := go, data := data, poison := bad } else s
      | some a =>
        let new := a.merged data d.off d.wr
        if d.alloc then (s.putLine { own with st := 3, data := new, poison := bad || a.bad }).gotLine a.id d.line [] false
        else (s.dirtyEvict d.line d.part new (bad || a.bad)).gotLine a.id d.line [] false
    | .rdOwnNoData =>
      match a with
      | none => s
      | some a =>
        if d.wr.length = 64 && a.kind = 1 then (s.putLine { own with st := 3, data := d.wr, poison := a.bad }).gotLine a.id d.line [] false
        else
          match s.cline? d.line with
          | some c => (s.putLine { c with st := 3, data := a.merged c.data d.off d.wr }).gotLine a.id d.line [] false
          | none => s.d2hSend { d with op := .rdOwn, go := none, data := none }
    | .itoMWr | .woWrInv => match d.acc with | some id => s.gotLine id d.line [] false | none => s
    | _ => s
  s.fillDone d.acc

/-- The host's answer to a D2H request: a GO (0 I, 1 S, 2 E, 3 M, 4 GO-Err), data with its poison, or both. -/
def State.h2dAnswer (s : State) (id : Nat) (go : Option Nat) (data : Option (List Byte × Bool)) : State :=
  match s.cch.d2h.find? (fun d => d.id == id) with
  | none => s
  | some d =>
    let d := { d with go := if go.isSome then go else d.go, data := if data.isSome then data else d.data }
    if d.go = some 4 then (((s.bump .CCH_ERR_GO_ERRS).cacheFault 0x04 (some d.part) (some d.line) 0)).d2hFail d
    else if d.complete then s.d2hDone d
    else s.modCch (fun c => { c with d2h := c.d2h.map (fun e => if e.id = id then d else e) })

/-! ### HDM decoders and the directory (R387 to R395, R476) -/

/-- Bytes of DPA span of decoder i, and where it starts (R476). -/
def Decoder.dpaSize (d : Decoder) : Nat := d.size / d.ways
def State.dpaBase (s : State) (i : Nat) : Nat :=
  ((List.range (i + 1)).map (fun j => (kgetD s.host.decoders j {}).skip)).sum + ((List.range i).map (fun j => (kgetD s.host.decoders j {}).dpaSize)).sum

/-- The committed decoders with their numbers. -/
def State.hdmDecoders (s : State) : List (Nat × Decoder) := s.host.decoders.filter (fun e => e.2.committed)

/-- The DPA that a host address names, if a committed decoder that is not draining claims it (R476, R478). -/
def State.hdmDpa? (s : State) (a : Nat) : Option Nat :=
  (s.hdmDecoders.find? (fun e => e.2.base ≤ a && a < e.2.base + e.2.size && !e.2.draining)).map (fun e =>
    let o := a - e.2.base
    s.dpaBase e.1 + (o / (e.2.gran * e.2.ways)) * e.2.gran + o % e.2.gran)

/-- A line of HBM lies inside a committed decoder's DPA span (R388). -/
def State.isHdm (s : State) (line : Nat) : Bool :=
  line < hbmEnd && s.hdmDecoders.any (fun e => s.dpaBase e.1 ≤ line && line < s.dpaBase e.1 + e.2.dpaSize)

/-- The host address of an HDM line (R476). -/
def State.hpaOf (s : State) (line : Nat) : Nat :=
  match s.hdmDecoders.find? (fun e => s.dpaBase e.1 ≤ line && line < s.dpaBase e.1 + e.2.dpaSize) with
  | some (i, d) =>
    let o := line - s.dpaBase i
    d.base + (o / d.gran) * d.gran * d.ways + o % d.gran
  | none => line

/-- The directory's mode: 0 OFF, 1 HDM-DB, 2 HDM-D (R387, R458). -/
def State.dirMode (s : State) : Nat :=
  match s.get .DF_LINK_LINK_MODE with
  | 1 => 2
  | 2 => if s.hdmDecoders = [] then 0 else 1
  | _ => 0

/-- The directory's entry of a line; the state with it set or removed. -/
def State.dirEnt? (s : State) (line : Nat) : Option DirEnt := s.cch.dir.find? (fun e => e.line == line)
def State.delDir (s : State) (line : Nat) : State := s.modCch (fun c => { c with dir := c.dir.filter (fun e => e.line != line) })
def State.setDir (s : State) (line : Nat) (a : Bool) : State :=
  s.modCch (fun c => { c with dir := { line := line, a := a } :: c.dir.filter (fun e => e.line != line) })

/-- BI pending buffer entries in use (R391). -/
def State.biPending (s : State) : Nat := (s.cch.bi.filter (·.victim)).length

/-- A BISnp goes out: kind 0 BISnpCur, 1 BISnpData, 2 BISnpInv (Table 9-8). -/
def State.biSend (s : State) (r : BiReq) : State :=
  ((s.modCch (fun c => { c with bi := c.bi ++ [r] })).bump .DIR_BISNP_COUNT).emit (.biSnp (s.hpaOf r.line) r.kind)

/-- The BISnp that an access to an HDM line needs (Table 9-8): none where it needs none. -/
def State.biKind? (s : State) (line : Nat) (write : Bool) : Option Nat :=
  match s.dirEnt? line with
  | none => none
  | some e => if write then some 2 else if e.a then some 0 else none

/-- Accesses that wait on a BIRsp at the controller of a line (R394). -/
def State.biQueue (s : State) (line : Nat) : Nat :=
  (s.xlat.accs.filter (fun a => match a.wait with | .bi l => stackOf l == stackOf line | _ => false)).length

/-- A device-side access to an HDM line asks for its BIRsp and waits (R393, R394). -/
def State.biAsk (s : State) (a : Acc) (line kind : Nat) : State :=
  if 32 ≤ s.biQueue line then s.waitAcc a.id .turn
  else
    let s := if s.cch.bi.any (fun r => r.line == line) then s else s.biSend { line := line, kind := kind, part := some a.part }
    s.waitAcc a.id (.bi line)

/-- The bytes [lo, lo + n) of HBM up to the first line that still needs a BIRsp, and that line (Table 9-8). -/
def State.biFree (s : State) (a : Acc) (lo n : Nat) : Nat × Option (Nat × Nat) :=
  if s.dirMode != 1 then (n, none)
  else
    match (linesOf lo n).find? (fun l => a.biOk != some l && s.isHdm l && (s.biKind? l (a.kind != 0)).isSome) with
    | none => (n, none)
    | some l => (l - lo, some (l, (s.biKind? l (a.kind != 0)).getD 0))

end Sys2Proof.Machine
end

