-- ==== Sys2Proof/Machine/Access.lean ====
section
/-! DEFINITION. The access engine: a translated request goes on portion by portion through HBM, the far tier or host
memory, and ends at its requester (R318 to R325, R333, R346 to R349, R364 to R368, R393, R410, R539 to R548). -/
namespace Sys2Proof.Machine

/-! ### The end of a request -/

/-- The requests an access has outstanding name nobody any more. -/
def State.detach (s : State) (id : Nat) : State :=
  let s := s.modXlat (fun x => { x with accs := x.accs.filter (fun a => a.id != id) })
  let s := s.modCch (fun c => { c with d2h := c.d2h.map (fun d => if d.acc = some id then { d with acc := none } else d) })
  let s := s.modDl (fun d => { d with reqs := d.reqs.map (fun r => if r.who = .acc id then { r with who := .drop } else r) })
  s.dropReqs (fun r => r.who == .acc id)

/-- The two accesses of a COPY. -/
def State.copyAccs (s : State) (p n : Nat) : List Acc := s.xlat.accs.filter (fun a => a.who == .copyRd p n || a.who == .copyWr p n)

/-- The destination bytes of an aborted COPY are undefined (R153). -/
def State.spoilDst (s : State) (p n : Nat) : State :=
  match s.xlat.accs.find? (fun a => a.who == .copyWr p n) with
  | some d => if d.target = 0 then s else s.undefine d.out (d.out + d.len)
  | none => s

/-- A COPY ends: status, bytes copied, and both its accesses go (R153, R347). -/
def State.endCopy (s : State) (p n status : Nat) : State :=
  let done := match s.xlat.accs.find? (fun a => a.who == .copyWr p n) with | some d => d.pos | none => 0
  let accs := s.copyAccs p n
  let s := if status = 0 then s else s.spoilDst p n
  (accs.foldl (fun s a => s.detach a.id) s).finish p n status done

/-- An event of a sequencer's access. -/
def State.seqEvent (s : State) (k : Nat) (e : SeqEvt) : State := s.modSeq k (fun q => { q with evts := q.evts ++ [e] })

/-- A request fails, and its requester sees it (R347, R379, R548): a sender drops its message, a command ends with the
status, a sequencer has an event. -/
def State.failAcc (s : State) (a : Acc) (status : Nat) : State :=
  match a.who with
  | .get p | .put p => (s.detach a.id).dropSend p.src p.mtag
  | .copyRd p n | .copyWr p n => s.endCopy p n status
  | .launch p n _ => (s.detach a.id).finish p n status 0
  | .fence p n => (s.detach a.id).finish p n status 0
  | .seq k slot chunk what => (s.detach a.id).seqEvent k { slot := slot, chunk := chunk, what := what, failed := true }

/-- The state with a request marked failed; it ends when it next goes on. -/
def State.markFail (s : State) (id status : Nat) : State := s.modAcc id (fun a => { a with fail := some status, wait := .run })

/-! ### Bytes read -/

/-- GET data leaves in packets of 2,048 bytes counted from the span's start (R226, R321). -/
def State.getPackets (a : Acc) (p : Pkt) (last : Bool) : Nat → List Byte → State → List Byte × State
  | 0, bs, s => (bs, s)
  | f + 1, bs, s =>
    if bs.length < 2048 ∧ !last ∨ bs = [] then (bs, s)
    else
      let n := min 2048 bs.length
      let sent := a.pos - bs.length
      State.getPackets a p last f (bs.drop n) (s.sendPkt { s.reply p 0x08 p.mtag with
        land := p.land + sent, ctr := p.ctr, data := bs.take n, poison := a.bad, last := last && n == bs.length })

/-- The bytes of a portion reach the requester. -/
def State.deliver (s : State) (a : Acc) (bs : List Byte) (bad : Bool) : State :=
  let a := { a with
    pos := a.pos + bs.length, buf := a.buf ++ bs, bad := a.bad || bad, bads := if bad then (a.pos / 2048) :: a.bads else a.bads, touched := true, page := none, got := [], biOk := none }
  let put (s : State) (a : Acc) : State := s.modAcc a.id (fun _ => a)
  match a.who with
  | .get p =>
    let last := a.pos = a.len
    let r := State.getPackets a p last (a.buf.length / 2048 + 1) a.buf s
    if last then r.2.detach a.id else put r.2 { a with buf := r.1, bad := a.bad && r.1 != [], wait := .run }
  | .copyRd p n =>
    if bad then (put s a).markFail a.id 8
    else
      let s := put s { a with buf := [], wait := .data 0 }
      s.modXlat (fun x => { x with accs := x.accs.map (fun d => if d.who = .copyWr p n then { d with buf := a.buf, wait := .run } else d) })
  | .launch p n what =>
    if bad then (put s a).markFail a.id 8
    else if a.pos = a.len then
      let s := s.modCmd p n (fun c => if what = 0 then { c with prog := a.buf }
        else { c with descs := kput ((what - 1) / 2) (kgetD c.descs ((what - 1) / 2) [] ++ a.buf) c.descs })
      s.detach a.id
    else put s { a with wait := .run }
  | .seq k slot chunk what =>
    if a.pos = a.len then (s.detach a.id).seqEvent k { slot := slot, chunk := chunk, what := what, bytes := a.buf, bads := a.bads }
    else put s { a with wait := .run }
  | _ => put s a

/-! ### Bytes written -/

/-- n bytes of the buffer have been performed. -/
def State.written (s : State) (a : Acc) (n : Nat) : State :=
  let a := { a with pos := a.pos + n, buf := a.buf.drop n, touched := true, page := none, got := [], biOk := none, wait := .run }
  let s := s.modAcc a.id (fun _ => a)
  if a.buf ≠ [] then s
  else
    match a.who with
    | .put p =>
      let s := s.sendPkt (s.reply p 0x0C (p.mtag + (a.piece % 2 ^ 16) * 2 ^ 16))
      if a.pos = a.len then s.detach a.id else s.modAcc a.id (fun a => { a with piece := a.piece + 1, bad := false })
    | .copyWr p n =>
      if a.pos = a.len then s.endCopy p n 0
      else (s.waitAcc a.id (.data 0)).modXlat (fun x => { x with accs := x.accs.map (fun d => if d.who = .copyRd p n then { d with wait := .run } else d) })
    | .fence p n => (s.detach a.id).finish p n 0 0
    | .seq k slot chunk what =>
      if a.pos = a.len then (s.detach a.id).seqEvent k { slot := slot, chunk := chunk, what := what } else s
    | _ => s

/-! ### HBM -/

/-- The bytes an access may take in one portion: what is left, or what its buffer holds; a GET's stop at its packet. -/
def Acc.most (a : Acc) : Nat :=
  let n := a.len - a.pos
  if a.kind = 0 then (match a.who with | .get _ | .seq _ _ _ _ => min n (2048 - a.pos % 2048) | _ => n)
  else match a.who with | .seq _ _ _ _ => min (min n a.buf.length) (2048 - a.pos % 2048) | _ => min n a.buf.length

/-- A line of HDM reached through the host in HDM-D mode (R396). -/
def State.hostBias (s : State) (a : Acc) (line off n : Nat) : State :=
  match kfind? line a.got with
  | some (data, bad) => if a.kind = 0 then s.deliver a (slice data off n) bad else s.written a n
  | none =>
    let d : D2H := { line := s.hpaOf line, acc := some a.id, part := a.part, off := off, wr := if a.kind = 0 then [] else a.buf.take n }
    if 128 ≤ s.fills 0 then s.waitAcc a.id .turn
    else (s.d2hSend { d with op := match a.kind with | 0 => .rdCurr | 1 => if n = 64 then .itoMWr else .woWrInv | _ => .rdOwn }).waitAcc a.id .fill

/-- The next bytes of an access to HBM (R393, R410, R421, R424; Tables 9-8, 10-2). -/
def State.hbmStep (s : State) (a : Acc) (d : Nat) : State :=
  let dom := memDom d
  if s.domState dom != 3 then (s.wake dom).waitAcc a.id .turn
  else if s.dirMode = 2 && a.target != 3 && s.isHdm (lineOf d) then s.hostBias a (lineOf d) (d % 64) (min a.most (64 - d % 64))
  else
    let n := min a.most (4096 - d % 4096)
    let (m, ask) := if a.target = 3 then (n, none) else s.biFree a d n
    if m = 0 then (match ask with | some (l, k) => s.biAsk a l k | none => s)
    else
      let bad := s.anyPoison d m
      match a.kind with
      | 0 => s.deliver a (if a.target = 3 then s.rawRead d m else s.plainRead d m) bad
      | 1 => (if a.target = 3 then s.rawWrite d (a.buf.take m) else s.plainWrite d (a.buf.take m) (a.bad || a.bads.contains (a.pos / 2048))).written a m
      | _ => (s.plainWrite d (reduceBytes a.dtype a.redop (s.plainRead d m) (a.buf.take m)) (a.bads.contains (a.pos / 2048) || bad)).written a m

/-! ### The far tier -/

/-- A far-tier access fails: one DL record for the request, and what Table 13-4 gives its requester (R548). -/
def State.farFail (s : State) (a : Acc) (code n : Nat) : State :=
  let s := if a.dlRec then s else (s.modAcc a.id (fun a => { a with dlRec := true })).dlRecord code (some a.part) ((s.dlPortOf? (a.out + a.pos)).getD 15) (a.out + a.pos) 0
  let a := { a with dlRec := true }
  match a.who with
  | .get _ =>
    let r := s.draw 0
    r.2.deliver a ((List.range n).map (fun i => Config.freeByte s.freeCtr (a.out + a.pos + i))) true
  | .put _ => s.written a n
  | _ => s.markFail a.id 8

/-- The next bytes of an access to the far tier (R539 to R543, R548). -/
def State.farStep (s : State) (a : Acc) (d : Nat) : State :=
  let l := lineOf d
  let off := d % 64
  let n := min a.most (64 - off)
  let bytes := a.buf.take n
  if s.domState domDownlink != 3 then (s.wake domDownlink).waitAcc a.id .turn
  else
    match kfind? l a.got with
    | some (data, bad) =>
      if data = [] && bad then s.farFail a 0x01 n
      else if a.kind = 0 then
        (match a.who with | .get _ | .seq _ _ _ _ => s.deliver a (slice data off n) bad | _ => if bad then s.markFail a.id 8 else s.deliver a (slice data off n) false)
      else if a.kind = 2 && a.biOk != some l then
        let new := mergeLine data off (reduceBytes a.dtype a.redop (slice data off n) bytes)
        match (s.dlPortOf? d).bind (fun p => s.dlAccess? p l (.acc a.id) (some a.part) 0 (some new) false) with
        | some s => (s.modAcc a.id (fun a => { a with got := [], biOk := some l })).waitAcc a.id .dl
        | none => s.waitAcc a.id .turn
      else s.written a n
    | none =>
      match s.dlPortOf? d with
      | none => s.farFail a dlAbsent n
      | some p =>
        if s.dlState p != 3 then s.farFail a dlAbsent n
        else
          match s.dlAccess? p l (.acc a.id) (some a.part) off (if a.kind = 1 then some bytes else none) (a.target = 3) with
          | some s => (s.modAcc a.id (fun a => { a with touched := true })).waitAcc a.id .dl
          | none => s.waitAcc a.id .turn

/-! ### Host memory -/

/-- A HOST request that cannot be sent, or that its completion failed (R340, R341, R497, R504). -/
def State.hostFail (s : State) (a : Acc) : State :=
  let s := s.hostErr (some a.part)
  if a.untrans then s.xlatFail a 0x0C else s.markFail a.id 0x0B

/-- A CXL.io read of an access met an error answer or none (R341, R458, R497): ATS_ERROR for a GET, a PUT, a sequencer, and
for untranslated or PCIe-mode access. -/
def State.ioFail (s : State) (a : Acc) : State :=
  let streams := match a.who with | .get _ | .put _ | .seq _ _ _ _ => true | _ => false
  let s := s.hostErr (some a.part)
  if a.untrans || s.get .DF_LINK_LINK_MODE = 0 || streams then s.xlatFail a 0x0C else s.markFail a.id 0x0B

/-- The next bytes by CXL.io (R333, R341). An ATOMIC reads first. -/
def State.ioStep (s : State) (a : Acc) (addr at_ : Nat) : State :=
  let fn := (s.fnOf? a.part).getD 0
  let pasid := if at_ = 2 then none else s.pasidOf a.part a.ctx
  let n := min a.most (4096 - addr % 4096)
  if s.hostBlocked fn then s.hostFail a
  else if a.kind = 1 then
    (s.ioReq { fn := fn, part := some a.part, addr := addr, wr := a.buf.take n, at_ := at_, pasid := pasid }).written a n
  else
    let n := pieceLen s.mrrs addr n
    ((s.ioRead (.acc a.id) fn (some a.part) addr n at_ pasid).modAcc a.id (fun a => { a with page := some (addr, n, true), touched := true })).waitAcc a.id .io

/-- The portion in progress has all its bytes. -/
def State.pageDone (s : State) (a : Acc) (addr n : Nat) (io : Bool) : State :=
  if io then
    match kfind? addr a.got with
    | none => s.waitAcc a.id .io
    | some (data, bad) =>
      let passes := match a.who with | .get _ | .seq _ _ _ _ => true | _ => false
      if bad && (a.kind != 0 || !passes) then s.markFail a.id 8
      else if a.kind = 0 then s.deliver a data bad
      else
        let fn := (s.fnOf? a.part).getD 0
        (s.ioReq { fn := fn, part := some a.part, addr := addr, wr := reduceBytes a.dtype a.redop data (a.buf.take n)
                   pasid := s.pasidOf a.part a.ctx }).written a n
  else
    let cuts := lineCuts addr n
    if !cuts.all (fun c => (kfind? c.1 a.got).isSome) then (s.modAcc a.id (fun a => { a with page := none, got := [] }))
    else if a.kind != 0 then s.written a n
    else
      match cuts.find? (fun c => ((kfind? c.1 a.got).map (·.2)).getD false) with
      | some _ => s.markFail a.id 8
      | none => s.deliver a (cuts.flatMap (fun c => slice ((kgetD a.got c.1 ([], false)).1) c.2.1 c.2.2.1)) false

/-- The next bytes of a HOST access (R333, R365, R366). -/
def State.hostStep (s : State) (a : Acc) : State :=
  match a.page with
  | some (addr, n, io) => s.pageDone a addr n io
  | none =>
    let r := s.hostPage a
    match r.1 with
    | .blocked => r.2
    | .io addr at_ => r.2.ioStep a addr at_
    | .cache hpa =>
      if s.domState domCache != 3 then (r.2.wake domCache).waitAcc a.id .turn
      else
        let n := min (if a.kind = 0 then a.len - a.pos else a.most) (4096 - hpa % 4096)
        let t := r.2.cacheReq a hpa n
        t.modAcc a.id (fun b => if b.wait = .turn then { b with got := [] } else { b with page := some (hpa, n, false) })

/-! ### PUT pieces (R322) -/

/-- The pages of a piece that is not yet translated with the write right. -/
def State.pieceMiss (s : State) (a : Acc) (n : Nat) : Option Nat :=
  if a.target != 0 || a.untrans then none
  else
    let lo := a.out + a.pos
    ((rangeFrom (lo / 4096) ((lo + n - 1) / 4096 - lo / 4096 + 1)).map (fun q => max lo (4096 * q))).find? (fun v => (s.tlbLook a v).1.isNone)

/-- The GO of a PUT's next piece, once its pages are translated and 16 KiB of the engine's buffer is free (R322). -/
def State.putNext (s : State) (a : Acc) (p : Pkt) : State :=
  let n := putPiece a.len a.piece
  let used := (s.xlat.accs.filter (fun b => b.eng == a.eng && b.pieceEnd > b.pos)).length
  let d := a.out + a.pos
  let dead := a.target = 2 && (match s.dlPortOf? d with | some q => s.dlState q != 3 | none => true)
  if a.pos = a.len then s.detach a.id
  else if dead then ((s.dlRecord dlAbsent (some a.part) ((s.dlPortOf? d).getD 15) d 0).detach a.id).dropSend p.src p.mtag
  else
    match s.pieceMiss a n with
    | some v => (s.hostPage { a with pos := v - a.out }).2
    | none =>
      if 16 ≤ used then s.waitAcc a.id .turn
      else ((s.modAcc a.id (fun a => { a with pieceEnd := a.pos + n, got := [] })).waitAcc a.id (.data n)).sendPkt
        (s.reply p 0x0A (p.mtag + (a.piece % 2 ^ 16) * 2 ^ 16))

/-! ### One step of a request, and all of them -/

/-- A request that can go on does its next portion. -/
def State.goOn (s : State) (a : Acc) : State :=
  match a.fail with
  | some st => s.failAcc a st
  | none =>
    if a.kind != 0 && a.buf = [] then
      match a.who with
      | .put p => s.putNext a p
      | _ => s.waitAcc a.id (.data 0)
    else if a.target = 0 then s.hostStep a
    else
      let d := a.out + a.pos
      if d < hbmEnd then s.hbmStep a d else s.farStep a d

/-- Requests that can go on, in order, until none can or f steps have been done. -/
def State.runAccs : Nat → State → State
  | 0, s => s
  | f + 1, s =>
    match s.xlat.accs.find? s.ready with
    | none => s
    | some a => State.runAccs f (s.goOn a)

/-- Steps that the requests in progress can take at most. -/
def State.accFuel (s : State) : Nat := (s.xlat.accs.map (fun a => 4 * (a.len / 64 + 4))).sum

/-- An XLAT_INV whose requests have ended completes (R352). -/
def State.invSettle (s : State) : State :=
  s.xlat.invs.foldl (fun s i =>
    if i.uses.any (fun u => (s.acc? u).isSome) then s
    else
      let s := i.ctxs.foldl (fun s c => s.put .XLAT_CTX_STAT_DRAIN_TOKEN (ctxIx i.part c) i.token) s
      (s.modXlat (fun x => { x with invs := x.invs.erase i })).finish i.part i.num 0 i.token) s

/-- Every request that waited for a free resource looks again, and all go on. -/
def State.runAll (s : State) : State :=
  let s := s.modXlat (fun x => { x with accs := x.accs.map (fun a => if a.wait = .turn then { a with wait := .run } else a) })
  (State.runAccs s.accFuel s).invSettle

/-! ### Acceptance (R318 to R324) -/

/-- A request accepted into its stream: its segment is checked, its prefetch window asked for. -/
def State.accept (s : State) (a : Acc) : State :=
  let a := { a with id := s.xlat.nextAcc }
  let add (b : Acc) : State := s.modXlat (fun x => { x with accs := x.accs ++ [b], nextAcc := a.id + 1 })
  match s.segCheck a with
  | .error code => (add a).xlatFail a code
  | .ok b => (add b).prefetch b

/-- A request of the copy engine that finds no room waits in the engine with the delays of R320: it takes its entry when
it goes on. -/
def State.acceptRaw (s : State) (a : Acc) : State :=
  s.modXlat (fun x => { x with accs := x.accs ++ [{ a with id := x.nextAcc, target := 3 }], nextAcc := x.nextAcc + 1 })

end Sys2Proof.Machine
end

