-- ==== Sys2Proof/Machine/Fabric.lean ====
section
/-! DEFINITION. The fabric: packets and packet groups as bytes, credits, the exit with its sequence numbers and retained
copies, the receive window, what a slot carries, and how a port is lost and a flow fails over (ch. 14 and 15). -/
namespace Sys2Proof
open Machine

/-! ### Packets as bytes (Table 14-5, R574, R576) -/

/-- The header without its CRC: bytes 0x00 to 0x1B. -/
def Pkt.head (p : Pkt) : List Byte := leBytes 8 p.head0 ++ leBytes 8 p.head1 ++ leBytes 4 p.land ++ leBytes 8 p.arg

/-- The 32-byte header. -/
def Pkt.header (p : Pkt) : List Byte := p.head ++ leBytes 4 (crc32c (p.head ++ p.data))

/-- The payload padded to 8 bytes. -/
def Pkt.padded (p : Pkt) : List Byte := p.data ++ List.replicate ((8 - p.data.length % 8) % 8) 0

/-- Stream bytes and credits of a packet (R567, R576). -/
def Pkt.size (p : Pkt) : Nat := 32 + p.padded.length
def Pkt.credits (p : Pkt) : Nat := (32 + p.data.length + 63) / 64

/-- A packet read from its header and payload. -/
def Pkt.read (h data : List Byte) : Pkt :=
  let a := leAt h 0 4
  let b := leAt h 4 4
  let c := leAt h 8 4
  let d := leAt h 0x0C 4
  { dd := bits a 0 8, dtx := bits a 8 6, dty := bits a 14 5, cls := bits a 19 3, flow := bits a 22 4, part := bits a 26 6
    sd := bits b 0 8, stx := bits b 8 6, sty := bits b 14 5, opcode := bits b 19 6, inc := bits b 25 4
    seq := bits c 0 16, epoch := bits c 16 8, ctr := bits c 24 6
    fence := bit d 12, last := bit d 13, poison := bit d 14, resend := bit d 15, backup := bit d 16
    land := leAt h 0x10 4, arg := leAt h 0x14 8, data := data }

/-- The reserved bits of a header are 0 and its LEN is in range (Table 14-5). -/
def headerOk (h : List Byte) : Bool :=
  bits (leAt h 4 4) 29 3 == 0 && bits (leAt h 8 4) 30 2 == 0 && bits (leAt h 0x0C 4) 17 15 == 0 && bits (leAt h 0x0C 4) 0 12 ≤ 2048

/-- The operand bits of ARG that an opcode defines (Table 14-6). -/
def argMask (op : Nat) : Nat :=
  match op with
  | 0x02 => 2 ^ 16 - 1 + (2 ^ 20 - 1) * 2 ^ 32
  | 0x05 => 2 ^ 24 - 1
  | 0x0A | 0x0C => 2 ^ 32 - 1
  | 0x10 | 0x11 => 2 ^ 49 - 1
  | 0x12 => 2 ^ 60 - 1
  | 0x20 => 2 ^ 64 - 1
  | 0x18 => 2 ^ 58 - 1
  | 0x19 | 0x1A => 0
  | 0x1B => 2 ^ 8 - 1
  | _ => 2 ^ 16 - 1

/-- The payload lengths of an opcode (Tables 14-6, 16-2). -/
def lenOk (op len : Nat) : Bool :=
  match op with
  | 0x01 | 0x08 | 0x0B | 0x10 | 0x28 => 1 ≤ len && len ≤ 2048
  | 0x07 | 0x09 => len == 16
  | 0x18 => 64 ≤ len && len ≤ 2048 && len % 64 == 0
  | 0x19 | 0x1A => len == 32
  | 0x1B => len ≤ 2048
  | _ => len == 0

/-- A mirror packet that may use any twin-port FLOW slot: a control packet, or restore data (R678, Table 16-9). -/
def Pkt.anyTwinSlot (p : Pkt) : Bool := p.opcode == 0x19 || p.opcode == 0x1A || p.opcode == 0x1B || (p.opcode == 0x18 && bit p.arg 57)

/-- A packet meets R575: its opcode has its class, its length and no reserved field set. -/
def Pkt.wellFormed (p : Pkt) : Bool :=
  opcodeClass (p.opcode) == some p.cls && lenOk p.opcode p.data.length && (p.arg &&& argMask p.opcode) == p.arg

namespace Machine

/-! ### Ports -/

/-- The record of a port; the state with it changed. -/
def State.port (s : State) (p : Nat) : FabPort := kgetD s.fab.ports p {}
def State.modFab (s : State) (f : Fab → Fab) : State := { s with fab := f s.fab }
def State.modPort (s : State) (p : Nat) (f : FabPort → FabPort) : State := s.modFab (fun b => { b with ports := kmod b.ports p {} f })

/-- FAB_PORTp_STAT.STATE. -/
def State.portState (s : State) (p : Nat) : Nat := s.get .FAB_PORT_STAT_STATE p

/-- A port's change of state with its LINK record (Table 17-9). -/
def State.setPortState (s : State) (p st : Nat) : State :=
  if s.portState p = st then s
  else
    let s := s.put .FAB_PORT_STAT_STATE p st
    s.ember' 5 3 st none p (s.regWord .FAB_PORT_STAT p)

/-- A port may train: torus ports that LINK_PLAN enables, or every one before a base image is committed; a twin port
under R112 (R570, R571). -/
def State.trainable (s : State) (p : Nat) : Bool :=
  if p < 12 then s.com.base.isNone || (s.com.portPlan p).en
  else s.com.twin?.isSome && (s.com.img.block? p).isSome

/-- Half width: LANES 0xF0 or 0x0F (R563). A twin port uses 8 lanes. -/
def State.half (s : State) (p : Nat) : Bool := p < 12 && s.com.base.isSome && (s.com.portPlan p).lanes != 0xFF

/-- Flit times of a slot (R564, R566). -/
def State.slotFlits (s : State) (p : Nat) : Nat := if s.half p then (s.fab.slotLen * 5 + 15) / 16 else (s.fab.slotLen * 5 + 7) / 8

/-- Flit times left of the current slot. -/
def State.flitsLeft (s : State) (p : Nat) : Nat := kgetD s.fab.left p (s.slotFlits p)

/-- The link key of a port (R440). -/
def State.linkKey? (s : State) (p : Nat) : Option (Nat × Nat) := if p < 12 then s.mem.fab else s.mem.twin

/-- A port carries packets: UP, both ends committed, a key held, the device not stopped (R571, R644, R702). -/
def State.carries (s : State) (p : Nat) : Bool :=
  s.portUp p && s.com.base.isSome && (s.port p).hail.any (fun h => h.1 == 2) && (s.linkKey? p).isSome && !s.pilot.internalUe

/-- The virtual channels a port has (R576). -/
def vcOk (p vc : Nat) : Bool := if p < 12 then vc < 12 else vc == 8 || vc == 10

/-- The initial credits that this device advertises (Table 14-8). -/
def initCredits (p vc : Nat) : Nat :=
  if p < 12 then (match vc / 2 with | 0 | 1 => 512 | 2 | 3 => 1024 | 5 => 128 | _ => 0)
  else (match vc with | 8 => 4096 | 10 => 128 | _ => 0)

/-! ### Violations by a neighbour (R645, R647) -/

/-- A port enters QUARANTINE with a cause bit (R645). -/
def State.enterPortQuarantine (s : State) (p cause : Nat) : State :=
  let fresh := s.portState p != 8
  let s := s.setBit .FAB_PORT_QUAR_CAUSE p cause
  if fresh then
    let s := ((s.setPortState p 8).bump .FAB_PORT_QUAR_ENTRIES p).raise { s.mkFault 0x09 0x05 none with port := p }
    let s := s.globalEvent 3
    if s.flag .EMB_CFG_QUAR_TRIG then s.emberTrigger 5 else s
  else s

/-- A violation of Table 15-7 (R647): EMBER with the packet header where one applies, FAB_PORTp_QUAR, and the count. -/
def State.fabViolation (s : State) (p code : Nat) (hdr : List Byte) : State :=
  let s := s.ember' 4 3 code none p (leAt hdr 0 8) (leAt hdr 8 8) (leAt hdr 16 8)
  let s := (s.put .FAB_PORT_QUAR_LAST_VIOL p code).bump .FAB_PORT_QUAR_VIOLS p
  if code ≤ 6 && s.flag .FAB_ERRCFG_QUAR_EN then
    let t := s.get .CLK_TICK_TICK
    let ticks := (t :: (s.port p).violTicks.filter (fun u => t - u < 3125)).take 16
    let s := s.modPort p (fun r => { r with violTicks := ticks })
    if ticks.length = 16 then s.enterPortQuarantine p 5 else s
  else s

/-- A fabric fault record that carries a packet's header (Table 17-5). -/
def State.fabFault (s : State) (code : Nat) (part : Option Nat) (port : Nat) (p : Pkt) (reason : Nat := 0) : State :=
  s.raise { s.mkFault 0x09 code part with port := port, info0 := p.head0, info1 := p.head1 % 2 ^ 56 + reason * 2 ^ 56 }

/-- A NACK from this device for a packet of the fabric; an answer is never answered. -/
def State.fabNack (s : State) (p : Pkt) (reason : Nat) (seq : Nat := 0) : State :=
  if p.cls = 1 then s else s.sendPkt { s.reply p 0x05 (p.mtag + reason * 2 ^ 16) with seq := seq }

/-! ### The exit: modes, sequence numbers and retained copies (R573, R613, R620, R621) -/

/-- A class uses E2E on a port (R613). -/
def State.e2eOn (s : State) (p cls : Nat) : Bool := p < 12 && bit (s.com.portPlan p).e2e cls

/-- The mode of a packet that leaves this device. -/
def State.exitMode (s : State) (p : Pkt) : Bool :=
  match s.routePorts p.part p.flow p.dd (p.opcode == 0x28) with
  | q :: _ => s.e2eOn q p.cls
  | [] => false

/-- Bytes of the retain store that a partition uses, and the units of RETAIN_KIB. -/
def retainedOf (rs : List Retained) (part : Nat) : Nat := ((rs.filter (fun r => r.pkt.part == part)).map (fun r => 32 + r.pkt.data.length)).sum
def State.retainSettle (s : State) : State :=
  s.put .FAB_RECOV_RETAIN_KIB 0 (((s.fab.retained.map (fun r => 32 + r.pkt.data.length)).sum + 1023) / 1024)

/-- The retain store has room for a packet (R620). -/
def State.retainRoom (s : State) (p : Pkt) : Bool :=
  let rs := s.fab.retained
  let kept (q : Nat) : Nat := if (s.com.grant q).flows != 0 && s.com.assigned q then 131072 else 0
  let beyond (q : Nat) : Nat := retainedOf rs q - kept q
  let add := 32 + p.data.length
  retainedOf rs p.part + add ≤ kept p.part ||
    ((List.range 64).map beyond).sum + add ≤ 2 ^ 24 - ((List.range 64).map kept).sum

/-- The numbering of a packet's tuple. -/
def State.txSeq (s : State) (p : Pkt) (e2e : Bool) : TxSeq :=
  (s.fab.seqs.find? (fun q => q.part == p.part && q.flow == p.flow && q.dest == p.dd && q.e2e == e2e)).getD
    { part := p.part, flow := p.flow, dest := p.dd, e2e := e2e }

/-- The next SEQ of an E2E tuple may be assigned (R621). -/
def State.seqRoom (s : State) (p : Pkt) : Bool :=
  match s.fab.retained.find? (fun r => r.pkt.part == p.part && r.pkt.flow == p.flow && r.pkt.dd == p.dd) with
  | none => true
  | some r => ((s.txSeq p true).next + 2 ^ 16 - r.pkt.seq) % 2 ^ 16 < 32768

/-- The exit accepts a packet: its SEQ, its copy in the retain store, and its place among those held; none where it must
wait. E2E_ACK takes no SEQ and leaves no copy (R623). -/
def State.exitAccept? (s : State) (p : Pkt) : Option (Pkt × State) :=
  let p := { p with epoch := s.get .KIM_EPOCH_EPOCH % 256 }
  if p.opcode = 0x20 then some (p, s.modFab (fun f => { f with held := f.held ++ [{ pkt := p }] }))
  else
    let e2e := s.exitMode p
    if e2e && !(s.retainRoom p && s.seqRoom p) then none
    else
      let q := s.txSeq p e2e
      let p := { p with seq := q.next }
      let s := s.modFab (fun f => { f with
        seqs := { q with next := (q.next + 1) % 2 ^ 16 } :: f.seqs.erase q
        held := f.held ++ [{ pkt := p }]
        retained := if e2e then f.retained ++ [{ pkt := p }] else f.retained })
      some (p, s.retainSettle)

/-- Packets that have reached the exit are accepted in order; one that waits holds up those of its own tuple. -/
def State.exitL : List Pkt → State → State
  | [], s => s
  | p :: ps, s =>
    if s.fab.exit.any (fun q => q.part == p.part && q.flow == p.flow && q.dd == p.dd) then
      State.exitL ps (s.modFab (fun f => { f with exit := f.exit ++ [p] }))
    else if s.noRoute p && p.opcode != 0x20 then State.exitL ps (s.noRouteAt p)
    else
      match s.exitAccept? p with
      | some (_, t) => State.exitL ps t
      | none => State.exitL ps (s.modFab (fun f => { f with exit := f.exit ++ [p] }))

/-- The exit served. -/
def State.pumpExit (s : State) : State := State.exitL s.fab.exit (s.modFab (fun f => { f with exit := [] }))

/-! ### Virtual channels (R576, R578) -/

/-- A hop in direction d from this device crosses its dimension's dateline. -/
def State.crosses (s : State) (d : Nat) : Bool :=
  let l := s.com.img.link
  let x := match d / 2 with | 0 => s.self % 8 | 1 => s.self / 8 % 8 | _ => s.self / 64 % 4
  let n := match d / 2 with | 0 => l.sizeX | 1 => l.sizeY | _ => l.sizeZ
  if d % 2 = 0 then x + 1 == n else x == 0

/-- The sub-channel of a packet on a port. -/
def State.subOn (s : State) (h : HeldPkt) (p : Nat) : Nat :=
  if 12 ≤ p then 0
  else if s.crosses (portDir p) then 1
  else if h.dir = portDir p then h.sub else 0

/-- The virtual channel of a packet on a port. -/
def State.vcOn (s : State) (h : HeldPkt) (p : Nat) : Nat := 2 * h.pkt.cls + s.subOn h p

/-! ### What a slot carries (R586, R587, R589, R650) -/

/-- The TX entry of a port in the current slot. -/
def State.txEnt (s : State) (p : Nat) : SlotEnt := s.com.slotEnt false p (s.get .FAB_SYNC_SLOT)

/-- Flow f of partition p has failed over onto a port: a failed entry of it names the port in BACKUP (R629). -/
def State.movedOnto (s : State) (port part flow : Nat) : Bool :=
  s.fab.failed.any (fun e => e.1 == part && e.2.1 == flow && bit (s.routeEnt part flow e.2.2).2 port)

/-- The current slot of a port admits a packet (Table 14-9). -/
def State.admits (s : State) (p : Nat) (h : HeldPkt) : Bool :=
  let e := s.txEnt p
  let slack := h.pkt.opcode == 0x28 || h.resend
  let fenced := s.get .KIM_STATUS_STATE == 5
  match e.kind with
  | .idle => false
  | .slack => slack && (!fenced || h.pkt.opcode == 0x28)
  | .backup =>
    !fenced && (if s.movedOnto p e.part e.flow then !slack && e.part == h.pkt.part && e.flow == h.pkt.flow && s.fab.failed.contains (e.part, e.flow, h.pkt.dd)
      else slack)
  | .flow => !fenced && !slack && (if 12 ≤ p then e.part == h.pkt.part || (h.pkt.anyTwinSlot && (h.pkt.opcode != 0x18 || (s.com.img.partMap.any (fun m => m.part == e.part && m.mirrored)))) else e.part == h.pkt.part && e.flow == h.pkt.flow)

/-- Credits held for a packet on a port. -/
def State.hasCredit (s : State) (p : Nat) (h : HeldPkt) (used : Nat) : Bool :=
  used + h.pkt.credits ≤ kgetD (s.port p).credits (s.vcOn h p) 0

/-- A packet may leave on a port now (R581): its route allows the port, the slot admits it, credits are held, and no lower
allowed port could take it in this slot. -/
def State.mayLeave (s : State) (p : Nat) (h : HeldPkt) : Bool :=
  let ok (q : Nat) : Bool := s.carries q && s.admits q h && s.hasCredit q h 0
  if 12 ≤ p then ok p
  else
    let qs := s.routePorts h.pkt.part h.pkt.flow h.pkt.dd (h.pkt.opcode == 0x28)
    qs.contains p && ok p && !qs.any (fun q => q < p && ok q && 16 + h.pkt.size ≤ 244 * s.flitsLeft q)

/-- The priority of a class: MGMT, MIRROR, COLL, RSP, FWD, REQ (R578). -/
def clsRank (c : Nat) : Nat := match c with | 5 => 0 | 4 => 1 | 3 => 2 | 1 => 3 | 2 => 4 | _ => 5

/-- The candidates for a port: held packets, or the twin queue. -/
def State.candidates (s : State) (p : Nat) : List HeldPkt := if p < 12 then s.fab.held else s.fab.twinq.map (fun k => { pkt := k })

/-- The next packet by class and age that may leave on a port, with its mode where one is asked for. -/
def State.nextPkt? (s : State) (p : Nat) (mode : Option Bool) : Option HeldPkt :=
  let ok := (s.candidates p).filter (fun h => s.mayLeave p h && (match mode with | none => true | some m => s.e2eOn p h.pkt.cls == m))
  ok.foldl (fun b h => match b with
    | none => some h
    | some g => if clsRank h.pkt.cls < clsRank g.pkt.cls then some h else b) none

/-- A group that starts with a packet: further packets of its virtual channel and mode, at most 8, that fit in the room
and hold credits together (R567, R569, R576). -/
def State.growGroup (s : State) (p room : Nat) : List HeldPkt → List HeldPkt → Nat → Nat → List HeldPkt
  | [], g, _, _ => g
  | h :: hs, g, size, used =>
    match g with
    | [] => g
    | g0 :: _ =>
      if g.length < 8 && !g.contains h && s.vcOn h p == s.vcOn g0 p && s.mayLeave p h && size + h.pkt.size ≤ room && s.hasCredit p h used
      then s.growGroup p room hs (g ++ [h]) (size + h.pkt.size) (used + h.pkt.credits)
      else s.growGroup p room hs g size used

/-- The nonce of R441 (Table 10-7). -/
def nonce (sender port linkup ctr : Nat) : Nat := sender * 2 ^ 88 + port * 2 ^ 84 + linkup % 2 ^ 16 * 2 ^ 64 + ctr % 2 ^ 64

/-- The bytes of a group (R567, R568). -/
def groupBytes (key sender port linkup ctr vc : Nat) (ps : List Pkt) : List Byte :=
  let gh := leBytes 4 (ps.length + vc * 16 + ctr % 2 ^ 16 * 2 ^ 8)
  let iv := nonce sender port linkup ctr
  let ct := gcmText key iv (ps.flatMap Pkt.padded)
  let cut := ps.foldl (fun (r : List Byte × List Byte) p => (r.1 ++ p.header ++ r.2.take p.padded.length, r.2.drop p.padded.length)) ([], ct)
  let tag := gcmTag key iv (gh ++ ps.flatMap Pkt.header) ct
  gh ++ cut.1 ++ (beBytes 16 tag).take 12

/-- Credits that a receive buffer owes its neighbour. -/
def State.oweCredits (s : State) (p vc n : Nat) : State := s.modPort p (fun r => { r with owe := kput vc (kgetD r.owe vc 0 + n) r.owe })

/-- A packet leaves the device's holding: its transit credits return, its copy remembers the port (R576, R580, R628). -/
def State.leave (s : State) (p : Nat) (h : HeldPkt) : State :=
  let s := match h.inPort with | some q => s.oweCredits q (2 * h.pkt.cls + h.sub) h.pkt.credits | none => s
  s.modFab (fun f => { f with
    held := f.held.erase h, twinq := if 12 ≤ p then f.twinq.erase h.pkt else f.twinq
    retained := f.retained.map (fun r => if r.pkt = { h.pkt with resend := false } then { r with port := some p, due := false } else r) })

/-- A packet as it goes out: BACKUP set under failover (Table 14-9). -/
def State.asSent (s : State) (p : Nat) (h : HeldPkt) : Pkt :=
  { h.pkt with backup := h.pkt.backup || (s.txEnt p).kind == .backup && !h.resend && h.pkt.opcode != 0x28 }

/-- Mirror packets as they go out on a twin port: PAIR and PAIR_ACK carry the slot's partition, all the structure epoch, and
each the next SEQ of its partition on the twin ports (R573, R648, R678). -/
def State.twinStamp (s : State) (p : Nat) : List Pkt → List Pkt × State
  | [] => ([], s)
  | k :: ks =>
    let part := if k.opcode = 0x1B ∧ k.arg ≤ 2 then (s.txEnt p).part else k.part
    let n := kgetD s.twin.seqs part 0
    let r := State.twinStamp (s.modTwin (fun t => { t with seqs := kput part ((n + 1) % 2 ^ 16) t.seqs })) p ks
    ({ k with part := part, seq := n, epoch := s.get .KIM_EPOCH_EPOCH % 256 } :: r.1, r.2)

/-- The sample ring (R603, Table 14-14). -/
def State.sample (s : State) (port : Nat) (p : Pkt) : State :=
  match s.com.tele? with
  | none => s
  | some t =>
    if t.sampleN = 0 || 12 ≤ port || !(t.all || t.owner == p.part) then s
    else
      let n := s.fab.sampled + 1
      let s := s.modFab (fun f => { f with sampled := n })
      if n % 2 ^ t.sampleN != 0 then s
      else
        let k := s.get .FAB_SAMPLE_SAMPLES
        let rec_ := p.header ++ leBytes 8 (port + s.get .FAB_SYNC_SLOT * 16) ++ leBytes 8 s.cadenceTime ++ leBytes 8 k ++ leBytes 8 0
        (s.put .FAB_SAMPLE_SAMPLES 0 (k + 1)).plainWrite (t.ringBase + 64 * (k % (t.ringBytes / 64))) rec_

/-- A collective of a sequencer has used a BACKUP slot (R633). -/
def State.collDegraded (s : State) (k part id : Nat) : State :=
  s.modSeq k (fun q => { q with colls := q.colls.map (fun e => if e.2.part = part ∧ e.2.id = id then (e.1, { e.2 with degraded := true }) else e) })

/-- A group of packets starts on a port: its bytes join the stream of its mode (R569, R576, R603). -/
def State.startGroup (s : State) (p : Nat) (e2e : Bool) (hs : List HeldPkt) : State :=
  match hs, s.linkKey? p with
  | h :: _, some (_, key) =>
    let vc := s.vcOn h p
    let (ps, s) := if 12 ≤ p then s.twinStamp p (hs.map (·.pkt)) else (hs.map (s.asSent p), s)
    let r := s.port p
    let bs := groupBytes key s.self p (s.get .FAB_PORT_STAT_LINKUP p) r.txGroup vc ps
    let used := (ps.map Pkt.credits).sum
    let s := s.modPort p (fun r => { r with
      txGroup := r.txGroup + 1, txPkts := hs
      txHop := if e2e then r.txHop else r.txHop ++ bs, txE2e := if e2e then r.txE2e ++ bs else r.txE2e
      credits := kput vc (kgetD r.credits vc 0 - used) r.credits })
    let s := hs.foldl (fun s h => s.leave p h) s
    let s := ps.foldl (fun s k => if k.cls = 3 && k.backup && k.sd = s.self then s.collDegraded (nodeY k.src) k.part (bits k.arg 0 16) else s) s
    ps.foldl (fun s k => ((if k.opcode = 0x20 then s else s.bump .FAB_PFLOW_COUNT (qi k.part k.flow)).sample p k)) s
  | _, _ => s

/-- Groups of one mode started until its stream fills the flit or none fits; f bounds the rounds. -/
def State.fillStream (p : Nat) (e2e : Bool) : Nat → State → State
  | 0, s => s
  | f + 1, s =>
    let r := s.port p
    let have_ := (if e2e then r.txE2e else r.txHop).length
    if 244 ≤ have_ then s
    else
      let room := 244 * s.flitsLeft p - have_
      match s.nextPkt? p (some e2e) with
      | none => s
      | some h =>
        if room < 16 + h.pkt.size then s
        else State.fillStream p e2e f (s.startGroup p e2e (s.growGroup p room (s.candidates p) [h] (16 + h.pkt.size) h.pkt.credits))

/-! ### The receive window and answers (R588, R622, R623, R625) -/

/-- A window after a SEQ is marked received; none for a duplicate (R622). -/
def RxWin.take (w : RxWin) (seq : Nat) : Option RxWin :=
  let d := (seq + 2 ^ 16 - w.base) % 2 ^ 16
  if 32768 ≤ d ∨ w.got.contains seq then none
  else
    let slide := (List.range (w.got.length + 1)).foldl (fun (r : Nat × List Nat) _ =>
      if r.2.contains r.1 then ((r.1 + 1) % 2 ^ 16, r.2.erase r.1) else r)
    if d = 0 then
      let b := if w.got = [] then ((seq + 1) % 2 ^ 16, []) else slide ((seq + 1) % 2 ^ 16, w.got)
      some { w with base := b.1, got := b.2 }
    else some { w with got := seq :: w.got }

/-- The window of a packet. -/
def State.winOf (s : State) (p : Pkt) (e2e : Bool) : RxWin :=
  (s.fab.wins.find? (fun w => w.part == p.part && w.flow == p.flow && w.src == p.sd && w.e2e == e2e)).getD
    { part := p.part, flow := p.flow, src := p.sd, e2e := e2e }
def State.putWin (s : State) (w : RxWin) : State :=
  s.modFab (fun f => { f with wins := w :: f.wins.filter (fun v => !(v.part == w.part && v.flow == w.flow && v.src == w.src && v.e2e == w.e2e)) })

/-- The E2E_ACK of a window (Table 15-2); it replaces one that still waits. -/
def State.e2eAckSend (s : State) (w : RxWin) (p : Pkt) : State :=
  let map_ := ((List.range 48).filter (fun i => w.got.contains ((w.base + 1 + i) % 2 ^ 16))).map (fun i => 2 ^ i)
  let ack : Pkt := { s.reply p 0x20 (w.base + map_.sum * 2 ^ 16) with stx := 59, sty := 0 }
  let s := s.modFab (fun f => { f with held := f.held.filter (fun h =>
    !(h.pkt.opcode == 0x20 && h.pkt.sd == s.self && h.pkt.dd == ack.dd && h.pkt.part == ack.part && h.pkt.flow == ack.flow)) })
  s.modFab (fun f => { f with exit := f.exit ++ [ack] })

/-- A packet that fails its CRC, or the tag of its group (R443, R625). -/
def State.crcDrop (s : State) (port : Nat) (e2e : Bool) (p : Pkt) : State :=
  let s := s.fabFault 0x0A none port p
  if e2e then s.fabNack p 0x08 p.seq else s

/-- The EPOCH of a packet is this device's, or R132 admits it (R648, R649). -/
def State.epochOk (s : State) (p : Pkt) : Bool :=
  p.opcode == 0x28 || p.epoch == s.get .KIM_EPOCH_EPOCH % 256 ||
    (s.get .FAB_SYNC_SLOT == 0 && s.kim.prevEpoch == some p.epoch && !bit s.kim.lastChanged p.part)

/-- A packet for this device: its window, its acknowledgement, its node (R37, R44, R583, R622, R623). -/
def State.deliverPkt (s : State) (e2e : Bool) (p : Pkt) : State :=
  if p.opcode = 0x20 ∨ p.opcode = 0x28 then s.emit (.mesh p)
  else
    let w := s.winOf p e2e
    match w.take p.seq with
    | none =>
      let s := s.bump .FAB_PRECOV_DUPS p.part
      if e2e then s.e2eAckSend w p else if p.cls = 3 && p.resend then s.emit (.mesh p) else s
    | some w =>
      let n := p.node
      let known := isTile n || isCore n || isSeq n
      let s := s.putWin (if known then { w with fly := p.seq :: w.fly } else w)
      let s := if e2e then s.e2eAckSend w p else s
      if known || p.opcode = 0x02 then s.emit (.mesh p)
      else (s.fabNack p 0x03).raise (s.meshFault 0x01 none p)

/-- One packet of a group whose tag was right (R574, R575, R579, R580, R588, R648). -/
def State.rxPacket (s : State) (port : Nat) (e2e : Bool) (slot : Option Nat) (sub : Nat) (h data : List Byte) : State :=
  let p := Pkt.read h data
  let free (s : State) : State := s.oweCredits port (2 * p.cls + sub) p.credits
  if leAt h 0x1C 4 != crc32c (h.take 28 ++ data) then free (s.crcDrop port e2e p)
  else if !(headerOk h && p.wellFormed) then
    free ((s.fabViolation port 1 h).fabFault 0x02 none port p)
  else
    let s := match slot with
      | none => s
      | some n =>
        let e := s.com.slotEnt true port n
        let fits := match e.kind with
          | .idle => false
          | .slack => p.opcode == 0x28 || p.resend
          | .backup => p.opcode == 0x28 || p.resend || (e.part == p.part && e.flow == p.flow)
          | .flow => if 12 ≤ port then e.part == p.part || p.anyTwinSlot else e.part == p.part && e.flow == p.flow
        if fits then s else (s.bump .FAB_PORT_VIOL_RX_SLOT port).fabViolation port 8 h
    if !s.epochOk p then
      free (((s.fabNack p 0x05).fabFault 0x06 none port p).bump .FAB_RECOV_EPOCH_DROPS)
    else if 12 ≤ port then free (s.emit (.mesh p))
    else if p.dd != s.self then
      if s.noRoute p then free ((s.fabNack p 0x04).fabFault 0x01 none port p)
      else s.modFab (fun f => { f with held := f.held ++ [{ pkt := p, inPort := some port, sub := sub, dir := portDir port ^^^ 1 }] })
    else free (s.deliverPkt e2e p)

/-- The packets of a group as they stand in the stream: headers with ciphertext payloads; none while bytes are missing. -/
def splitGroup : Nat → List Byte → Option (List (List Byte × List Byte) × List Byte)
  | 0, bs => some ([], bs)
  | k + 1, bs =>
    if bs.length < 32 then none
    else
      let len := bits (leAt bs 0x0C 4) 0 12
      let pad := (len + 7) / 8 * 8
      if bs.length < 32 + pad then none
      else (splitGroup k (bs.drop (32 + pad))).map (fun r => ((bs.take 32, slice bs 32 pad) :: r.1, r.2))

/-- Packets of a group with their payloads decrypted. -/
def openGroup (text : List Byte) : List (List Byte × List Byte) → List (List Byte × List Byte)
  | [] => []
  | (h, c) :: rest => (h, text.take (bits (leAt h 0x0C 4) 0 12)) :: openGroup (text.drop c.length) rest

/-- One whole group received: its count, its tag, its packets (R443, R568, R580). -/
def State.rxGroup (s : State) (port : Nat) (e2e : Bool) (slot : Option Nat) (gh : List Byte) (ps : List (List Byte × List Byte)) (tag : List Byte) : State :=
  let r := s.port port
  let w := leAt gh 0 4
  let ctr := if r.resync then r.rxGroup + (bits w 8 16 + 2 ^ 16 - r.rxGroup % 2 ^ 16) % 2 ^ 16 else r.rxGroup
  let s := s.modPort port (fun r => { r with rxGroup := ctr + 1, resync := false })
  let vc := bits w 4 4
  let iv (up : Nat) : Nat := nonce (s.get .FAB_PORT_STAT_NEIGH port) (s.get .FAB_PORT_STAT_NEIGH_PORT port) up ctr
  let ct := ps.flatMap (·.2)
  let aad := gh ++ ps.flatMap (·.1)
  let good (k : Option (Nat × Nat)) (up : Nat) : Option (Nat × Nat) := match k with
    | some (_, key) => if (beBytes 16 (gcmTag key (iv up) aad ct)).take 12 = tag then some (key, iv up) else none
    | none => none
  let prev := if port < 12 then s.mem.prevFab else s.mem.prevTwin
  let key? := match good (s.linkKey? port) (s.get .FAB_PORT_STAT_LINKUP port) with
    | some k => some k
    | none => if s.get .FAB_SYNC_SLOT = 0 then good prev r.prevLinkup else none
  match (if bits w 8 16 = ctr % 2 ^ 16 then key? else none) with
  | none =>
    let s := (s.bump .CRY_STAT_TAG_FAILS).fabViolation port 4 ((ps.map (·.1)).headD [])
    ps.foldl (fun s e => let p := Pkt.read e.1 []
      (s.crcDrop port e2e p).oweCredits port vc ((32 + bits (leAt e.1 0x0C 4) 0 12 + 63) / 64)) s
  | some (key, n) =>
    (openGroup (gcmText key n ct) ps).foldl (fun s e => s.rxPacket port e2e slot (vc % 2) e.1 e.2) s

/-- The stream of a mode cut for the rest of its slot; a group it had begun counts. -/
def State.cutStream (s : State) (port : Nat) (e2e : Bool) : State :=
  s.modPort port (fun r => if e2e then { r with cutE2e := true, rxE2e := [] } else { r with cutHop := true, rxHop := [] })

/-- The groups at the front of a stream taken as they are complete; f bounds the rounds (R567, Table 15-7). -/
def State.parseStream (port : Nat) (e2e : Bool) (slot : Option Nat) : Nat → State → State
  | 0, s => s
  | f + 1, s =>
    let r := s.port port
    let bs := if e2e then r.rxE2e else r.rxHop
    let put (s : State) (bs : List Byte) : State := s.modPort port (fun r => if e2e then { r with rxE2e := bs } else { r with rxHop := bs })
    match bs with
    | [] => s
    | b :: _ =>
      let count := b.toNat % 16
      if count = 0 then put s []
      else if 8 < count || !vcOk port (b.toNat / 16) then (s.fabViolation port 6 (slice bs 4 32)).cutStream port e2e
      else if bs.length < 4 then s
      else
        match splitGroup count (bs.drop 4) with
        | none => s
        | some (ps, rest) =>
          if rest.length < 12 then s
          else State.parseStream port e2e slot f ((put s (rest.drop 12)).rxGroup port e2e slot (bs.take 4) ps (rest.take 12))

/-! ### Failover and the loss of a port (R628 to R631) -/

/-- A held packet that has lost its route (R584, R631). -/
def State.routeLost (s : State) (h : HeldPkt) : State :=
  match h.inPort with
  | none => s.noRouteAt h.pkt
  | some q => (((s.fabNack h.pkt 0x04).fabFault 0x01 none q h.pkt)).oweCredits q (2 * h.pkt.cls + h.sub) h.pkt.credits

/-- Held packets without a route leave, as R584 says; E2E copies that only wait for a resend stay retained. -/
def State.dropUnroutable (s : State) : State :=
  let lost := s.fab.held.filter (fun h => s.noRoute h.pkt)
  let s := s.modFab (fun f => { f with held := f.held.filter (fun h => !s.noRoute h.pkt) })
  lost.foldl (fun s h => if h.resend || h.pkt.opcode = 0x20 then s else s.routeLost h) s

/-- A port has just stopped being usable: each route entry whose PRIMARY has no usable port left and whose BACKUP has one
fails over (R629). -/
def State.failover (s : State) (port : Nat) : State :=
  let parts := s.com.img.partMap
  let s := parts.foldl (fun s e => (List.range 16).foldl (fun s f =>
    match s.com.routeSet? e.part f with
    | none => s
    | some r => (List.range 256).foldl (fun s d =>
      let m := nthD r.entries d (0, 0)
      if bit m.1 port && !s.fab.failed.contains (e.part, f, d) && !(maskPorts m.1).any (fun p => s.usable p e.part f .flow)
        && (maskPorts m.2).any (fun p => s.usable p e.part f .backup)
      then
        let s1 := s.modFab (fun b => { b with failed := (e.part, f, d) :: b.failed })
        if bit (s.get .FAB_PFAILOVER_FLOWS e.part) f then s1
        else (s1.setBit .FAB_PFAILOVER_FLOWS e.part f).raise { s.mkFault 0x09 0x08 (some e.part) with sev := 0, port := port }
      else s) s) s) s
  s.dropUnroutable

/-- A partition has entered JOB_IDLE: a flow returns to PRIMARY where one of its ports is usable again (R630). -/
def State.failback (s : State) (part : Nat) : State :=
  let back (e : Nat × Nat × Nat) : Bool := e.1 == part && (maskPorts (s.routeEnt part e.2.1 e.2.2).1).any (fun p => s.usable p part e.2.1 .flow)
  let s := s.modFab (fun b => { b with failed := b.failed.filter (fun e => !back e) })
  s.put .FAB_PFAILOVER_FLOWS part
    (((List.range 16).filter (fun f => s.fab.failed.any (fun e => e.1 == part && e.2.1 == f))).map (fun f => 2 ^ f)).sum

/-- The link layer of a port starts afresh: buffers, retry state, credits, counts (Table 15-3, R576, R616). -/
def State.clearPort (s : State) (p : Nat) : State :=
  let s := s.modFab (fun f => { f with
    held := f.held.filter (fun h => h.inPort != some p)
    retained := f.retained.map (fun r => if r.port = some p then { r with due := true } else r) })
  s.modPort p (fun r => { violTicks := r.violTicks, hail := r.hail })

/-- Scope 7 of Table 2-6 begins: PHY and link layer start afresh; the fields follow when it completes (R74, R76). -/
def State.fabPortReset (s : State) (p cause : Nat) : State :=
  let s := s.clearPort p
  let s := s.setPortState p 0
  (s.modPort p (fun r => { r with hail := none, cause := cause })).modPilot (fun r => { r with portReset := r.portReset ||| 2 ^ p })

/-- A port starts to train, or stays DISABLED (R570, R571). -/
def State.trainStart (s : State) (p : Nat) : State :=
  if bit s.pilot.portReset p then s
  else if !s.trainable p then s.setPortState p 9
  else if (s.portState p = 0 || s.portState p = 9) && s.domState (domPort p) = 3 then s.setPortState p 1
  else s

end Machine
end Sys2Proof
end

