-- ==== Sys2Proof/Machine/Collective.lean ====
section
/-! DEFINITION. The collective sequencers: descriptors, the part a rank has in a chunk, chunk buffers and credits, memory
accesses, aborts and the end record (R595 to R601, R632 to R637, R654, R660). -/
namespace Sys2Proof.Machine

/-! ### What a rank does with a chunk (R596, Table 14-12) -/

/-- Chunks of a block, and of the whole collective; ALLGATHER numbers the chunks of block r from r times that. -/
def Coll.perBlock (c : Coll) : Nat := (c.len + 65535) / 65536
def Coll.chunks (c : Coll) : Nat := if c.op = 3 then c.n * c.perBlock else c.perBlock

/-- The place of a chunk in its block, and its bytes. -/
def Coll.inBlock (c : Coll) (i : Nat) : Nat := if c.op = 3 then i % c.perBlock else i
def Coll.chunkLen (c : Coll) (i : Nat) : Nat := min 65536 (c.len - 65536 * c.inBlock i)

/-- Where a chunk is read and written. -/
def Coll.srcAt (c : Coll) (i : Nat) : Nat := c.src + 65536 * c.inBlock i
def Coll.dstAt (c : Coll) (i : Nat) : Nat := c.dst + (if c.op = 3 then i / c.perBlock * c.len else 0) + 65536 * c.inBlock i

/-- This rank's place on the way of a chunk in a phase: 0 begins it. -/
def Coll.place (c : Coll) (i phase : Nat) : Nat :=
  let first := if phase = 0 then (i + 1) % c.n else match c.op with | 1 => c.root | 3 => i / c.perBlock | _ => i % c.n
  (c.rank + c.n - first % c.n) % c.n

/-- The collective reduces (REDUCE_SCATTER, ALLREDUCE). -/
def Coll.reduces (c : Coll) : Bool := c.op == 2 || c.op == 4

/-- The phases a collective has. -/
def Coll.phases (c : Coll) : List Nat := match c.op with | 2 => [0] | 4 => [0, 1] | _ => [1]

/-- This rank sends a chunk in a phase, receives it, writes its result, originates it. -/
def Coll.sends (c : Coll) (i phase : Nat) : Bool := c.phases.contains phase && c.place i phase + 1 < c.n
def Coll.receives (c : Coll) (i phase : Nat) : Bool := c.phases.contains phase && c.place i phase != 0 && c.start ≤ i && i < c.chunks
def Coll.writes (c : Coll) (i : Nat) : Bool := c.op != 2 || c.place i 0 + 1 == c.n
def Coll.originates (c : Coll) (i : Nat) : Bool := if c.reduces then c.place i 0 == 0 else c.place i 1 == 0

/-- What must be done before a chunk is committed here (R598). -/
def Coll.tokens (c : Coll) (i : Nat) : List Nat := ([0, 1].filter (c.sends i)) ++ (if c.writes i then [2] else [])

/-- A part of a chunk is done; leading chunks that are complete become committed. -/
def Coll.advance : Nat → Coll → Coll
  | 0, c => c
  | f + 1, c => if c.lead < c.chunks && (c.tokens c.lead).all (fun t => (kgetD c.prog c.lead []).contains t)
    then Coll.advance f { c with lead := c.lead + 1, prog := kdel c.lead c.prog } else c
def Coll.mark (c : Coll) (i token : Nat) : Coll :=
  Coll.advance (c.prog.length + 2) { c with prog := kput i (token :: kgetD c.prog i []) c.prog }

/-- Rank r's device; the successor and the predecessor. -/
def Coll.devOf (c : Coll) (r : Nat) : Nat := nthD c.ringDevs (r % c.n) 0
def Coll.succ (c : Coll) : Nat := c.devOf (c.rank + 1)
def Coll.pred (c : Coll) : Nat := c.devOf (c.rank + c.n - 1)

/-! ### Slots -/

/-- The collective in a slot; the state with it changed. -/
def State.coll? (s : State) (k slot : Nat) : Option Coll := kfind? slot (s.seq k).colls
def State.modColl (s : State) (k slot : Nat) (f : Coll → Coll) : State :=
  s.modSeq k (fun q => { q with colls := q.colls.map (fun e => if e.1 = slot then (e.1, f e.2) else e) })

/-- The slot of a collective by partition and COLL_ID. -/
def State.collSlot? (s : State) (k part id : Nat) : Option (Nat × Coll) :=
  ((s.seq k).colls).find? (fun e => e.2.part == part && e.2.id == id)

/-- The registers of a sequencer's slots (Table 14-19). -/
def State.seqRegs (s : State) (k : Nat) : State :=
  let cs := (s.seq k).colls
  let s := s.put .SEQ_STAT_ACTIVE k cs.length
  (List.range 16).foldl (fun s j =>
    let c := (kfind? j cs).getD { state := 0 }
    let i := 16 * k + j
    ((((((s.put .SEQ_COLL_COLL_ID i c.id).put .SEQ_COLL_PART i c.part).put .SEQ_COLL_FLOW i c.flow).put .SEQ_COLL_STATE i c.state).put
      .SEQ_COLL_DEGRADED i (b2n c.degraded)).put .SEQ_COLL_POISONED i (b2n c.poisoned)).put .SEQ_COLL_COMMITTED i c.lead) s

/-! ### Aborts (R634 to R636) -/

/-- A packet of a collective to another device's sequencer of the same number. -/
def State.collPkt (s : State) (k : Nat) (c : Coll) (dest opcode arg : Nat) : Pkt :=
  { dd := dest, dtx := 61, dty := k, cls := 3, flow := c.flow, part := c.part, sd := s.self, stx := 61, sty := k
    opcode := opcode, inc := c.inc, epoch := s.get .KIM_EPOCH_EPOCH % 256, arg := arg }

/-- COLL_ABORT's ARG (Table 15-4). -/
def abortArg (c : Coll) (origin : Nat) : Nat := c.id + c.commit % 2 ^ 32 * 2 ^ 16 + origin * 2 ^ 48 + c.cause * 2 ^ 56

/-- A sequencer's accesses of a slot end without an event. -/
def State.collDetach (s : State) (k slot : Nat) : State :=
  (s.xlat.accs.filter (fun a => match a.who with | .seq q l _ _ => q == k && l == slot | _ => false)).foldl (fun s a => s.detach a.id) s

/-- A collective aborts: its buffers empty, its value starts, its COLL_ID is refused for 4 boundaries, and the ranks given
hear of it (R635, R636, R637). -/
def State.collStop (s : State) (k slot cause commit origin : Nat) (dests : Coll → List Nat) : State :=
  match s.coll? k slot with
  | none => s
  | some c =>
    let c := { c with state := 3, cause := cause, commit := commit, status := some 1, rx := [], tx := [] }
    let s := (s.collDetach k slot).modColl k slot (fun _ => c)
    let s := s.modSeq k (fun q => { q with barred := (c.part, c.id, 4) :: q.barred, evts := q.evts.filter (fun e => e.slot != slot) })
    (dests c).foldl (fun s d => s.sendPkt (s.collPkt k c d 0x12 (abortArg c origin))) s

/-- An abort on this sequencer's own account (R634, R635): 1 NO_PATH, 2 RESEND_EXHAUSTED, 3 MEMORY, 4 PARTITION. -/
def State.collAbort (s : State) (k slot cause : Nat) : State :=
  match s.coll? k slot with
  | none => s
  | some c =>
    if c.state = 3 || c.status.isSome then s
    else s.collStop k slot cause c.lead c.rank (fun c => ((List.range c.n).filter (fun r => r != c.rank && c.ringDevs != [])).map c.devOf)

/-! ### Memory accesses (R601; Tables 8-1, 8-2) -/

/-- The engine that a sequencer reaches an address by: the gateway column of its segment's target, in the row of the
sequencer's number (notes/assumptions/44.md). -/
def State.seqEng (s : State) (part ctx addr : Nat) : Nat :=
  match (List.range 8).find? (fun g => let i := segIx part ctx g
      s.flag .XLAT_SEG_ATTR_VALID i && s.get .XLAT_SEG_IN_IN_BASE i ≤ addr && addr ≤ s.get .XLAT_SEG_LIM_IN_LIMIT i) with
  | some g => match s.get .XLAT_SEG_ATTR_TARGET (segIx part ctx g) with | 0 => 36 | 1 => 0 | _ => 32
  | none => 0

/-- An access of a sequencer starts, where its stream has room: what is 0 the ring table, 1 a local contribution, 2 a result. -/
def State.seqAccess? (s : State) (k slot : Nat) (c : Coll) (chunk what addr len : Nat) (bytes : List Byte) (bads : List Nat) : Option State :=
  let a : Acc :=
    { who := .seq k slot chunk what, eng := s.seqEng c.part c.ctx addr, src := nodeKey 61 k, part := c.part, ctx := c.ctx
      kind := if what = 2 then (if c.accum then 2 else 1) else 0, redop := c.redop, dtype := c.dtype, addr := addr, len := len
      buf := bytes, bads := bads }
  if s.hasRoom a then some (s.accept a) else none

/-! ### Chunks -/

/-- A retain buffer's work is over. -/
def TxChunk.idle (t : TxChunk) : Bool := !t.needSrc && !t.needWrite && !t.writing && !t.needSend && !t.sent

/-- The state with a chunk in a retain buffer changed. -/
def State.modTx (s : State) (k slot chunk phase : Nat) (f : TxChunk → TxChunk) : State :=
  s.modColl k slot (fun c => { c with tx := c.tx.map (fun t => if t.chunk = chunk ∧ t.phase = phase then f t else t) })

/-- A whole chunk that has arrived as it enters a retain buffer. -/
def Coll.retain (c : Coll) (chunk phase : Nat) (bytes : List Byte) (bads : List Nat) : TxChunk :=
  if phase = 0 then { chunk := chunk, phase := 0, bytes := bytes, bads := bads, needSrc := true, reduce := true }
  else { chunk := chunk, phase := 1, bytes := bytes, bads := bads, needWrite := true, needSend := c.sends chunk 1 }

/-- A chunk with its local contribution read (R596, R597, R601). -/
def Coll.combine (c : Coll) (t : TxChunk) (src : List Byte) (bads : List Nat) : TxChunk :=
  let t := { t with
    needSrc := false, reading := false, bads := t.bads ++ bads.filter (fun b => !t.bads.contains b)
    bytes := if t.reduce then reduceBytes c.dtype c.redop t.bytes src else src }
  if c.reduces then
    if c.place t.chunk 0 + 1 = c.n then { t with phase := if c.op = 4 then 1 else 0, needWrite := true, needSend := c.op == 4 && c.sends t.chunk 1 }
    else { t with needSend := true }
  else { t with needWrite := true, needSend := c.sends t.chunk 1 }

/-- The packets of a chunk (R596, R601). -/
def State.chunkPkts (s : State) (k : Nat) (c : Coll) (t : TxChunk) : List Pkt :=
  (packetCuts t.bytes.length).map (fun e => { s.collPkt k c c.succ 0x10 (c.id + t.chunk % 2 ^ 32 * 2 ^ 16 + t.phase * 2 ^ 48) with
    land := e.1, data := slice t.bytes e.1 e.2, poison := t.bads.contains (e.1 / 2048), last := e.1 + e.2 == t.bytes.length })

/-- Every packet of a list accepted at the exit, or none. -/
def State.acceptAll? : List Pkt → State → List Pkt → Option (List Pkt × State)
  | [], s, done => some (done.reverse, s)
  | p :: ps, s, done => match s.exitAccept? p with | some (q, t) => State.acceptAll? ps t (q :: done) | none => none

/-! ### One action of a collective -/

/-- The first action that a collective can take now: a received chunk moves and is acknowledged, a chunk is originated, an
access starts, a chunk is sent, a buffer frees, or the collective is done (R598, R654). -/
def State.collStep? (s : State) (k slot : Nat) (c : Coll) : Option State :=
  if c.state != 2 || c.status.isSome then none
  else
    match c.rx.find? (fun r => (r.parts.map (fun e => e.2.1.length)).sum == c.chunkLen r.chunk) with
    | some r =>
      if 4 ≤ c.tx.length then none
      else
        let bytes := r.parts.flatMap (fun e => e.2.1)
        let bads := (r.parts.filter (fun e => e.2.2)).map (fun e => e.1 / 2048)
        let t := c.retain r.chunk r.phase bytes bads
        let s := s.modColl k slot (fun c => { c with rx := c.rx.erase r, tx := c.tx ++ [t], got := (r.chunk, r.phase) :: c.got })
        some (s.sendPkt (s.collPkt k c c.pred 0x11 (c.id + r.chunk % 2 ^ 32 * 2 ^ 16 + r.phase * 2 ^ 48)))
    | none =>
      match c.tx.find? (fun t => t.idle) with
      | some t => some (s.modColl k slot (fun c => { c with tx := c.tx.erase t }))
      | none =>
        match c.tx.find? (fun t => t.needWrite) with
        | some t =>
          (s.seqAccess? k slot c t.chunk 2 (c.dstAt t.chunk) t.bytes.length t.bytes t.bads).map (fun s =>
            s.modTx k slot t.chunk t.phase (fun t => { t with needWrite := false, writing := true }))
        | none =>
          match c.tx.find? (fun t => t.needSrc && !t.reading) with
          | some t =>
            (s.seqAccess? k slot c t.chunk 1 (c.srcAt t.chunk) (c.chunkLen t.chunk) [] []).map (fun s =>
              s.modTx k slot t.chunk t.phase (fun t => { t with reading := true }))
          | none =>
            match (if c.credits = 0 then none else c.tx.find? (fun t => t.needSend)) with
            | some t =>
              if s.noRoute (s.collPkt k c c.succ 0x10 0) then some (s.collAbort k slot 1)
              else (State.acceptAll? (s.chunkPkts k c t) s []).map (fun r =>
                (r.2.modColl k slot (fun c => { c with credits := c.credits - 1 })).modTx k slot t.chunk t.phase (fun t =>
                  { t with needSend := false, sent := true, pkts := r.1 }))
            | none =>
              if c.nextOrig < c.chunks then
                if !c.originates c.nextOrig then some (s.modColl k slot (fun c => { c with nextOrig := c.nextOrig + 1 }))
                else if 3 ≤ c.tx.length then none
                else some (s.modColl k slot (fun c => { c with
                  nextOrig := c.nextOrig + 1, tx := c.tx ++ [{ chunk := c.nextOrig, phase := if c.reduces then 0 else 1, needSrc := true }] }))
              else if c.lead = c.chunks then some (s.modColl k slot (fun c => { c with status := some 0 }))
              else none

/-- Actions of a collective until none is possible; f bounds them. -/
def State.collRun (k slot : Nat) : Nat → State → State
  | 0, s => s
  | f + 1, s =>
    match (s.coll? k slot).bind (s.collStep? k slot) with
    | none => s
    | some t => State.collRun k slot f t

/-- An access of a collective has ended. -/
def State.collEvent (s : State) (k : Nat) (e : SeqEvt) : State :=
  match s.coll? k e.slot with
  | none => s
  | some c =>
    if c.state = 3 || c.status.isSome then s
    else if e.failed then s.collAbort k e.slot 3
    else
      let s := if e.bads = [] then s else s.modColl k e.slot (fun c => { c with poisoned := true })
      match e.what with
      | 0 => s.modColl k e.slot (fun c => { c with state := 2, ringDevs := e.bytes.map BitVec.toNat })
      | 1 => s.modColl k e.slot (fun c => { c with tx := c.tx.map (fun t => if t.chunk = e.chunk && t.reading then c.combine t e.bytes e.bads else t) })
      | _ => (s.modColl k e.slot (fun c => c.mark e.chunk 2)).modColl k e.slot (fun c => { c with
          poisoned := c.poisoned || c.tx.any (fun t => t.chunk == e.chunk && t.writing && t.bads != [])
          tx := c.tx.map (fun t => if t.chunk = e.chunk && t.writing then { t with writing := false } else t) })

/-- Every collective of a sequencer acts on what has ended and goes on. -/
def State.seqRun (s : State) (k : Nat) : State :=
  let evts := (s.seq k).evts
  let s := evts.foldl (fun s e => s.collEvent k e) (s.modSeq k (fun q => { q with evts := [] }))
  let s := (s.seq k).colls.foldl (fun s e => State.collRun k e.1 (e.2.chunks + 64) s) s
  s.seqRegs k

/-- Requests and sequencers go on in turn until nothing more can happen; f bounds the rounds. -/
def State.settleF : Nat → State → State
  | 0, s => s
  | f + 1, s =>
    let t := s.seqs.foldl (fun s e => s.seqRun e.1) s.runAll
    if t.seqs.any (fun e => e.2.evts != []) || t.xlat.accs.any t.ready then State.settleF f t else t

/-- Every request and every collective goes on as far as it can. -/
def State.settleAll (s : State) : State :=
  if s.seqs = [] then s.runAll
  else State.settleF (8 + (s.seqs.map (fun e => (e.2.colls.map (fun c => 4 * c.2.chunks + 4)).sum)).sum) s

/-! ### Descriptors (R595, Table 14-11) -/

/-- A descriptor read. -/
def readDesc (b : List Byte) : Coll :=
  let w := leAt b 0 4
  let v := leAt b 4 4
  let u := leAt b 8 4
  let t := leAt b 0x30 4
  { op := bits w 0 4, dtype := bits w 4 2, redop := bits w 6 2, flow := bits w 8 4, ctx := bits w 12 8, accum := bit w 20
    id := bits v 0 16, n := bits v 16 9, rank := bits u 0 8, root := bits u 8 8, start := leAt b 0x0C 4
    src := leAt b 0x10 8, dst := leAt b 0x18 8, len := leAt b 0x20 8, ring := leAt b 0x28 8
    ntx := bits t 0 6, nty := bits t 8 5, nctr := bits t 16 6, nland := leAt b 0x34 4 }

/-- A descriptor breaks R10 or a rule of Table 14-11. -/
def State.descBad (s : State) (k part : Nat) (b : List Byte) : Bool :=
  let c := readDesc b
  let w := leAt b 0 4
  let copy := c.op == 1 || c.op == 3
  bits w 21 11 != 0 || bits (leAt b 4 4) 25 7 != 0 || bits (leAt b 8 4) 16 16 != 0 || leAt b 0x38 8 != 0 ||
    (leAt b 0x30 4 &&& 0x3F1F3F) != leAt b 0x30 4 ||
    c.op == 0 || 4 < c.op || c.dtype == 3 || c.redop == 3 || (copy && (c.dtype != 0 || c.redop != 0)) ||
    !bit (s.com.grant part).flows c.flow || c.n == 0 || 256 < c.n || c.n ≤ c.rank || (c.op == 1 && c.n ≤ c.root) ||
    c.len == 0 || c.len % 64 != 0 || (s.collSlot? k part c.id).isSome || (s.seqs.any (fun q => q.2.colls.any (fun e => e.2.part == part && e.2.id == c.id))) ||
    (s.seq k).barred.any (fun e => e.1 == part && e.2.1 == c.id)

/-- A descriptor takes a free slot and starts, or ends at once (R595, R600, R637, R660). -/
def State.collStart (s : State) (k : Nat) (p : Pkt) : State :=
  let q := s.seq k
  match (List.range 16).find? (fun j => (kfind? j q.colls).isNone) with
  | none => s
  | some slot =>
    let c := { readDesc p.data with part := p.part, inc := p.inc }
    let c := { c with lead := c.start, nextOrig := c.start, n := max c.n 1 }
    let add (s : State) (c : Coll) : State := s.modSeq k (fun q => { q with colls := kput slot c q.colls })
    if s.descBad k p.part p.data then
      (add s { c with status := some 2 }).raise { s.mkFault 0x0A 0x01 (some p.part) with tx := 61, ty := k, info0 := c.id }
    else
      match q.early.find? (fun e => e.1 == p.part && e.2.1 == c.id) with
      | some e => add s { c with status := some 1, cause := 0, state := 3, commit := min c.start e.2.2.1, lead := min c.start e.2.2.1 }
      | none =>
        let s := add s c
        match s.seqAccess? k slot c 0 0 c.ring c.n [] [] with
        | some s => s
        | none => s.collAbort k slot 3

/-! ### The end record (R600, Table 14-13) -/

/-- The record's bytes. -/
def Coll.record (c : Coll) (status : Nat) (time : Nat) : List Byte :=
  leBytes 4 (c.id + status * 2 ^ 16 + b2n c.degraded * 2 ^ 18 + b2n c.poisoned * 2 ^ 19 + c.rank * 2 ^ 20) ++
    leBytes 4 (if status = 1 then c.commit else c.lead) ++ leBytes 8 time

/-- The lowest MTAG that no message of a node has. -/
def NodeMsg.freeTag (m : NodeMsg) : Nat := ((List.range (m.sends.length + 1)).find? (fun t => !m.sends.any (fun e => e.mtag == t))).getD 0

/-- The end record goes to its node: counters, the ABORTED record, and the reservation of the message. -/
def State.collNotify (s : State) (k slot : Nat) (c : Coll) (status : Nat) : State :=
  let n := nodeKey 61 k
  let s := match status with
    | 0 => (s.bump .SEQ_PSTAT_DONE c.part)
    | 1 => (s.bump .SEQ_PSTAT_ABORTED c.part).bump .SEQ_STAT_ABORTS k
    | _ => s
  let s := if c.degraded then s.bump .SEQ_PSTAT_DEGRADED c.part else s
  let s := if status = 1 && c.cause != 0 then
      s.raise { s.mkFault 0x0A 0x03 (some c.part) with tx := 61, ty := k, info0 := c.id + c.cause * 2 ^ 16, info1 := c.commit }
    else s
  let e : SendEnt :=
    { mtag := (s.msgOf n).freeTag, dd := s.self, dtx := c.ntx, dty := c.nty, flow := c.flow, ctr := c.nctr, addr := c.nland, len := 16
      part := c.part, inc := c.inc, bytes := c.record status s.cadenceTime }
  let s := s.modMsg n (fun m => { m with sends := m.sends ++ [e] })
  (s.modColl k slot (fun c => { c with mtag := some e.mtag })).sendPkt (s.sendHead n e)

/-- Reservations that waited for a slot of a sequencer are granted in order (R595, R609). -/
def State.seqExamine (s : State) (k : Nat) : State :=
  let n := nodeKey 61 k
  (s.msgOf n).pendRsv.foldl (fun s p =>
    if s.seqGrants n p then (s.modMsg n (fun m => { m with pendRsv := m.pendRsv.erase p })).grant n p 0 0 else s) s

end Sys2Proof.Machine
end

