-- ==== Sys2Proof/Machine/XlatRows.lean ====
section
/-! DEFINITION. The commands of translation: stream requests at a gateway, XLAT_CTX_SET and XLAT_INV, ATS and PRI answers,
invalidations (ch. 8). -/
namespace Sys2Proof.Machine

/-! ### Stream requests (R318 to R322) -/

/-- The stream engine of a gateway node (Table 8-1). -/
def engineOf (n : Nat) : Nat := 4 * (nodeX n - 48) + nodeY n / 8

/-- A node is a gateway. -/
def isGateway (n : Nat) : Bool := 48 ≤ nodeX n && nodeX n ≤ 57 && nodeY n < 32

/-- The access that a GET_REQ or PUT_REQ asks for. -/
def streamAcc (p : Pkt) (who : AccWho) (kind : Nat) : Acc :=
  { who := who, eng := engineOf p.node, src := p.src, part := p.part % 64, ctx := leAt p.data 12 1, kind := kind
    addr := leAt p.data 0 8, len := leAt p.data 8 4 }

/-- A stream request at its gateway: accepted, or answered RETRY (R320, R321, R322). One from the fabric is refused (R44). -/
def State.streamReq (s : State) (p : Pkt) (op : Nat) (who : AccWho) (kind : Nat) : State :=
  if !isGateway p.node || p.data.length != 16 then s
  else if p.sd != s.self then (if p.dd = s.self && p.opcode = op then s.refuse 0x01 p else s)
  else s.arrive p op (fun s =>
    let a := streamAcc p who kind
    if s.hasRoom a then (s.accept a).settleAll else s.sendPkt (s.reply p 0x04 p.mtag))

def execGetReq (p : Pkt) (ecc : List EccEvent) (s : State) : Host.Outcome State Fault Refusal :=
  .next ((s.eccRead ecc).streamReq p 0x07 (.get p) 0)

def execPutReq (p : Pkt) (s : State) : Host.Outcome State Fault Refusal := .next (s.streamReq p 0x09 (.put p) 1)

/-- PUT_DATA: a packet of the piece whose GO was sent enters the gateway buffer; the whole piece is then written (R322). -/
def State.putData (s : State) (p : Pkt) : State :=
  match s.xlat.accs.find? (fun a => match a.who with | .put q => q.src == p.src && q.mtag == p.mtag && q.part == p.part | _ => false) with
  | none => s
  | some a =>
    match a.wait with
    | .data n =>
      if n = 0 || p.land < a.pos || a.pieceEnd < p.land + p.data.length then s
      else
        let got := kput p.land (p.data, p.poison) a.got
        let full := (got.map (fun e => e.2.1.length)).sum == n
        let b := { a with
          got := if full then [] else got, bads := if p.poison then (p.land / 2048) :: a.bads else a.bads
          buf := if full then got.flatMap (fun e => e.2.1) else a.buf, wait := if full then .run else a.wait }
        (s.modAcc a.id (fun _ => b)).settleAll
    | _ => s

def execPutData (p : Pkt) (ecc : List EccEvent) (s : State) : Host.Outcome State Fault Refusal :=
  .next (if isGateway p.node then (s.eccRead ecc).arrive p 0x0B (fun s => s.putData p) else s)

/-! ### XLAT_CTX_SET (R327, R328, Table 8-3) -/

/-- The OP field of XLAT_CTX_SET. -/
def ActiveCmd.xop (c : ActiveCmd) : Nat := bits (c.arg 0x08 4) 12 2
def ActiveCmd.xctx (c : ActiveCmd) : Nat := bits (c.arg 0x08 4) 0 8
def ActiveCmd.xseg (c : ActiveCmd) : Nat := bits (c.arg 0x08 4) 8 3

/-- An XLAT_CTX_SET of one OP: RANGE for its context or segment number, then f, then the micro-TLB entries go (R327). -/
def State.ctxSet (s : State) (p n op : Nat) (seg0 : Bool) (f : ActiveCmd → State → Except Nat State) : State :=
  match s.cmd? p n with
  | none => s
  | some c =>
    if c.xop != op then s
    else s.start p n 0x10 (fun c s =>
      if 16 ≤ c.xctx || (seg0 && c.xseg != 0) then s.finish p n 0x0A 0
      else
        match f c s with
        | .error st => s.finish p n st 0
        | .ok s => (s.microDrop p [c.xctx]).finish p n 0 0)

/-- SET_CFG: the context's fields, with VALID 1. -/
def State.setCfg (p : Nat) (c : ActiveCmd) (s : State) : Except Nat State :=
  let w := c.arg 0x0C 4
  let i := ctxIx p c.xctx
  if 9 < bits w 23 4 then .error 0x0A
  else .ok ((((((s.put .XLAT_CTX_CFG_PASID i (bits w 0 20)).put .XLAT_CTX_CFG_PASID_VALID i (bits w 20 1)).put .XLAT_CTX_CFG_MISS_MODE i
    (bits w 21 1)).put .XLAT_CTX_CFG_PRI_EN i (bits w 22 1)).put .XLAT_CTX_CFG_PF_LOG2 i (bits w 23 4)).put .XLAT_CTX_CFG_VALID i 1)

def execSetCfg (p n : Nat) (s : State) : Host.Outcome State Fault Refusal := .next (s.ctxSet (p % 64) n 0 true (State.setCfg (p % 64)))

/-- The window rule of R327 for an HDM (1) or FAR (2) output span. -/
def State.segWindow (s : State) (p target out len : Nat) : Bool :=
  target == 0 || (s.com.base.isSome && s.com.img.windows.any (fun w =>
    w.base ≤ out && out + len ≤ w.base + w.size && (if target = 1 then w.base < hbmEnd else farBase ≤ w.base) &&
      (if w.provider then s.pfBound p else w.owner == p)))

/-- SET_SEG. -/
def State.setSeg (p : Nat) (c : ActiveCmd) (s : State) : Except Nat State :=
  let base := c.arg 0x10 8
  let lim := c.arg 0x18 8
  let out := c.arg 0x20 8
  let w := c.arg 0x28 4
  let i := segIx p c.xctx c.xseg
  let clash (g : Nat) : Bool :=
    let j := segIx p c.xctx g
    g != c.xseg && s.flag .XLAT_SEG_ATTR_VALID j && s.get .XLAT_SEG_IN_IN_BASE j ≤ lim && base ≤ s.get .XLAT_SEG_LIM_IN_LIMIT j
  if base % 4096 != 0 || lim % 4096 != 4095 || out % 4096 != 0 || lim < base || (List.range 8).any clash
    || 2 ^ 64 - 1 < out + (lim - base) || (bit w 3 && !bit w 2) || (bit w 4 && !(bit w 2 && bit w 3)) then .error 0x0A
  else if !s.segWindow p (bits w 0 2) out (lim - base + 1) then .error 6
  else .ok (((((((((s.put .XLAT_SEG_IN_IN_BASE i base).put .XLAT_SEG_LIM_IN_LIMIT i lim).put .XLAT_SEG_OUT_OUT_BASE i out).put
    .XLAT_SEG_ATTR_TARGET i (bits w 0 2)).put .XLAT_SEG_ATTR_R i (bits w 2 1)).put .XLAT_SEG_ATTR_W i (bits w 3 1)).put
    .XLAT_SEG_ATTR_A i (bits w 4 1)).put .XLAT_SEG_ATTR_VALID i 1).put .XLAT_SEG_ATTR_STALE i 0)

def execSetSeg (p n : Nat) (s : State) : Host.Outcome State Fault Refusal := .next (s.ctxSet (p % 64) n 1 false (State.setSeg (p % 64)))

/-- A segment's registers at 0. -/
def State.clearSeg (s : State) (i : Nat) : State :=
  [Fld.XLAT_SEG_IN_IN_BASE, .XLAT_SEG_LIM_IN_LIMIT, .XLAT_SEG_OUT_OUT_BASE, .XLAT_SEG_ATTR_TARGET, .XLAT_SEG_ATTR_R, .XLAT_SEG_ATTR_W,
    .XLAT_SEG_ATTR_A, .XLAT_SEG_ATTR_VALID, .XLAT_SEG_ATTR_STALE].foldl (fun s f => s.put f i 0) s

def execClearSeg (p n : Nat) (s : State) : Host.Outcome State Fault Refusal :=
  .next (s.ctxSet (p % 64) n 2 false (fun c s => .ok (s.clearSeg (segIx (p % 64) c.xctx c.xseg))))

/-- CLEAR_CTX: VALID 0 and every segment cleared. -/
def State.clearCtx (s : State) (p c : Nat) : State :=
  (List.range 8).foldl (fun s g => s.clearSeg (segIx p c g)) (s.put .XLAT_CTX_CFG_VALID (ctxIx p c) 0)

def execClearCtx (p n : Nat) (s : State) : Host.Outcome State Fault Refusal :=
  .next (s.ctxSet (p % 64) n 3 true (fun c s => .ok (s.clearCtx (p % 64) c.xctx)))

/-- The window rule checked again at a base commit (R328). -/
def State.segRecheck (s : State) : State :=
  (List.range 64).foldl (fun s p => (List.range 128).foldl (fun s j =>
    let i := 128 * p + j
    let t := s.get .XLAT_SEG_ATTR_TARGET i
    if s.flag .XLAT_SEG_ATTR_VALID i && t != 0 &&
        !s.segWindow p t (s.get .XLAT_SEG_OUT_OUT_BASE i) (s.get .XLAT_SEG_LIM_IN_LIMIT i - s.get .XLAT_SEG_IN_IN_BASE i + 1)
    then s.put .XLAT_SEG_ATTR_STALE i 1 else s) s) s

/-! ### XLAT_INV (R352, R353) -/

/-- A fault that a request still has on its way to a ring is withdrawn. -/
def State.withdraw (s : State) (a : Acc) : State :=
  let mine (f : FaultRec) : Bool := f.park == some (a.eng, a.id)
  let t : State := { s with
    faultQ := s.faultQ.filter (fun f => !mine f),
    rings := s.rings.map (fun (e : Nat × Ring) => (e.1, { e.2 with parked := e.2.parked.filter (fun f => !mine f) })) }
  t.parkSettle

/-- A request that waits on a page request or in a parked stream. -/
def State.pageWaits (s : State) (a : Acc) : Bool :=
  (match a.wait with | .prg _ => true | .parked _ => true | _ => false) || (s.stream a).parked

/-- XLAT_INV starts: its contexts, the requests it waits for. -/
def State.xlatInv (p n : Nat) (c : ActiveCmd) (s : State) : State :=
  let w := c.arg 0x08 4
  if 16 ≤ bits w 0 8 then s.finish p n 0x0A 0
  else
    let ctxs := if bit w 8 then List.range 16 else [bits w 0 8]
    let s := (s.microDrop p ctxs).modCmd p n (fun c => { c with phase := .running })
    let mine := s.xlat.accs.filter (fun a => a.part == p && ctxs.contains a.ctx)
    let failing := if bit w 9 then mine.filter (fun a => s.pageWaits a && !a.touched) else []
    let s := failing.foldl (fun s a => (s.withdraw a).xlatFail a 0x0D) s
    let uses := (mine.filter (fun a => !failing.any (fun b => b.id == a.id))).map (·.id)
    (s.modXlat (fun x => { x with invs := x.invs ++ [{ part := p, num := n, ctxs := ctxs, token := c.arg 0x0C 4, uses := uses }] })).settleAll

def execXlatInv (p n : Nat) (s : State) : Host.Outcome State Fault Refusal := .next (s.start (p % 64) n 0x11 (State.xlatInv (p % 64) n))

/-! ### ATS completions (R331, R336, R340, R354) -/

/-- The translations of a completion laid over the request's pages: (page, translation). -/
def pagesOf (stop : Nat) : Nat → List AtsTrans → List (Nat × AtsTrans)
  | _, [] => []
  | at_, t :: ts =>
    let span := 2 ^ (max t.size 12)
    let next := (at_ / span + 1) * span
    ((rangeFrom 0 ((min next stop - at_) / 4096)).map (fun i => (at_ + 4096 * i, t))) ++ (if stop ≤ next then [] else pagesOf stop next ts)

/-- The right a request kind needs is granted by a translation. -/
def atsAllows (t : AtsTrans) (kind : Nat) : Bool := (t.r || t.w) && (kind == 1 || t.r) && (kind == 0 || t.w)

/-- Pages that a prefetch found absent join its stream's list, newest first, at most 32 (R336, R359). -/
def State.noteAbsent (s : State) (r : AtsReq) (pages : List Nat) : State :=
  match r.pre with
  | none => s
  | some (e, x, c, dist) =>
    let a : Acc := { eng := e, src := x, part := r.part, ctx := c }
    pages.foldl (fun s q =>
      let v := (q + 2 ^ 64 - dist) % 2 ^ 64
      s.modStream a (fun t => { t with absent := (v :: t.absent.filter (· != v)).take 32 })) s

/-- A request that waited for a completion goes on, faults, or asks again (R340, R342). -/
def State.atsWoken (s : State) (a : Acc) (got : List (Nat × AtsTrans)) : State :=
  let iova := (a.out + a.pos) % 2 ^ 64
  let look (v : Nat) : Option AtsTrans := (got.find? (fun e => e.1 == v / 4096 * 4096)).map (·.2)
  match look iova with
  | none => s.waitAcc a.id .run
  | some t => if atsAllows t a.kind then s.waitAcc a.id .run else s.pageFault a iova

/-- A Translation Completion: status 0 with its translations in page order, or UR, CA or a timeout. -/
def State.atsDone (s : State) (id status : Nat) (trs : List AtsTrans) : State :=
  match s.xlat.ats.find? (fun r => r.id == id) with
  | none => s
  | some r =>
    let waiting := s.xlat.accs.filter (fun a => a.wait == .ats id)
    let gone := s.modXlat (fun x => { x with ats := x.ats.filter (fun q => q.id != id) })
    if status != 0 then
      (waiting.foldl (fun s a => (s.hostErr (some a.part)).xlatFail a 0x0C) gone).settleAll
    else if r.marked then
      let s := s.modXlat (fun x => { x with ats := x.ats.map (fun q => if q.id = id then { q with marked := false } else q) })
      s.atsSend r (match waiting with | a :: _ => s.pasidOf a.part a.ctx | [] => if (s.fn 0).pasidEn then r.pasid else none)
    else
      let got := pagesOf (r.iova + r.size) r.iova trs
      let s := got.foldl (fun s e => s.l2Fill r.part r.pasid e.1 e.2) gone
      let s := s.noteAbsent r ((got.filter (fun e => !e.2.r && !e.2.w)).map (·.1))
      (waiting.foldl (fun s a => s.atsWoken a got) s).settleAll

/-- ATS_COMPLETION: an answer to a Translation Request, by its tag; one that matches no request is a violation. -/
def execAtsCompletion (tag status : Nat) (trs : List AtsTrans) (hdr : List Byte) (s : State) : Host.Outcome State Fault Refusal :=
  .next <|
    match s.host.reqs.find? (fun r => r.tag == tag && r.ats.isSome) with
    | none => s.strayCpl tag hdr
    | some r =>
      let s := s.delReq tag
      match r.who with
      | .ats id => (s.atsDone id status trs).pumpHost
      | .flr => s.pumpHost
      | _ => (s.bump .HL_CTO_LATE).pumpHost

/-- ABSENT_LIST_EXPIRE: a page has been on the absent list of the stream at place k for 100 us (R336). -/
def execAbsentListExpire (k page : Nat) (s : State) : Host.Outcome State Fault Refusal :=
  .next (s.modXlat (fun x => { x with streams := x.streams.zipIdx.map (fun e =>
    if e.2 = k then { e.1 with absent := e.1.absent.filter (· != page) } else e.1) }))

/-! ### Page-request groups (R343 to R346, R358) -/

/-- The group by its number; the state with it changed. -/
def State.prg? (s : State) (id : Nat) : Option PrgRec := s.xlat.prgs.find? (fun g => g.id == id)
def State.modPrg (s : State) (id : Nat) (f : PrgRec → PrgRec) : State :=
  s.modXlat (fun x => { x with prgs := x.prgs.map (fun g => if g.id = id then f g else g) })

/-- PRG_CLOSE: 256 ns have passed since the group opened (R343). -/
def execPrgClose (id : Nat) (s : State) : Host.Outcome State Fault Refusal :=
  .next (s.modPrg id (fun g => if g.state = 0 then { g with state := 1 } else g))

/-- PRG_SEND: a closed group goes out once the allocation permits (R343, R344). -/
def State.prgSend (s : State) (id : Nat) : State :=
  match s.prg? id with
  | none => s
  | some g =>
    let out := ((s.xlat.prgs.filter (fun h => 2 ≤ h.state)).map (fun h => h.pages.length)).sum
    if g.state != 1 || min 512 (s.fn 0).priAlloc < out + g.pages.length || !s.canSend g.fn then s
    else
      let n := g.pages.length
      let s := g.pages.foldl (fun s _ => s.bump .XLAT_PPRI_PAGE_REQS g.part) s
      let s := g.pages.zipIdx.foldl (fun s e => s.emit (.pageReq g.fn e.1.1 g.idx e.1.2 (e.2 + 1 == n) g.pasid)) s
      (s.modPrg id (fun g => { g with state := 2 })).prgCount g.part g.ctx

def execPrgSend (id : Nat) (s : State) : Host.Outcome State Fault Refusal := .next (s.prgSend id)

/-- Every request that waits on a group. -/
def State.prgWaiters (s : State) (id : Nat) : List Acc := s.xlat.accs.filter (fun a => a.wait == .prg id)

/-- A group is forgotten: its units and its index are free. -/
def State.prgDrop (s : State) (g : PrgRec) : State :=
  (s.modXlat (fun x => { x with prgs := x.prgs.filter (fun h => h.id != g.id) })).prgCount g.part g.ctx

/-- PRG_RESPONSE: code 0 Success, 1 Invalid Request, others Response Failure (R345). -/
def State.prgResponse (s : State) (fn idx : Nat) (pasid : Option Nat) (code : Nat) (hdr : List Byte) : State :=
  match s.xlat.prgs.find? (fun g => g.fn == fn && g.idx == idx && g.pasid == pasid && 2 ≤ g.state) with
  | none => (s.bump .XLAT_GSTAT_BAD_PRG).violation 0x0A fn hdr
  | some g =>
    let waiting := s.prgWaiters g.id
    let s := s.prgDrop g
    let s := match code with
      | 0 => waiting.foldl (fun (s : State) (a : Acc) => s.modAcc a.id (fun a => { a with
          wait := .run, retried := ((a.out + a.pos) % 2 ^ 64 / 4096 * 4096) :: a.retried })) s
      | 1 => waiting.foldl (fun s a => s.xlatFail a 0x09) s
      | _ => waiting.foldl (fun s a => s.xlatFail a 0x0A) (s.put .XLAT_GSTAT_PRI_STOPPED 0 1)
    s.settleAll

def execPrgResponse (fn idx : Nat) (pasid : Option Nat) (code : Nat) (hdr : List Byte) (s : State) : Host.Outcome State Fault Refusal :=
  .next (s.prgResponse fn idx pasid code hdr)

/-- PRI_TIMEOUT: no response within PRI_TIMEOUT_MS of the group's last message; the group stays held (R346). -/
def execPriTimeout (id : Nat) (s : State) : Host.Outcome State Fault Refusal :=
  .next <|
    match s.prg? id with
    | some g =>
      if g.state != 2 then s
      else ((s.prgWaiters id).foldl (fun s a => s.xlatFail a 0x0B) (s.modPrg id (fun g => { g with state := 3 }))).settleAll
    | none => s

/-- The groups of a function are forgotten, and PRI is no longer stopped (R345, R358); requests that waited look again. -/
def State.priReset (s : State) (fn : Nat) : State :=
  let gs := s.xlat.prgs.filter (fun g => fn == 0 || g.fn == fn)
  let s := gs.foldl (fun s g => ((s.prgWaiters g.id).foldl (fun s a => s.waitAcc a.id .run) s).prgDrop g) s
  if fn = 0 then s.put .XLAT_GSTAT_PRI_STOPPED 0 0 else s

def execPriReset (fn : Nat) (s : State) : Host.Outcome State Fault Refusal := .next (s.priReset fn).settleAll

/-! ### Invalidations (R350, R351, R354, R361) -/

/-- An invalidation covers translations with a tag (R350). -/
def InvReq.tags (r : InvReq) (tag : Option Nat) (g : Bool) : Bool := tag == r.pasid || (r.glob && g)

/-- An ATS Invalidate Request is served: entries leave, requests in flight are marked, uses are noted. -/
def State.invServe (s : State) (r : InvReq) : State :=
  let mine (p : Nat) : Bool := s.fnOf? p == some r.fn
  let hit (e : L2Ent) : Bool := mine e.part && r.tags e.pasid e.g && e.meets r.base r.size
  let uses := (s.xlat.accs.filter (fun a => a.target == 0 && !a.untrans && mine a.part && a.page.isSome &&
    (r.tags (s.tagOf a.part a.ctx) false || (r.glob && s.xlat.l2.any (fun e => e.g && e.covers a.part (s.tagOf a.part a.ctx) ((a.out + a.pos) % 2 ^ 64)))) &&
    spansMeet ((a.out + a.pos) % 2 ^ 64 / 4096 * 4096) 4096 r.base r.size)).map (fun a => (a.id, a.pos))
  let s := s.tlbDrop hit
  s.modXlat (fun x => { x with
    ats := x.ats.map (fun q => if q.fn = r.fn && spansMeet q.iova q.size r.base r.size then { q with marked := true } else q)
    hinv := x.hinv ++ [{ r with uses := uses }] })

/-- ATS_INVALIDATE: at most 32 are served at once; others wait in order (R350, Table 12-4). -/
def execAtsInvalidate (fn itag iova size : Nat) (pasid : Option Nat) (glob : Bool) (hdr : List Byte) (s : State) :
    Host.Outcome State Fault Refusal :=
  .next <|
    let r : InvReq := { fn := fn, itag := itag, base := iova, size := size, pasid := pasid, glob := glob }
    let s := s.bump .XLAT_HINV_HOST_INVS
    if s.xlat.hinv.length < 32 then s.invServe r
    else (s.modXlat (fun x => { x with hinvWait := x.hinvWait ++ [r] })).violation 0x09 fn hdr

/-- INVALIDATE_COMPLETION: the uses of the invalidation at place k have ended (R350, R351). -/
def State.invComplete (s : State) (k : Nat) : State :=
  match s.xlat.hinv[k]? with
  | none => s
  | some r =>
    let live (u : Nat × Nat) : Bool := match s.acc? u.1 with | some a => a.pos == u.2 && a.page.isSome | none => false
    if r.uses.any live || !s.canSend r.fn then s
    else
      let s := (s.modXlat (fun x => { x with hinv := x.hinv.eraseIdx k })).emit (.invCpl r.fn r.itag)
      match s.xlat.hinvWait with
      | [] => s
      | q :: qs => (s.modXlat (fun x => { x with hinvWait := qs })).invServe q

def execInvalidateCompletion (k : Nat) (s : State) : Host.Outcome State Fault Refusal := .next (s.invComplete k)

/-- ATS_ENABLE_CLEAR: the function's translations leave (R361). -/
def State.atsOff (s : State) (fn : Nat) : State :=
  (s.modFn fn (fun c => { c with atsEn := false })).tlbDrop (fun e => s.fnOf? e.part == some fn)

def execAtsEnableClear (fn : Nat) (s : State) : Host.Outcome State Fault Refusal := .next (s.atsOff fn)

end Sys2Proof.Machine
end

