-- ==== Sys2Proof/Machine/CacheRows.lean ====
section
/-! DEFINITION. The commands of the coherent cache, the host-copy directory and the HDM decoders (ch. 9, R469, R470,
R475 to R478). -/
namespace Sys2Proof.Machine

/-! ### Scopes and flushes (R380 to R386, R401) -/

/-- A scope covers a partition: none is the device. -/
def inScope (scope : Option Nat) (p : Nat) : Bool := scope.isNone || scope == some p

/-- The state of a scope: 0 ENABLED, 1 RETAINING, 2 DISABLED. -/
def State.scopeState (s : State) (scope : Option Nat) : Nat :=
  match scope with | none => s.get .CCH_DEV_STATE | some p => s.get .CCH_PSTATE_STATE p

/-- The state with a scope's state set; STALE_RISK follows (R384). -/
def State.setScope (s : State) (scope : Option Nat) (st : Nat) : State :=
  (match scope with | none => s.put .CCH_DEV_STATE 0 st | some p => s.put .CCH_PSTATE_STATE p st).staleSettle

/-- A scope's STALE_RISK. -/
def State.staleRisk (s : State) (scope : Option Nat) : Bool :=
  match scope with | none => s.flag .CCH_DEV_STALE_RISK | some p => s.flag .CCH_PSTATE_STALE_RISK p

/-- A scope's BUSY bit. -/
def State.setBusy (s : State) (scope : Option Nat) (on : Bool) : State :=
  match scope with | none => s.put .CCH_DEV_BUSY 0 (b2n on) | some p => s.put .CCH_PSTATE_BUSY p (b2n on)

/-- A flush of a scope runs. -/
def State.flushing (s : State) (scope : Option Nat) : Bool := s.cch.flushes.any (fun f => f.scope == scope)

/-- A scope has lines, eviction buffer entries or fills that will install lines. -/
def State.scopeHolds (s : State) (scope : Option Nat) : Bool :=
  s.cch.lines.any (fun c => inScope scope c.owner) || s.cch.evb.any (fun e => inScope scope e.part) ||
    s.cch.d2h.any (fun d => d.alloc && inScope scope d.part)

/-- The lines of a scope leave: clean ones at once, dirty ones as the eviction buffer has room; how many dirty ones left. -/
def State.flushLines (s : State) (scope : Option Nat) : Nat × State :=
  (s.cch.lines.filter (fun c => inScope scope c.owner)).foldl (fun (r : Nat × State) (c : CLine) =>
    if c.st != 3 then (r.1, r.2.delLine c.line)
    else if 64 ≤ r.2.cch.evb.length then r
    else (r.1 + 1, (r.2.delLine c.line).dirtyEvict c.line c.owner c.data c.poison)) (0, s)

/-- A flush has ended: its command completes, Cache Invalid sets, or EMBER freezes (R382, R469, R470). -/
def State.flushEnd (s : State) (f : CacheFlush) : State :=
  let s := s.setBusy f.scope false
  match f.who with
  | .cmd p n => s.finish p n 0 f.count
  | .host => s.modFn 0 (fun c => { c with cacheInvalid := true })
  | .gpf => (s.modFn 0 (fun c => { c with cacheInvalid := true })).emberTrigger 8
  | .reset | .power => s

/-- The flushes in progress go on; one whose scope holds nothing any more ends. -/
def State.flushPump (s : State) : State :=
  (s.cch.flushes.foldl (fun s f =>
    let r := s.flushLines f.scope
    let g := { f with count := f.count + r.1 }
    if r.2.scopeHolds f.scope then r.2.modCch (fun c => { c with flushes := c.flushes ++ [g] }) else r.2.flushEnd g)
    (s.modCch (fun c => { c with flushes := [] }))).staleSettle

/-- A flush starts. -/
def State.flushStart (s : State) (scope : Option Nat) (who : FlushWho) : State :=
  ((s.setBusy scope true).modCch (fun c => { c with flushes := c.flushes ++ [{ scope := scope, who := who }] })).flushPump

/-- The lines of a scope go without write-back; how many. -/
def State.discardLines (s : State) (scope : Option Nat) : Nat × State :=
  let n := (s.cch.lines.filter (fun c => inScope scope c.owner)).length
  (n, (s.modCch (fun c => { c with lines := c.lines.filter (fun d => !inScope scope d.owner) })))

/-- The events of Table 9-4. -/
inductive CacheOp where
  | retain | flush | enable
deriving DecidableEq, Repr

/-- What an event of Table 9-4 gives at once: SUCCESS with a count, a refusal, or a flush that runs. -/
inductive CacheAns where
  | done (n : Nat) | refused | runs
deriving DecidableEq, Repr

/-- An event of Table 9-4 at a scope (R382, R384, R405). -/
def State.cacheCtl (s : State) (scope : Option Nat) (op : CacheOp) (force discard : Bool) (who : FlushWho) : CacheAns × State :=
  let kept := s.retained scope
  match op, s.scopeState scope with
  | .retain, 0 => (.done 0, s.setScope scope 1)
  | .flush, 0 => (.runs, (s.setScope scope 2).flushStart scope who)
  | .flush, 1 =>
    if discard then
      let r := s.discardLines scope
      (.done r.1, r.2.setScope scope 2)
    else if s.staleRisk scope && !force then (.refused, s)
    else (.runs, (s.setScope scope 2).flushStart scope who)
  | .enable, 1 =>
    if discard then
      let r := s.discardLines scope
      (.done r.1, r.2.setScope scope 0)
    else if !s.staleRisk scope then (.done 0, s.setScope scope 0)
    else if force then (.done 0, (s.setScope scope 0).cacheFault 0x02 scope none kept)
    else (.refused, s)
  | .enable, 2 => (.done 0, s.setScope scope 0)
  | _, _ => (.done 0, s)

/-- The effect of a cache command that starts (R381, R382, R484). -/
def State.cacheRun (p n : Nat) (op : CacheOp) (scope : Option Nat) (c : ActiveCmd) (s : State) : State :=
  if scope.isNone && !s.pfBound p then s.finish p n 6 0
  else if scope.isNone && op == .enable && (s.fn 0).disCaching then s.finish p n 3 0
  else
    let s := s.modCmd p n (fun c => { c with phase := .running })
    let r := s.cacheCtl scope op (bit (c.arg 0x08 4) 1) (bit (c.arg 0x08 4) 2) (.cmd p n)
    match r.1 with
    | .done k => r.2.finish p n 0 k
    | .refused => (r.2.finish p n 3 0).cacheFault 0x01 (some p) none 0
    | .runs => r.2

/-- A cache command (R380): it waits while its scope's flush runs. -/
def State.cacheCmd (s : State) (p n opcode : Nat) (op : CacheOp) : State :=
  match s.cmd? p n with
  | none => s
  | some c =>
    let scope := if bit (c.arg 0x08 4) 0 then none else some p
    if s.flushing scope then s else (s.start p n opcode (State.cacheRun p n op scope)).settleAll

def execCacheDisableFlush (p n : Nat) (s : State) : Host.Outcome State Fault Refusal := .next (s.cacheCmd (p % 64) n 0x20 .flush)

def execCacheDisableRetain (p n : Nat) (s : State) : Host.Outcome State Fault Refusal := .next (s.cacheCmd (p % 64) n 0x21 .retain)

def execCacheEnable (p n : Nat) (s : State) : Host.Outcome State Fault Refusal := .next (s.cacheCmd (p % 64) n 0x22 .enable)

/-- A reset writes back and invalidates a scope's lines and enables the scope (R401). -/
def State.resetScope (s : State) (scope : Option Nat) : State :=
  let s := if s.staleRisk scope then s.cacheFault 0x02 scope none (s.retained scope) else s
  (s.setScope scope 0).flushStart scope .reset

/-! ### The host's controls (R469, R470) -/

/-- One control of the host: 1 Disable Caching set, 2 write back and invalidate, 3 Disable Caching cleared, 4 GPF. -/
def State.hostOp (s : State) (op : Nat) : State :=
  match op with
  | 1 => (s.cacheCtl none .retain false false .host).2
  | 2 => if !(s.fn 0).disCaching then s else
      let r := s.cacheCtl none .flush true false .host
      if r.1 = .runs then r.2 else r.2.modFn 0 (fun c => { c with cacheInvalid := true })
  | 3 => ((s.cacheCtl none .enable true false .host).2).modFn 0 (fun c => { c with cacheInvalid := false })
  | _ =>
      let r := s.cacheCtl none .flush true false .gpf
      if r.1 = .runs then r.2 else (r.2.modFn 0 (fun c => { c with cacheInvalid := true })).emberTrigger 8

/-- The host's controls that wait are taken in order while no flush of the device scope runs. -/
def State.hostOps : Nat → State → State
  | 0, s => s
  | f + 1, s =>
    match s.cch.hostOps with
    | [] => s
    | op :: rest =>
      if s.flushing none then s else State.hostOps f ((s.modCch (fun c => { c with hostOps := rest })).hostOp op)

/-! ### Host M2S requests (R389 to R392, R476, R478) -/

/-- The BISnpInv of a directory entry, with an entry of the BI pending buffer. -/
def State.biVictim (s : State) (line : Nat) : State :=
  if s.cch.bi.any (fun r => r.line == line) then
    s.modCch (fun c => { c with bi := c.bi.map (fun r => if r.line = line then { r with victim := true } else r) })
  else s.biSend { line := line, kind := 2, victim := true }

/-- The directory after a host request (Table 9-7, R391); none where it must wait for the BI pending buffer. -/
def State.dirUpdate (s : State) (line op m : Nat) : Option State :=
  if s.dirMode != 1 then some s
  else if op = 3 ∨ m = 0 then some (s.delDir line)
  else if m != 1 && m != 2 then some s
  else if (s.dirEnt? line).isSome then some (s.setDir line (m == 2))
  else
    let set := s.cch.dir.filter (fun e => dirSet e.line == dirSet line)
    match set.getLast? with
    | some v =>
      if set.length < 16 then some (s.setDir line (m == 2))
      else if 64 ≤ s.biPending then none
      else some ((((s.delDir v.line).bump .DIR_BI_EVICT_COUNT).biVictim v.line).setDir line (m == 2))
    | none => some (s.setDir line (m == 2))

/-- The bytes of a line with those of a partial write that its byte enables name. -/
def enabled (be : Nat) : Nat → List Byte → List Byte → List Byte
  | i, o :: old, n :: new => (if bit be i then n else o) :: enabled be (i + 1) old new
  | _, old, _ => old

/-- A request served in HBM: what it reads, writes and answers (R415, R421, R451). -/
def State.m2sServe (s : State) (r : M2S) : State :=
  let line := lineOf r.addr
  match r.op with
  | 0 => s.emit (.s2m r.tag (some (s.plainRead line 64)) (s.poisoned line))
  | 3 => s.emit (.s2m r.tag none false)
  | _ =>
    let full := r.op = 1 ∨ r.be % 2 ^ 64 = 2 ^ 64 - 1
    let new := slice r.data 0 64
    let s :=
      if r.poison then (s.setPoison line true).capture line (s.plainRead line 64) true
      else if full then s.writeLine line 0 new false
      else if s.poisoned line then s
      else s.writeLine line 0 (enabled r.be 0 (s.plainRead line 64) new) false
    s.emit (.s2m r.tag none false)

/-- A request is taken if nothing holds it (R391, R394, R399, R63): its directory entry, then its service. -/
def State.m2sTry (s : State) (r : M2S) : State :=
  let line := lineOf r.addr
  let hold (s : State) : State := s.modCch (fun c => { c with m2s := c.m2s ++ [r] })
  if s.cch.m2s.any (fun q => lineOf q.addr == line) || s.cch.bi.any (fun b => b.line == line) then hold s
  else if s.domState (memDom line) != 3 then hold (s.wake (memDom line))
  else
    match s.dirUpdate line r.op r.meta_ with
    | none => hold s
    | some s => s.m2sServe r

/-- The requests that wait are taken in order. -/
def State.m2sPump (s : State) : State := s.cch.m2s.foldl State.m2sTry (s.modCch (fun c => { c with m2s := [] }))

/-- A line lies in the DPA span of decoder i. -/
def State.inDecoder (s : State) (i : Nat) (d : Decoder) (line : Nat) : Bool :=
  s.dpaBase i ≤ line && line < s.dpaBase i + d.dpaSize

/-- A line's entry is to be drained (R395, R478): the whole directory drains, or its decoder does and no accepted
request of the decoder's range waits. -/
def State.toDrain (s : State) (line : Nat) : Bool :=
  s.cch.drain || s.host.decoders.any (fun e => e.2.draining && s.inDecoder e.1 e.2 line && !s.cch.m2s.any (fun r => s.inDecoder e.1 e.2 r.addr))

/-- The drains send BISnpInv as the BI pending buffer allows (R395). -/
def State.drainPump (s : State) : State :=
  s.cch.dir.foldl (fun s e =>
    if s.toDrain e.line && !s.cch.bi.any (fun r => r.line == e.line) && s.biPending < 64 then s.biVictim e.line else s) s

/-- DirtyEvict requests that QUARANTINE held go out (R504, R505). -/
def State.evictPump (s : State) : State :=
  if !s.cacheLink then s
  else (s.cch.evb.filter (·.due)).foldl (fun s e => s.sendEvict e.line e.part)
    (s.modCch (fun c => { c with evb := c.evb.map (fun e => { e with due := false }) }))

/-- Everything that waits on the cache, the directory or the requests goes on. -/
def State.cchPump (s : State) : State :=
  (((State.hostOps (s.cch.hostOps.length + 1) s.evictPump.flushPump).m2sPump).drainPump).settleAll

/-- M2S_REQUEST: op 0 MemRd, 1 MemWr, 2 MemWrPtl, 3 MemInv; a reserved MetaValue is served as No-Op (R390, Table 12-4). -/
def execM2sRequest (r : M2S) (ecc : List EccEvent) (hdr : List Byte) (s : State) : Host.Outcome State Fault Refusal :=
  .next <|
    if !s.flag .HL_STATUS_LINK_UP || s.get .DF_LINK_LINK_MODE = 0 then s
    else
      match s.hdmDpa? r.addr with
      | none =>
        let s := s.violation 0x0C 0 hdr
        if r.op = 0 then
          let v := s.draw 512
          v.2.emit (.s2m r.tag (some (leBytes 64 v.1)) true)
        else s.emit (.s2m r.tag none false)
      | some a =>
        let s := if 3 < r.meta_ then s.violation 0x0D 0 hdr else s
        ((((s.wake domCache).eccRead ecc).m2sTry { r with addr := a, meta_ := if 3 < r.meta_ then 3 else r.meta_ }).drainPump).settleAll

/-! ### Back-invalidates (R391 to R395, R399, R407) -/

/-- A BISnp has its answer: the entry as the BIRsp reports (0 I, 1 S, 2 E), or removed on an error; what waited goes on. -/
def State.biEnd (s : State) (line : Nat) (ans : Option Nat) : State :=
  let cores := (s.cch.bi.filter (fun r => r.line == line)).flatMap (·.cores)
  let s := s.modCch (fun c => { c with bi := c.bi.filter (fun r => r.line != line) })
  let s := cores.foldl (fun s c => s.modCore c (fun k => { k with far := kput (2 ^ 65 + line) ([], false) k.far })) s
  let s := match ans with
    | some 1 => if (s.dirEnt? line).isSome then s.setDir line false else s
    | some 2 => s
    | some _ => (if (s.dirEnt? line).isSome then s.bump .DIR_BI_STALE_COUNT else s).delDir line
    | none => s.delDir line
  let s := s.modXlat (fun x => { x with accs := x.accs.map (fun a =>
    if a.wait = .bi line then { a with wait := .run, biOk := some line } else a) })
  s.settleAll.cchPump

/-- The record and violation of a BIRsp in error or one that did not come (R407, Table 12-4). -/
def State.biError (s : State) (line : Nat) (hdr : List Byte) : State := (s.violation 0x0F 0 hdr).cacheFault 0x05 none (some line) 0

/-- BIRSP: the host's answer for a line; dirty holds the data that the host writes back to HBM for it (Table 9-8). -/
def execBirsp (line ans : Nat) (err : Bool) (dirty : Option (List Byte × Bool)) (hdr : List Byte) (s : State) :
    Host.Outcome State Fault Refusal :=
  .next <|
    if !s.cch.bi.any (fun r => r.line == line) then s.violation 0x0E 0 hdr
    else if err then (s.biError line hdr).biEnd line none
    else
      let s := match dirty with | some (bs, bad) => s.writeLine line 0 (slice bs 0 64) bad | none => s
      s.biEnd line (some ans)

/-- BI_TIMEOUT: no BIRsp within 10 ms (R407). -/
def execBiTimeout (line : Nat) (hdr : List Byte) (s : State) : Host.Outcome State Fault Refusal :=
  .next (if s.cch.bi.any (fun r => r.line == line) then (s.biError line hdr).biEnd line none else s)

/-- BICONFLICT: every completion owed for the line has gone out, since a request is answered when it is served (R399). -/
def execBiconflict (line : Nat) (s : State) : Host.Outcome State Fault Refusal :=
  .next (if s.cch.bi.any (fun r => r.line == line) then (s.bump .DIR_CONFLICTS_COUNT).emit (.biConflictAck line) else s)

/-- A drain of the whole directory starts (R395). -/
def State.dirDrain (s : State) : State :=
  (((s.put .DIR_CFG_DRAIN 0 1).put .DIR_STATUS_DRAINING 0 1).modCch (fun c => { c with drain := true })).drainPump

def execDirDrain (s : State) : Host.Outcome State Fault Refusal := .next s.dirDrain

/-- DIR_DRAIN_DONE: the directory holds no entry and no BI is pending (R395). -/
def execDirDrainDone (s : State) : Host.Outcome State Fault Refusal :=
  .next <|
    if s.cch.drain && s.cch.dir == [] && s.cch.bi == [] then
      ((s.put .DIR_CFG_DRAIN 0 0).put .DIR_STATUS_DRAINING 0 0).modCch (fun c => { c with drain := false })
    else s

/-! ### H2D (R372, R375, R379, R398, R399, R496) -/

/-- What a snoop makes of a line that the cache holds. -/
def State.snoopHit (s : State) (line op : Nat) : State :=
  if op = 0 then s.modCch (fun k => { k with lines := k.lines.map (fun (d : CLine) => if d.line = line then { d with st := 1 } else d) })
  else if op = 1 then s.delLine line
  else s

/-- A line of the eviction buffer is taken by a snoop that invalidates or downgrades it. -/
def State.snoopTaken (s : State) (line op : Nat) : State :=
  if 2 ≤ op then s
  else s.modCch (fun k => { k with evb := k.evb.map (fun (f : EvEnt) => if f.line = line ∧ !f.taken then { f with taken := true } else f) })

/-- The answer to a snoop by what the cache and its eviction buffer hold of the line (R383, R398). -/
def State.snoopAt (s : State) (line op : Nat) : State :=
  match s.cline? line with
  | some c =>
    ((s.snoopHit line op).emit (.snoopRsp line true (if op = 0 then 1 else if op = 1 then 0 else c.st)
      (if c.st = 3 then some c.data else none) c.poison)).staleSettle
  | none =>
    match s.evEnt? line with
    | some e => ((s.bump .CCH_SNOOP_EVB_COUNT).snoopTaken line op).emit (.snoopRsp line true (if 2 ≤ op then 3 else 0) (some e.data) e.poison)
    | none => s.emit (.snoopRsp line false 0 none false)

/-- A snoop of a line: 0 SnpData, 1 SnpInv, 2 SnpCur (R383, R398, R399). -/
def State.snoop (s : State) (line op : Nat) : State := ((s.wake domCache).bump .CCH_SNOOPS_COUNT).snoopAt line op

def execH2dSnoop (line op : Nat) (s : State) : Host.Outcome State Fault Refusal :=
  .next (if s.flag .HL_STATUS_LINK_UP && s.get .DF_LINK_LINK_MODE != 0 then (s.snoop (lineOf line) op).cchPump else s)

/-- A request allows an answer: its GO and its data (Table 9-2; 0 I, 1 S, 2 E, 3 M, 4 GO-Err). -/
def D2H.allows (d : D2H) (go : Option Nat) (data : Bool) : Bool :=
  let one (l : List Nat) : Bool := match go with | some g => d.go.isNone && l.contains g | none => true
  match d.op with
  | .rdShared => one [0, 1, 2, 4]
  | .rdOwn => one [2, 3, 4]
  | .rdOwnNoData => one [2, 3, 4] && !data
  | .rdCurr => one [4]
  | .dirtyEvict => one [4] && !data
  | _ => one [0, 4] && !data

/-- H2D_RESPONSE: a GO, data with its poison, or both, for an outstanding request (R379, R399, Table 12-4). -/
def execH2dResponse (id : Nat) (go : Option Nat) (data : Option (List Byte × Bool)) (hdr : List Byte) (s : State) :
    Host.Outcome State Fault Refusal :=
  .next <|
    match s.cch.d2h.find? (fun d => d.id == id) with
    | none => s.violation 0x0B 0 hdr
    | some d =>
      if !d.allows go data.isSome then s.violation 0x0B 0 hdr
      else
        let s := s.h2dAnswer id go data
        (if d.op = .dirtyEvict then s.modCch (fun c => { c with evb := c.evb.filter (fun (e : EvEnt) => e.line != d.line) }) else s).cchPump

/-- WRITE_PULL: the host pulls the data of a DirtyEvict; the entry frees (R375, R399). -/
def execWritePull (id : Nat) (hdr : List Byte) (s : State) : Host.Outcome State Fault Refusal :=
  .next <|
    match s.cch.d2h.find? (fun d => d.id == id && d.op == .dirtyEvict) with
    | none => s.violation 0x0B 0 hdr
    | some d =>
      let s := s.d2hDel id
      (match s.cch.evb.find? (fun (e : EvEnt) => e.line == d.line) with
      | none => s
      | some e => (s.modCch (fun c => { c with evb := c.evb.erase e })).emit (.pullData d.line e.taken e.data e.poison)).cchPump

/-- STREAMING_END: the stream at place k has issued no write for 1 us (R372). -/
def execStreamingEnd (k : Nat) (s : State) : Host.Outcome State Fault Refusal :=
  .next (s.modXlat (fun x => { x with streams := x.streams.zipIdx.map (fun e => if e.2 = k then { e.1 with ssd := 0, streaming := false } else e.1) }))

/-- CACHE_RESPONSE_TIMEOUT: a D2H request has had no response within CACHE_TO_MS (R496). -/
def execCacheResponseTimeout (id : Nat) (hdr : List Byte) (s : State) : Host.Outcome State Fault Refusal :=
  .next <|
    match s.cch.d2h.find? (fun d => d.id == id) with
    | none => s
    | some d =>
      let s := ((s.violation 0x13 0 hdr).bump .HL_CTO_TIMEOUTS).d2hFail d
      (if d.op = .dirtyEvict then s.modCch (fun c => { c with evb := c.evb.filter (fun (e : EvEnt) => e.line != d.line) }) else s).cchPump

/-- A control of the host joins those that wait. -/
def State.hostCtl (s : State) (op : Nat) : State := (s.modCch (fun c => { c with hostOps := c.hostOps ++ [op] })).cchPump

def execDisableCachingSet (s : State) : Host.Outcome State Fault Refusal :=
  .next (if (s.fn 0).disCaching then s else (s.modFn 0 (fun c => { c with disCaching := true })).hostCtl 1)

def execInitiateCacheWbinv (s : State) : Host.Outcome State Fault Refusal :=
  .next (if (s.fn 0).disCaching then s.hostCtl 2 else s)

def execDisableCachingClear (s : State) : Host.Outcome State Fault Refusal :=
  .next (if (s.fn 0).disCaching then (s.modFn 0 (fun c => { c with disCaching := false })).hostCtl 3 else s)

def execGpfPhase1 (s : State) : Host.Outcome State Fault Refusal := .next (s.hostCtl 4)

/-! ### HDM decoders (R477, R478, R486) -/

/-- The conditions of R477 for decoder i. -/
def State.decoderOk (s : State) (i : Nat) (d : Decoder) : Bool :=
  let prev := kgetD s.host.decoders (i - 1) {}
  let t := s.modHost (fun h => { h with decoders := kput i d h.decoders })
  d.base % 2 ^ 28 == 0 && d.size % 2 ^ 28 == 0 && d.skip % 2 ^ 28 == 0 && d.size != 0 &&
    [1, 2, 4, 8].contains d.ways && [256, 512, 1024, 2048, 4096, 8192, 16384].contains d.gran &&
    (List.range i).all (fun j => (kgetD s.host.decoders j {}).committed) &&
    (i == 0 || prev.base + prev.size ≤ d.base) && t.dpaBase i + d.dpaSize ≤ hbmEnd

/-- HDM_DECODER_COMMIT: Commit is set on decoder i, whose other fields stand as given (R477). -/
def execHdmDecoderCommit (i base size skip ways gran : Nat) (lock : Bool) (s : State) : Host.Outcome State Fault Refusal :=
  .next <|
    let i := i % 4
    if (kgetD s.host.decoders i {}).committed then s
    else
      let d : Decoder := { base := base, size := size, skip := skip, ways := ways, gran := gran, lock := lock, commit := true }
      let ok := s.decoderOk i d
      s.modHost (fun h => { h with decoders := kput i { d with committed := ok, err := !ok } h.decoders })

/-- HDM_DECODER_UNCOMMIT: Commit is cleared; the requests accepted are served, then the range is drained (R478). -/
def execHdmDecoderUncommit (i : Nat) (s : State) : Host.Outcome State Fault Refusal :=
  .next <|
    let d := kgetD s.host.decoders i {}
    if !d.commit || (d.committed && d.lock) then s
    else if !d.committed then s.modHost (fun h => { h with decoders := kput i { d with commit := false, err := false } h.decoders })
    else (s.modHost (fun h => { h with decoders := kput i { d with commit := false, draining := true } h.decoders })).cchPump

/-- DECODER_UNCOMMIT_DONE: the range holds no entry, no BISnp and no accepted request any more (R478, R406). -/
def execDecoderUncommitDone (i : Nat) (s : State) : Host.Outcome State Fault Refusal :=
  .next <|
    let d := kgetD s.host.decoders i {}
    if !d.draining || s.cch.dir.any (fun e => s.inDecoder i d e.line) || s.cch.bi.any (fun r => s.inDecoder i d r.line) ||
      s.cch.m2s.any (fun r => s.inDecoder i d r.addr) then s
    else s.modHost (fun h => { h with decoders := kput i { d with committed := false, draining := false } h.decoders })

end Sys2Proof.Machine
end

