-- ==== Sys2Proof/Machine/DlRows.lean ====
section
/-! DEFINITION. The commands of the downlink: training, enumeration, the far-tier map, answers and violations of expanders,
and a port's loss (ch. 13). -/
namespace Sys2Proof.Machine

/-! ### Failure of a request (R548) -/

/-- A request of a port leaves. -/
def State.dlDel (s : State) (r : DlReq) : State :=
  s.modDl (fun d => { d with reqs := d.reqs.filter (fun q => !(q.port == r.port && q.tag == r.tag)) })

/-- A line reaches the access that asked for it: bytes and poison; (no bytes, true): it has failed. -/
def State.dlGot (s : State) (id line : Nat) (v : List Byte × Bool) : State :=
  s.modAcc id (fun a => { a with got := kput line v a.got, wait := if a.wait = .dl then .run else a.wait })

/-- The answer of a ciphertext read: a completion of the window, or the JTAG port's. -/
def windowOut (jtag : Bool) (bs : List Byte) (bad : Bool) : Output := if jtag then .jtag bs bad else .hostCompletion 0 bs bad

/-- A far-tier request has failed (Table 13-4): one DL record for its stream request or command. -/
def State.dlFail (s : State) (r : DlReq) (code viol : Nat) : State :=
  let s := s.dlDel r
  match r.who with
  | .acc id =>
    match s.acc? id with
    | none => s
    | some a =>
      let s := if a.dlRec then s
        else (s.modAcc id (fun a => { a with dlRec := true })).dlRecord code r.part r.port r.line viol
      s.dlGot id r.line ([], true)
  | .core c =>
    if r.wr ≠ [] then (s.dlRecord code r.part r.port r.line viol).breach r.line
    else (s.dlRecord code r.part r.port r.line viol).modCore c (fun k => { k with far := kput r.line ([], true) k.far })
  | .window jt _ len _ _ =>
    let s := s.breach r.line
    if r.wr ≠ [] then s else s.emit (windowOut jt (List.replicate len 0xFF#8) true)
  | .drop => s

/-- A port's drain for REENUM has ended: the port is to be enumerated again (R556). -/
def State.dlDrained (s : State) (p : Nat) : State :=
  if (s.dlPort p).reenum && !s.dl.reqs.any (fun r => r.port == p) then
    (s.modDlPort p (fun r => { r with reenum := false })).setDlState p 2
  else s

/-! ### Training and enumeration (R526 to R537, R549) -/

/-- DL_PORT_TRAINED: res 0 trained in a CXL mode, 1 no receiver, 2 no CXL protocol (R529, R530, R552). -/
def State.dlTrained (s : State) (p res mode speed width : Nat) : State :=
  if s.dlPorts ≤ p || s.domState domDownlink = 0 || s.dlState p = 2 || s.dlState p = 3 then s
  else
    let s := ((s.put .DL_PORT_STAT_MODE p (if res = 0 then mode else 0)).put .DL_PORT_STAT_SPEED p (if res = 1 then 0 else speed)).put
      .DL_PORT_STAT_WIDTH p (if res = 1 then 0 else width)
    let s := s.modDlPort p (fun r => { r with violTicks := [], reenum := false })
    s.setDlState p (match res with | 0 => 2 | 1 => 0 | _ => 4)

def execDlPortTrained (p res mode speed width : Nat) (s : State) : Host.Outcome State Fault Refusal :=
  .next (s.dlTrained p res mode speed width)

/-- The smallest usable capacity among the ports. -/
def State.dlMinCap (s : State) : Nat :=
  (List.range s.dlPorts).foldl (fun m p => min m (s.dlPort p).cap) (s.dlPort 0).cap

/-- Port p's place in the map. -/
def State.dlMap (s : State) (p base size : Nat) : State := (s.put .DL_PORT_BASE_BASE p base).put .DL_PORT_SIZE_SIZE p size

/-- The far-tier map formed from the ports that are ACTIVE (R536, R537). -/
def State.dlFormMap (s : State) : State :=
  let ps := List.range s.dlPorts
  let s := ps.foldl (fun s p => s.dlMap p 0 0) (s.modDl (fun d => { d with ilv := false }))
  let s := (s.put .DL_STATUS_ILV_ACTIVE 0 0).put .DL_STATUS_ILV_FAILED 0 0
  if s.flag .DL_CFG_ILV_EN && s.dlPorts != 1 then
    if ps.all (fun p => s.dlState p == 3) then
      let n := min s.dlMinCap s.dlSlot
      (ps.foldl (fun s p => s.dlMap p farBase n) (s.modDl (fun d => { d with ilv := true }))).put .DL_STATUS_ILV_ACTIVE 0 1
    else s.put .DL_STATUS_ILV_FAILED 0 1
  else ps.foldl (fun s p => if s.dlState p = 3 then s.dlMap p (farBase + p * s.dlSlot) (min (s.dlPort p).cap s.dlSlot) else s) s

/-- A port that has become ACTIVE after the map was formed joins it (R537). -/
def State.dlJoin (s : State) (p : Nat) : State :=
  if !s.flag .DL_STATUS_ENUM_DONE || s.dl.full || s.dl.ilv || s.get .DL_PORT_SIZE_SIZE p != 0 then s
  else if s.flag .DL_STATUS_ILV_FAILED then
    (if (List.range s.dlPorts).all (fun q => s.dlState q == 3) then
      let n := min s.dlMinCap s.dlSlot
      (((List.range s.dlPorts).foldl (fun s q => s.dlMap q farBase n) (s.modDl (fun d => { d with ilv := true }))).put
        .DL_STATUS_ILV_ACTIVE 0 1).put .DL_STATUS_ILV_FAILED 0 0
    else s)
  else s.dlMap p (farBase + p * s.dlSlot) (min (s.dlPort p).cap s.dlSlot)

/-- A REENUM is over once no port of it drains or waits to be enumerated (R556). -/
def State.dlReenumEnd (s : State) : State :=
  if !s.flag .DL_CMD_BUSY || (List.range s.dlPorts).any (fun p => (s.dlPort p).reenum || s.dlState p == 2) then s
  else
    let s := s.put .DL_CMD_BUSY 0 0
    if s.dl.full then (s.modDl (fun d => { d with full := false })).dlFormMap else s

/-- DL_ENUMERATE: firmware's steps on a trained port end with a failure code of Table 13-1, or 0 with what they found
(R531, R533, R549). -/
def State.dlEnumerate (s : State) (p code cap vendor device : Nat) : State :=
  if s.dlPorts ≤ p || s.dlState p != 2 then s
  else
    let usable := cap / 2 ^ 28 * 2 ^ 28
    let old := s.get .DL_PORT_SIZE_SIZE p
    let code := if code != 0 then code else if usable = 0 || (!s.dl.full && usable < old) then 0x23 else 0
    let s := (s.put .DL_PORT_STAT_VENDOR p vendor).put .DL_PORT_STAT_DEVICE p device
    if code != 0 then ((s.put .DL_PORT_ERR_LAST_CODE p code).setDlState p 7).dlReenumEnd
    else
      let s := if (s.dlPort p).enrolled then s.put .DL_PORT_STAT_CONTENT_LOST p 1 else s
      (((s.modDlPort p (fun r => { r with cap := usable, enrolled := true })).setDlState p 3).dlJoin p).dlReenumEnd.settleAll

def execDlEnumerate (p code cap vendor device : Nat) (s : State) : Host.Outcome State Fault Refusal :=
  .next (s.dlEnumerate p code cap vendor device)

/-- DL_ENUM_DONE: t1 + 140 ms (R534). -/
def execDlEnumDone (s : State) : Host.Outcome State Fault Refusal :=
  .next (if s.pilot.phase = .ready && !s.flag .DL_STATUS_ENUM_DONE then (s.dlFormMap.put .DL_STATUS_ENUM_DONE 0 1).settleAll else s)

/-! ### Answers (R541, R543, R545) -/

/-- The next line of a ciphertext read goes out, or its answer. -/
def State.windowNext (s : State) (jt : Bool) (a len : Nat) (got : List Byte) (bad : Bool) : State :=
  if len ≤ got.length then s.emit (windowOut jt got bad)
  else
    match (s.dlPortOf? (a + got.length)).bind (fun p => s.dlAccess? p (lineOf (a + got.length)) (.window jt a len got bad) none 0 none true) with
    | some s => s
    | none => s.emit (windowOut jt (List.replicate len 0xFF#8) true)

/-- A line has come: a partial write of it goes on, and what asked for it has it. -/
def State.dlRead (s : State) (r : DlReq) (raw : List Byte) (bad : Bool) : State :=
  if r.wr ≠ [] ∧ !bad then s.dlMerge r raw
  else
    let s := s.dlDel r
    match r.who with
    | .acc id => s.dlGot id r.line (if r.wr ≠ [] then ([], false) else if r.raw then (slice raw 0 64, bad) else (s.farPlain r.line raw, bad))
    | .core c => if r.wr ≠ [] then s else s.modCore c (fun k => { k with far := kput r.line (s.farPlain r.line raw, bad) k.far })
    | .window jt a len got b =>
      if r.wr ≠ [] then s
      else
        let off := (a + got.length) % 64
        s.windowNext jt a len (got ++ slice raw off (min (64 - off) (len - got.length))) (b || bad)
    | .drop => s

/-- What an answer does to its request. -/
def State.dlAnswer (s : State) (r : DlReq) (data : Option (List Byte × Bool)) (hdr : List Byte) : State :=
  let bad := match data with | some d => r.write || d.1.length != 64 | none => !r.write
  if bad then (s.dlViolation r.port 0x02 hdr).dlFail r 0x01 0x02
  else
    match data with
    | some (raw, poison) =>
      let s := if poison then (s.bump .DL_PORT_ERR_POISON r.port).dlRecord 0x02 r.part r.port r.line 0 else s
      s.dlRead r raw poison
    | none =>
      let s := s.dlDel r
      match r.who with
      | .acc id => s.dlGot id r.line ([], false)
      | _ => s

/-- DL_S2M_RESPONSE: data with its poison, or NDR Cmp (none), for a tag of port p (R541, R543, R545). -/
def execDlS2mResponse (p tag : Nat) (data : Option (List Byte × Bool)) (hdr : List Byte) (s : State) : Host.Outcome State Fault Refusal :=
  .next <|
    match s.dl.reqs.find? (fun r => r.port == p && r.tag == tag) with
    | none =>
      if (s.dlPort p).heldTags.contains tag then s.modDlPort p (fun r => { r with heldTags := r.heldTags.filter (· != tag) })
      else s.dlViolation p 0x01 hdr
    | some r => ((((s.dlAnswer r data hdr).dlDrained p).dlReenumEnd).settleAll)

/-- DL_MEM_TIMEOUT: no response within MEM_TO_MS; the tag is held for four times that (Table 13-3). -/
def execDlMemTimeout (p tag : Nat) (hdr : List Byte) (s : State) : Host.Outcome State Fault Refusal :=
  .next <|
    match s.dl.reqs.find? (fun r => r.port == p && r.tag == tag) with
    | none => s
    | some r =>
      let s := (s.dlViolation p 0x03 hdr).dlFail r 0x03 0x03
      (((s.modDlPort p (fun r => { r with heldTags := tag :: r.heldTags })).dlDrained p).dlReenumEnd).settleAll

/-- DL_UPSTREAM_REQUEST: a violation 0x04, 0x05 or 0x07 of the expander; error, PME and power-management messages are
none (Table 13-3). -/
def execDlUpstreamRequest (p code : Nat) (posted : Bool) (hdr : List Byte) (s : State) : Host.Outcome State Fault Refusal :=
  .next <|
    match code with
    | 4 => s.dlViolation p 4 hdr
    | 5 => if posted then s.dlViolation p 5 hdr else (s.dlViolation p 5 hdr).emit (.dlUr p)
    | 7 => (s.dlViolation p 7 hdr).emit (.dlUr p)
    | _ => s

/-- DL_RAS_POLL: what firmware finds and clears at an ACTIVE expander: uncorrectable or not, with the header logged; an
uncorrectable error is violation 0x06, another is recorded (R544). -/
def execDlRasPoll (p : Nat) (errs : List (Bool × List Byte)) (s : State) : Host.Outcome State Fault Refusal :=
  .next <|
    if s.dlState p != 3 then s
    else errs.foldl (fun s e => if e.1 then s.dlViolation p 6 e.2
      else s.ember' 4 2 0 none p (leAt e.2 0 8) (leAt e.2 8 8) (leAt e.2 16 8)) s

/-! ### Loss, QUARANTINE and REENUM (R546, R547, R556) -/

/-- DL_PORT_DOWN (R547). -/
def State.dlDown (s : State) (p : Nat) : State :=
  if s.dlState p = 0 || s.dlState p = 6 then s
  else
    let s := (s.setDlState p 6).bump .DL_PORT_ERR_DOWNS p
    let s := ((s.put .DL_PORT_STAT_MODE p 0).put .DL_PORT_STAT_SPEED p 0).put .DL_PORT_STAT_WIDTH p 0
    let s := s.dlRecord 0x05 none p (farBase + p * s.dlSlot) 0
    let s := s.modDlPort p (fun r => { r with reenum := false, heldTags := [], violTicks := [] })
    ((s.dl.reqs.filter (fun r => r.port == p)).foldl (fun s r => s.dlFail r 0x01 0) s).dlReenumEnd.settleAll

def execDlPortDown (p : Nat) (s : State) : Host.Outcome State Fault Refusal := .next (s.dlDown p)

/-- A port's REENUM: its drain, then its enumeration; a port that is not trained has none (R546, R556). -/
def State.dlDrain (s : State) (p : Nat) : State :=
  if s.dlState p = 3 || s.dlState p = 5 then
    ((s.modDlPort p (fun r => { r with reenum := true })).setDlState p 5).dlDrained p
  else if s.dlState p = 7 then s.setDlState p 2
  else s

/-- DL_REENUM: of one port, or of every port (R556). -/
def State.dlReenum (s : State) (p : Nat) (all : Bool) : State :=
  if s.flag .DL_CMD_BUSY then s
  else
    let s := (((s.put .DL_CMD_OP 0 1).put .DL_CMD_PORT 0 (if all then 0 else p)).put .DL_CMD_ALL 0 (b2n all)).put .DL_CMD_BUSY 0 1
    let s := if all then (List.range s.dlPorts).foldl State.dlDrain (s.modDl (fun d => { d with full := true }))
      else if p < s.dlPorts then s.dlDrain p else s
    s.dlReenumEnd.settleAll

def execDlReenum (p : Nat) (all : Bool) (s : State) : Host.Outcome State Fault Refusal := .next (s.dlReenum (p % 4) all)

/-- DL_RELEASE ends a port's QUARANTINE (R546). -/
def State.dlRelease (s : State) (p : Nat) : State :=
  if s.flag .DL_CMD_BUSY then s
  else
    let s := ((s.put .DL_CMD_OP 0 2).put .DL_CMD_PORT 0 p).put .DL_CMD_ALL 0 0
    if s.dlState p = 5 then ((s.modDlPort p (fun r => { r with violTicks := [] })).setDlState p 3).settleAll else s

def execDlRelease (p : Nat) (s : State) : Host.Outcome State Fault Refusal := .next (s.dlRelease (p % 4))

end Sys2Proof.Machine
end

