-- ==== Sys2Proof/Machine/Copy.lean ====
section
/-! DEFINITION. The commands of the copy engine: COPY, FENCE and LAUNCH (R150, R152, R153, R247 to R249). -/
namespace Sys2Proof.Machine

/-- The stream engine of a submission queue's requests (Table 8-1). -/
def copyEngine (q : Nat) : Nat := 40 + q % 4

/-- An access of the copy engine for a command. -/
def copyAcc (p : Nat) (c : ActiveCmd) (who : AccWho) (kind ctx addr len : Nat) : Acc :=
  { who := who, eng := copyEngine c.queue, src := c.queue, part := p, ctx := ctx, kind := kind, addr := addr, len := len }

/-- A command has started. -/
def State.running (s : State) (p n : Nat) : State := s.modCmd p n (fun c => { c with phase := .running })

/-! ### COPY (R153) -/

/-- The effect of COPY; a translated one waits for room in its streams (R320). -/
def State.copyRun (p n : Nat) (c : ActiveCmd) (s : State) : State :=
  let src := c.arg 0x08 8
  let dst := c.arg 0x10 8
  let len := c.arg 0x18 4
  let w := c.arg 0x1C 4
  let rd := copyAcc p c (.copyRd p n) 0 (bits w 0 8) src len
  let wr := { copyAcc p c (.copyWr p n) 1 (bits w 8 8) dst len with wait := .data 0 }
  if bit w 16 && !s.pfBound p then s.finish p n 6 0
  else if len = 0 then s.finish p n 0x0A 0
  else if bit w 16 then
    if !s.dpaMapped src len || !s.dpaMapped dst len then s.finish p n 0x0A 0
    else (((s.running p n).acceptRaw { rd with out := src }).acceptRaw { wr with out := dst }).settleAll
  else if s.hasRoom rd && (s.modXlat (fun x => { x with accs := x.accs ++ [rd] })).hasRoom wr then
    (((s.running p n).accept rd).accept wr).settleAll
  else s

def execCopyCommand (p n : Nat) (s : State) : Host.Outcome State Fault Refusal := .next (s.start (p % 64) n 4 (State.copyRun (p % 64) n))

/-! ### FENCE (R145, R150) -/

/-- Commands fetched before command n that have not completed: of its queue, or of every queue of the partition. -/
def State.earlier (s : State) (p : Nat) (c : ActiveCmd) (all : Bool) : List ActiveCmd :=
  ((s.part p).active.takeWhile (fun d => d.num != c.num)).filter (fun d => all || d.queue == c.queue)

/-- The effect of FENCE once it has started: it waits for the earlier commands, then writes VALUE if asked. -/
def State.fenceRun (p n : Nat) (c : ActiveCmd) (s : State) : State :=
  let w := c.arg 0x08 4
  let s := s.running p n
  if bit w 1 && c.arg 0x10 8 % 8 != 0 then s.finish p n 0x0A 0
  else if s.earlier p c (bit w 0) != [] || s.xlat.accs.any (fun a => a.who == .fence p n) then s
  else if !bit w 1 then s.finish p n 0 0
  else
    let a := { copyAcc p c (.fence p n) 1 (bits w 8 8) (c.arg 0x10 8) 8 with buf := leBytes 8 (c.arg 0x18 8) }
    if s.hasRoom a then (s.accept a).settleAll else s

/-- FENCE starts, or looks again at the commands it waits for. -/
def State.fence (s : State) (p n : Nat) : State :=
  match s.cmd? p n with
  | none => s
  | some c => if c.opcode = 5 && c.phase = .running then s.fenceRun p n c else s.start p n 5 (State.fenceRun p n)

def execFenceCommand (p n : Nat) (s : State) : Host.Outcome State Fault Refusal := .next (s.fence (p % 64) n)

/-! ### LAUNCH (R152, R247, R248, R249) -/

/-- The tiles of a rectangle in row-major order from (X0, Y0). -/
def TileRect.nodes (r : TileRect) : List Nat :=
  (rangeFrom r.y0 (r.y1 + 1 - r.y0)).flatMap (fun y => (rangeFrom r.x0 (r.x1 + 1 - r.x0)).map (fun x => nodeKey x y))

/-- Why a rectangle of tiles is refused for a partition, if it is (R152, Table 4-8): RANGE for one that names no tile. -/
def State.rectStatus? (s : State) (p : Nat) (r : TileRect) : Option Nat :=
  if r.x1 < r.x0 || r.y1 < r.y0 then some 0x0A
  else if 47 < r.x1 || !r.nodes.all (fun n => s.com.owner? (nodeX n) (nodeY n) == some p) then some 5
  else none

/-- The quadrants of the tiles are ON; those that are not start to wake (R63, Table 2-3). -/
def State.wakeTiles (s : State) (ns : List Nat) : Bool × State :=
  let qs := (ns.map (fun n => s.quad n)).eraseDups
  (qs.all (fun q => s.domState q == 3), qs.foldl (fun s q => s.wake q) s)

/-- Operands of LAUNCH. -/
def ActiveCmd.progLen (c : ActiveCmd) : Nat := c.arg 0x18 4
def ActiveCmd.stride (c : ActiveCmd) : Nat := c.arg 0x28 2

/-- TASK_COUNT of a block whose first descriptor has been read. -/
def taskCount (b : List Byte) : Nat := bits (leAt b 0 4) 16 7

/-- The bytes of a task block that are to be read: all its descriptors where TASK_COUNT is legal. -/
def blockLen (b : List Byte) : Nat :=
  if b.length < 128 then 128 else if 2 ≤ taskCount b && taskCount b ≤ 64 then 128 * taskCount b else 128

/-- The next read of a LAUNCH (R152, R247): the program, then each tile's first descriptor and the rest of its block. -/
def launchNext? (p n : Nat) (c : ActiveCmd) : Option Acc :=
  let ctx := c.arg 0x0C 1
  if c.prog.length < c.progLen then some (copyAcc p c (.launch p n 0) 0 ctx (c.arg 0x10 8) c.progLen)
  else
    match (List.range c.rect.nodes.length).find? (fun i => (kgetD c.descs i []).length < blockLen (kgetD c.descs i [])) with
    | none => none
    | some i =>
      let b := kgetD c.descs i []
      let a := (c.arg 0x20 8 + i * c.stride + b.length) % 2 ^ 64
      some (copyAcc p c (.launch p n (if b = [] then 1 + 2 * i else 2 + 2 * i)) 0 ctx a (blockLen b - b.length))

/-- Descriptor j of a block. -/
def descAt (b : List Byte) (j : Nat) : List Byte := slice b (128 * j) 128

/-- Region r of a descriptor: mode, base and size. -/
def descRegion (d : List Byte) (r : Nat) : Nat × Nat × Nat :=
  let w := leAt d (0x40 + 8 * r) 8
  (bits w 52 2, bits w 0 32, bits w 32 20)

/-- A reserved field or encoding of a descriptor is non-zero (Table 6-3, R247). -/
def descReserved (first : Bool) (d : List Byte) : Bool :=
  let w := leAt d 0 4
  let v := leAt d 4 4
  (if first then bits w 0 16 != 0 else bits w 16 7 != 0) || bit w 23 || bits w 29 3 != 0 || bits v 6 2 != 0 || bits v 14 18 != 0 ||
    (List.range 8).any (fun r =>
      let x := leAt d (0x40 + 8 * r) 8
      let (m, base, size) := descRegion d r
      bits x 54 10 != 0 || m == 3 || (m == 0 && (base != 0 || size != 0)))

/-- The armed regions of a block: base and size. -/
def blockRegions (ds : List (List Byte)) : List (Nat × Nat) :=
  (ds.flatMap (fun d => (List.range 8).map (descRegion d))).filterMap (fun e => if e.1 = 0 then none else some (e.2.1, e.2.2))

/-- Two spans of a list overlap. -/
def anyOverlap : List (Nat × Nat) → Bool
  | [] => false
  | a :: rest => rest.any (fun b => spansMeet a.1 a.2 b.1 b.2) || anyOverlap rest

/-- The end of the tile store (R178). -/
def storeEnd : Nat := 0x80000

/-- The checks of R247 over the blocks of every tile, in its order. -/
def launchStatus? (c : ActiveCmd) (blocks : List (List Byte)) : Option Nat :=
  let descs (b : List Byte) : List (List Byte) := (List.range (b.length / 128)).map (descAt b)
  let entry := c.arg 0x1C 4
  let badEntry (e : Nat) : Bool := e % 4 != 0 || c.progLen ≤ e
  if blocks.any (fun b => (descs b).zipIdx.any (fun d => descReserved (d.2 == 0) d.1)) then some 2
  else if blocks.any (fun b => taskCount b = 0 || 64 < taskCount b) then some 0x0A
  else if blocks.any (fun b => c.stride < 128 * taskCount b) then some 0x0A
  else if badEntry entry || blocks.any (fun b => ((descs b).drop 1).any (fun d => badEntry (bits (leAt d 0 4) 0 16))) then some 0x0A
  else if blocks.any (fun b => (blockRegions (descs b)).any (fun r =>
      r.2 == 0 || storeEnd < r.1 + r.2 || r.1 % 64 != 0 || r.2 % 64 != 0)) then some 0x0A
  else if blocks.any (fun b => anyOverlap (blockRegions (descs b))) then some 0x0A
  else if blocks.any (fun b => (descs b).any (fun d => bit (leAt d 0 4) 27 && (leAt d 0x0C 4 % 16 != 0 || storeEnd < leAt d 0x0C 4 + 16))) then
    some 0x0A
  else none

/-- A LAUNCH that runs: its next read, or its checks once everything has been read (progress 1: they have passed). -/
def State.launchStep (s : State) (p n : Nat) (c : ActiveCmd) : State :=
  if c.progress != 0 || s.xlat.accs.any (fun a => match a.who with | .launch q m _ => q == p && m == n | _ => false) then s
  else
    match launchNext? p n c with
    | some a => if s.hasRoom a then (s.accept a).settleAll else s
    | none =>
      match launchStatus? c (c.descs.map (·.2)) with
      | some st => s.finish p n st 0
      | none => s.modCmd p n (fun c => { c with progress := 1 })

/-- The start of LAUNCH: its rectangle and the limits of Table 4-5; it waits for the quadrants (R63). -/
def State.launchRun (p n : Nat) (c : ActiveCmd) (s : State) : State :=
  match s.rectStatus? p c.rect with
  | some st => s.finish p n st 0
  | none =>
    if c.arg 0x10 8 % 64 != 0 || c.arg 0x20 8 % 64 != 0 || c.progLen % 4 != 0 || 0x10000 < c.progLen then s.finish p n 0x0A 0
    else
      let r := s.wakeTiles c.rect.nodes
      if !r.1 then r.2 else r.2.running p n |>.launchStep p n c

/-- LAUNCH starts, or goes on with its reads and checks. -/
def State.launch (s : State) (p n : Nat) : State :=
  match s.cmd? p n with
  | none => s
  | some c => if c.opcode = 3 && c.phase = .running then s.launchStep p n c else s.start p n 3 (State.launchRun p n)

def execLaunchCommand (p n : Nat) (s : State) : Host.Outcome State Fault Refusal := .next (s.launch (p % 64) n)

/-- The task that descriptor j of a block queues (Table 6-3, R249, R253). -/
def taskOf (count entry j : Nat) (d : List Byte) : TaskRec :=
  let w := leAt d 0 4
  let v := leAt d 4 4
  { id := j + 64 * (count % 1024), state := .waiting, prio := bits w 24 2, entry := if j = 0 then entry else bits w 0 16
    depEn := bit w 26, depCtr := bits v 0 6, depTarget := leAt d 8 4, recEn := bit w 27, recOff := leAt d 0x0C 4
    endEn := bit w 28, endCtr := bits v 8 6, args := (List.range 6).map (fun i => leAt d (0x10 + 8 * i) 8)
    regions := (List.range 8).map (fun r =>
      let (m, base, size) := descRegion d r
      if m = 0 then {} else { mode := m, base := base, size := size, state := 1 }) }

/-- The instruction memory that a program gives: 4-byte words by their number, zeros not listed (R179). -/
def loadImem (prog : List Byte) : KMap Nat :=
  ((List.range (prog.length / 4)).map (fun i => (i, leAt prog (4 * i) 4))).filter (fun e => e.2 != 0)

/-- The tile's instruction memory is loaded and its tasks are queued, WAITING or READY as their dependency gives
(R152, R249, Table 6-4); reservations that waited for a region are looked at again (R233). -/
def State.loadTile (s : State) (n entry : Nat) (prog block : List Byte) : State :=
  let s := s.modTile n (fun t =>
    let k := t.launches + 1
    { t with
      imem := loadImem prog, launches := k
      tasks := t.tasks ++ (List.range (block.length / 128)).map (fun j => taskOf k entry j (descAt block j)) })
  (s.settleNode n).examine n

/-- LAUNCH_TILE_LOAD: tile i of a checked LAUNCH has no live task, and no earlier LAUNCH waits for it (R248, R152). -/
def State.launchTile (s : State) (p n i : Nat) : State :=
  match s.cmd? p n with
  | none => s
  | some c =>
    match c.rect.nodes[i]?, kfind? i c.descs with
    | some t, some block =>
      let before := (s.part p).active.takeWhile (fun d => d.num != n)
      let r := s.wakeTiles [t]
      if c.opcode != 3 || c.phase != .running || c.progress != 1 then s
      else if (s.tile t).tasks != [] || before.any (fun d => d.opcode == 3 && d.phase == .running && d.rect.nodes.contains t && d.progress == 1 &&
          (kfind? ((d.rect.nodes.findIdx? (· == t)).getD 0) d.descs).isSome) then s
      else if !r.1 then r.2
      else
        let s := (s.modCmd p n (fun c => { c with descs := kdel i c.descs })).loadTile t (c.arg 0x1C 4) c.prog block
        if (kdel i c.descs) = [] then s.finish p n 0 c.rect.nodes.length else s
    | _, _ => s

def execLaunchTileLoad (p n i : Nat) (s : State) : Host.Outcome State Fault Refusal := .next (s.launchTile (p % 64) n i)

end Sys2Proof.Machine
end

