-- ==== Sys2Proof/Machine/TwinOps.lean ====
section
/-! DEFINITION. Twin mirroring: packets of the mirror stream, the layout of the copies, what leaves in a twin-port slot,
catch-up and restore reads, judging and applying epochs, and the pair state (ch. 16). -/
namespace Sys2Proof.Machine

/-! ### Packets (Tables 16-2 to 16-4) -/

/-- A mirror packet to the twin (R678). -/
def State.twinPkt (s : State) (op part arg land : Nat) (bs : List Byte) : Pkt :=
  { dd := (s.com.twin?.map (·.twin)).getD 0, dtx := 60, cls := 4, part := part, sd := s.self, stx := 60, opcode := op
    land := land, arg := arg, data := bs }

/-- The order within the class: control packets, restore data, MIRROR_DATA (R678). -/
def twinRank (p : Pkt) : Nat := if p.opcode != 0x18 then 0 else if bit p.arg 57 then 1 else 2

/-- A packet put among those that wait for the twin ports, behind those of its rank. -/
def twinInsert (p : Pkt) : List Pkt → List Pkt
  | [] => [p]
  | q :: rest => if twinRank p < twinRank q then p :: q :: rest else q :: twinInsert p rest

def State.twinSend (s : State) (p : Pkt) : State := s.modFab (fun f => { f with twinq := twinInsert p f.twinq })

/-- A control message of a type of Table 16-3. -/
def State.twinCtl (s : State) (typ part : Nat) (bs : List Byte) : State := s.twinSend (s.twinPkt 0x1B part typ 0 bs)

/-- The entry CRC of R680. -/
def entryCrc (off jseq len : Nat) (poison catchup : Bool) (bs : List Byte) : Nat :=
  crc64 (leBytes 8 off ++ leBytes 4 jseq ++ leBytes 2 len ++ leBytes 2 (b2n poison + 2 * b2n catchup) ++
    (if poison then List.replicate len 0 else bs))

/-- JSEQ a comes before JSEQ b, modulo 2^32 (R674). -/
def jseqLt (a b : Nat) : Bool := let d := (b + 2 ^ 32 - a % 2 ^ 32) % 2 ^ 32; 1 ≤ d && d < 2 ^ 31

/-- A TWN fault record: a partition's ring or the device's; the epoch, and the JSEQ of the first affected entry (R698, Table 17-5). -/
def State.twnFault (s : State) (code : Nat) (ring : Option Nat) (epoch jseq : Nat) : State :=
  s.raise { s.mkFault 0x0B code ring with addr := some epoch, info1 := jseq }

/-! ### The copies and the regions (R667) -/

/-- The address of an offset of a partition's regions where they lie one after the other from a base. -/
def layoutAddr : Nat → List (Nat × Nat) → Nat → Nat → Option Nat
  | _, [], _, _ => none
  | base, (q, n) :: rest, p, off =>
    if q = p then (if off < n then some (base + off) else layoutAddr (base + n) rest p (off - n)) else layoutAddr (base + n) rest p off

/-- The address of an offset of a partition's own regions. -/
def ownAddr : List MirrorRegion → Nat → Nat → Option Nat
  | [], _, _ => none
  | r :: rest, p, off =>
    if r.part = p then (if off < r.size then some (r.base + off) else ownAddr rest p (off - r.size)) else ownAddr rest p off

/-- Bytes of a partition in a layout; its region sizes in order. -/
def layoutBytes (l : List (Nat × Nat)) (p : Nat) : Nat := ((l.filter (fun e => e.1 == p)).map (·.2)).sum
def layoutSizes (l : List (Nat × Nat)) (p : Nat) : List Nat := (l.filter (fun e => e.1 == p)).map (·.2)
def layoutTotal (l : List (Nat × Nat)) : Nat := (l.map (·.2)).sum

/-- The share of a partition in the journal of a receive area, rounded down to 2 MiB (R667). -/
def journalShare (rxSize : Nat) (l : List (Nat × Nat)) (p : Nat) : Nat :=
  let total := layoutTotal l
  if total = 0 then 0 else (rxSize - total) * layoutBytes l p / total / 2 ^ 21 * 2 ^ 21

/-- The committed plan, or an empty one. -/
def State.plan (s : State) : TwinPlan := s.com.twin?.getD {}

/-- The first byte of a partition's journal share. -/
def State.journalBase (s : State) (p : Nat) : Nat :=
  let l := s.twin.layout
  s.plan.rxBase + layoutTotal l + ((List.range p).map (journalShare s.plan.rxSize l)).sum

/-- Entries that the journal of a copy takes; the highest JSEQ it can take (R676, Table 16-4). -/
def State.journalCap (s : State) (p : Nat) : Nat := journalShare s.plan.rxSize s.twin.layout p / 2048
def State.freeJseq (s : State) (p : Nat) : Nat :=
  let r := s.mirRx p
  (r.next + s.journalCap p + 2 ^ 32 - 1 - r.journal.length) % 2 ^ 32

/-- The address of an offset of a partition in the copy. -/
def State.copyAddr (s : State) (p off : Nat) : Option Nat := layoutAddr s.plan.rxBase s.twin.layout p off

/-- Lines written from an offset of a partition's regions, by a map of offsets to addresses (R693). -/
def State.putLines (addr : Nat → Option Nat) (poison : Bool) : Nat → Nat → List Byte → State → State
  | 0, _, _, s => s
  | f + 1, off, bs, s =>
    if bs = [] then s
    else
      let s := match addr off with | some a => s.plainWrite a (slice bs 0 64) poison | none => s
      State.putLines addr poison f (off + 64) (bs.drop 64) s

/-- One entry written into the copy. -/
def State.applyEntry (s : State) (p : Nat) (e : MirEnt) : State := State.putLines (s.copyAddr p) e.poison 33 e.off e.data s

/-! ### Catch-up and restore reads (R679, Table 16-9) -/

/-- Runs of at most n lines from an offset, a poisoned line alone: offset, bytes, poison (R674). -/
def State.readRuns (s : State) (addr : Nat → Option Nat) : Nat → Nat → List (Nat × List Byte × Bool)
  | _, 0 => []
  | off, n + 1 =>
    let a := (addr off).getD 0
    let bs := s.plainRead a 64
    let bad := s.poisoned a
    match s.readRuns addr (off + 64) n with
    | (o, cs, false) :: rest => if bad then (off, bs, true) :: (o, cs, false) :: rest else (off, bs ++ cs, false) :: rest
    | rest => (off, bs, bad) :: rest

/-- A 64 KiB block read as packets of 2,048 bytes. -/
def State.readBlock (s : State) (p b : Nat) : List MirCap :=
  (List.range 32).flatMap (fun k => (s.readRuns (ownAddr s.ownRegions p) (65536 * b + 2048 * k) 32).map (fun e =>
    { epoch := s.cadence, off := e.1, data := e.2.1, poison := e.2.2, catchup := true }))

/-- The next block of a catch-up joins the queue, where the journal takes its entries (R675, R679). -/
def State.feedCatchup (s : State) (p : Nat) : State :=
  let r := s.mirSrc p
  match r.todo with
  | [] => s
  | (a, b) :: rest =>
    let caps := s.readBlock p a
    if r.queue != [] || !jseqLt (r.next + caps.length - 1) r.lim then s
    else
      let todo := if a + 1 < b then (a + 1, b) :: rest else rest
      s.modSrc p (fun r => { r with queue := caps, todo := todo, catchEnd := if todo = [] then some s.cadence else r.catchEnd })

/-- The first entry of a partition's queue leaves for the twin ports with its JSEQ, if that may leave (R674, R675). -/
def State.feedOne (s : State) (p : Nat) : State :=
  let r := s.mirSrc p
  match r.queue with
  | [] => s
  | c :: rest =>
    if !jseqLt r.next r.lim then s
    else
      let crc := entryCrc c.off r.next c.data.length c.poison c.catchup c.data
      let e : MirEpoch := (r.epochs.find? (fun e => e.epoch == c.epoch)).getD { epoch := c.epoch, first := r.next }
      let k := { s.twinPkt 0x18 p (c.off + c.epoch % 2 ^ 16 * 2 ^ 40 + b2n c.catchup * 2 ^ 56) r.next c.data with poison := c.poison }
      ((s.modSrc p (fun r => { r with
        queue := rest, next := (r.next + 1) % 2 ^ 32
        epochs := r.epochs.filter (fun f => f.epoch != c.epoch) ++ [{ e with count := e.count + 1, digest := e.digest ^^^ crc }] })).twinSend k).bump
        .TWN_PBYTES_COUNT p c.data.length

/-- MIRROR_DATA packets of a partition that wait for a slot. -/
def State.waitingData (s : State) (p : Nat) : List Pkt := s.fab.twinq.filter (fun k => k.opcode == 0x18 && k.part == p && !bit k.arg 57)

/-- Entries of a partition put before its slot, at most 16 waiting; f bounds the rounds. -/
def State.feedData (p : Nat) : Nat → State → State
  | 0, s => s
  | f + 1, s =>
    if 16 ≤ (s.waitingData p).length then s
    else State.feedData p f ((s.feedCatchup p).feedOne p)

/-- A source partition sends (R689, Table 16-14). -/
def State.mirSends (s : State) (p : Nat) : Bool :=
  s.get .TWN_STATUS_STATE == 2 && (s.get .TWN_PSTAT_STATE p == 1 || s.get .TWN_PSTAT_STATE p == 2)

/-- The next packets of a restore, then its RESTORE_END once they have left (Table 16-9). -/
def State.feedRestore (s : State) (p : Nat) : State :=
  match (s.mirRx p).restore with
  | none => s
  | some r =>
    let busy := (s.fab.twinq.filter (fun k => k.opcode == 0x18 && k.part == p && bit k.arg 57)).length
    let total := layoutBytes s.twin.layout p
    if r.phase != 1 then s
    else if r.pos < total then
      if 16 ≤ busy then s
      else
        let step (q : State × MirRestore) (e : Nat × List Byte × Bool) : State × MirRestore :=
          let k := { q.1.twinPkt 0x18 p (e.1 + r.epoch % 2 ^ 16 * 2 ^ 40 + 2 ^ 57) q.2.count e.2.1 with poison := e.2.2 }
          (q.1.twinSend k, { q.2 with
            count := (q.2.count + 1) % 2 ^ 32, digest := q.2.digest ^^^ entryCrc e.1 q.2.count e.2.1.length e.2.2 false e.2.1 })
        let n := min 32 ((total - r.pos) / 64)
        let q := (s.readRuns (s.copyAddr p) r.pos n).foldl step (s, r)
        q.1.modRx p (fun x => { x with restore := some { q.2 with pos := r.pos + 64 * n } })
    else if busy != 0 then s
    else
      (s.modRx p (fun x => { x with restore := some { r with phase := 2 } })).twinCtl 5 p
        (leBytes 8 r.count ++ leBytes 8 r.digest ++ leBytes 8 0)

/-- What the current slot of a twin port may carry is made ready (R675, R678, Table 16-9). -/
def State.twinFeed (s : State) (port : Nat) : State :=
  let e := s.txEnt port
  if port < 12 || e.kind != .flow || !s.carries port || !s.aligned || s.get .KIM_STATUS_STATE = 5 then s
  else
    let s := if s.mirSends e.part then State.feedData e.part 16 s else s
    if s.get .TWN_STATUS_STATE = 2 then s.twin.rxs.foldl (fun s x => s.feedRestore x.1) s else s

/-! ### The source: failure of an epoch (R683) -/

/-- An epoch of a source partition failed: its record in the partition's ring, and catch-up from the dirty map. -/
def State.srcFail (s : State) (p epoch cause : Nat) : State :=
  let r := s.mirSrc p
  let jseq := ((r.epochs.find? (fun e => e.epoch == epoch)).map (·.first)).getD 0
  let s := ((s.modSrc p (fun r => { r with nextVer := epoch + 1, cause := cause })).bump .TWN_PSTAT_FAILS p).twnFault cause (some p) epoch jseq
  if s.get .TWN_PSTAT_STATE p = 1 && r.catchFrom.any (fun c => epoch < c) then s
  else if s.get .TWN_PSTAT_STATE p = 1 || s.get .TWN_PSTAT_STATE p = 2 then s.startCatchup p
  else s

/-- A verdict reaches the source (R676, R677, R683): its FREE_JSEQ, and the epoch's result. -/
def State.verdict (s : State) (p epoch result free : Nat) : State :=
  let s := s.modSrc p (fun r => { r with lim := (free + 1) % 2 ^ 32 })
  let r := s.mirSrc p
  match result with
  | 0 =>
    let s := (s.put .TWN_PEPOCH_EPOCH p epoch).modSrc p (fun r => { r with
      dirty := r.dirty.filter (fun d => epoch < d.1), nextVer := max r.nextVer (epoch + 1), epochs := r.epochs.filter (fun e => epoch < e.epoch) })
    if s.get .TWN_PSTAT_STATE p = 1 && r.catchEnd.any (fun e => e ≤ epoch) then
      ((s.put .TWN_PSTAT_STATE p 2).put .TWN_PSTAT_LAGGING p 0).modSrc p (fun r => { r with catchFrom := none, catchEnd := none })
    else s
  | 1 => s.modSrc p (fun r => { r with nextVer := max r.nextVer (epoch + 1), epochs := r.epochs.filter (fun e => epoch < e.epoch) })
  | 2 =>
    if epoch < r.nextVer then s
    else s.srcFail p epoch (if epoch + 2 ≤ s.cadence then 5 else if epoch = r.nextVer && r.nextVer != 0 && r.catchFrom.isSome then r.cause else 4)
  | _ => s

/-! ### The receiver: judging (R682, R683, Table 16-5) -/

/-- A verdict put on its way (Table 16-4). -/
def State.sendVerdict (s : State) (p epoch result : Nat) : State :=
  s.twinSend (s.twinPkt 0x1A p 0 0 (leBytes 8 epoch ++ leBytes 4 result ++ leBytes 4 (s.freeJseq p) ++
    leBytes 8 (s.get .TWN_RX_APPLIED_EPOCH p) ++ leBytes 8 0))

/-- An epoch of a copy FAILED: its entries and every later one leave the journal, the count, the fault, the verdict (R683). -/
def State.rxFail (s : State) (p epoch cause : Nat) : State :=
  let r := s.mirRx p
  let d := r.digs.find? (fun d => d.epoch == epoch)
  let jseq := match d with
    | some d => d.firstJ
    | none => ((r.journal.find? (fun e => epoch ≤ e.epoch)).map (·.jseq)).getD 0
  let next := match d with
    | some d => let n := (d.firstJ + d.count) % 2 ^ 32; if jseqLt r.next n then n else r.next
    | none => r.next
  let s := s.modRx p (fun r => { r with
    journal := r.journal.filter (fun e => e.epoch < epoch), digs := r.digs.filter (fun d => epoch < d.epoch), next := next
    expect := some (epoch + 1), last := some 2, cause := cause })
  ((s.bump .TWN_RX_COUNT_FAILED p).twnFault cause none epoch jseq).sendVerdict p epoch 2

/-- An epoch judged COMMITTED or PARTIAL (R682, R684). -/
def State.rxJudged (s : State) (p : Nat) (d : MirDig) : State :=
  let ok := !d.catchup || d.catchEnd
  let s := s.modRx p (fun r => { r with
    digs := r.digs.filter (fun e => d.epoch < e.epoch), expect := some (d.epoch + 1), last := some (if ok then 0 else 1)
    judged := (if d.catchEnd then r.judged.filter (·.2) else r.judged) ++ [(d.epoch, ok)] })
  let s := s.put .TWN_RX_STAT_CATCHUP p (b2n (d.catchup && !d.catchEnd))
  let s := if ok then s.put .TWN_RX_COMMITTED_EPOCH p d.epoch else s.bump .TWN_RX_COUNT_PARTIAL p
  let s := if d.catchEnd then s.put .TWN_RX_STAT_COPY p 2 else s
  s.sendVerdict p d.epoch (if ok then 0 else 1)

/-- The entries of an epoch that its DIGEST names and that are held. -/
def MirRx.entriesOf (r : MirRx) (d : MirDig) : List MirEnt :=
  r.journal.filter (fun e => e.epoch == d.epoch && (e.jseq + 2 ^ 32 - d.firstJ) % 2 ^ 32 < d.count)

/-- Epochs judged as far as their digests and entries are there; f bounds the rounds (Table 16-5). -/
def State.mirJudge (p : Nat) : Nat → State → State
  | 0, s => s
  | f + 1, s =>
    let r := s.mirRx p
    match r.expect.bind (fun e => r.digs.find? (fun d => d.epoch == e)) with
    | none => s
    | some d =>
      let begun := d.catchup || d.catchEnd
      let es := r.entriesOf d
      if r.last = some 2 ∧ !begun ∧ !d.first then State.mirJudge p f (s.rxFail p d.epoch r.cause)
      else if es.length < d.count then s
      else if (es.foldl (fun x e => x ^^^ entryCrc e.off e.jseq e.data.length e.poison e.catchup e.data) 0) != d.digest then
        State.mirJudge p f (s.rxFail p d.epoch 4)
      else if r.last = some 0 ∨ d.first ∨ begun then State.mirJudge p f (s.rxJudged p d)
      else s

/-- An entry in its place in the journal. -/
def journalInsert (e : MirEnt) : List MirEnt → List MirEnt
  | [] => [e]
  | x :: rest => if e.epoch < x.epoch || (e.epoch == x.epoch && jseqLt e.jseq x.jseq) then e :: x :: rest else x :: journalInsert e rest

/-- A 16-bit epoch label as a whole cadence number, the latest that is at most one ahead (Table 16-2). -/
def State.epochOf (s : State) (label : Nat) : Nat := s.cadence + 1 - (s.cadence + 1 + 2 ^ 16 - label % 2 ^ 16) % 2 ^ 16

/-- A MIRROR_DATA reaches the journal (R674, R682, R693). The journal's place in HBM is undefined (R667). -/
def State.journalEntry (s : State) (k : Pkt) : State :=
  let p := k.part
  let off := bits k.arg 0 40
  let epoch := s.epochOf (bits k.arg 40 16)
  let r := s.mirRx p
  if off % 64 != 0 || layoutBytes s.twin.layout p < off + k.data.length || r.expect.any (fun e => epoch < e) || r.journal.any (fun e => e.epoch == epoch && e.jseq == k.land) then s
  else
    let e : MirEnt := { jseq := k.land, epoch := epoch, off := off, data := k.data, poison := k.poison, catchup := bit k.arg 56 }
    let s := s.modRx p (fun r => { r with
      journal := journalInsert e r.journal, next := if jseqLt k.land r.next then r.next else (k.land + 1) % 2 ^ 32
      expect := some (r.expect.getD epoch) })
    let s := if e.catchup then s.put .TWN_RX_STAT_CATCHUP p 1 else s
    let j := s.journalBase p
    State.mirJudge p 8 (s.undefine j (j + 2048 * s.journalCap p))

/-- A DIGEST reaches the receiver (Table 16-4). -/
def State.digestIn (s : State) (p : Nat) (b : List Byte) : State :=
  let d : MirDig := { epoch := leAt b 0 8, digest := leAt b 8 8, count := leAt b 0x10 4, firstJ := leAt b 0x14 4
                      catchup := bit (leAt b 0x18 1) 0, catchEnd := bit (leAt b 0x18 1) 1, first := bit (leAt b 0x18 1) 2 }
  let r := s.mirRx p
  if !d.first && r.expect.any (fun e => d.epoch < e) then s
  else
    State.mirJudge p 8 (s.modRx p (fun r => { r with
      digs := r.digs.filter (fun e => e.epoch != d.epoch) ++ [d], expect := some (if d.first then d.epoch else r.expect.getD d.epoch) }))

/-- Entries of the epochs up to one applied in order; APPLIED follows (R684). -/
def State.applyUpTo (s : State) (p epoch : Nat) : State :=
  let r := s.mirRx p
  let s := (r.journal.filter (fun e => e.epoch ≤ epoch)).foldl (fun s e => s.applyEntry p e) s
  (s.modRx p (fun r => { r with
    journal := r.journal.filter (fun e => epoch < e.epoch), judged := r.judged.filter (fun j => epoch < j.1) })).put .TWN_RX_APPLIED_EPOCH p epoch

/-- The journal would have no room for a block that the source may send (R684). -/
def State.journalFull (s : State) (p : Nat) : Bool := s.journalCap p < (s.mirRx p).journal.length + 32

/-- MIRROR_APPLY: the oldest judged epoch of a copy is applied: a COMMITTED one when its time has come, a PARTIAL one only
for want of room (R684). -/
def State.mirApply (s : State) (p : Nat) : State :=
  match (s.mirRx p).judged with
  | [] => s
  | (e, ok) :: _ =>
    if s.flag .TWN_RX_STAT_HOLD p then s
    else if ok then (if e + 1 + s.get .TWN_CFG_APPLY_LAG ≤ s.cadence then s.applyUpTo p e else s)
    else if s.journalFull p then ((s.applyUpTo p e).put .TWN_RX_STAT_COPY p 1).twnFault 8 none e 0
    else s

/-! ### Mirror operations (R686, R687) -/

/-- A mirror operation ends: a completion record's status and result, or TWN_CMD (R686). -/
def State.twinEnd (s : State) (who : TwinWho) (status result : Nat) : State :=
  match who with
  | .cmd p n => s.finish p n status result
  | .reg => (s.put .TWN_CMD_BUSY 0 0).put .TWN_CMD_STATUS 0 status

/-- A restore of a copy ends with a status. -/
def State.endRestore (s : State) (p status result : Nat) : State :=
  match (s.mirRx p).restore with
  | none => s
  | some r => ((s.modRx p (fun x => { x with restore := none })).put .TWN_RX_STAT_RESTORING p 0).twinEnd r.who status result

/-- HOLD or UNHOLD of one copy or of every copy (R687). -/
def State.holdCopies (s : State) (all : Bool) (p v : Nat) : State :=
  (if all then List.range 64 else [p]).foldl (fun s q => if s.get .TWN_RX_STAT_COPY q = 0 then s else s.put .TWN_RX_STAT_HOLD q v) s

/-- APPLY_TO: the committed epochs up to R are applied and every later entry discarded (R687). -/
def State.applyTo (s : State) (who : TwinWho) (p R : Nat) : State :=
  if !s.flag .TWN_RX_STAT_HOLD p || s.get .TWN_RX_STAT_COPY p != 2 then s.twinEnd who 3 0
  else if R < s.get .TWN_RX_APPLIED_EPOCH p || s.get .TWN_RX_COMMITTED_EPOCH p < R then s.twinEnd who 0x0A 0
  else
    let last := ((s.mirRx p).judged.filter (fun j => j.2 && j.1 ≤ R)).getLast?
    let s := match last with | some j => s.applyUpTo p j.1 | none => s
    let s := (s.modRx p (fun r => { r with journal := [], judged := [], digs := [] })).put .TWN_RX_APPLIED_EPOCH p R
    (s.put .TWN_RX_COMMITTED_EPOCH p R).twinEnd who 0 R

/-- RESTORE of a held copy into the twin starts (R687, Table 16-9). -/
def State.mirRestore (s : State) (who : TwinWho) (p : Nat) : State :=
  let R := s.get .TWN_RX_APPLIED_EPOCH p
  if s.get .TWN_STATUS_STATE != 2 || s.get .TWN_RX_STAT_COPY p != 2 || !s.flag .TWN_RX_STAT_HOLD p || R != s.get .TWN_RX_COMMITTED_EPOCH p
    || (s.mirRx p).restore.isSome then s.twinEnd who 3 0
  else
    ((s.modRx p (fun r => { r with restore := some { who := who, epoch := R } })).put .TWN_RX_STAT_RESTORING p 1).twinCtl 3 p
      (leBytes 8 R ++ leBytes 8 (layoutBytes s.twin.layout p))

/-- Every block of a partition counts as dirty (R679, R687). -/
def State.allDirty (s : State) (p : Nat) : State :=
  let n := s.ownBytes p / 65536
  s.modSrc p (fun r => { r with dirty := if n = 0 then [] else [(s.cadence, 0, n)] })

/-- RESYNC: every block dirty, and catch-up where the pair is PAIRED (R687). -/
def State.mirResync (s : State) (who : TwinWho) (p : Nat) : State :=
  let s := s.allDirty p
  let s := if s.get .TWN_STATUS_STATE = 2 && s.ownParts.contains p && (s.mirSrc p).restore.isNone then s.startCatchup p else s
  s.twinEnd who 0 0

/-- An operation of Table 16-8, from MIRROR_CTL or TWN_CMD. -/
def State.twinOp (s : State) (who : TwinWho) (op : Nat) (all : Bool) (p R : Nat) : State :=
  match op with
  | 1 => (s.holdCopies all p 1).twinEnd who 0 0
  | 2 => (s.holdCopies all p 0).twinEnd who 0 0
  | 3 => s.applyTo who p R
  | 4 => s.mirRestore who p
  | 5 => s.mirResync who p
  | _ => s.twinEnd who 2 0

/-! ### The pair (R668 to R671, R676, R681, R689) -/

/-- Some twin port is UP. -/
def State.twinPortUp (s : State) : Bool := s.portUp 12 || s.portUp 13

/-- The report of a copy in PAIR: 0 none, 1 INVALID, 2 VALID, 3 VALID and HELD (Table 16-3). -/
def State.copyReport (s : State) (p : Nat) : Nat :=
  match s.get .TWN_RX_STAT_COPY p with
  | 2 => if s.flag .TWN_RX_STAT_HOLD p then 3 else 2
  | n => n

/-- PAIR is sent; one that still waits is replaced (R668). -/
def State.sendPair (s : State) : State :=
  let t := s.plan
  let bs := leBytes 8 (t.twin + t.regions.length * 256) ++ leBytes 8 t.rxSize ++
    leBytes 16 (((List.range 64).map (fun p => s.copyReport p * 4 ^ p)).sum) ++
    t.regions.flatMap (fun r => leBytes 8 (r.part + r.size / 2 ^ 21 * 256))
  (s.modFab (fun f => { f with twinq := f.twinq.filter (fun k => !(k.opcode == 0x1B && k.arg == 1)) })).twinCtl 1 0 bs

/-- The source partitions stop mirroring: UNPROTECTED, their queues dropped, restores over (Table 16-1, R681). -/
def State.mirrorStops (s : State) : State :=
  let s := s.ownParts.foldl (fun s p => ((s.put .TWN_PSTAT_STATE p 3).put .TWN_PSTAT_LAGGING p 0).modSrc p (fun r => { r with
    queue := [], todo := [], catchFrom := none, catchEnd := none, epochs := [], restore := none })) s
  let s := s.modFab (fun f => { f with twinq := [] })
  s.twin.rxs.foldl (fun s x => s.endRestore x.1 3 0) s

/-- A new PAIR exchange begins (Table 16-1). -/
def State.pairing (s : State) : State :=
  let s := (s.put .TWN_STATUS_STATE 0 1).modTwin (fun t => { t with peer := none, acked := false })
  if s.twinPortUp then s.sendPair else s

/-- The pair is broken: MISMATCH (R668). -/
def State.mismatch (s : State) : State := (s.put .TWN_STATUS_STATE 0 5).twnFault 3 none 0 0

/-- A line with its poison. -/
def State.lineAt (s : State) (a : Nat) : List Byte × Bool := (s.plainRead a 64, s.poisoned a)

/-- Copies kept whose place in the receive area changes with the twin's layout are moved (R667, R669). -/
def State.moveCopies (s : State) (old new_ : List (Nat × Nat)) (kept : List Nat) : State :=
  let base := s.plan.rxBase
  let lines := kept.flatMap (fun p => (List.range (layoutBytes new_ p / 64)).filterMap (fun i =>
    match layoutAddr base old p (64 * i), layoutAddr base new_ p (64 * i) with
    | some a, some b => if a = b then none else some (b, s.lineAt a)
    | _, _ => none))
  lines.foldl (fun s l => s.plainWrite l.1 l.2.1 l.2.2) s

/-- The receiver's side of PAIRED: copies kept whose region sizes agree, others INVALID or none (R667, R669). -/
def State.rxPaired (s : State) (l : List (Nat × Nat)) : State :=
  let old := s.twin.layout
  let parts := (List.range 64).filter (fun p => l.any (fun e => e.1 == p))
  let kept := parts.filter (fun p => s.get .TWN_RX_STAT_COPY p != 0 && layoutSizes old p == layoutSizes l p)
  let s := s.moveCopies old l kept
  let s := (List.range 64).foldl (fun s p =>
    if kept.contains p then
      s.modRx p (fun r => { journal := r.journal.filter (fun e => r.judged.any (fun j => j.2 && e.epoch ≤ j.1)), judged := r.judged.filter (·.2) })
    else
      let s := [Fld.TWN_RX_STAT_HOLD, .TWN_RX_STAT_CATCHUP, .TWN_RX_STAT_RESTORING, .TWN_RX_APPLIED_EPOCH, .TWN_RX_COMMITTED_EPOCH].foldl (fun s f => s.put f p 0) s
      (s.put .TWN_RX_STAT_COPY p (b2n (parts.contains p))).modTwin (fun t => { t with rxs := kdel p t.rxs })) s
  s.modTwin (fun t => { t with layout := l })

/-- A source partition's stream starts at JSEQ 0 (R676). -/
def State.restartStream (s : State) (p : Nat) : State :=
  let own := s.ownRegions.map (fun r => (r.part, r.size))
  let share := journalShare ((s.twin.peer.map (·.rxSize)).getD 0) own p
  s.modSrc p (fun r => { dirty := r.dirty, lim := share / 2048, first := true, nextDig := s.cadence, nextVer := s.cadence })

/-- The source's side of PAIRED (R676, R679, R689). -/
def State.srcPaired (s : State) (report : Nat) : State :=
  s.ownParts.foldl (fun s p =>
    let s := s.restartStream p
    match bits report (2 * p) 2 with
    | 3 => s.put .TWN_PSTAT_STATE p 4
    | 2 => if (s.mirSrc p).dirty = [] then s.put .TWN_PSTAT_STATE p 2 else s.startCatchup p
    | _ => (s.allDirty p).startCatchup p) s

/-- The pair becomes PAIRED once a right PAIR is received and this device's own is acknowledged (R668, Table 16-1). -/
def State.tryPaired (s : State) : State :=
  match s.get .TWN_STATUS_STATE, s.twin.peer with
  | 1, some q => if s.twin.acked then ((s.put .TWN_STATUS_STATE 0 2).rxPaired q.regions).srcPaired q.report else s
  | _, _ => s

/-- A twin port has come UP (Table 16-1, R668). -/
def State.twinUp (s : State) : State :=
  match s.get .TWN_STATUS_STATE with
  | 1 => s.sendPair
  | 3 => s.pairing
  | 4 => if s.flag .TWN_STATUS_HB_IN_OK then s.pairing else s
  | _ => s

/-- The twin is lost (R681). -/
def State.twinLost (s : State) : State :=
  let s := ((s.put .TWN_STATUS_STATE 0 4).bump .TWN_STATUS_LOSSES).emberTrigger 4
  let s := ((s.twnFault 1 none 0 0).globalEvent 0).mirrorStops
  if s.flag .TWN_CFG_AUTO_HOLD then s.holdCopies true 0 1 else s

/-- Every copy discarded (Table 16-1). -/
def State.discardCopies (s : State) : State :=
  let s := s.twin.rxs.foldl (fun s x => s.endRestore x.1 3 0) s
  let s := (List.range 64).foldl (fun s p => [Fld.TWN_RX_STAT_COPY, .TWN_RX_STAT_HOLD, .TWN_RX_STAT_CATCHUP, .TWN_RX_STAT_RESTORING,
    .TWN_RX_APPLIED_EPOCH, .TWN_RX_COMMITTED_EPOCH].foldl (fun s f => s.put f p 0) s) s
  s.modTwin (fun t => { t with rxs := [], layout := [] })

/-- A base commit's effect on mirroring (Table 16-1, R695): the plan before, the key of the receive area kept. -/
def State.twinCommit (s : State) (old : Option TwinPlan) (keyKept : Bool) : State :=
  let s := s.put .TWN_STATUS_TWIN 0 s.plan.twin
  let parts := s.ownParts
  let s := (List.range 64).foldl (fun s p =>
    if parts.contains p then (if s.get .TWN_PSTAT_STATE p = 0 then s.put .TWN_PSTAT_STATE p 3 else s)
    else ((s.put .TWN_PSTAT_STATE p 0).put .TWN_PSTAT_LAGGING p 0).modTwin (fun t => { t with srcs := kdel p t.srcs })) s
  match s.com.twin? with
  | none => (s.discardCopies.mirrorStops).put .TWN_STATUS_STATE 0 0
  | some t =>
    let same := old.any (fun o => o.twin == t.twin && o.rxBase == t.rxBase && o.rxSize == t.rxSize) && keyKept
    if same && s.get .TWN_STATUS_STATE != 5 && s.get .TWN_STATUS_STATE != 0 then s
    else ((if same then s else s.discardCopies).mirrorStops).pairing

end Sys2Proof.Machine
end

