-- ==== Sys2Proof/Machine/FabricRows.lean ====
section
/-! DEFINITION. The commands of the fabric: training, ordered sets, flits, retries, end-to-end copies, collectives, MGMT and
NACK packets, port resets (ch. 14 and 15). -/
namespace Sys2Proof.Machine

/-! ### Ordered sets (Tables 14-3, 15-1) -/

/-- The cadence timer in 0.8 ns units, off units into the current slot (R585). -/
def State.timer (s : State) (off : Nat) : Nat := (s.get .FAB_CADENCE_CADENCE * 4096 + s.get .FAB_SYNC_SLOT) * s.fab.slotLen + off

/-- Units into the slot at the start of a flit time with so many left. -/
def State.offsetAt (s : State) (p left : Nat) : Nat := s.fab.slotLen - (if s.half p then left * 16 / 5 else left * 8 / 5)

/-- The link-layer IMG value of this device (Table 14-3). -/
def State.imgBits (s : State) : Nat :=
  if s.com.base.isSome then 2
  else if 3 ≤ s.get .KIM_STATUS_STATE && s.kim.staged.any Image.isBase then 1
  else 0

/-- A HAIL body (R594). -/
def State.hailBody (s : State) (p : Nat) : List Byte :=
  leBytes 4 (1 + s.self * 2 ^ 8 + p * 2 ^ 16 + s.imgBits * 2 ^ 20 + s.get .FAB_SYNC_STATE * 2 ^ 22) ++
    leBytes 2 (s.get .PART_FWU_VER_RUN_MINOR) ++ leBytes 2 (s.get .PART_FWU_VER_RUN_MAJOR) ++
    leBytes 4 (if s.com.base.isSome then s.get .KIM_EPOCH_EPOCH else 0) ++ leBytes 4 ((s.linkKey? p).map (·.1) |>.getD 0) ++
    leBytes 8 (if s.com.base.isSome then s.com.img.domainDigest else 0) ++ leBytes 8 (s.get .FAB_CADENCE_CADENCE)

/-- A SYNC body (R590). -/
def State.syncBody (s : State) (p left : Nat) : List Byte :=
  leBytes 4 (2 + s.self * 2 ^ 8 + p * 2 ^ 16 + s.get .FAB_SYNC_STATE * 2 ^ 20 + s.get .FAB_SYNC_HOPS * 2 ^ 24) ++
    leBytes 4 (s.get .FAB_SYNC_SLOT + s.offsetAt p left * 2 ^ 12) ++ leBytes 8 (s.get .FAB_CADENCE_CADENCE) ++ leBytes 8 s.fab.slotLen

/-- An ECHO body (R591). -/
def State.echoBody (s : State) (reply : Bool) (tsend techo : Nat) : List Byte :=
  leBytes 8 (3 + s.self * 2 ^ 8 + b2n reply * 2 ^ 16) ++ leBytes 8 tsend ++ leBytes 8 techo

/-- A CREDIT body (R577). -/
def creditBody (p : Nat) : List Byte := leBytes 4 5 ++ (List.range 12).flatMap (fun v => leBytes 2 (initCredits p v))

/-- A REPLAY body (Table 15-1). -/
def State.replayBody (s : State) (p : Nat) : List Byte :=
  leBytes 4 (4 + s.self * 2 ^ 8 + p * 2 ^ 16) ++ leBytes 4 ((s.port p).rxFseq % 4095 + 1)

/-! ### Sending a flit (Table 14-2) -/

/-- A flit put on the wire: its header with the ACK and the credits due, its body, its CRC. -/
def State.sendFlit (s : State) (p left kind fseq : Nat) (body : List Byte) : State :=
  let r := s.port p
  let (vc, crd) := match r.owe.find? (fun e => e.2 != 0) with | some e => (e.1, min e.2 4095) | none => (0, 0)
  let w := s.get .FAB_SYNC_SLOT + kind * 2 ^ 12 + fseq * 2 ^ 16 + r.rxFseq * 2 ^ 28 + vc * 2 ^ 40 + crd * 2 ^ 44
  let bytes := leBytes 8 w ++ slice body 0 244
  let s := s.modPort p (fun r => { r with owe := if crd = 0 then r.owe else kput vc (kgetD r.owe vc 0 - crd) r.owe })
  let key := 4096 * p + s.get .FAB_SYNC_SLOT
  let s := s.modFab (fun f => { f with
    left := kput p (left - 1) f.left
    occNow := if (kind = 0 || kind = 2) && (s.com.img.tele.any (·.occMap) || s.com.tele?.any (·.occMap)) then kput key (min 255 (kgetD f.occNow key 0 + 1)) f.occNow else f.occNow })
  s.emit (.flit p (bytes ++ leBytes 4 (crc32 bytes)))

/-- A stream flit of a mode, filled from its stream (R615, R616). -/
def State.sendStream (s : State) (p left : Nat) (e2e : Bool) : State :=
  let s := State.fillStream p e2e 64 s
  let r := s.port p
  let bs := if e2e then r.txE2e else r.txHop
  if bs = [] then s.sendFlit p left 1 0 []
  else
    let rest := bs.drop 244
    let body := slice bs 0 244
    if e2e then (s.modPort p (fun r => { r with txE2e := rest, txPkts := if rest = [] then [] else r.txPkts })).sendFlit p left 0 0 body
    else (s.modPort p (fun r => { r with
      txHop := rest, txPkts := if rest = [] then [] else r.txPkts, unacked := r.unacked ++ [(r.fseq, body)], fseq := r.fseq % 4095 + 1 })).sendFlit p left 0 r.fseq body

/-- The slot's own traffic of a port (R586, R589, R616). -/
def State.sendTraffic (s : State) (p left : Nat) : State :=
  let s := s.pumpExit
  let r := s.port p
  let idle := s.sendFlit p left 1 0 []
  if !s.carries p || !s.aligned then idle
  else if r.txE2e ≠ [] then s.sendStream p left true
  else if r.txHop ≠ [] then (if 1024 ≤ r.unacked.length then idle else s.sendStream p left false)
  else
    match s.nextPkt? p none with
    | none => idle
    | some h =>
      if s.e2eOn p h.pkt.cls then s.sendStream p left true
      else if 1024 ≤ r.unacked.length then idle else s.sendStream p left false

/-- One flit time of a port in UP or QUARANTINE: ordered sets that are due, then replayed flits, then the slot's traffic
(R586, R590, R594, R617, R618, R645). -/
def State.flitUp (s : State) (p left : Nat) : State :=
  let r := s.port p
  let slack := (s.txEnt p).kind == .slack
  match r.os with
  | b :: rest => (s.modPort p (fun r => { r with os := rest })).sendFlit p left 3 0 b
  | [] =>
    if r.syncDue && slack && s.aligned && s.portUp p && left = s.slotFlits p then
      (s.modPort p (fun r => { r with syncDue := false })).sendFlit p left 3 0 (s.syncBody p left)
    else if r.hailDue && slack then (s.modPort p (fun r => { r with hailDue := false })).sendFlit p left 3 0 (s.hailBody p)
    else
      match r.replay with
      | n :: rest =>
        if s.carries p then (s.modPort p (fun r => { r with replay := rest })).sendFlit p left 2 n (((r.unacked.find? (fun e => e.1 == n)).map (·.2)).getD [])
        else s.sendFlit p left 1 0 []
      | [] => s.sendTraffic p left

/-- FLIT_TRANSMIT: the next flit time of a port, with so many flit times of the slot left, this one among them (R586). -/
def State.flitTransmit (s : State) (p left : Nat) : State :=
  if 14 ≤ p || left = 0 || s.flitsLeft p < left || !s.flag .CLK_STATUS_FAB_REF_OK then s
  else if s.domState (domPort p) != 3 then s.wake (domPort p)
  else
    match s.portState p with
    | 4 => s.sendFlit p left 3 0 (match (s.port p).os with
        | b :: _ => b
        | [] => s.echoBody false (s.timer (s.offsetAt p left)) 0) |>.modPort p (fun r => { r with os := r.os.drop 1 })
    | 5 => s.sendFlit p left 3 0 (s.hailBody p)
    | 6 => s.sendFlit p left 3 0 (creditBody p)
    | 7 | 8 => (s.twinFeed p).flitUp p left
    | _ => s

def execFlitTransmit (p left : Nat) (s : State) : Host.Outcome State Fault Refusal := .next (s.flitTransmit p left)

/-! ### Receiving a flit (R565, R616, R617) -/

/-- A flit that is discarded: the first one after an accepted flit is answered by REPLAY in the next flit time (R617). -/
def State.discardFlit (s : State) (p : Nat) : State :=
  if (s.port p).discarding || !s.portUp p then s
  else s.modPort p (fun r => { r with discarding := true, os := s.replayBody p :: r.os })

/-- A flit whose codeword or CRC is bad (R565, R570, R617; Table 15-7): stream bytes of the slot that no FSEQ numbers are
lost with it, and the next group's count is taken from the wire. -/
def State.badFlit (s : State) (p : Nat) : State :=
  let s := s.modPort p (fun r => { r with cutE2e := true, rxE2e := [], slotE2e := s.get .FAB_SYNC_SLOT, resync := true })
  if s.portUp p then (s.fabViolation p 7 []).discardFlit p else s

/-- The flit FSEQ before a number. -/
def fseqPrev (n : Nat) : Nat := if n = 1 then 4095 else n - 1

/-- The ACK of a flit (R616): the flits it covers leave the replay buffer; one that names nothing sent is a violation. -/
def State.takeAck (s : State) (p ack : Nat) : State :=
  let r := s.port p
  if ack = 0 then s
  else if r.unacked.any (fun e => e.1 == ack) then
    let rest := (r.unacked.dropWhile (fun e => e.1 != ack)).drop 1
    let still (n : Nat) : Bool := rest.any (fun e => e.1 == n)
    (s.modPort p (fun r => { r with
      unacked := rest, replay := r.replay.filter still
      retry := match r.retry with | some n => if still n then some n else none | none => none })).put .FAB_PORT_RETRY_EXHAUSTED p 0
  else if ack = fseqPrev ((r.unacked.head?.map (·.1)).getD r.fseq) then s
  else s.fabViolation p 3 []

/-- Credits returned by a flit (R576); those beyond what was advertised are ignored. -/
def State.takeCredits (s : State) (p vc n : Nat) : State :=
  if n = 0 then s
  else
    let r := s.port p
    let top := kgetD r.credMax vc 0
    let have_ := kgetD r.credits vc 0 + n
    let s := s.modPort p (fun r => { r with credits := kput vc (min have_ top) r.credits })
    if top < have_ then s.fabViolation p 2 [] else s

/-- The stream bytes of an accepted flit (R567, R569, R615): a new slot begins a new stream, and a group cut off by it
counts; kind 2 is a replayed flit. -/
def State.takeBody (s : State) (p kind slot : Nat) (e2e : Bool) (body : List Byte) : State :=
  let r := s.port p
  let fresh := if e2e then slot != r.slotE2e else kind == 0 && slot != r.slotHop
  let s := if !fresh then s
    else s.modPort p (fun r =>
      if e2e then { r with rxGroup := if r.rxE2e = [] then r.rxGroup else r.rxGroup + 1, rxE2e := [], cutE2e := false, slotE2e := slot }
      else { r with rxGroup := if r.rxHop = [] then r.rxGroup else r.rxGroup + 1, rxHop := [], cutHop := false, slotHop := slot })
  let r := s.port p
  if (if e2e then r.cutE2e else r.cutHop) then s
  else
    let s := s.modPort p (fun r => if e2e then { r with rxE2e := r.rxE2e ++ body } else { r with rxHop := r.rxHop ++ body })
    State.parseStream p e2e (if kind = 0 then some slot else none) 64 s

/-- A stream flit: discarded while the port carries no packets; a HOP flit only in order (R615, R617). -/
def State.takeStream (s : State) (p : Nat) (b : List Byte) : State :=
  let w := leAt b 0 8
  let fseq := bits w 16 12
  let body := slice b 8 244
  if s.portState p = 8 then s
  else if !s.carries p then s.fabViolation p 5 body
  else if fseq = 0 then (s.takeBody p (bits w 12 2) (bits w 0 12) true body).modPort p (fun r => { r with discarding := false })
  else if fseq != (s.port p).rxFseq % 4095 + 1 then s.discardFlit p
  else (s.modPort p (fun r => { r with rxFseq := fseq, discarding := false })).takeBody p (bits w 12 2) (bits w 0 12) false body

/-- FLIT_RECEIVE: a codeword's decoding, none where it is uncorrectable, otherwise the symbols corrected, and its 256
bytes (R564, R565, R616, R617). An ordered set's body is acted on by its own command. -/
def State.flitReceive (s : State) (p : Nat) (corrected : Option Nat) (b : List Byte) : State :=
  let st := s.portState p
  if 14 ≤ p || st < 3 || 8 < st then s
  else if s.domState (domPort p) != 3 then s.wake (domPort p)
  else
    match corrected with
    | none =>
      let s := (s.bump .FAB_PORT_ERR_UNCORR p).modPort p (fun r => { r with badRun := r.badRun + 1 })
      if st < 7 && 8 ≤ (s.port p).badRun then (s.modPort p (fun _ => {})).setPortState p 1 else s.badFlit p
    | some n =>
      let s := (if n = 0 then s else s.bump .FAB_PORT_FEC_CORRECTED p n).modPort p (fun r => { r with badRun := 0 })
      let s := if 12 ≤ p then s.modTwin (fun t => { t with flit := s.get .CLK_TICK_TICK }) else s
      if leAt b 0xFC 4 != crc32 (slice b 0 0xFC) then (s.bump .FAB_PORT_ERR_FCRC_FAILS p).badFlit p
      else if st < 7 then s
      else
        let w := leAt b 0 8
        let s := (s.takeAck p (bits w 28 12)).takeCredits p (bits w 40 4) (bits w 44 12)
        match bits w 12 2 with
        | 0 | 2 => s.takeStream p b
        | _ => s

def execFlitReceive (p : Nat) (corrected : Option Nat) (bytes : List Byte) (s : State) : Host.Outcome State Fault Refusal :=
  .next (s.flitReceive p corrected bytes)

/-! ### Training (R570, R571) -/

/-- The state of a port after LINKUP and its counters start anew (R441, R442; Table 14-4). -/
def State.portComesUp (s : State) (p : Nat) : State :=
  if s.get .FAB_PORT_STAT_LINKUP p = 65535 then (s.put .CRY_STAT_LINKUP_EXHAUSTED 0 1).enterPortQuarantine p 6
  else
    let s := s.modPort p (fun r => { violTicks := r.violTicks, hail := r.hail, credits := r.credits, credMax := r.credMax, echoes := r.echoes })
    let s := (s.put .FAB_PORT_STAT_LINKUP p (s.get .FAB_PORT_STAT_LINKUP p + 1)).setPortState p 7
    if 12 ≤ p then s.twinUp else s

/-- FAB_TRAIN_ADVANCE: the state in progress completes its action; rev and pol are what ALIGN found (R563, Table 14-4). -/
def State.trainAdvance (s : State) (p : Nat) (rev : Bool) (pol : Nat) : State :=
  let r := s.port p
  if 14 ≤ p then s
  else if s.domState (domPort p) != 3 then s.wake (domPort p)
  else
    match s.portState p with
    | 1 => s.setPortState p 2
    | 2 => s.setPortState p 3
    | 3 => ((((s.put .FAB_PORT_STAT_HALF p (b2n (s.half p))).put .FAB_PORT_STAT_REVERSED p (b2n rev)).put .FAB_PORT_STAT_POL p pol).modPort p
        (fun r => { r with echoes := [], hail := none, creditGot := false })).setPortState p 4
    | 4 => if r.echoes.length < 64 then s else (s.put .FAB_PORT_DELAY_DELAY p (r.echoes.sum / 128)).setPortState p 5
    | 5 => if r.hail.isSome then s.setPortState p 6 else s
    | 6 => if r.creditGot then s.portComesUp p else s
    | _ => s

def execFabTrainAdvance (p : Nat) (rev : Bool) (pol : Nat) (s : State) : Host.Outcome State Fault Refusal := .next (s.trainAdvance p rev pol)

/-- FAB_TRAIN_TIMEOUT: the limit of the state in progress passes; the port is in DETECT again (R570). -/
def execFabTrainTimeout (p : Nat) (s : State) : Host.Outcome State Fault Refusal :=
  .next (if p < 14 && 1 ≤ s.portState p && s.portState p ≤ 6 then
    (s.modPort p (fun r => { violTicks := r.violTicks, badRun := 0 })).setPortState p 1 else s)

/-! ### A port lost or released (R628, R632, R646) -/

/-- A chunk goes out again whole with its SEQs and RESEND (R599, R632). -/
def State.resendChunk (s : State) (k slot : Nat) (c : Coll) (t : TxChunk) (counts : Bool) : State :=
  if counts && 8 ≤ t.tries then s.collAbort k slot 2
  else
    let due := t.pkts.filter (fun q => !s.fab.held.any (fun h => decide ({ h.pkt with resend := false } = q)))
    let s := s.modFab (fun f => { f with held := f.held ++ due.map (fun q => { pkt := { q with resend := true } }) })
    (s.modTx k slot t.chunk t.phase (fun t => { t with tries := if counts then t.tries + 1 else t.tries, notReady := false })).bump .FAB_PRECOV_RESENDS c.part

/-- Collectives when a port is lost: those without a usable port abort; chunks that could use it go out again (R632, R634). -/
def State.collPortLost (s : State) (p : Nat) : State :=
  s.seqs.foldl (fun s q => q.2.colls.foldl (fun s e =>
    let c := e.2
    if c.state != 2 || c.n ≤ 1 then s
    else if s.noRoute (s.collPkt q.1 c c.succ 0x10 0) then s.collAbort q.1 e.1 1
    else
      let m := s.routeEnt c.part c.flow c.succ
      if bit m.1 p || bit m.2 p then (c.tx.filter (·.sent)).foldl (fun s t => s.resendChunk q.1 e.1 c t true) s else s) s) s

/-- A port is no longer usable: flows fail over, collectives recover, packets without a route leave (R629, R631, R632). -/
def State.portLost (s : State) (p : Nat) : State := ((s.failover p).collPortLost p).settleAll

/-- LINK_DOWN_DECLARE: cause 1 retries, 2 no ACK, 3 nothing received (R627, R628). -/
def State.linkDown (s : State) (p cause : Nat) : State :=
  let ok := match cause with
    | 1 => s.get .FAB_PORT_RETRY_EXHAUSTED p == 8
    | 2 => (s.port p).unacked != []
    | 3 => true
    | _ => false
  if 14 ≤ p || !(s.portUp p || s.portState p == 8) || !ok then s
  else
    let s := (s.bump .FAB_PORT_RETRY_DOWNS p).put .FAB_PORT_RETRY_DOWN_CAUSE p cause
    let s := (s.fabPortReset p 13).raise { s.mkFault 0x09 0x04 none with port := p }
    s.portLost p

def execLinkDownDeclare (p cause : Nat) (s : State) : Host.Outcome State Fault Refusal := .next (s.linkDown p cause)

/-- RST_REQ_FAB_PORT: bits 16 + p of RST_REQ written as 1 start fabric port resets (R74). -/
def State.rstFabPorts (s : State) (mask : Nat) : State :=
  (List.range 14).foldl (fun s p =>
    if bit mask p && !bit s.pilot.portReset p && s.pilot.phase != .off && s.pilot.phase != .pilot && !s.pilot.starting then
      ((s.setBit .RST_REQ_FAB_PORT 0 p).fabPortReset p 14).portLost p
    else s) s

def execRstReqFabPort (mask : Nat) (s : State) : Host.Outcome State Fault Refusal := .next (s.rstFabPorts mask)

/-- FABRIC_PORT_RESET_DONE: the port's link-state fields return to their reset values, the scope is reported, and the port
trains (R75, R76). -/
def State.portResetDone (s : State) (p : Nat) : State :=
  if !bit s.pilot.portReset p || 14 ≤ p then s
  else
    let cause := (s.port p).cause
    let s := [Fld.FAB_PORT_STAT_HALF, .FAB_PORT_STAT_REVERSED, .FAB_PORT_STAT_POL, .FAB_PORT_STAT_NEIGH, .FAB_PORT_STAT_NEIGH_PORT,
      .FAB_PORT_DELAY_DELAY, .FAB_PORT_RETRY_EXHAUSTED, .FAB_PORT_QUAR_CAUSE].foldl (fun s f => s.put f p 0) s
    let s := (s.modPort p (fun r => { violTicks := r.violTicks })).modPilot (fun r => { r with portReset := r.portReset - 2 ^ p })
    let s := ((s.clrBit .RST_REQ_FAB_PORT 0 p).put .RST_STATUS_LAST_SCOPE 0 7).put .RST_STATUS_LAST_CAUSE 0 cause
    (s.ember' 2 7 cause none p).trainStart p

def execFabricPortResetDone (p : Nat) (s : State) : Host.Outcome State Fault Refusal := .next (s.portResetDone p)

/-! ### HAIL (R644 to R646) -/

/-- The causes of Table 15-6 that a HAIL shows, as CAUSE bits. -/
def State.hailCauses (s : State) (p : Nat) (b : List Byte) : List Nat :=
  let w := leAt b 0 4
  let plan := s.com.portPlan p
  let key := ((s.linkKey? p).map (·.1)).getD 0
  let k2 := leAt b 0x0C 4
  (if p < 12 && (bits w 8 8 != plan.neigh || bits w 16 4 != plan.neighPort) || (12 ≤ p && s.com.twin?.any (fun t => t.twin != bits w 8 8)) then [0] else []) ++
    (if leAt b 0x10 8 != s.com.img.domainDigest % 2 ^ 64 then [1] else []) ++
    (if leAt b 8 4 != s.get .KIM_EPOCH_EPOCH then [2] else []) ++
    (if leAt b 6 2 != s.get .PART_FWU_VER_RUN_MAJOR then [3] else []) ++
    (if key != 0 && k2 != 0 && key != k2 then [4] else [])

/-- HAIL arrives at a port: shown, and compared where both sides are committed. -/
def State.hailIn (s : State) (p : Nat) (b : List Byte) : State :=
  let w := leAt b 0 4
  if 14 ≤ p || s.portState p < 5 || 8 < s.portState p || bits w 0 8 != 1 then s
  else
    let img := bits w 20 2
    let s := (s.put .FAB_PORT_STAT_NEIGH p (bits w 8 8)).put .FAB_PORT_STAT_NEIGH_PORT p (bits w 16 4)
    let s := s.modPort p (fun r => { r with hail := some (img, leAt b 8 4, leAt b 0x10 8, leAt b 0x0C 4, leAt b 6 2) })
    if s.com.base.isNone || img != 2 then s
    else
      match s.hailCauses p b with
      | [] =>
        if s.portState p = 8 && s.get .FAB_PORT_QUAR_CAUSE p < 32 then s.fabPortReset p 14
        else s
      | cs =>
        let up := s.portUp p
        let s := cs.foldl (fun s c => s.enterPortQuarantine p c) s
        if up then s.portLost p else s

def execFabHail (p : Nat) (body : List Byte) (s : State) : Host.Outcome State Fault Refusal := .next (s.hailIn p body)

/-! ### SYNC (R590 to R592) -/

/-- The parent among the ports with an accepted SYNC: the fewest HOPS, then the lowest port (R591). -/
def State.parent? (s : State) : Option Nat :=
  ((List.range 14).filter (fun p => s.portUp p && (s.port p).syncHops.isSome)).foldl (fun b p => match b with
    | none => some p
    | some q => if ((s.port p).syncHops.getD 0) < ((s.port q).syncHops.getD 0) then some p else b) none

/-- FAB_SYNC.STATE changes; the fence follows (R650). -/
def State.setSync (s : State) (st : Nat) : State := (s.put .FAB_SYNC_STATE 0 st).fenceSettle

/-- The timer stepped to a time in 0.8 ns units (Table 14-10). -/
def State.stepTimer (s : State) (t slotLen : Nat) : State :=
  let n := if slotLen = 0 then 320 else slotLen
  ((s.put .FAB_CADENCE_CADENCE 0 (t / n / 4096)).put .FAB_SYNC_SLOT 0 (t / n % 4096)).modFab (fun f => { f with slotLen := n, left := [] })

/-- SYNC arrives off units into this device's own slot (R591, R592, Table 14-10). -/
def State.syncIn (s : State) (p off : Nat) (b : List Byte) : State :=
  let w := leAt b 0 4
  if 14 ≤ p || !s.portUp p || bits w 0 8 != 2 || bits w 20 2 < 2 then s
  else
    let s := s.modPort p (fun r => { r with syncHops := some (bits w 24 8) })
    if s.get .FAB_SYNC_STATE = 3 || s.parent? != some p then s
    else
      let len := bits (leAt b 0x10 8) 0 12
      let v := leAt b 4 4
      let there := (leAt b 8 8 * 4096 + bits v 0 12) * len + bits v 12 12 + s.get .FAB_PORT_DELAY_DELAY p
      let err : Int := (s.timer off : Int) - there
      let mag := err.natAbs
      let s := (s.put .FAB_SYNC_PARENT 0 p).put .FAB_SYNC_HOPS 0 (bits w 24 8 + 1)
      let s := if mag < 32768 then s.put .FAB_SYNC_ERR 0 (wrap 16 err) else let r := s.draw 16; r.2.put .FAB_SYNC_ERR 0 r.1
      let step (s : State) : State := ((s.modFab (fun f => { f with lock := 0 })).setSync 1).stepTimer there len
      match s.get .FAB_SYNC_STATE with
      | 0 => step s
      | 1 =>
        if 80 < mag then step s
        else if 10 < mag then s.modFab (fun f => { f with lock := 0 })
        else if 3 ≤ s.fab.lock then (s.modFab (fun f => { f with lock := 0 })).setSync 2
        else s.modFab (fun f => { f with lock := f.lock + 1 })
      | _ => if 80 < mag then step s else s

def execFabSync (p off : Nat) (body : List Byte) (s : State) : Host.Outcome State Fault Refusal := .next (s.syncIn p off body)

/-- SYNC_LOST: no SYNC accepted from any parent for 2 cadence periods (Table 14-10). -/
def execSyncLost (s : State) : Host.Outcome State Fault Refusal :=
  .next <|
    if s.get .FAB_SYNC_STATE = 1 || s.get .FAB_SYNC_STATE = 2 then
      let s := (List.range 14).foldl (fun s p => if (s.port p).syncHops.isSome then s.modPort p (fun r => { r with syncHops := none }) else s) s
      ((s.bump .FAB_SYNC_SYNC_LOST).raise (s.mkFault 0x09 0x03 none)).setSync 0
    else s

/-! ### ECHO, CREDIT, REPLAY and retries -/

/-- ECHO: a request is answered hold units later, an answer gives one delay (R591). -/
def execFabEcho (p hold off : Nat) (body : List Byte) (s : State) : Host.Outcome State Fault Refusal :=
  .next <|
    let w := leAt body 0 4
    let now := s.timer off
    if 14 ≤ p || s.portState p < 4 || 8 < s.portState p || bits w 0 8 != 3 then s
    else if bit w 16 then
      (if s.portState p = 4 && (s.port p).echoes.length < 64 then s.modPort p (fun r => { r with echoes := r.echoes ++ [now - leAt body 0x10 8] }) else s)
    else s.modPort p (fun r => { r with os := r.os ++ [s.echoBody true (now + hold) (leAt body 8 8 + hold)] })

/-- CREDIT: the neighbour's initial credits (R577). -/
def execFabCredit (p : Nat) (body : List Byte) (s : State) : Host.Outcome State Fault Refusal :=
  .next <|
    if 14 ≤ p || !(s.portState p = 5 || s.portState p = 6) || leAt body 0 1 != 5 then s
    else
      let cs := ((List.range 12).filter (vcOk p)).map (fun v => (v, leAt body (4 + 2 * v) 2))
      s.modPort p (fun r => { r with credits := cs, credMax := cs, creditGot := true })

/-- A retry starts from an unacknowledged flit (R618). -/
def State.startRetry (s : State) (p n : Nat) : State :=
  let r := s.port p
  (s.modPort p (fun r => { r with retry := some n, replay := (r.unacked.dropWhile (fun e => e.1 != n)).map (·.1) })).bump
    .FAB_PORT_RETRY_REPLAYS p (if r.unacked = [] then 0 else 1)

/-- REPLAY: a retry from FROM, which must name an unacknowledged flit (R618, Table 15-7). -/
def execFabReplay (p : Nat) (body : List Byte) (s : State) : Host.Outcome State Fault Refusal :=
  .next <|
    let n := bits (leAt body 4 4) 0 12
    if 14 ≤ p || !s.portUp p || leAt body 0 1 != 4 then s
    else if (s.port p).unacked.any (fun e => e.1 == n) then s.startRetry p n
    else if n = (s.port p).fseq then s
    else s.fabViolation p 3 []

/-- REPLAY_TIMEOUT: the oldest unacknowledged flit has stayed for REPLAY_TO (R618). -/
def execReplayTimeout (p : Nat) (s : State) : Host.Outcome State Fault Refusal :=
  .next <|
    match (s.port p).unacked with
    | e :: _ => if p < 14 && s.portUp p && (s.port p).retry.isNone then s.startRetry p e.1 else s
    | [] => s

/-- RETRY_EXHAUSTED: no ACK covered the retried flit within REPLAY_TO of its last replayed flit (R619). -/
def execRetryExhausted (p : Nat) (s : State) : Host.Outcome State Fault Refusal :=
  .next <|
    if p < 14 && s.portUp p && (s.port p).retry.isSome && (s.port p).replay == [] then
      (s.modPort p (fun r => { r with retry := none })).put .FAB_PORT_RETRY_EXHAUSTED p (min 8 (s.get .FAB_PORT_RETRY_EXHAUSTED p + 1))
    else s

/-- TX_HELD: the packet at place k of those held has waited a full cadence; it counts once (R587). -/
def execTxHeld (k : Nat) (s : State) : Host.Outcome State Fault Refusal :=
  .next <|
    match s.fab.held[k]? with
    | some h =>
      if h.counted then s
      else
        let s := s.modFab (fun f => { f with held := f.held.set k { h with counted := true } })
        let s := match s.routePorts h.pkt.part h.pkt.flow h.pkt.dd (h.pkt.opcode == 0x28) with
          | q :: _ => s.bump .FAB_PORT_VIOL_TX_HELD q
          | [] => s
        s.bump .FAB_PVIOL_COUNT (qi h.pkt.part h.pkt.flow)
    | none => s

/-! ### End-to-end copies (R623 to R626) -/

/-- An E2E_ACK covers a retained packet (Table 15-2). -/
def ackCovers (cum map_ seq : Nat) : Bool :=
  let back := (cum + 2 ^ 16 - seq) % 2 ^ 16
  (1 ≤ back && back ≤ 32768) || (let up := (seq + 2 ^ 16 - cum) % 2 ^ 16; 1 ≤ up && up ≤ 48 && bit map_ (up - 1))

/-- Retained copies that meet a condition leave, with the resends of them that wait. -/
def State.unretain (s : State) (c : Pkt → Bool) : State :=
  (s.modFab (fun f => { f with retained := f.retained.filter (fun r => !c r.pkt), held := f.held.filter (fun h => !(h.resend && c h.pkt)) })).retainSettle

/-- E2E_ACK: the copies it covers are freed, and the exit goes on. -/
def execE2eAck (p : Pkt) (s : State) : Host.Outcome State Fault Refusal :=
  .next <|
    if p.opcode != 0x20 || p.cls != 1 || p.dd != s.self then s
    else (s.unretain (fun q => q.part == p.part && q.flow == p.flow && q.dd == p.sd && ackCovers (bits p.arg 0 16) (bits p.arg 16 48) q.seq)).pumpExit

/-- Two packets of one message of a node. -/
def sameMsg (p q : Pkt) : Bool := p.src == q.src && p.part == q.part && p.mtag == q.mtag && p.dd == q.dd && p.cls != 1 && q.cls != 1

/-- A retained packet's message fails (R624, R626): its copies leave and its FAB record carries the reason. -/
def State.failRetained (s : State) (p : Pkt) (code reason : Nat) : State :=
  let s := (s.unretain (fun q => q == p || sameMsg q p)).bump .FAB_PRECOV_FAILED p.part
  if (s.send? p.src p.mtag).isSome && p.cls != 1 then s.failSendFab p.src p.mtag code reason p
  else (s.raise { s.mkFault 0x09 code (some p.part) with
    tx := p.stx, ty := p.sty, info0 := p.head0, info1 := p.head1 % 2 ^ 56 + reason * 2 ^ 56 }).bump .MSG_ERR_FAILED p.part

/-- A retained packet is resent, or after eight resends exhausted (R624). -/
def State.resendRetained (s : State) (r : Retained) : State :=
  if 8 ≤ r.tries then
    let s := s.failRetained r.pkt 0x07 0
    if r.pkt.opcode = 0x01 || r.pkt.opcode = 0x02 then s.sendPkt { r.pkt with opcode := 0x06, cls := 0, data := [], land := 0, fence := false, last := false, poison := false, ctr := 0, arg := r.pkt.mtag } else s
  else
    (s.modFab (fun f => { f with
      retained := f.retained.map (fun q => if q.pkt = r.pkt then { q with tries := q.tries + 1, due := false } else q)
      held := f.held ++ [{ pkt := { r.pkt with resend := true }, resend := true }] })).bump .FAB_PRECOV_RESENDS r.pkt.part

/-- E2E_RESEND: the resend time of the copy at place k has passed; it does not run while the device is fenced (R624, R662). -/
def execE2eResend (k : Nat) (s : State) : Host.Outcome State Fault Refusal :=
  .next <|
    match s.fab.retained[k]? with
    | some r =>
      if s.fenceCause != 0 || r.port.isNone || s.fab.held.any (fun h => h.resend && decide (h.pkt = { r.pkt with resend := true })) then s
      else s.resendRetained r
    | none => s

/-! ### NACK (R241, R599, R625, R626) -/

/-- A NACK acts by its reason (Table 14-7). -/
def State.nacked (s : State) (p : Pkt) : State :=
  let n := p.node
  let copy (q : Pkt) : Bool := q.src == n && q.mtag == p.mtag && q.dd == p.sd && q.part == p.part && q.cls != 1
  match p.reason with
  | 1 => s.failSend n p.mtag 0x04
  | 2 => s.failSend n p.mtag 0x05
  | 3 => s.failSend n p.mtag 0x01
  | 7 =>
    if isSeq n then
      match s.collSlot? (nodeY n) p.part p.mtag with
      | some (slot, _) => s.modColl (nodeY n) slot (fun c => { c with tx := c.tx.map (fun t => if t.sent then { t with notReady := true } else t) })
      | none => s
    else s
  | 8 =>
    match s.fab.retained.find? (fun r => r.pkt.seq == p.seq && r.pkt.dd == p.sd && r.pkt.part == p.part && r.pkt.flow == p.flow) with
    | some r => s.resendRetained r
    | none => s
  | _ =>
    let code := if p.reason = 4 then 0x01 else 0x06
    match s.fab.retained.find? (fun r => copy r.pkt) with
    | some r => s.failRetained r.pkt code p.reason
    | none => if (s.send? n p.mtag).isSome then s.failSendFab n p.mtag code p.reason p else s

def execMeshNack (p : Pkt) (s : State) : Host.Outcome State Fault Refusal :=
  .next (if p.reason = 0 || 8 < p.reason then s else (s.arrive p 0x05 (fun s => s.nacked p)).settleAll)

/-! ### MGMT (R649, R655) -/

/-- MGMT: a packet reaches the inbound queue of a LANTERN core; full where the queue has no room. -/
def execFabMgmt (p : Pkt) (full : Bool) (s : State) : Host.Outcome State Fault Refusal :=
  .next <|
    if p.opcode != 0x28 || p.cls != 5 || p.dd != s.self || s.pilot.internalUe then s
    else if !isCore p.node then s.refuse 0x01 p
    else if full then s.bump .FAB_RECOV_MGMT_DROPS
    else s.needs domLantern (fun s => s.modCore (nodeY p.node) (fun c => { c with inq := c.inq ++ [p] }))

/-! ### Collectives -/

/-- COLLECTIVE_START: a descriptor's DATA packet lands at a sequencer that granted it (R595). -/
def State.collectiveStart (s : State) (p : Pkt) : State :=
  match s.grant? p with
  | some g => if p.data.length = 64 ∧ p.land = 0 then ((s.countData p g).collStart (nodeY p.node) p).settleAll else s.dropPkt 0x06 p
  | none => s.dropPkt 0x06 p

def execCollectiveStart (p : Pkt) (s : State) : Host.Outcome State Fault Refusal :=
  .next (if isSeq p.node then s.arrive p 0x01 (fun s => s.collectiveStart p) else s)

/-- CHUNK and PHASE of a collective packet's ARG (Table 14-6). -/
def pktChunk (p : Pkt) : Nat := bits p.arg 16 32
def pktPhase (p : Pkt) : Nat := bits p.arg 48 1

/-- The answer that a chunk has been received whole (R598). -/
def State.collAckSend (s : State) (k : Nat) (c : Coll) (chunk phase : Nat) : State :=
  s.sendPkt (s.collPkt k c c.pred 0x11 (c.id + chunk % 2 ^ 32 * 2 ^ 16 + phase * 2 ^ 48))

/-- A packet of a chunk lands in a receive buffer; one whose SEQ is there already is dropped (R598, R632, R633, R654). -/
def State.chunkPkt (s : State) (k slot : Nat) (c : Coll) (p : Pkt) : State :=
  let ch := (pktChunk p)
  let ph := (pktPhase p)
  if p.sd != c.pred || !c.receives ch ph then s
  else if c.got.contains (ch, ph) then (s.bump .FAB_PRECOV_DUPS c.part).collAckSend k c ch ph
  else
    let s := if p.backup then s.modColl k slot (fun c => { c with degraded := true }) else s
    let land (r : RxChunk) : RxChunk := { r with parts := kput p.land (p.data, p.poison) r.parts, seqs := p.seq :: r.seqs }
    match c.rx.find? (fun r => r.chunk == ch && r.phase == ph) with
    | some r =>
      if r.seqs.contains p.seq then s.bump .FAB_PRECOV_DUPS c.part
      else s.modColl k slot (fun c => { c with rx := c.rx.map (fun q => if q = r then land q else q) })
    | none => if 2 ≤ c.rx.length then s else s.modColl k slot (fun c => { c with rx := c.rx ++ [land { chunk := ch, phase := ph }] })

/-- COLL_DATA: for a collective that runs here, or answered COLL_NOT_READY (R596, R599, R636). -/
def State.collDataIn (s : State) (p : Pkt) : State :=
  let k := nodeY p.node
  match s.collSlot? k p.part p.mtag with
  | some (slot, c) =>
    if c.state = 2 then (if c.status.isSome then s else (s.chunkPkt k slot c p).settleAll)
    else if c.state = 3 then s
    else s.sendPkt (s.reply p 0x05 (p.mtag + 0x07 * 2 ^ 16))
  | none =>
    let q := s.seq k
    if q.barred.any (fun e => e.1 == p.part && e.2.1 == p.mtag) || q.early.any (fun e => e.1 == p.part && e.2.1 == p.mtag) then s
    else s.sendPkt (s.reply p 0x05 (p.mtag + 0x07 * 2 ^ 16))

def execCollData (p : Pkt) (s : State) : Host.Outcome State Fault Refusal :=
  .next (if isSeq p.node then s.arrive p 0x10 (fun s => s.collDataIn p) else s)

/-- COLL_ACK: the chunk leaves its retain buffer once its result is written, and a credit returns (R598, R654). -/
def State.collAckIn (s : State) (p : Pkt) : State :=
  let k := nodeY p.node
  match s.collSlot? k p.part p.mtag with
  | some (slot, c) =>
    if c.state = 2 && c.status.isNone && p.sd == c.succ && c.tx.any (fun t => t.chunk == (pktChunk p) && t.phase == (pktPhase p) && t.sent) then
      let s := s.modTx k slot (pktChunk p) (pktPhase p) (fun t => { t with sent := false })
      let s := s.modColl k slot (fun c => { c.mark (pktChunk p) (pktPhase p) with credits := c.credits + 1 })
      (if p.backup then s.modColl k slot (fun c => { c with degraded := true }) else s).settleAll
    else s
  | none => s

def execCollAck (p : Pkt) (s : State) : Host.Outcome State Fault Refusal :=
  .next (if isSeq p.node then s.arrive p 0x11 (fun s => s.collAckIn p) else s)

/-- COLL_ABORT: the first one ends the collective here and goes on to both neighbours; later ones lower the value until
the record is sent; one for a collective not started is kept (R635, R636, R660). -/
def State.collAbortIn (s : State) (p : Pkt) : State :=
  let k := nodeY p.node
  let commit := bits p.arg 16 32
  match s.collSlot? k p.part p.mtag with
  | some (slot, c) =>
    if c.state = 3 then (if c.mtag.isSome then s else s.modColl k slot (fun c => { c with commit := min c.commit commit }))
    else if c.status.isSome then s
    else (s.collStop k slot (bits p.arg 56 4) (min c.lead commit) (bits p.arg 48 8) (fun c => if c.ringDevs = [] then [] else [c.succ, c.pred])).settleAll
  | none =>
    if (s.seq k).barred.any (fun e => e.1 == p.part && e.2.1 == p.mtag) then s
    else s.modSeq k (fun q =>
      let old := q.early.find? (fun e => e.1 == p.part && e.2.1 == p.mtag)
      { q with early := (p.part, p.mtag, match old with | some e => min e.2.2.1 commit | none => commit, 4) ::
          q.early.filter (fun e => !(e.1 == p.part && e.2.1 == p.mtag)) })

def execCollAbort (p : Pkt) (s : State) : Host.Outcome State Fault Refusal :=
  .next (if isSeq p.node then s.arrive p 0x12 (fun s => s.collAbortIn p) else s)

/-- A sent chunk of a slot, by its number and phase. -/
def Coll.sentChunk? (c : Coll) (chunk phase : Nat) : Option TxChunk := c.tx.find? (fun t => t.chunk == chunk && t.phase == phase && t.sent)

/-- CHUNK_RESEND: a chunk has gone RESEND time without COLL_ACK (R632). -/
def execChunkResend (k slot chunk phase : Nat) (s : State) : Host.Outcome State Fault Refusal :=
  .next <|
    match s.coll? k slot with
    | some c =>
      match c.sentChunk? chunk phase with
      | some t => if c.state = 2 && c.status.isNone then (s.resendChunk k slot c t true).settleAll else s
      | none => s
    | none => s

/-- COLL_NOT_READY_RESEND: 10 us after NACK COLL_NOT_READY the chunk goes out again (R599). -/
def execCollNotReadyResend (k slot chunk phase : Nat) (s : State) : Host.Outcome State Fault Refusal :=
  .next <|
    match s.coll? k slot with
    | some c =>
      match c.sentChunk? chunk phase with
      | some t => if c.state = 2 && c.status.isNone && t.notReady then s.resendChunk k slot c t false else s
      | none => s
    | none => s

/-- COLLECTIVE_END: a collective whose STATUS is known sends its record; once that message is over its slot frees (R600,
R636). -/
def State.collectiveEnd (s : State) (k slot : Nat) : State :=
  match s.coll? k slot with
  | none => s
  | some c =>
    match c.status, c.mtag with
    | some st, none => s.collNotify k slot c st
    | some _, some m =>
      if (s.send? (nodeKey 61 k) m).isSome then s
      else ((s.modSeq k (fun q => { q with colls := kdel slot q.colls })).seqExamine k).seqRegs k
    | none, _ => s

def execCollectiveEnd (k slot : Nat) (s : State) : Host.Outcome State Fault Refusal := .next (if k < 8 then s.collectiveEnd k slot else s)

/-! ### The slot and the cadence -/

/-- A group cut off by the end of its slot: its packets are held again and its credits return (R569). -/
def State.portSlot (s : State) (p : Nat) : State :=
  let r := s.port p
  if r.txPkts = [] then s
  else
    let vc := s.vcOn (r.txPkts.headD {}) p
    let s := s.modFab (fun f => { f with
      held := if p < 12 then r.txPkts.map (fun h => { h with inPort := none }) ++ f.held else f.held
      twinq := if p < 12 then f.twinq else r.txPkts.map (·.pkt) ++ f.twinq })
    s.modPort p (fun r => { r with
      txHop := [], txE2e := [], txPkts := [], credits := kput vc (kgetD r.credits vc 0 + (r.txPkts.map (fun h => h.pkt.credits)).sum) r.credits })

/-- The fabric at the start of a slot: flit times anew, cut groups held, SYNC and HAIL due when one of their slots has come
since the slot before (R569, R590, R594). -/
def State.fabSlot (s : State) (old new : Nat) : State :=
  let s := (List.range 14).foldl (fun s p => s.portSlot p) (s.modFab (fun f => { f with left := [] }))
  let sync := new = 0 || old / 64 != new / 64
  let hail := old < 2048 && 2048 ≤ new
  if sync || hail then
    s.modFab (fun f => { f with ports := f.ports.map (fun e => (e.1, { e.2 with syncDue := e.2.syncDue || sync, hailDue := e.2.hailDue || hail })) })
  else s

/-- The fabric and the sequencers at a cadence boundary (R602, R637, R660). -/
def State.fabBoundary (s : State) : State :=
  let s := s.modFab (fun f => { f with occLast := f.occNow, occNow := [] })
  { s with seqs := s.seqs.map (fun e => (e.1, { e.2 with
    early := (e.2.early.map (fun a => (a.1, a.2.1, a.2.2.1, a.2.2.2 - 1))).filter (fun a => a.2.2.2 != 0)
    barred := (e.2.barred.map (fun a => (a.1, a.2.1, a.2.2 - 1))).filter (fun a => a.2.2 != 0) })) }

end Sys2Proof.Machine
end

