-- ==== Sys2Proof/Machine/Rekey.lean ====
section
/-! DEFINITION. Re-keying in service, key-encryption keys, and the ciphertext masters: the debug window and the JTAG
memory-access port (R426, R427, R433 to R439, R445, R553, R754). -/
namespace Sys2Proof.Machine

/-! ### The commands (R433, R434, R439) -/

/-- The operands of REKEY_START (Table 10-5). -/
def ActiveCmd.rkRange (c : ActiveCmd) : Nat := bits (c.arg 0x08 4) 0 5
def ActiveCmd.rkOp (c : ActiveCmd) : Nat := bits (c.arg 0x08 4) 5 2
def ActiveCmd.rkWait (c : ActiveCmd) : Bool := bit (c.arg 0x08 4) 7
def ActiveCmd.rkPace (c : ActiveCmd) : Nat := bits (c.arg 0x08 4) 8 8

/-- The plan of range r. -/
def State.rangePlan (s : State) (r : Nat) : KeyRange := nthD s.com.img.ranges r {}

/-- Sectors of range r. -/
def State.rangeSectors (s : State) (r : Nat) : Nat := (s.rangePlan r).size / 4096

/-- PART_MAP grants range r to partition p (Table 3-4). -/
def State.rangeGranted (s : State) (p r : Nat) : Bool :=
  s.com.assigned p && (if r < 16 then bit (s.com.grant p).hbmKd r else bit (s.com.grant p).farKd (r - 16))

/-- PART_MAP grants range r to partition p alone. -/
def State.rangeAlone (s : State) (p r : Nat) : Bool :=
  s.rangeGranted p r && (List.range 64).all (fun q => q == p || !s.rangeGranted q r)

/-- Range r holds a PROVIDER window. -/
def State.rangeProvider (s : State) (r : Nat) : Bool := s.com.img.windows.any (fun w => w.provider && w.keyRange == r)

/-- The state of a range's re-key: 0 IDLE, 1 RUNNING, 2 PAUSED. -/
def State.rkState (s : State) (r : Nat) : Nat := s.get .CRY_KR_RK_STATE r

/-- Four ranges are RUNNING. -/
def State.rkFull (s : State) : Bool := 4 ≤ ((List.range 24).filter (fun r => s.rkState r == 1)).length

/-- RANGE and PERMISSION of R434, if one applies; alone: the grant must be to the partition alone. -/
def State.rkRefused? (s : State) (p r : Nat) (alone : Bool) : Option Nat :=
  if 23 < r || !(s.rangePlan r).valid then some 0x0A
  else if s.pfBound p then none
  else if !(if alone then s.rangeAlone p r else s.rangeGranted p r) || s.rangeProvider r then some 6
  else none

/-- The commands that wait for a range's re-key complete with the sectors re-keyed since they started (R434). -/
def State.rkRelease (s : State) (r reached : Nat) : State :=
  (s.mem.rekeyWaits.filter (fun w => w.range == r)).foldl (fun s w => s.finish w.part w.num 0 (reached - w.start))
    (s.modMem (fun m => { m with rekeyWaits := m.rekeyWaits.filter (fun w => w.range != r) }))

/-- START and RESUME that are accepted: the range runs from a boundary; the command completes now, or waits. -/
def State.rkGo (s : State) (p n : Nat) (c : ActiveCmd) (b : Nat) : State :=
  let r := c.rkRange
  let s := ((s.put .CRY_KR_RK_BOUNDARY r b).put .CRY_KR_RK_STATE r 1).put .CRY_KR_RK_PACE r c.rkPace
  if c.rkWait then
    (s.modCmd p n (fun c => { c with phase := .running })).modMem (fun m => { m with
      rekeyWaits := m.rekeyWaits ++ [{ part := p, num := n, range := r, start := b }] })
  else s.finish p n 0 (s.rangeSectors r - b)

/-- REKEY_START op START (R434, R446). -/
def State.rekeyStart (p n : Nat) (c : ActiveCmd) (s : State) : State :=
  let r := c.rkRange
  if c.rkOp != 0 then s
  else
    match s.rkRefused? p r true with
    | some st => s.finish p n st 0
    | none =>
      if (s.rkeys r).next.isNone || s.rkState r != 0 || s.flag .CRY_KR_RK_HOLD r || s.rkFull then s.finish p n 3 0
      else (s.put .CRY_KR_RK_STARTER r p).rkGo p n c 0

def execRekeyStart (p n : Nat) (s : State) : Host.Outcome State Fault Refusal := .next (s.start (p % 64) n 0x18 (State.rekeyStart (p % 64) n))

/-- REKEY_START op PAUSE; no sector is in transit between two commands (R434). -/
def State.rekeyPause (p n : Nat) (c : ActiveCmd) (s : State) : State :=
  let r := c.rkRange
  if c.rkOp != 1 then s
  else
    match s.rkRefused? p r true with
    | some st => s.finish p n st 0
    | none =>
      if s.rkState r != 1 then s.finish p n 3 0
      else
        let b := s.get .CRY_KR_RK_BOUNDARY r
        ((s.put .CRY_KR_RK_STATE r 2).rkRelease r b).finish p n 0 b

def execRekeyPause (p n : Nat) (s : State) : Host.Outcome State Fault Refusal := .next (s.start (p % 64) n 0x18 (State.rekeyPause (p % 64) n))

/-- REKEY_START op RESUME (R434, R446). -/
def State.rekeyResume (p n : Nat) (c : ActiveCmd) (s : State) : State :=
  let r := c.rkRange
  if c.rkOp != 2 then s
  else
    match s.rkRefused? p r true with
    | some st => s.finish p n st 0
    | none =>
      if s.rkState r != 2 || s.flag .CRY_KR_RK_HOLD r || s.rkFull then s.finish p n 3 0
      else s.rkGo p n c (s.get .CRY_KR_RK_BOUNDARY r)

def execRekeyResume (p n : Nat) (s : State) : Host.Outcome State Fault Refusal := .next (s.start (p % 64) n 0x18 (State.rekeyResume (p % 64) n))

/-- REKEY_STATUS (R439). -/
def State.rekeyStatus (p n : Nat) (c : ActiveCmd) (s : State) : State :=
  match s.rkRefused? p c.rkRange false with
  | some st => s.finish p n st 0
  | none => s.finish p n 0 (s.regWord .CRY_KR_RK c.rkRange)

def execRekeyStatus (p n : Nat) (s : State) : Host.Outcome State Fault Refusal := .next (s.start (p % 64) n 0x19 (State.rekeyStatus (p % 64) n))

/-! ### A transit (R435 to R438, R448, R553) -/

/-- A sector's stored bytes moved from one key to another: blocks from j on (R436). -/
def rekeyBlocks (k1 k2 lbn : Nat) : Nat → List Byte → Nat → List Byte
  | _, _, 0 => []
  | j, bs, n + 1 => xtsBlock true k2 lbn j (xtsBlock false k1 lbn j (slice bs 0 16)) ++ rekeyBlocks k1 k2 lbn (j + 1) (bs.drop 16) n

/-- The re-key of range r has reached its end (R438). -/
def State.rkDone (s : State) (r : Nat) : State :=
  let p := s.get .CRY_KR_RK_STARTER r
  let n := s.rangeSectors r
  let next := (s.rkeys r).next
  let id := (next.map (·.1)).getD 0
  let s := s.modMem (fun m => { m with keys := kput r { cur := next, next := none } m.keys })
  let s := ((s.put .CRY_KR_ID_CUR_ID r id).put .CRY_KR_ID_NEXT_ID r 0).put .CRY_KR_RK_NEXT_VALID r 0
  let s := ((s.put .CRY_KR_RK_STATE r 0).put .CRY_KR_RK_BOUNDARY r 0).put .CRY_KR_RK_DONE r 1
  (s.rkRelease r n).raise { s.mkFault 0x07 0x02 (some p) with sev := 0, addr := some (s.rangePlan r).base, info0 := 256 * r, info1 := id }

/-- One sector moves under NEXT: far holds a far-tier sector's stored bytes as the expander gave them, and bad its lines
that came poisoned. -/
def State.rkSector (s : State) (r waits : Nat) (far : List Byte) (bad : List Nat) (ecc : List EccEvent) : State :=
  let b := s.get .CRY_KR_RK_BOUNDARY r
  let a := (s.rangePlan r).base + 4096 * b
  let lbn := (b + (s.rangePlan r).lbnBase) % 2 ^ 64
  let k1 := ((s.rkeys r).cur.map (·.2)).getD s.mem.bg
  let k2 := ((s.rkeys r).next.map (·.2)).getD s.mem.bg
  let done (s : State) : State :=
    let s := (s.put .CRY_KR_RK_BOUNDARY r (b + 1)).bump .CRY_WAITS_COUNT 0 waits
    if b + 1 = s.rangeSectors r then s.rkDone r else s
  if a < hbmEnd then
    if s.domState (memDom a) != 3 then s.wake (memDom a)
    else
      let s := s.eccRead (ecc.filter (fun e => a ≤ e.line && e.line < a + 4096)) true
      done (s.modMem (fun m => { m with cells := Mem.writeN a (rekeyBlocks k1 k2 lbn 0 (m.cells.readN a 4096) 256) m.cells }))
  else
    match s.dlPortOf? a with
    | none => s
    | some port =>
      let p := s.get .CRY_KR_RK_STARTER r
      if s.dlState port != 3 then
        ((s.put .CRY_KR_RK_STATE r 2).rkRelease r b).dlRecord 0x05 (some p) port a 0
      else
        let new := rekeyBlocks k1 k2 lbn 0 (slice far 0 4096) 256
        let lines := linesOf a 4096
        let s := (lines.filter (fun l => bad.contains l)).foldl (fun s l => (s.bump .DL_PORT_ERR_POISON port).dlRecord 0x02 (some p) port l 0) s
        done (lines.foldl (fun s l => s.emit (.rekeyWrite port l (slice new (l - a) 64) (bad.contains l))) s)

/-- REKEY_TRANSIT: the sector at BOUNDARY of a RUNNING range; waits accesses wait for it (R436). -/
def execRekeyTransit (r waits : Nat) (far : List Byte) (bad : List Nat) (ecc : List EccEvent) (s : State) : Host.Outcome State Fault Refusal :=
  .next (if r < 24 && s.rkState r = 1 then s.rkSector r waits far bad ecc else s)

/-! ### KEKs (R426, R427, Table 10-4) -/

/-- The endpoint is addressed on the bus it is on: the SMBus while no I3C controller has given it an address (R779, Table 18-7). -/
def State.onBus (s : State) : State := if s.get .MGT_STATUS_BUS = 0 then s.put .MGT_STATUS_BUS 0 2 else s

/-- The session is one that may change KEKs. -/
def State.kekEligible (s : State) (x : SpdmSess) : Bool :=
  x.mutAuth && s.fuses.keyHashes.any (fun e => e.2 == x.leafHash && !bit s.fuses.revoked e.1)

/-- A vendor request of Table 10-4: its answer and its effect. -/
def State.kekRequest (s : State) (x : SpdmSess) (b : List Byte) : State :=
  let w := leAt b 0 4
  let op := bits w 0 8
  let slot := bits w 8 2
  let kek := leAt b 4 32
  let answer (s : State) (st : Nat) : State := s.emit (.sideband (leBytes 2 (op + 256 * st)))
  if x.doe then s.emit (.spdm true 0x7F 4 [])
  else if !x.secure then s.onBus.emit (.spdm false 0x7F 4 [])
  else if !s.kekEligible x then answer s.onBus 2
  else if bits w 10 22 != 0 || (op != 1 && op != 2) || (op == 2 && kek != 0) then answer s.onBus 1
  else
    let s := s.onBus.modMem (fun m => { m with keks := if op = 1 then kput slot kek m.keks else kdel slot m.keks })
    answer (if op = 1 then s.setBit .CRY_KEK_KEK_VALID 0 slot else s.clrBit .CRY_KEK_KEK_VALID 0 slot) 0

def execKekSet (x : SpdmSess) (b : List Byte) (s : State) : Host.Outcome State Fault Refusal :=
  .next (if s.flag .RST_STATUS_PILOT_READY && bits (leAt b 0 1) 0 8 != 2 then s.kekRequest x b else s)

def execKekClear (x : SpdmSess) (b : List Byte) (s : State) : Host.Outcome State Fault Refusal :=
  .next (if s.flag .RST_STATUS_PILOT_READY && bits (leAt b 0 1) 0 8 = 2 then s.kekRequest x b else s)

/-! ### Ciphertext masters (R421, R445, R754, Table 13-4) -/

/-- A ciphertext read of n bytes that one 4 KiB page holds. -/
def State.cipherRead (s : State) (jt : Bool) (a n : Nat) : State :=
  if a + n ≤ hbmEnd then
    (if s.domState (memDom a) != 3 then s.wake (memDom a) else s.emit (windowOut jt (s.rawRead a n) (s.anyPoison a n)))
  else
    match s.dlPortOf? a with
    | none => s.emit (windowOut jt (List.replicate n 0xFF#8) false)
    | some p =>
      if s.dlState p != 3 then (s.breach a).emit (windowOut jt (List.replicate n 0xFF#8) true)
      else if 448 ≤ (s.dl.reqs.filter (fun r => r.port == p)).length || s.domState domDownlink != 3 then s.wake domDownlink
      else s.windowNext jt a n [] false

/-- Contiguous runs of enabled bytes from an address: (address, bytes), last first. -/
def byteRuns : Nat → List (Byte × Bool) → List (Nat × List Byte) → List (Nat × List Byte)
  | _, [], acc => acc
  | a, (b, true) :: rest, acc =>
    match acc with
    | (x, bs) :: more => if x + bs.length = a then byteRuns (a + 1) rest ((x, bs ++ [b]) :: more) else byteRuns (a + 1) rest ((a, [b]) :: acc)
    | [] => byteRuns (a + 1) rest [(a, [b])]
  | a, (_, false) :: rest, acc => byteRuns (a + 1) rest acc

/-- A run that lies in the far tier, cut at line boundaries and written. -/
def State.farRuns (s : State) (jt : Bool) (p a : Nat) (bs : List Byte) : State :=
  (lineCuts a bs.length).foldl (fun (s : State) (c : Nat × Nat × Nat × Nat) =>
    (s.dlAccess? p c.1 (.window jt a 0 [] false) none c.2.1 (some (slice bs c.2.2.2 c.2.2.1)) true).getD s) s

/-- A ciphertext write of the enabled bytes from an address that one 4 KiB page holds; a poisoned one marks its lines. -/
def State.cipherWrite (s : State) (jt : Bool) (a : Nat) (bs : List (Byte × Bool)) (poison : Bool) : State :=
  let runs := (byteRuns a bs []).reverse
  if a + bs.length ≤ hbmEnd then
    if s.domState (memDom a) != 3 then s.wake (memDom a)
    else if poison then (runs.flatMap (fun r => linesOf r.1 r.2.length)).foldl (fun s l => s.setPoison l true) s
    else runs.foldl (fun s r => s.rawWrite r.1 r.2) s
  else
    match s.dlPortOf? a with
    | none => s
    | some p =>
      if s.dlState p != 3 || poison then s.breach a
      else if 448 ≤ (s.dl.reqs.filter (fun r => r.port == p)).length || s.domState domDownlink != 3 then s.wake domDownlink
      else runs.foldl (fun s r => s.farRuns jt p r.1 r.2) s

/-- The PF decodes a memory request to its BARs now (Table 12-4, 0x01). -/
def State.pfDecodes (s : State) : Bool := (s.fn 0).memEn && !s.inD3 0 && !s.underFlr 0

/-- The device physical address of an offset of the window. -/
def State.windowAddr (s : State) (off : Nat) : Nat := s.get .MEM_DBGWIN_BASE * 2 ^ 30 + off % 2 ^ 36

/-- DEBUG_WINDOW_READ of n bytes at an offset of PF BAR2/3. -/
def execDebugWindowRead (off n : Nat) (ecc : List EccEvent) (hdr : List Byte) (s : State) : Host.Outcome State Fault Refusal :=
  .next <|
    if !s.flag .HL_STATUS_LINK_UP then s
    else if !s.pfDecodes then (s.violation 0x01 0 hdr true).emit (.hostCompletion 1 [] false)
    else ((s.eccRead ecc).cipherRead false (s.windowAddr off) n)

/-- DEBUG_WINDOW_WRITE of bytes with their enables at an offset of PF BAR2/3. -/
def execDebugWindowWrite (off : Nat) (bs : List (Byte × Bool)) (poison : Bool) (hdr : List Byte) (s : State) : Host.Outcome State Fault Refusal :=
  .next <|
    if !s.flag .HL_STATUS_LINK_UP then s
    else if !s.pfDecodes then s.violation 0x01 0 hdr
    else ((if poison then s.violation 0x03 0 hdr else s).cipherWrite false (s.windowAddr off) bs poison)

/-- JTAG_MEMORY_ACCESS: a read of n bytes, or a write of bytes where wr holds some, at a device physical address (R421, R782). -/
def execJtagMemoryAccess (a n : Nat) (wr : Option (List Byte)) (ecc : List EccEvent) (s : State) : Host.Outcome State Fault Refusal :=
  .next <|
    if s.pilot.phase != .ready then s
    else
      match wr with
      | none => (s.eccRead ecc).cipherRead true a n
      | some bs => s.cipherWrite true a (bs.map (fun b => (b, true))) false

end Sys2Proof.Machine
end

