-- ==== Sys2Proof/Machine/Twin.lean ====
section
/-! DEFINITION. The commands of twin mirroring: pairing, the heartbeat, the mirror stream, restore and the operations of
MIRROR_CTL (ch. 16). -/
namespace Sys2Proof.Machine

/-- A mirror packet of an opcode from the twin, at the mirror engine (R678). -/
def State.fromTwin (s : State) (p : Pkt) (op : Nat) : Bool :=
  p.opcode == op && p.wellFormed && s.com.twin?.any (fun t => t.twin == p.sd) && !s.pilot.internalUe

/-! ### Pairing (R668) -/

/-- The regions that a PAIR lists: (partition, bytes). -/
def pairRegions (b : List Byte) (n : Nat) : List (Nat × Nat) :=
  (List.range n).map (fun r => let w := leAt b (0x20 + 8 * r) 8; (bits w 0 6, bits w 8 16 * 2 ^ 21))

/-- PAIR arrives: acknowledged, and checked while the pair is PAIRING. -/
def State.pairIn (s : State) (p : Pkt) : State :=
  let st := s.get .TWN_STATUS_STATE
  if p.opcode != 0x1B || p.arg != 1 || !p.wellFormed || s.pilot.internalUe || !(st = 1 || st = 2) then s
  else
    let s := s.twinCtl 2 0 []
    if st = 2 then s
    else
      let w := leAt p.data 0 8
      let q : TwinPeer := { rxSize := leAt p.data 8 8, report := leAt p.data 0x10 16, regions := pairRegions p.data (min 32 (bits w 8 8)) }
      if bits w 0 8 != s.self || s.plan.twin != p.sd || s.plan.rxSize < layoutTotal q.regions + 2 ^ 29 then s.mismatch
      else (s.modTwin (fun t => { t with peer := some q })).tryPaired

def execTwinPair (p : Pkt) (s : State) : Host.Outcome State Fault Refusal := .next (s.pairIn p)

/-- PAIR_ACK: this device's PAIR is acknowledged. -/
def execPairAck (p : Pkt) (s : State) : Host.Outcome State Fault Refusal :=
  .next <|
    if s.fromTwin p 0x1B && p.arg = 2 && s.get .TWN_STATUS_STATE = 1 then (s.modTwin (fun t => { t with acked := true })).tryPaired else s

/-- PAIR_RESEND: PAIR again while the pair is PAIRING and a twin port is UP. -/
def execPairResend (s : State) : Host.Outcome State Fault Refusal :=
  .next (if s.get .TWN_STATUS_STATE = 1 && s.twinPortUp then s.sendPair else s)

/-! ### The heartbeat and the loss of the twin (R670, R671) -/

/-- TWIN_HB_OUT driven to a level. -/
def State.driveHb (s : State) (v : Bool) : State :=
  if s.pins.hbOut = v then s else ({ s with pins := { s.pins with hbOut := v } } : State).emit (.pin .twinHbOut v)

/-- HB_TOGGLE: 16 ticks after the last toggle the pin toggles; it is low where one of R670's conditions does not hold. -/
def State.hbToggle (s : State) : State :=
  if s.flag .RST_STATUS_MAIN_READY && s.com.twin?.isSome && !s.ember.fatal then
    let t := s.get .CLK_TICK_TICK
    if s.twin.toggle + 16 ≤ t then (s.modTwin (fun w => { w with toggle := t })).driveHb (!s.pins.hbOut) else s
  else s.driveHb false

def execHbToggle (s : State) : Host.Outcome State Fault Refusal := .next s.hbToggle

/-- HB_EDGE: an edge on TWIN_HB_IN; after LOST, a new PAIR exchange where a twin port is UP (Table 16-1). -/
def State.hbEdge (s : State) : State :=
  let s := (s.put .TWN_STATUS_HB_IN_OK 0 1).modTwin (fun t => { t with edge := s.get .CLK_TICK_TICK })
  if s.get .TWN_STATUS_STATE = 4 && s.twinPortUp then s.pairing else s

def execHbEdge (s : State) : Host.Outcome State Fault Refusal := .next s.hbEdge

/-- HB_TIMEOUT: no edge for 64 ticks: LOST where both twin ports were silent in those ticks, otherwise HB_FAULT once. -/
def State.hbTimeout (s : State) : State :=
  let t := s.get .CLK_TICK_TICK
  if t < s.twin.edge + 64 then s
  else
    let s := s.put .TWN_STATUS_HB_IN_OK 0 0
    if s.get .TWN_STATUS_STATE != 2 then s
    else if s.twin.flit + 64 ≤ t then s.twinLost
    else if s.flag .TWN_STATUS_HB_FAULT then s
    else (s.put .TWN_STATUS_HB_FAULT 0 1).twnFault 7 none 0 0

def execHbTimeout (s : State) : Host.Outcome State Fault Refusal := .next s.hbTimeout

/-- TWIN_LINK_TIMEOUT: no twin port UP for 1 ms while edges go on: LINK_LOST (Table 16-1). -/
def execTwinLinkTimeout (s : State) : Host.Outcome State Fault Refusal :=
  .next <|
    if s.get .TWN_STATUS_STATE = 2 && !s.twinPortUp && s.flag .TWN_STATUS_HB_IN_OK then
      ((s.put .TWN_STATUS_STATE 0 3).twnFault 2 none 0 0).mirrorStops
    else s

/-! ### The mirror stream -/

/-- A restore line of the twin written into the live regions, without capture (R672, R688, R693). -/
def State.restoreData (s : State) (k : Pkt) : State :=
  let p := k.part
  match (s.mirSrc p).restore with
  | none => s
  | some (R, n, x) =>
    let off := bits k.arg 0 40
    let s := s.modSrc p (fun r => { r with
      restore := some (R, (n + 1) % 2 ^ 32, x ^^^ entryCrc off k.land k.data.length k.poison false k.data) })
    let s := s.modTwin (fun t => { t with quiet := true })
    (State.putLines (ownAddr s.ownRegions p) k.poison 33 off k.data s).modTwin (fun t => { t with quiet := false })

/-- MIRROR_DATA: an entry for the journal, or a piece of a restore (R674, Table 16-9). -/
def State.mirrorData (s : State) (p : Pkt) : State :=
  if !s.fromTwin p 0x18 || s.get .TWN_STATUS_STATE != 2 then s
  else if bit p.arg 57 then s.restoreData p
  else s.journalEntry p

def execMirrorData (p : Pkt) (s : State) : Host.Outcome State Fault Refusal := .next (s.mirrorData p)

/-- MIRROR_DIGEST_SEND: the DIGEST of the oldest epoch not yet reported, once its data has left (R682, Table 16-4). -/
def State.digestSend (s : State) (p : Nat) : State :=
  let r := s.mirSrc p
  let e := r.nextDig
  if !s.mirSends p || s.cadence ≤ e || r.queue.any (fun c => c.epoch ≤ e)
    || (s.waitingData p).any (fun k => bits k.arg 40 16 == e % 2 ^ 16) then s
  else
    let d := (r.epochs.find? (fun d => d.epoch == e)).getD { epoch := e, first := r.next }
    let fin := r.catchEnd == some e
    let run := r.catchFrom.any (fun c => c ≤ e) && r.catchEnd.all (fun c => e < c)
    let bs := leBytes 8 e ++ leBytes 8 d.digest ++ leBytes 4 d.count ++ leBytes 4 d.first ++
      leBytes 8 (b2n run + 2 * b2n fin + 4 * b2n r.first)
    (s.modSrc p (fun r => { r with nextDig := e + 1, first := false })).twinSend (s.twinPkt 0x19 p 0 0 bs)

def execMirrorDigestSend (p : Nat) (s : State) : Host.Outcome State Fault Refusal := .next (s.digestSend (p % 64))

/-- MIRROR_DIGEST: an epoch's digest reaches the receiver, which judges it as soon as its entries are held (Table 16-5). -/
def execMirrorDigest (p : Pkt) (s : State) : Host.Outcome State Fault Refusal :=
  .next (if s.fromTwin p 0x19 && s.get .TWN_STATUS_STATE = 2 then s.digestIn (p.part) p.data else s)

/-- MIRROR_DEADLINE: the boundary of E + 2 has passed: own, for the epoch of a source partition whose verdict has not come;
otherwise for the epoch of a copy not judged (R682, R683, R691). -/
def State.mirDeadline (s : State) (p : Nat) (own : Bool) : State :=
  if s.get .TWN_STATUS_STATE != 2 then s
  else if own then
    let r := s.mirSrc p
    if s.mirSends p && r.nextVer + 2 ≤ s.cadence then s.srcFail p r.nextVer 5 else s
  else
    match (s.mirRx p).expect with
    | some e => if e + 2 ≤ s.cadence then State.mirJudge p 8 (s.rxFail p e 5) else s
    | none => s

def execMirrorDeadline (p : Nat) (own : Bool) (s : State) : Host.Outcome State Fault Refusal := .next (s.mirDeadline (p % 64) own)

/-- MIRROR_VERDICT reaches the source (R676, R677, R683). -/
def execMirrorVerdict (p : Pkt) (s : State) : Host.Outcome State Fault Refusal :=
  .next <|
    if s.fromTwin p 0x1A && s.mirSends p.part then s.verdict p.part (leAt p.data 0 8) (bits (leAt p.data 8 1) 0 2) (leAt p.data 0x0C 4) else s

def execMirrorApply (p : Nat) (s : State) : Host.Outcome State Fault Refusal := .next (s.mirApply (p % 64))

/-! ### Restore (R688, Table 16-9) -/

/-- RESTORE_BEGIN reaches the twin: ready only in QUIESCED, and with regions of the copy's size. -/
def State.restoreBegin (s : State) (p : Pkt) : State :=
  if !s.fromTwin p 0x1B || p.arg != 3 || s.get .TWN_STATUS_STATE != 2 then s
  else
    let q := p.part
    let code := if s.pstate q != 5 then 1 else if leAt p.data 8 8 != s.ownBytes q || s.ownBytes q = 0 then 2 else 0
    let s := if code != 0 then s
      else s.modSrc q (fun r => { r with restore := some (leAt p.data 0 8, 0, 0), queue := [], todo := [], catchFrom := none, catchEnd := none })
    s.twinCtl 4 q (leBytes 8 code)

def execRestoreBegin (p : Pkt) (s : State) : Host.Outcome State Fault Refusal := .next (s.restoreBegin p)

/-- RESTORE_READY: the copy is sent, or the operation ends with BAD_STATE. -/
def execRestoreReady (p : Pkt) (s : State) : Host.Outcome State Fault Refusal :=
  .next <|
    match (s.mirRx p.part).restore with
    | some r =>
      if !s.fromTwin p 0x1B || p.arg != 4 || r.phase != 0 then s
      else if leAt p.data 0 1 = 0 then s.modRx p.part (fun x => { x with restore := some { r with phase := 1 } })
      else s.endRestore p.part 3 0
    | none => s

/-- RESTORE_END: the twin compares what it received; verified, its partition is PROTECTED at R and its stream starts anew;
after a mismatch its regions are undefined. -/
def State.restoreEnd (s : State) (p : Pkt) : State :=
  let q := p.part
  match (s.mirSrc q).restore with
  | none => s
  | some (R, n, x) =>
    if !s.fromTwin p 0x1B || p.arg != 5 then s
    else
      let s := s.modSrc q (fun r => { r with restore := none })
      if leAt p.data 0 8 = n && leAt p.data 8 8 = x then
        let s := ((s.modSrc q (fun r => { r with dirty := [] })).restartStream q).put .TWN_PSTAT_STATE q 2
        ((s.put .TWN_PSTAT_LAGGING q 0).put .TWN_PEPOCH_EPOCH q R).twinCtl 6 q (leBytes 8 0)
      else
        ((s.ownRegions.filter (fun r => r.part == q)).foldl (fun s r => s.undefine r.base (r.base + r.size)) s).twinCtl 6 q (leBytes 8 1)

def execRestoreEnd (p : Pkt) (s : State) : Host.Outcome State Fault Refusal := .next (s.restoreEnd p)

/-- RESTORE_DONE: verified, the copy stands at R with HOLD 0 and the operation completes with the bytes restored; a
mismatch completes it with BAD_STATE. -/
def State.restoreDone (s : State) (p : Pkt) : State :=
  let q := p.part
  match (s.mirRx q).restore with
  | none => s
  | some r =>
    if !s.fromTwin p 0x1B || p.arg != 6 || r.phase != 2 then s
    else if leAt p.data 0 1 != 0 then s.endRestore q 3 0
    else
      let s := ((s.put .TWN_RX_APPLIED_EPOCH q r.epoch).put .TWN_RX_COMMITTED_EPOCH q r.epoch).put .TWN_RX_STAT_HOLD q 0
      (s.endRestore q 0 (layoutBytes s.twin.layout q)).modRx q (fun _ => {})

def execRestoreDone (p : Pkt) (s : State) : Host.Outcome State Fault Refusal := .next (s.restoreDone p)

/-! ### MIRROR_CTL (R686, R687) -/

/-- A MIRROR_CTL command with an operation starts; a partition that is not PF-bound has no permission. -/
def State.mirrorCtl (s : State) (p n op : Nat) : State :=
  match s.cmd? p n with
  | none => s
  | some c =>
    let w := c.arg 0x08 4
    if bits w 0 4 != op then s
    else s.start p n 0x30 (fun c s =>
      if !s.pfBound p then s.finish p n 6 0
      else (s.modCmd p n (fun c => { c with phase := .running })).twinOp (.cmd p n) op (bit w 4) (bits w 8 6) (c.arg 0x10 8))

def execMirrorHold (p n : Nat) (s : State) : Host.Outcome State Fault Refusal := .next (s.mirrorCtl (p % 64) n 1)
def execMirrorUnhold (p n : Nat) (s : State) : Host.Outcome State Fault Refusal := .next (s.mirrorCtl (p % 64) n 2)
def execApplyTo (p n : Nat) (s : State) : Host.Outcome State Fault Refusal := .next (s.mirrorCtl (p % 64) n 3)
def execMirrorRestore (p n : Nat) (s : State) : Host.Outcome State Fault Refusal := .next (s.mirrorCtl (p % 64) n 4)
def execResync (p n : Nat) (s : State) : Host.Outcome State Fault Refusal := .next (s.mirrorCtl (p % 64) n 5)

end Sys2Proof.Machine
end

