-- ==== Sys2Proof/Machine/Part.lean ====
section
/-! DEFINITION. The life of a partition: jobs, task cancellation, tile reset, quiesce, partition reset and incarnations
(R155 to R161, R170 to R174, R220, R255 to R258, R267). -/
namespace Sys2Proof.Machine

/-! ### Register fields and reset scopes (R76, Table 2-7) -/

/-- The register fields whose cells meet a condition take their cold-reset values. -/
def State.resetCells (s : State) (c : FCell → Bool) : State := { s with fields := s.fields.filter (fun e => !c e) }

/-- A field that the image or the fuses give. -/
def Fld.given (f : Fld) : Bool := match f.info.reset with | .img | .fuse => true | _ => false

/-- The fields of the partition page that a partition reset keeps (R76, Table 4-10): those the image gives, the counter
of resets, the state and the incarnation, the hold of a commit, the keys of its key domains, and its mirroring. -/
def Fld.partKeeps (f : Fld) : Bool :=
  f.given || match f.info.reg with
    | .PART_STATE => f != .PART_STATE_RESET_DONE && f != .PART_STATE_INC_GATE
    | .CRY_PKR_ID | .CRY_PKR_RK | .TWN_PSTAT | .TWN_PEPOCH | .TWN_PBYTES => true
    | _ => false

/-- A cell lies in the page of a partition, or in the tile registers of one of its tiles. -/
def State.pageCell (s : State) (p : Nat) (e : FCell) : Bool :=
  let r := e.fld.info.reg.info
  r.space == .page && (if r.cls == .tile then s.com.owner? (e.inst % 48) (e.inst / 48) == some p else e.inst / r.count == p)

/-- The most recent completed scope and its cause, with its EMBER record (Tables 2-18, 17-9). -/
def State.scopeDone (s : State) (scope cause : Nat) (p : Option Nat) (what : Nat) : State :=
  ((s.put .RST_STATUS_LAST_SCOPE 0 scope).put .RST_STATUS_LAST_CAUSE 0 cause).ember' 2 scope cause p what

/-- A partition is reset as part of a PF FLR or a hot reset, which reports alone (R75). -/
def State.contained (s : State) : Bool := s.pilot.flr.contains 0 || s.pilot.hotReset

/-! ### Jobs (R155, R156, R170, R171) -/

/-- JOB_BEGIN: refused while a commit holds the partition or the incarnation gate does (R125, R159). -/
def State.jobBegin (p n : Nat) (c : ActiveCmd) (s : State) : State :=
  if s.flag .PART_STATE_COMMIT_HOLD p then s.finish p n 4 0
  else if s.flag .PART_STATE_INC_GATE p then s.finish p n 0x0C 0
  else ((s.put .PART_JOB_TAG_TAG p (c.arg 0x08 8)).setPartState p 2).finish p n 0 0

def execJobBegin (p n : Nat) (s : State) : Host.Outcome State Fault Refusal := .next (s.start (p % 64) n 1 (State.jobBegin (p % 64) n))

/-- A command cancels one live task (R255 to R258): a running task keeps the cancel pending; raced tells that an event
that would make the task READY, or a YIELD, falls in the same clock. -/
def State.cancelOne (s : State) (p n node id : Nat) (raced : Bool) : State :=
  match (s.tile node).tasks.find? (fun k => k.id == id && k.state != .ended) with
  | none => s
  | some k =>
    let s := s.modCmd p n (fun c => { c with cancels := (node, id) :: c.cancels })
    if k.state = .running && raced then s.endTask node id { how := 2, raced := true } else s.cancelTask node id raced

/-- A command cancels the live tasks of tiles that it selects by MATCH and MASK. -/
def State.cancelAll (s : State) (p n : Nat) (nodes : List Nat) (match_ mask : Nat) (raced : List (Nat × Nat)) : State :=
  nodes.foldl (fun s node =>
    ((s.tile node).tasks.filter (fun k => k.id &&& mask == match_ &&& mask)).foldl
      (fun s k => s.cancelOne p n node k.id (raced.contains (node, k.id))) s) s

/-- JOB_END: ENDING; with CANCEL the tasks are cancelled (R156, R171). It completes at PART_IDLE_REACHED. -/
def State.jobEnd (p n : Nat) (c : ActiveCmd) (s : State) : State :=
  let s := (s.running p n).setPartState p 3
  if bit (c.arg 0x08 4) 0 then s.cancelAll p n (s.tilesOf p) 0 0 [] else s

def execJobEnd (p n : Nat) (s : State) : Host.Outcome State Fault Refusal := .next (s.start (p % 64) n 2 (State.jobEnd (p % 64) n)).settleAll

/-- TASK_CANCEL (R255): raced names the tasks, as (node, task), that R258 ends with RACED. -/
def State.taskCancel (raced : List (Nat × Nat)) (p n : Nat) (c : ActiveCmd) (s : State) : State :=
  match s.rectStatus? p c.rect with
  | some st => s.finish p n st 0
  | none =>
    let w := c.arg 0x0C 4
    let s := (s.running p n).cancelAll p n c.rect.nodes (bits w 0 16) (bits w 16 16) raced
    match s.cmd? p n with
    | some d => if d.cancels = [] && d.phase = .running then s.finish p n 0 d.progress else s
    | none => s

def execTaskCancel (p n : Nat) (raced : List (Nat × Nat)) (s : State) : Host.Outcome State Fault Refusal :=
  .next (s.start (p % 64) n 8 (State.taskCancel raced (p % 64) n)).settleAll

/-- No packet of a partition is at the fabric exit, held for a slot, in a group, or retained (R155). -/
def State.fabEmpty (s : State) (p : Nat) : Bool :=
  s.fab.exit.all (fun q => q.part != p) && s.fab.held.all (fun h => h.pkt.part != p) && s.fab.retained.all (fun r => r.pkt.part != p) &&
    s.fab.ports.all (fun e => e.2.txPkts.all (fun h => h.pkt.part != p))

/-- The conditions of JOB_IDLE (R155). -/
def State.idleHolds (s : State) (p : Nat) : Bool :=
  s.tiles.all (fun e => s.nodePart? e.1 != some p || e.2.tasks.all (fun k => k.state == .ended)) &&
    (s.part p).active.all (fun c => c.opcode != 3 || c.phase != .running) &&
    s.seqs.all (fun q => q.2.colls.all (fun c => c.2.part != p)) && s.fabEmpty p &&
    s.tiles.all (fun e => e.2.msg.sends.all (fun m => m.part != p)) && s.cores.all (fun e => e.2.msg.sends.all (fun m => m.part != p)) &&
    s.seqs.all (fun e => e.2.msg.sends.all (fun m => m.part != p))

/-- A partition enters JOB_IDLE: its flows that have failed over return where PRIMARY serves again (R629). -/
def State.enterIdle (s : State) (p : Nat) : State := (s.setPartState p 1).failback p

/-- The JOB_END that waits completes: RESULT is the tasks cancelled (Table 4-7). -/
def State.jobEndDone (s : State) (p : Nat) : State :=
  ((s.part p).active.filter (fun c => c.opcode == 2 && c.phase == .running)).foldl (fun s c => s.finish p c.num 0 c.progress) s

/-- PART_IDLE_REACHED (R155, R156): ENDING goes to JOB_IDLE and QUIESCING to QUIESCED. -/
def State.idleReached (s : State) (p : Nat) : State :=
  if !s.idleHolds p then s
  else if s.pstate p = 3 then (s.enterIdle p).jobEndDone p
  else if s.pstate p = 4 then (s.setPartState p 5).jobEndDone p
  else s

def execPartIdleReached (p : Nat) (s : State) : Host.Outcome State Fault Refusal := .next (s.idleReached (p % 64))

/-! ### Tile reset (R83, R220, R246, R267) -/

/-- A message of a tile under reset: an unsent one is discarded, with a RELEASE for its grant; a PUT ends with the bytes
read so far counted, and its request with it (R220, R267). -/
def State.resetSend (s : State) (n : Nat) (e : SendEnt) : State :=
  match e.kind with
  | 0 =>
    if e.counted then s
    else
      let s := if e.granted then s.sendPkt { s.sendHead n e with opcode := 0x06, cls := 0, land := 0, ctr := 0, data := [], arg := e.mtag } else s
      s.delSend n e.mtag
  | 1 => if e.retry then s.delSend n e.mtag else s
  | _ =>
    let mine (a : Acc) : Bool := match a.who with | .put p => p.src == n && p.mtag == e.mtag | _ => false
    let s := (s.xlat.accs.filter mine).foldl (fun s a => s.detach a.id) s
    let s := if e.counted || !e.lctrEn then s else s.advance n e.lctr e.sent
    s.delSend n e.mtag

/-- The tasks of a tile end without records (R267). -/
def State.dropTasks (s : State) (n : Nat) : State :=
  let live := (s.tile n).tasks.filter (fun k => k.state != .ended)
  let s := s.modTile n (fun t => { t with tasks := t.tasks.map (fun k => { k with
    state := .ended, regions := k.regions.map (fun r => if r.state = 1 ∨ r.state = 2 then { r with state := 3 } else r) }) })
  live.foldl (fun s k => s.cancelEnded ((s.nodePart? n).getD 0) n k.id false) (s.settleNode n)

/-- Every pending reservation of a node is answered NACK with NO_REGION (R267). -/
def State.nackAll (s : State) (n : Nat) : State :=
  (s.msgOf n).pendRsv.foldl (fun s p => s.sendPkt (s.reply p 0x05 (p.mtag + 0x01 * 2 ^ 16))) (s.modMsg n (fun m => { m with pendRsv := [] }))

/-- A tile reset begins: the tile stops; its registers and CSRs are at their cold-reset values; the tile store, the
instruction memory and the completion counters keep their contents (R220, Table 2-6). -/
def State.tileResetStart (s : State) (n : Nat) : State :=
  let s := (s.msgOf n).sends.foldl (fun s e => s.resetSend n e) (s.dropTasks n)
  let s := (s.nackAll n).modTile n (fun t =>
    { imem := t.imem, store := t.store, undef := t.undef, poison := t.poison, tasks := t.tasks, launches := t.launches, msg := t.msg })
  s.modPilot (fun r => { r with tileReset := if r.tileReset.contains n then r.tileReset else n :: r.tileReset })

/-- The quadrants of the tiles are powered, or OFF for good; those that doze start to wake (R84). -/
def State.resetWake (s : State) (ns : List Nat) : Bool × State :=
  let qs := (ns.map (fun n => s.quad n)).eraseDups
  (qs.all (fun q => s.domState q == 3 || s.domState q == 0), qs.foldl (fun s q => s.wake q) s)

/-- The TILE_RESET command starts (Table 4-4); it completes with the last of its tiles. -/
def State.tileReset (p n : Nat) (c : ActiveCmd) (s : State) : State :=
  match s.rectStatus? p c.rect with
  | some st => s.finish p n st 0
  | none =>
    let r := s.resetWake c.rect.nodes
    if !r.1 then r.2 else (c.rect.nodes.foldl State.tileResetStart (r.2.running p n)).settleAll

def execTileReset (p n : Nat) (s : State) : Host.Outcome State Fault Refusal := .next (s.start (p % 64) n 6 (State.tileReset (p % 64) n))

/-- A tile reset completes: TILE_ fields of the tile return to their reset values, its scope is reported, and the command
whose last tile it was completes (R75, R76, R83). -/
def State.tileResetDone (s : State) (n : Nat) : State :=
  let p := (s.nodePart? n).getD 0
  if !s.pilot.tileReset.contains n || s.pstate p = 6 then s
  else
    let s := s.modPilot (fun r => { r with tileReset := r.tileReset.filter (· != n) })
    let s := s.resetCells (fun e => e.fld.info.reg.info.cls == .tile && e.inst == tileIx n && !e.fld.given)
    let s := s.scopeDone 5 12 (some p) p
    ((s.part p).active.filter (fun c => c.opcode == 6 && c.phase == .running && c.rect.nodes.all (fun m => !s.pilot.tileReset.contains m))).foldl
      (fun s c => s.finish p c.num 0 0) s

def execTileResetDone (n : Nat) (s : State) : Host.Outcome State Fault Refusal := .next (s.tileResetDone n)

/-! ### Partition reset (R159 to R161, R173) -/

/-- The RESULT of a command that a reset ends (Table 4-7): bytes copied, tasks cancelled, tiles launched. -/
def ActiveCmd.partial? (c : ActiveCmd) : Nat :=
  match c.opcode with
  | 2 | 8 => c.progress
  | 3 => if c.progress = 0 then 0 else c.rect.nodes.length - c.descs.length
  | _ => 0

/-- Every command of a partition that has not ended ends ABORTED, but the PART_RESET itself (R154, R173, Table 4-9). -/
def State.abortCmds (s : State) (p : Nat) (except_ : Option Nat) : State :=
  (s.part p).active.foldl (fun s c =>
    if some c.num = except_ then s.retire p c.num
    else if c.opcode = 4 && c.phase = .running then s.endCopy p c.num 9
    else
      let mine (a : Acc) : Bool := match a.who with | .launch q m _ | .fence q m => q == p && m == c.num | _ => false
      ((s.xlat.accs.filter mine).foldl (fun s a => s.detach a.id) s).finish p c.num 9 c.partial?) s

/-- The records of commands that have ended are written as far as space exists; each of the others is lost (R173). -/
def State.flushRecords (s : State) (p : Nat) : State :=
  let s := (s.part p).doneQ.foldl (fun s n => s.complete p n) s
  (s.part p).active.foldl (fun s c => (s.loseRecord p c).retire p c.num) s

/-- The queues of a partition are disabled and its fetching stops (Tables 4-10, 4-11). -/
def State.queuesOff (s : State) (p : Nat) : State :=
  let s := (List.range 16).foldl (fun s q => (s.put .PART_SQ_CFG_EN (qi p q) 0).put .PART_CQ_CFG_EN (qi p q) 0) s
  (s.put .PART_CTL_FETCH_EN p 0).modPart p (fun r => { r with active := [], doneQ := [], fetching := [], coal := [], lastQ := 15 })

/-- The requests, streams, translations and host reads of a partition go without a fault record; its page-request groups
stay held (R357, R523, Table 4-10). -/
def State.dropStreams (s : State) (p : Nat) : State :=
  let s := (s.xlat.accs.filter (fun a => a.part == p)).foldl (fun s a => s.detach a.id) s
  let s := s.modXlat (fun x => { x with
    streams := x.streams.filter (fun r => r.part != p), l2 := x.l2.filter (fun e => e.part != p)
    micro := x.micro.filter (fun m => m.ent.part != p), ats := x.ats.filter (fun r => r.part != p)
    invs := x.invs.filter (fun i => i.part != p) })
  s.dropReqs (fun r => r.part == some p)

/-- The fabric packets of a partition on this device are discarded; credits of those in transit return (Table 4-10). -/
def State.dropFabric (s : State) (p : Nat) : State :=
  let gone := s.fab.held.filter (fun h => h.pkt.part == p)
  let s := s.modFab (fun f => { f with
    exit := f.exit.filter (fun q => q.part != p), held := f.held.filter (fun h => h.pkt.part != p)
    retained := f.retained.filter (fun r => r.pkt.part != p) })
  (gone.foldl (fun s h => match h.inPort with | some q => s.oweCredits q (2 * h.pkt.cls + h.sub) h.pkt.credits | none => s) s).retainSettle

/-- The collectives of a partition abort with cause PARTITION (R634). -/
def State.abortColls (s : State) (p : Nat) : State :=
  s.seqs.foldl (fun s q => q.2.colls.foldl (fun s e => if e.2.part = p then s.collAbort q.1 e.1 4 else s) s) s

/-- A partition reset begins (t0 of Table 4-11): absorbed while one runs; none at UNASSIGNED. inc is the new incarnation
where the command sets one. -/
def State.partReset (s : State) (p cause : Nat) (inc : Option Nat := none) (cmd : Option Nat := none) : State :=
  if s.pstate p = 0 then s
  else if s.pstate p = 6 then (if s.contained || cause = 9 then s.modPart p (fun r => { r with resetCause := cause }) else s)
  else
    let s := s.modPart p (fun r => { r with nextInc := inc.getD ((s.incOf p + 1) % 16), resetCause := cause })
    let s := ((s.abortCmds p cmd).flushRecords p).setPartState p 6
    let s := ((s.queuesOff p).dropStreams p).modMem (fun m => { m with rekeyWaits := m.rekeyWaits.filter (fun w => w.part != p) })
    let s := { s with rings := kmod s.rings p {} (fun r => { r with parked := [] }) }.parkSettle.put .FLT_PRING_CFG_EN p 0
    let s := (s.resetWake (s.tilesOf p)).2
    let s := ((s.tilesOf p).foldl State.tileResetStart s).dropFabric p
    ((s.abortColls p).resetScope (some p)).cchPump

/-- The PART_RESET command (R154, R159): INC_SET with the current value is refused. -/
def State.partResetCmd (p n : Nat) (c : ActiveCmd) (s : State) : State :=
  let w := c.arg 0x08 4
  if bit w 4 && bits w 0 4 == s.incOf p then s.finish p n 2 0
  else s.partReset p 11 (if bit w 4 then some (bits w 0 4) else none) (some n)

def execPartReset (p n : Nat) (s : State) : Host.Outcome State Fault Refusal := .next (s.start (p % 64) n 7 (State.partResetCmd (p % 64) n))

/-- A write of 1 to PART_PROV_CTLn.RESET (R161). -/
def State.provReset (s : State) (p : Nat) : State :=
  if s.pstate p = 0 then s else (s.put .PART_PROV_CTL_RESET p 1).partReset p 11

def execPartProvReset (p : Nat) (s : State) : Host.Outcome State Fault Refusal := .next (s.provReset (p % 64))

/-- A write of 1 to PART_PROV_CTLn.QUIESCE with FORCE (R156, R174, Table 4-20): it stays pending until RESUME. -/
def State.quiesce (s : State) (p : Nat) (force : Bool) : State :=
  let s := s.put .PART_PROV_CTL_FORCE p (b2n force)
  if s.pstate p = 0 then s
  else
    let s := s.put .PART_PROV_CTL_QUIESCE p 1
    match s.pstate p with
    | 1 => s.setPartState p 5
    | 2 | 3 => if force then s.partReset p 11 else s.setPartState p 4
    | 4 => if force then s.partReset p 11 else s
    | _ => s

def execQuiesce (p : Nat) (force : Bool) (s : State) : Host.Outcome State Fault Refusal := .next (s.quiesce (p % 64) force)

/-- A write of 1 to PART_PROV_CTLn.RESUME (R156). -/
def State.resume (s : State) (p : Nat) : State :=
  if s.pstate p = 5 then (s.put .PART_PROV_CTL_QUIESCE p 0).enterIdle p else s

def execPartResume (p : Nat) (s : State) : Host.Outcome State Fault Refusal := .next (s.resume (p % 64))

/-- QUIESCE_TIMEOUT: TIMEOUT_MS has passed in QUIESCING (R156). -/
def State.quiesceTimeout (s : State) (p : Nat) : State :=
  if s.pstate p = 4 && s.get .PART_PROV_CTL_TIMEOUT_MS p != 0 then s.partReset p 11 else s

def execQuiesceTimeout (p : Nat) (s : State) : Host.Outcome State Fault Refusal := .next (s.quiesceTimeout (p % 64))

/-- The collectives and the sequencer messages of a partition that are left go, and their slots with them. -/
def State.freeColls (s : State) (p : Nat) : State :=
  s.seqs.foldl (fun s q =>
    ((s.modSeq q.1 (fun u => { u with
      colls := u.colls.filter (fun e => e.2.part != p)
      msg := { u.msg with sends := u.msg.sends.filter (fun e => e.part != p) } })).seqExamine q.1).seqRegs q.1) s

/-- The new incarnation and its gate (R159): held marks the boundary at which each value was last held. -/
def State.newInc (s : State) (p : Nat) : State :=
  let r := s.part p
  let now := s.cadence
  let left := match kfind? r.nextInc r.incHeld with | some c => (c + 4) - now | none => 0
  let s := s.modPart p (fun r => { nextNum := r.nextNum, incHeld := kput (s.incOf p) now r.incHeld, gateLeft := left })
  (s.put .PART_STATE_INCARNATION p r.nextInc).put .PART_STATE_INC_GATE p (b2n (left != 0))

/-- Scope 6 completes once no partition is under reset any more (R75, R517, Table 2-6). -/
def State.hotDone (s : State) : State :=
  if s.pilot.hotReset && (List.range 64).all (fun p => s.pstate p != 6) then
    (s.modPilot (fun r => { r with hotReset := false })).scopeDone 6 10 none 0
  else s

/-- A partition reset completes (R159 to R161, R76, Table 4-11): the tiles are zero, the page registers are at their
reset values, the incarnation is new. -/
def State.partResetDone (s : State) (p : Nat) : State :=
  let tiles := s.tilesOf p
  let r := s.resetWake tiles
  if s.pstate p != 6 || s.flushing (some p) then s
  else if !r.1 then r.2
  else
    let cause := (s.part p).resetCause
    let s := (s.resetCells (fun e => s.pageCell p e && !e.fld.partKeeps)).newInc p
    let s := (s.modPilot (fun q => { q with tileReset := q.tileReset.filter (fun n => !tiles.contains n) })).freeColls p
    let s := { s with tiles := s.tiles.filter (fun e => !tiles.contains e.1), rings := kdel p s.rings }
    let s := if ((s.com.tele?.map (·.owner)).getD 64) = p then (s.put .FAB_SAMPLE_SAMPLES 0 0).modFab (fun f => { f with sampled := 0 }) else s
    let s := (s.put .PART_STATE_RESET_DONE p 1).put .PART_PROV_CTL_RESET p 0
    let s := if s.contained then (s.put .PART_STATE_RESETS p 0).put .PART_STATE_RESETS_SAT p 0 else s.bump .PART_STATE_RESETS p
    let s := if s.contained || cause = 9 then s else s.scopeDone 4 cause (some p) p
    (if s.flag .PART_PROV_CTL_QUIESCE p then (s.setPartState p 5).failback p else s.enterIdle p).settleAll.hotDone

def execPartResetDone (p : Nat) (s : State) : Host.Outcome State Fault Refusal := .next (s.partResetDone (p % 64))

/-- INC_GATE_EXPIRE: the boundaries have passed, or 34 ms while the device is not aligned (R159). -/
def State.incGateExpire (s : State) (p : Nat) : State :=
  if s.flag .PART_STATE_INC_GATE p && ((s.part p).gateLeft = 0 || !s.aligned) then
    (s.put .PART_STATE_INC_GATE p 0).modPart p (fun r => { r with gateLeft := 0 })
  else s

def execIncGateExpire (p : Nat) (s : State) : Host.Outcome State Fault Refusal := .next (s.incGateExpire (p % 64))

/-! ### FAULTED (Table 4-9) -/

/-- A partition becomes FAULTED (R156, R174, R701): fetching stops, its tiles halt, its running commands end ABORTED. -/
def State.partFaulted (s : State) (p : Nat) : State :=
  if 1 ≤ s.pstate p && s.pstate p ≤ 4 then
    let s := s.abortCmds p none
    let s := (s.tilesOf p).foldl (fun s n => s.put .TILE_STATUS_CORE (tileIx n) 2) s
    (s.setPartState p 7).settleAll
  else s

end Sys2Proof.Machine
end

