-- ==== Sys2Proof/Machine/Faults.lean ====
section
/-! DEFINITION. The fault arbiter, the fault rings, and the commands of EMBER (R700 to R738). -/
namespace Sys2Proof.Machine

/-! ### Rings (R704 to R707) -/

/-- Ring r is the partition's for r below 64, the device's for 64: a field of one, or of the other. -/
def State.rget (s : State) (r : Nat) (a b : Fld) : Nat := if r < 64 then s.get a r else s.get b 0
def State.rput (s : State) (r : Nat) (a b : Fld) (v : Nat) : State := if r < 64 then s.put a r v else s.put b 0 v

/-- The record of a ring beside its registers. -/
def State.ring (s : State) (r : Nat) : Ring := kgetD s.rings r {}
def State.modRing (s : State) (r : Nat) (f : Ring → Ring) : State := { s with rings := kmod s.rings r {} f }

/-- The ring a fault goes to. -/
def FaultRec.ringIx (f : FaultRec) : Nat := f.ring.getD 64

/-- The partition of a ring, and the function under which it is written (R704). -/
def ringPart (r : Nat) : Option Nat := if r < 64 then some r else none
def State.ringFn? (s : State) (r : Nat) : Option Nat := if r < 64 then s.fnOf? r else some 0

/-- Records of a ring. -/
def State.ringSize (s : State) (r : Nat) : Nat := 2 ^ s.rget r .FLT_PRING_CFG_SIZE_LOG2 .FLT_RING_CFG_SIZE_LOG2

def State.ringOn (s : State) (r : Nat) : Bool := s.rget r .FLT_PRING_CFG_EN .FLT_RING_CFG_EN != 0
def State.ringTail (s : State) (r : Nat) : Nat := s.rget r .FLT_PRING_STAT_TAIL .FLT_RING_STAT_TAIL
def State.ringHead (s : State) (r : Nat) : Nat := s.rget r .FLT_PRING_HEAD_HEAD .FLT_RING_HEAD_HEAD

/-- A ring takes a record now: it is enabled, not full, and the device can write it (R704, R706). -/
def State.ringTakes (s : State) (r : Nat) : Bool :=
  s.ringOn r && (s.ringTail r + 1) % s.ringSize r != s.ringHead r &&
    (match s.ringFn? r with | some fn => !s.hostBlocked fn && !s.holdsReqs fn | none => false)

/-- The severity of a fault (Table 17-2). -/
def FaultRec.severity (f : FaultRec) : Nat :=
  if f.cls = 3 && (f.code == 9 || f.code == 0x0A) then 2 else if f.cls = 0x0C && 3 ≤ f.code && f.code ≤ 6 then 3 else f.sev

/-- Bytes 0x20 to 0x27 of a fault record as one word (Table 17-4). -/
def FaultRec.word20 (f : FaultRec) : Nat :=
  f.tx % 64 + f.ty % 32 * 2 ^ 8 + f.dev % 256 * 2 ^ 16 + f.port % 16 * 2 ^ 24 + f.ctx % 256 * 2 ^ 32 + f.queue % 16 * 2 ^ 40 +
    f.inc % 16 * 2 ^ 44 + f.severity * 2 ^ 48 + b2n f.addr.isSome * 2 ^ 50

/-- The 64 bytes of a fault record (Table 17-4). -/
def FaultRec.bytes (f : FaultRec) (phase fseq : Nat) (marker : Bool) : List Byte :=
  leBytes 4 (f.cls + f.code * 2 ^ 8 + phase * 2 ^ 16 + b2n marker * 2 ^ 17 + b2n f.part.isNone * 2 ^ 18) ++
    leBytes 4 (f.part.getD 0 + fseq % 2 ^ 16 * 2 ^ 16) ++ leBytes 8 f.jobTag ++ leBytes 8 f.cadence ++ leBytes 8 f.tick ++
    leBytes 8 f.word20 ++ leBytes 8 (f.addr.getD 0) ++ leBytes 8 f.info0 ++ leBytes 8 f.info1

/-- The interrupt of a ring: vector 0 of the partition, or the FAULT event (R719). -/
def State.ringVector (s : State) (r : Nat) : State :=
  if s.rget r .FLT_PRING_CFG_IRQ_EN .FLT_RING_CFG_IRQ_EN = 0 || (s.ring r).irqSent then s
  else
    let s := s.modRing r (fun q => { q with irqSent := true })
    if r < 64 then s.partVector r 0 else s.globalEvent 0

/-- A record written to a ring that takes it (R703, R705, R719, Table 17-7). -/
def State.ringWrite (s : State) (r : Nat) (f : FaultRec) (marker : Bool) : State :=
  let tail := s.ringTail r
  let phase := s.rget r .FLT_PRING_STAT_PHASE .FLT_RING_STAT_PHASE
  let next := (tail + 1) % s.ringSize r
  let s := s.ioWrite ((s.ringFn? r).getD 0) (ringPart r) (s.rget r .FLT_PRING_BASE_BASE .FLT_RING_BASE_BASE * 4096 + 64 * tail)
    (f.bytes phase (s.ring r).fseq marker)
  let s := s.rput r .FLT_PRING_STAT_TAIL .FLT_RING_STAT_TAIL next
  let s := if next = 0 then s.rput r .FLT_PRING_STAT_PHASE .FLT_RING_STAT_PHASE (1 - phase) else s
  let s := (s.modRing r (fun q => { q with fseq := (q.fseq + 1) % 2 ^ 16 })).ringVector r
  s.coreLines (fun c => s.flag .LNT_CORE_CFG_FAULT_EN c && f.part == some (s.get .LNT_CORE_CFG_FAULT_PART c)) 5

/-! ### Records lost, and the marker (R710, R712) -/

/-- The LOST counter of a class: its register's instance within the ring, and its field in either form. -/
def lostFld (cls : Nat) : Fld × Fld :=
  match (cls - 1) % 4 with
  | 0 => (.FLT_PLOST_COUNT0, .FLT_LOST_COUNT0)
  | 1 => (.FLT_PLOST_COUNT1, .FLT_LOST_COUNT1)
  | 2 => (.FLT_PLOST_COUNT2, .FLT_LOST_COUNT2)
  | _ => (.FLT_PLOST_COUNT3, .FLT_LOST_COUNT3)

/-- A record counts as lost (R710). -/
def State.loseFault (s : State) (r : Nat) (f : FaultRec) : State :=
  let k := (f.cls - 1) / 4
  let s := if r < 64 then s.bump (lostFld f.cls).1 (4 * r + k) else s.bump (lostFld f.cls).2 k
  let s := if s.rget r .FLT_PRING_STAT_OVERFLOW .FLT_RING_STAT_OVERFLOW = 0
    then (s.rput r .FLT_PRING_STAT_OVERFLOW .FLT_RING_STAT_OVERFLOW 1).latchOut 2 else s
  s.modRing r (fun q => { q with lostMask := q.lostMask ||| 2 ^ f.cls, lostCount := min (q.lostCount + 1) (2 ^ 32 - 1) })

/-- The marker of a ring (R712). -/
def State.marker (s : State) (r : Nat) : FaultRec :=
  { s.mkFault 0x0D 0x01 (ringPart r) with ring := ringPart r, sev := 0, info0 := (s.ring r).lostMask, info1 := (s.ring r).lostCount }

/-- The stream of a fault that is settled un-parks, and its request fails (R347, R349). -/
def State.failParked (s : State) (f : FaultRec) : State :=
  match f.park with
  | some k => s.markFail k.2 (xlatStatus f.code)
  | none => s

/-- The marker, then the records of parked streams, as far as the ring takes them; n bounds the records (R712, R734). -/
def State.ringFlush (r : Nat) : Nat → State → State
  | 0, s => s
  | n + 1, s =>
    if !s.ringTakes r then s
    else if (s.ring r).lostCount != 0 then
      State.ringFlush r n ((s.ringWrite r (s.marker r) true).modRing r (fun q => { q with lostMask := 0, lostCount := 0 }))
    else
      match (s.ring r).parked with
      | [] => s
      | f :: fs => State.ringFlush r n ((((s.ringWrite r f false).modRing r (fun q => { q with parked := fs })).failParked f).parkSettle)

/-- What a ring has waiting is written as far as it takes it. -/
def State.ringPump (s : State) (r : Nat) : State := State.ringFlush r ((s.ring r).parked.length + 1) s

/-- Every ring looks again at what it has waiting. -/
def State.ringsPump (s : State) : State := s.rings.foldl (fun s e => s.ringPump e.1) s

/-- A fault reaches its ring: written, parked with its stream, or lost (R705, R709 to R711). -/
def State.deliverFault (s : State) (f : FaultRec) : State :=
  let r := f.ringIx
  let s := s.ringPump r
  if !s.ringOn r then (s.loseFault r f).failParked f
  else if (s.ring r).parked = [] && s.ringTakes r then (s.ringWrite r f false).failParked f
  else
    match f.park.bind (fun k => s.acc? k.2) with
    | some a => ((s.modStream a id).modRing r (fun q => { q with parked := q.parked ++ [f] })).parkSettle
    | none => s.loseFault r f

/-! ### The arbiter (R700 to R702, R708, R713) -/

/-- EMBER's record of a fault (Table 17-9). -/
def State.faultEmb (s : State) (f : FaultRec) : EmbRec :=
  { tick := f.tick, inexact := s.pilot.tickInexact, typ := 3, sub := f.cls, code := f.code, part := f.part, jobTag := f.jobTag
    cadence := f.cadence, w20 := f.word20, w28 := f.addr.getD 0, w30 := f.info0, w38 := f.info1 }

/-- What a DEVICE_FATAL fault does beyond its record (R702, R723). -/
def State.deviceFatal (s : State) (f : FaultRec) : State :=
  let s := ((s.bump .EMB_FAULT_OUT_DEV_FATALS).latchOut 0).globalEvent 0
  let s := s.emberTrigger (match f.code with | 3 => 2 | 6 => 3 | _ => 1)
  if f.code = 5 then ((List.range 64).foldl State.partFaulted s).modPilot (fun q => { q with internalUe := true }) else s

/-- What a PARTITION_FATAL fault does beyond its record (R701, Table 4-9). -/
def State.partFatal (s : State) (f : FaultRec) : State :=
  let s := (s.bump .FLT_SEV_PART_FATALS).latchOut 1
  match f.part with
  | some p =>
    if 1 ≤ s.pstate p && s.pstate p ≤ 4 then
      (s.partFaulted p).raise { s.mkFault 0x02 0x03 (some p) with info0 := f.cls + f.code * 256 }
    else s
  | none => s

/-- A fault is accepted: EMBER, its ring, and what its severity asks for. -/
def State.acceptFault (s : State) (f : FaultRec) : State :=
  let s := (s.embWrite (s.faultEmb f)).deliverFault f
  match f.severity with
  | 1 => s.bump .FLT_SEV_ERRORS
  | 2 => s.partFatal f
  | 3 => s.deviceFatal f
  | _ => s

/-- FAULT_RECORD_WRITE: the oldest fault is accepted; ue tells that an INTERNAL_UE occurs first (R702, R708). -/
def State.faultWrite (s : State) (ue : Bool) : State :=
  let s := if ue then s.raise (s.mkFault 0x0C 0x05 none) else s
  match s.faultQ with
  | [] => s
  | f :: fs => ({ s with faultQ := fs }.acceptFault f).settleAll

def execFaultRecordWrite (ue : Bool) (s : State) : Host.Outcome State Fault Refusal := .next (s.faultWrite ue)

/-! ### The driver's writes (R705, R707, R710, R711, R734) -/

/-- A write of a ring's HEAD (R705, R719). -/
def State.ringHeadWrite (s : State) (r head : Nat) : State :=
  let size := s.ringSize r
  let old := s.ringHead r
  if size ≤ head || (s.ringTail r + size - old) % size < (head + size - old) % size then s.rput r .FLT_PRING_STAT_HEAD_ERR .FLT_RING_STAT_HEAD_ERR 1
  else
    let s := (s.rput r .FLT_PRING_HEAD_HEAD .FLT_RING_HEAD_HEAD head).modRing r (fun q => { q with irqSent := false })
    let s := s.ringPump r
    (if s.ringTail r != head then s.ringVector r else s).settleAll

def execRingHead (r head : Nat) (s : State) : Host.Outcome State Fault Refusal :=
  .next (if 64 < r || s.pstate r = 6 then s else s.ringHeadWrite r (head % 2 ^ 16))

/-- EN of a ring is set: SIZE_LOG2 outside 4 to 16 leaves it 0 (R707, R712, Table 17-16). -/
def State.ringEnable (s : State) (r : Nat) : State :=
  let z := s.rget r .FLT_PRING_CFG_SIZE_LOG2 .FLT_RING_CFG_SIZE_LOG2
  if s.ringOn r || z < 4 || 16 < z then s
  else
    let s := (s.rput r .FLT_PRING_CFG_EN .FLT_RING_CFG_EN 1).rput r .FLT_PRING_HEAD_HEAD .FLT_RING_HEAD_HEAD 0
    let s := (s.rput r .FLT_PRING_STAT_TAIL .FLT_RING_STAT_TAIL 0).rput r .FLT_PRING_STAT_PHASE .FLT_RING_STAT_PHASE 1
    (s.modRing r (fun q => { q with fseq := 0, irqSent := false })).ringPump r

def execFaultRingEnable (r : Nat) (s : State) : Host.Outcome State Fault Refusal :=
  .next (if 64 < r || s.pstate r = 6 then s else s.ringEnable r)

/-- EN of a ring is cleared: parked faults count as lost and their streams un-park (R711). -/
def State.ringDisable (s : State) (r : Nat) : State :=
  let fs := (s.ring r).parked
  let s := (s.rput r .FLT_PRING_CFG_EN .FLT_RING_CFG_EN 0).modRing r (fun q => { q with parked := [] })
  ((fs.foldl (fun s f => (s.loseFault r f).failParked f) s).parkSettle).settleAll

def execFaultRingDisable (r : Nat) (s : State) : Host.Outcome State Fault Refusal :=
  .next (if 64 < r || s.pstate r = 6 then s else s.ringDisable r)

/-- Every LOST counter of a ring and its flag are cleared (Table 17-16). -/
def State.clrLost (s : State) (r : Nat) : State :=
  (List.range 4).foldl (fun s k =>
    ([Fld.FLT_PLOST_COUNT0, .FLT_PLOST_COUNT1, .FLT_PLOST_COUNT2, .FLT_PLOST_COUNT3, .FLT_PLOST_SAT0, .FLT_PLOST_SAT1, .FLT_PLOST_SAT2,
      .FLT_PLOST_SAT3].zip [Fld.FLT_LOST_COUNT0, .FLT_LOST_COUNT1, .FLT_LOST_COUNT2, .FLT_LOST_COUNT3, .FLT_LOST_SAT0, .FLT_LOST_SAT1,
      .FLT_LOST_SAT2, .FLT_LOST_SAT3]).foldl (fun s f => if r < 64 then s.put f.1 (4 * r + k) 0 else s.put f.2 k 0) s) s

def execClrLost (r : Nat) (s : State) : Host.Outcome State Fault Refusal :=
  .next (if 64 < r || s.pstate r = 6 then s else s.clrLost r)

/-! ### EMBER (R722 to R730) -/

/-- EMBER_TRIGGER: a freeze trigger of Table 17-10; QUARANTINE acts only when QUAR_TRIG is 1 (R722). -/
def execEmberTrigger (cause : Nat) (s : State) : Host.Outcome State Fault Refusal :=
  .next (if cause = 0 || 9 < cause || (cause == 5 && !s.flag .EMB_CFG_QUAR_TRIG) then s else s.emberTrigger cause)

/-- EMBER_FREEZE: 10 ms have passed since the trigger (R724). -/
def execEmberFreeze (s : State) : Host.Outcome State Fault Refusal := .next (if s.get .EMB_STATUS_STATE = 1 then s.emberFreeze else s)

/-- EMB_SLOTS follows the directory (Table 17-17). -/
def State.embSlotBits (s : State) : State :=
  let bitsOf (c : EmbSlot → Bool) : Nat := ((rangeFrom 1 15).map (fun n => if c (kgetD s.ember.slots n {}) then 2 ^ (n - 1) else 0)).sum
  (s.put .EMB_SLOTS_KEEP 0 (bitsOf (·.keep))).put .EMB_SLOTS_COMPLETE 0 (bitsOf (·.complete))

/-- The state with a slot changed. -/
def State.modSlot (s : State) (n : Nat) (f : EmbSlot → EmbSlot) : State :=
  (s.modEmber (fun e => { e with slots := kmod e.slots n {} f })).embSlotBits

/-- The copy to MRAM is complete; with AUTO_REARM recording resumes (R726, R727, R730, Table 17-11). -/
def State.copyDone (s : State) : State :=
  if !s.flag .EMB_STATUS_COPYING then s
  else
    let e := s.ember
    let s := s.modSlot (s.get .EMB_STATUS_LAST_SLOT) (fun q => { q with
      complete := true, crcOk := true, lostFaults := min e.snapLost 0xFFFF, extra := e.extra, age := e.ageNext })
    let s := (s.modEmber (fun e => { e with ageNext := e.ageNext + 1 })).put .EMB_STATUS_COPYING 0 0
    if s.flag .EMB_CFG_AUTO_REARM then s.emberResume else s

def execEmberCopyDone (s : State) : Host.Outcome State Fault Refusal := .next s.copyDone

/-- EMB_CTL.FREEZE is written as 1. -/
def execEmbCtlFreeze (s : State) : Host.Outcome State Fault Refusal := .next (s.emberTrigger 6)

/-- EMB_CTL.REARM is written as 1: it acts when FROZEN with the copy ended (Table 17-17). -/
def State.rearm (s : State) : State := if s.get .EMB_STATUS_STATE = 2 && !s.flag .EMB_STATUS_COPYING then s.emberResume else s

def execRearm (s : State) : Host.Outcome State Fault Refusal := .next s.rearm

/-- EMB_NOTE is written. -/
def State.embNote (s : State) (v : Nat) : State := (s.put .EMB_NOTE_VALUE 0 v).ember' 8 0 0 none (v % 2 ^ 64)

def execEmbNote (v : Nat) (s : State) : Host.Outcome State Fault Refusal := .next (s.embNote v)

/-- EMB_SLOTS is written: KEEP of slot n is bit n; a slot that is empty or incomplete keeps 0 (Table 17-17). -/
def State.embKeep (s : State) (w : Nat) : State :=
  (rangeFrom 1 15).foldl (fun s n => s.modSlot n (fun q => { q with keep := bit w n && q.complete })) s

def execEmbSlots (w : Nat) (s : State) : Host.Outcome State Fault Refusal := .next (s.embKeep w)

/-! ### Retrieval (R729, R731, R732) -/

/-- The 64 bytes of an EMBER record (Table 17-8). -/
def EmbRec.bytes (r : EmbRec) : List Byte :=
  leBytes 8 (r.tick % 2 ^ 56 + b2n r.inexact * 2 ^ 56) ++
    leBytes 8 (r.rseq % 2 ^ 32 + r.typ % 256 * 2 ^ 32 + r.sub % 256 * 2 ^ 40 + r.code % 256 * 2 ^ 48 + r.part.getD 0 % 64 * 2 ^ 56 +
      b2n r.part.isNone * 2 ^ 62) ++
    leBytes 8 r.jobTag ++ leBytes 8 r.cadence ++ leBytes 8 r.w20 ++ leBytes 8 r.w28 ++ leBytes 8 r.w30 ++ leBytes 8 r.w38

/-- The record at index i of a buffer; an index not written yet reads 0 (R720). -/
def recAt (rs : List EmbRec) (i : Nat) : List Byte :=
  match rs.find? (fun r => r.rseq % 4096 == i % 4096) with
  | some r => r.bytes
  | none => List.replicate 64 0

/-- The 256 KiB of a buffer. -/
def bufBytes (rs : List EmbRec) : List Byte := (List.range 4096).flatMap (recAt rs)

/-- Directory entry of slot n (Table 17-12); an empty slot reads 0. -/
def EmbSlot.dir (q : EmbSlot) (n : Nat) : List Byte :=
  if !q.used then List.replicate 64 0
  else
    let b := leBytes 4 0x52424D45 ++
      leBytes 4 (n + q.cause % 256 * 2 ^ 8 + b2n q.keep * 2 ^ 16 + b2n q.preserved * 2 ^ 17 + b2n q.complete * 2 ^ 18) ++
      leBytes 8 q.trigTick ++ leBytes 4 q.trigRseq ++ leBytes 4 q.lastRseq ++ leBytes 2 (min q.post 0xFFFF) ++ leBytes 2 q.lostFaults ++
      leBytes 4 (q.extra % 2 ^ 16) ++ leBytes 8 q.ident ++ leBytes 4 q.epoch ++ leBytes 2 q.fwMinor ++ leBytes 2 q.fwMajor ++
      leBytes 8 q.uid ++ leBytes 4 (if q.complete then crc32c (bufBytes q.recs) else 0)
    b ++ leBytes 4 (if q.complete then crc32c b else 0)

/-- The snapshot slot n. -/
def State.slot (s : State) (n : Nat) : EmbSlot := kgetD s.ember.slots n {}

/-- A sideband answer of Table 17-13, while the endpoint answers (Table 2-8): command, status, bytes. -/
def State.embAnswer (s : State) (cmd st : Nat) (bs : List Byte) : State :=
  if s.flag .RST_STATUS_PILOT_READY then s.onBus.emit (.sideband (leBytes 1 cmd ++ leBytes 1 st ++ bs)) else s

def execEmbDir (s : State) : Host.Outcome State Fault Refusal :=
  .next (s.embAnswer 0x20 0 ((rangeFrom 1 15).flatMap (fun n => (s.slot n).dir n)))

/-- EMB_READ: w is the request word of Table 17-13. -/
def State.embRead (s : State) (w : Nat) : State :=
  let n := bits w 0 4
  if bits w 4 12 != 0 || 2 ^ 32 ≤ w then s.embAnswer 0x21 3 []
  else if n != 0 && !(s.slot n).complete then s.embAnswer 0x21 2 []
  else
    let rs := if n = 0 then s.ember.buf else (s.slot n).recs
    s.embAnswer 0x21 0 ((rangeFrom (bits w 16 12) (bits w 28 4 + 1)).flatMap (recAt rs))

def execEmbRead (w : Nat) (s : State) : Host.Outcome State Fault Refusal := .next (s.embRead w)

/-- EMB_FREEZE: cause 7; the answer is EMB_STATUS. -/
def execEmbFreeze (s : State) : Host.Outcome State Fault Refusal :=
  .next (if s.flag .RST_STATUS_PILOT_READY then
    let s := s.emberTrigger 7
    s.embAnswer 0x22 0 (leBytes 8 (s.regWord .EMB_STATUS 0)) else s)

/-- EMB_KEEP: w is the request word; KEEP 1 needs a complete slot. -/
def State.embKeepOne (s : State) (w : Nat) : State :=
  let n := bits w 0 4
  if !s.flag .RST_STATUS_PILOT_READY then s
  else if 32 ≤ w then s.embAnswer 0x23 3 []
  else if n = 0 then s.embAnswer 0x23 1 []
  else if bit w 4 && !(s.slot n).complete then s.embAnswer 0x23 2 []
  else
    let s := s.modSlot n (fun q => { q with keep := bit w 4 })
    s.embAnswer 0x23 0 ((s.slot n).dir n)

def execEmbKeep (w : Nat) (s : State) : Host.Outcome State Fault Refusal := .next (s.embKeepOne w)

def execEmbStat (s : State) : Host.Outcome State Fault Refusal :=
  .next (s.embAnswer 0x24 0 (leBytes 8 (s.regWord .EMB_STATUS 0) ++ leBytes 8 (s.regWord .EMB_RSEQ 0)))

end Sys2Proof.Machine
end

