-- ==== Sys2Proof/Machine/LntOps.lean ====
section
/-! DEFINITION. The LANTERN cores as the rest of the device sees them: restart, assignment, doorbells and host interrupts
(R165, R274 to R279, R291, R292, R295, R310, R311). -/
namespace Sys2Proof.Machine

/-- A CSR of core c that is a plain register: its value where one has been written, its reset value otherwise (Table 7-15). -/
def csrReset (n : Nat) : Nat := match n with | 0x40 => 2 | 0x4D => 2 ^ 56 - 1 | _ => 0
def State.lcsr (s : State) (c n : Nat) : Nat := kgetD (s.core c).csrs n (csrReset n)
def State.setLcsr (s : State) (c n v : Nat) : State := s.modCore c (fun k => { k with csrs := kput n v k.csrs })

/-- The state of a core: 0 STARTING, 1 RUNNING, 2 WFI, 3 WAIT, 4 HALTED, 5 RESTARTING (Table 7-13). -/
def State.coreState (s : State) (c : Nat) : Nat := s.get .LNT_CORE_CFG_STATE c

/-- The core is assigned to a partition (R274). -/
def State.assigned (s : State) (c : Nat) : Bool := s.flag .LNT_CORE_CFG_ASSIGNED c

/-- Doorbells of a mailbox that is emptied count as lost in their partitions (R310). -/
def State.emptyMbox (s : State) (c : Nat) : State :=
  (s.core c).mbox.foldl (fun s e => if e.prov then s else s.bump .LNT_DB_STAT_LOST e.part) (s.modCore c (fun k => { k with mbox := [] }))

/-- A core stops to be restarted (R165); an assignment or a release also empties its mailbox, its counters, its TLBs and
its message window, whose pending reservations are refused (R276, R293). -/
def State.restartCore (s : State) (c : Nat) (empties : Bool) : State :=
  let s := (s.put .LNT_CORE_CFG_STATE c 5).bump .LNT_CORE_CFG_RESTARTS c
  let s := s.modCore c (fun k => { k with assigning := some (empties || k.assigning == some true) })
  if !empties then s
  else
    let s := (s.emptyMbox c).setLcsr c 0x51 (s.lcsr c 0x51 / 2 * 2)
    let s := s.modCore c (fun k => { k with
      tlb := [], msg := { k.msg with ctrs := [] }, inbox := if k.inbox.state = 0 then k.inbox else { k.inbox with state := 3 } })
    (s.settleNode (nodeKey 62 c)).nackAll (nodeKey 62 c)

/-- A firmware update works on a core or waits for it (R311). -/
def State.fwuHolds (s : State) (c : Nat) : Bool := s.get .PART_FWU_STATUS_STATE == 3 && s.fwu.core == c

/-- A request of LNT_CORE_CFG that the device refuses (R275). -/
def State.assignErr (s : State) (c : Nat) : State := s.put .LNT_CORE_CFG_ASSIGN_ERR c 1

/-- The conditions of R275 for ASSIGN. -/
def State.assignOk (s : State) (c p : Nat) : Bool :=
  c != 0 && s.com.assigned p && bit (s.com.grant p).lntCores c && !s.assigned c && 1 ≤ s.coreState c && s.coreState c ≤ 3 &&
    (s.pstate p == 1 || s.pstate p == 5) && !s.fwuHolds c

/-- ASSIGN: PART of LNT_CORE_CFG names the partition (R275, R276, R311). -/
def State.assignCore (s : State) (c p : Nat) : State :=
  if !s.assignOk c p then s.assignErr c
  else
    (((((s.put .LNT_CORE_CFG_PART c p).put .LNT_CORE_CFG_ASSIGNED c 1).put .LNT_CORE_CFG_FAULT_PART c p).put .LNT_CORE_CFG_ASSIGN c 1)).restartCore c true

def execAssign (c p : Nat) (s : State) : Host.Outcome State Fault Refusal := .next (s.assignCore (c % 16) (p % 64))

/-- A core returns to the provider and restarts (R274, R276). -/
def State.freeCore (s : State) (c : Nat) : State :=
  (((s.put .LNT_CORE_CFG_ASSIGNED c 0).put .LNT_CORE_CFG_RELEASE c 1)).restartCore c true

/-- RELEASE (R275, R311). -/
def State.releaseCore (s : State) (c : Nat) : State :=
  let st := s.pstate (s.get .LNT_CORE_CFG_PART c)
  if s.assigned c && (st == 0 || st == 1 || st == 5) && !s.fwuHolds c then s.freeCore c else s.assignErr c

def execCoreRelease (c : Nat) (s : State) : Host.Outcome State Fault Refusal := .next (s.releaseCore (c % 16))

/-! ### Doorbells (R291, R292) -/

/-- A doorbell entry reaches a mailbox; none where the mailbox holds 16. -/
def State.mailTo? (s : State) (c : Nat) (e : MboxEnt) : Option State :=
  if 16 ≤ (s.core c).mbox.length then none else some (s.modCore c (fun k => { k with mbox := k.mbox ++ [e] }))

/-- A write of n bytes to LNT_DB of partition p; none while it is RESETTING (R172, R751). -/
def State.lntDb (s : State) (p v n : Nat) : State :=
  if s.pstate p = 6 then s
  else s.needs domLantern (fun s =>
    let c := s.get .LNT_DB_ROUTE_CORE p
    let lost := s.bump .LNT_DB_STAT_LOST p
    if n != 8 || !s.flag .LNT_DB_ROUTE_EN p || (s.assigned c && s.get .LNT_CORE_CFG_PART c != p) then lost
    else match s.mailTo? c { data := v % 2 ^ 64, part := p } with
      | some s => s.put .LNT_DB_DATA p v
      | none => lost)

def execLntDb (p v n : Nat) (s : State) : Host.Outcome State Fault Refusal := .next (s.lntDb (p % 64) v n)

/-- A write of n bytes to LNT_PROV_DB. -/
def State.lntProvDb (s : State) (v n : Nat) : State :=
  s.needs domLantern (fun s =>
    if n != 8 then s
    else match s.mailTo? 0 { data := v % 2 ^ 64, prov := true } with
      | some s => s.put .LNT_PROV_DB_DATA 0 v
      | none => s)

def execLntProvDb (v n : Nat) (s : State) : Host.Outcome State Fault Refusal := .next (s.lntProvDb v n)

/-- A write of LNT_HOSTIRQ of partition p is performed: vectors 1 to 31 are sent (R295). -/
def State.lntHostIrq (s : State) (p v : Nat) : State :=
  if s.pstate p = 6 then s
  else
    let s := s.put .LNT_HOSTIRQ_VECTOR p v
    if v % 32 = 0 then s else s.partVector p (v % 32)

def execLntHostirq (p v : Nat) (s : State) : Host.Outcome State Fault Refusal := .next (s.lntHostIrq (p % 64) v)

/-! ### Start -/

/-- The general registers of a core hold undefined values, as nothing says what a restart leaves in them (R276). -/
def State.freeRegs (s : State) (c : Nat) : State :=
  let r := s.draw (31 * 64)
  r.2.modCore c (fun k => { k with regs := (List.range 31).map (fun i => (i + 1, BitVec.ofNat 64 (r.1 / 2 ^ (64 * i)))) })

/-- Every core runs, provider-reserved, at warden level, at the entry of the running bundle (R274, Table 2-9). -/
def State.startCores (s : State) : State :=
  (List.range 16).foldl (fun s c =>
    ((s.put .LNT_CORE_CFG_STATE c 1).freeRegs c).modCore c (fun k => { k with pc := Config.entry s.fwu.runDigest (s.assigned c) % 2 ^ 64 })) s

end Sys2Proof.Machine
end

