-- ==== Sys2Proof/Machine/PowerOps.lean ====
section
/-! DEFINITION. The switched domains going OFF and coming back, and the policies of a base commit (R57 to R64, Tables 2-1
and 2-2). -/
namespace Sys2Proof.Machine

/-- A tile with undefined contents: the spans of its store, its completion counters, CYCLE and SEED take free values from a
counter value on (Table 2-1). -/
def undefTile (k : Nat) : Tile :=
  { undef := [(k, 0, 2 ^ 19)], cycle := Config.free (k + 1) % 2 ^ 64, seed := some (Config.free (k + 2) % 2 ^ 64)
    msg := { ctrs := (List.range 64).map (fun i => (i, Config.free (k + 3 + i) % 2 ^ 32)) } }

/-- A tile's contents become undefined. -/
def State.spoilTile (s : State) (n : Nat) : State :=
  { s with tiles := kput n (undefTile s.freeCtr) s.tiles, freeCtr := s.freeCtr + 67 }

/-- Every tile coordinate. -/
def allTiles : List Nat := (List.range 32).flatMap (fun y => (List.range 48).map (fun x => nodeKey x y))

/-- The tiles of a quadrant. -/
def State.quadTiles (s : State) (d : Nat) : List Nat := allTiles.filter (fun n => s.quad n == d)

/-- A fabric or twin port whose domain loses its state. -/
def State.portOff (s : State) (p : Nat) : State :=
  if s.portState p = 9 then s
  else (((s.clearPort p).setPortState p 0).modPort p (fun r => { r with hail := none })).failover p

/-- The ports of a domain of the fabric or of the twin link (Table 2-1). -/
def domPorts (d : Nat) : List Nat := match d with | 19 => List.range 8 | 20 => rangeFrom 8 4 | 21 => [12, 13] | _ => []

/-- A domain is power-gated: its state is lost (R57, Table 2-1). -/
def State.domOff (s : State) (d : Nat) : State :=
  if s.domState d = 0 then s
  else
    let s := (s.setDom d 0).modPilot (fun r => { r with
      fromOff := if bit r.fromOff d then r.fromOff - 2 ^ d else r.fromOff, striker := if bit r.striker d then r.striker - 2 ^ d else r.striker })
    if d < 16 then { s with tiles := s.tiles.filter (fun e => s.quad e.1 != d) }
    else match d with
      | 16 => (List.range 16).foldl (fun s c => s.put .LNT_CORE_CFG_STATE c 0) { s with cores := [] }
      | 17 => s.modCch (fun c => { c with lines := [], evb := [], dir := [] })
      | 18 => (List.range 4).foldl (fun s p => (s.dlDown p).setDlState p 0) s
      | _ =>
        let s := (domPorts d).foldl State.portOff s
        if d = 20 then (List.range 8).foldl (fun s k => ({ s with seqs := kdel k s.seqs } : State).seqRegs k) s else s

/-- A domain is to be ON: out of OFF, or out of DOZE (R57, R59). -/
def State.domOn (s : State) (d : Nat) : State :=
  if s.domState d = 0 then (s.setDom d 2).modPilot (fun r => { r with fromOff := r.fromOff ||| 2 ^ d }) else s.wake d

/-- The policy that a domain has now: the twin ports stay ON while a twin is named, CACHE behaves as under DEMAND until it may
be OFF, and no policy holds before a base commit (R58, R59, R64, R85). -/
def State.policy (s : State) (d : Nat) : Nat :=
  let p := s.get .PWR_DOM_CFG_POLICY d
  if s.com.base.isNone || (d = 21 && s.com.twin?.isSome) then 0
  else if p = 3 && (d = 17 || 22 ≤ d) then 1
  else p

/-- The power plan of a base commit takes effect (R58, R59). -/
def State.applyPower (s : State) : State :=
  (List.range 24).foldl (fun s d =>
    let p := nthD s.com.img.power d {}
    let s := (((s.put .PWR_DOM_CFG_POLICY d p.policy).put .PWR_DOM_CFG_WAKE_LEAD d p.wakeLead).put .PWR_DOM_CFG_HYST d p.hyst).put
      .PWR_DOM_CFG_MIN_DOZE d p.minDoze
    let s := s.put .PWR_DOM_CFG_PLAN_VALID d 1
    if s.policy d = 3 then s.domOff d
    else if d = 17 && p.policy = 3 && s.domState 17 = 0 then s
    else s.domOn d) s

end Sys2Proof.Machine
end

