-- ==== Sys2Proof/Machine/Kindling.lean ====
section
/-! DEFINITION. Staging, validating, arming and committing a KINDLING image, the coordinator, and the slots and cadences at
which a commit takes effect (R116 to R138, R328, R430 to R446, R585, R590). -/
namespace Sys2Proof.Machine

/-! ### Faults and the staging area (R120 to R123) -/

/-- A failure of class IMAGE: KIM_STATUS.LAST_FAULT and a record for the device's ring (R120, Table 17-5). -/
def State.kimFault (s : State) (code : Nat) (pl : Place := ⟨0xFFFE, 0⟩) : State :=
  (s.put .KIM_STATUS_LAST_FAULT 0 code).raise { s.mkFault 1 code none with info0 := pl.locus + pl.off * 2 ^ 16 }

/-- A digest in registers of 64 bits: register k holds bytes 8k to 8k + 7 (R139). -/
def State.putDigest (s : State) (f : Fld) (n : Nat) : State := (List.range 6).foldl (fun s k => s.put f k (n / 2 ^ (64 * k))) s

/-- The state of the commit (Table 3-17): 0 EMPTY, 1 STAGED, 2 VALIDATING, 3 VALID, 4 ARMED, 5 UNCERTAIN. -/
def State.kimState (s : State) : Nat := s.get .KIM_STATUS_STATE

/-- The base image that is VALID, ARMED or UNCERTAIN in staging. -/
def State.stagedBase? (s : State) : Option Image := if 3 ≤ s.kimState then s.kim.staged.filter Image.isBase else none

/-- The timing root and the slot length follow the committed base image, or the one that is VALID where none is committed
(R130, R585, R590, Table 14-10). -/
def State.rootSettle (s : State) : State :=
  let names (im : Image) : Bool := im.link.root == im.link.self
  let len := match s.com.base, s.stagedBase? with
    | some im, _ => im.link.slotLen
    | none, some im => im.link.slotLen
    | none, none => 320
  let s := if s.fab.slotLen = len then s else s.modFab (fun f => { f with slotLen := len, left := [] })
  if s.com.base.any names || s.stagedBase?.any names then
    (if s.get .FAB_SYNC_STATE = 3 then s else (s.put .FAB_SYNC_HOPS 0 0).setSync 3)
  else if s.get .FAB_SYNC_STATE = 3 then
    ((s.put .FAB_SYNC_PARENT 0 0).modFab (fun f => { f with ports := f.ports.map (fun e => (e.1, { e.2 with syncHops := none })), lock := 0 })).setSync
      (if s.com.base.isSome then 2 else 0)
  else s

/-- Staging is emptied: no transfer, no staged image, no unwrapped keys, no hold (R110, R125, R446). -/
def State.kimClear (s : State) : State :=
  let s := (List.range 64).foldl (fun s p => s.put .PART_STATE_COMMIT_HOLD p 0) s
  let s := (List.range 24).foldl (fun s r => s.put .CRY_KR_RK_HOLD r 0) s
  let s := ((s.putDigest .KIM_DIG_STAGED_DIGEST 0).put .KIM_CMD_BUSY 0 0).dropReqs (fun r => r.who == .kimStage)
  s.modKim (fun k => { k with
    staging := [], chunks := [], dmaLen := none, dmaEnd := false, xferLen := 0, staged := none, keys := [], decision := none, changed := 0 })

/-- The image goes and the state is EMPTY (Table 3-17). -/
def State.kimEmpty (s : State) : State :=
  let s := s.kimClear
  (if s.kimState = 0 then s else s.setKimState 0).rootSettle

/-- An image rejected or aborted with a code: it counts in FAILS (Table 3-26). -/
def State.kimReject (s : State) (code : Nat) (pl : Place := ⟨0xFFFE, 0⟩) : State := ((s.kimFault code pl).bump .KIM_COUNT_FAILS).kimEmpty

/-- The bytes that have been transferred are an image of the right length, which is then STAGED; or they are rejected with
code 0x01 (R91, R120). -/
def State.kimStaged (s : State) (bs : List Byte) : State :=
  match lengthFault bs bs.length with
  | some f => s.kimReject f.code f.place
  | none =>
    ((s.modKim (fun k => { k with staging := bs, chunks := [], dmaLen := none, dmaEnd := false, xferLen := bs.length })).put .KIM_CMD_BUSY 0 0).setKimState 1

/-- The image DMA reads on from an address, under the PF's requester ID, without PASID and untranslated; it ends where all
bytes have come or no request can be issued (R121). -/
def State.kimPull (s : State) (addr : Nat) : State :=
  match s.kim.dmaLen with
  | none => s
  | some n =>
    if n ≤ s.kim.staging.length || s.hostBlocked 0 then s.modKim (fun k => { k with dmaEnd := true })
    else s.ioRead .kimStage 0 none addr (n - s.kim.staging.length)

/-- STAGE (R121, R122). -/
def State.kimStage (s : State) : State :=
  let s := s.put .KIM_CMD_OP 0 1
  if 4 ≤ s.kimState then s.kimFault 0x37
  else
    ((s.kimEmpty.modKim (fun k => { k with dmaLen := some (s.get .KIM_SRC_LEN_LEN) })).put .KIM_CMD_BUSY 0 1).kimPull (s.get .KIM_SRC_ADDR_ADDR)

def execKimStage (s : State) : Host.Outcome State Fault Refusal := .next s.kimStage

/-- STAGE_COMPLETE: the transfer that STAGE started has ended (R121). -/
def execStageComplete (s : State) : Host.Outcome State Fault Refusal :=
  .next (if s.kim.dmaEnd then s.kimStaged s.kim.staging else s)

/-- The bytes of an image in chunks, newest first, up to the first gap. -/
def assemble (chunks : List (Nat × List Byte)) : Nat → Nat → List Byte
  | _, 0 => []
  | a, n + 1 =>
    match chunks.find? (fun c => c.1 ≤ a && a < c.1 + c.2.length) with
    | some c => nthD c.2 (a - c.1) 0 :: assemble chunks (a + 1) n
    | none => []

/-- KIM_SIDEBAND_CHUNK: a chunk of up to 1,024 bytes, or the closing message with IMAGE_LEN (R121, R122). -/
def State.kimChunk (s : State) (off : Nat) (bytes : List Byte) (close : Option Nat) : State :=
  if 4 ≤ s.kimState then (if close.isSome then s.kimFault 0x37 else s)
  else if 1024 < bytes.length then s
  else
    let s := if s.kimState = 0 && s.kim.dmaLen.isNone then s else s.kimEmpty
    let s := if bytes = [] then s else s.modKim (fun k => { k with chunks := (off, bytes) :: k.chunks })
    match close with
    | none => s
    | some len => s.kimStaged (assemble s.kim.chunks 0 (min len (2 ^ 24 + 8)))

def execKimSidebandChunk (off : Nat) (bytes : List Byte) (close : Option Nat) (s : State) : Host.Outcome State Fault Refusal :=
  .next (if s.pilot.phase == .ready then s.onBus.kimChunk off bytes close else s)

/-! ### Validation (R120) -/

/-- What the device knows when it validates an image. -/
def State.imgEnv (s : State) (b : List Byte) : ImgEnv :=
  let held (k : Option (Nat × Nat)) : Option Nat := k.map (·.1)
  { com := s.com, comRev := s.get .KIM_PART_REV_REV (leAt b 8 1), keySlots := s.get .GLB_IDENT_KEY_SLOTS
    revoked := s.get .KIM_ARB_REVOKED, hashes := s.fuses.keyHashes, uid := s.get .KIM_UID_UID, arb := s.get .KIM_ARB_FUSE_VALUE
    fwMajor := s.get .PART_FWU_VER_RUN_MAJOR, fwMinor := s.get .PART_FWU_VER_RUN_MINOR, goodSpares := s.fuses.goodSpares, keks := s.mem.keks
    busy := ((List.range 24).filter (fun r => s.rkState r != 0)).map (fun r => (r, held (s.rkeys r).cur, held (s.rkeys r).next)) }

/-- VALIDATE: the checks start (Table 3-17). -/
def State.kimValidate (s : State) : State :=
  let s := s.put .KIM_CMD_OP 0 2
  if s.kimState = 1 then (s.put .KIM_CMD_BUSY 0 1).setKimState 2 else s

def execKimValidate (s : State) : Host.Outcome State Fault Refusal := .next s.kimValidate

/-- The ranges of which an image changes BASE, SIZE, LBN_BASE, VALID or a key (R446). -/
def State.touchesRange (s : State) (im : Image) (keys : List (Nat × Bool × Nat × Nat)) (r : Nat) : Bool :=
  let k := s.rkeys r
  (im.isBase && nthD im.ranges r {} != s.rangePlan r) ||
    keys.any (fun w => w.1 == r && (if w.2.1 then k.next.map (·.1) else k.cur.map (·.1)) != some w.2.2.1)

/-- VALIDATION_DONE: VALID, with the digest latched, or rejected (R110, R120, R130, R446). -/
def State.validationDone (s : State) : State :=
  if s.kimState != 2 then s
  else
    let s := s.put .KIM_CMD_BUSY 0 0
    let b := s.kim.staging
    let env := s.imgEnv b
    match validateImage env b b.length with
    | some f => s.kimReject f.code f.place
    | none =>
      let im := imageOf b
      let keys := unwrapKeys env im
      let s := (s.modKim (fun k => { k with staged := some im, keys := keys, decision := none })).putDigest .KIM_DIG_STAGED_DIGEST im.digest
      let s := ((List.range 24).filter (s.touchesRange im keys)).foldl (fun s r => s.put .CRY_KR_RK_HOLD r 1) s
      (s.setKimState 3).rootSettle

def execValidationDone (s : State) : Host.Outcome State Fault Refusal := .next s.validationDone

/-! ### What a commit changes (R117, R125) -/

/-- The structure that the commit of an image gives (R117). -/
def Struct.commit (c : Struct) (im : Image) : Struct :=
  if im.isBase then { base := some im, parts := [] } else { c with parts := kput im.target im c.parts }

/-- A slot table of an image: what it lists, or the default of R105. -/
def Image.slotTable (im : Image) (rx : Bool) (port : Nat) : List SlotEnt :=
  match im.block? port with
  | some b => if rx then b.rx else b.tx
  | none => (List.range 4096).map defaultSlot

/-- The partitions named by slot entries in which two images differ. -/
def slotDiff (a b : Image) : List Nat :=
  (List.range 14).flatMap (fun port => [false, true].flatMap (fun rx =>
    ((a.slotTable rx port).zip (b.slotTable rx port)).flatMap (fun e =>
      if e.1 = e.2 then []
      else ([e.1, e.2].filter (fun x => x.kind == .flow || x.kind == .backup)).map (·.part))))

/-- The entries of two images that name partition p differ; slot entries are compared apart (R125). -/
def namesDiffer (a b : Image) (p : Nat) : Bool :=
  a.ent? p != b.ent? p
    || (a.tiles.getD []).filter (fun r => r.part == p) != (b.tiles.getD []).filter (fun r => r.part == p)
    || (a.remap.getD []).filter (fun r => r.lend && r.lendPart == p) != (b.remap.getD []).filter (fun r => r.lend && r.lendPart == p)
    || (a.routes.getD []).filter (fun r => r.owner == p) != (b.routes.getD []).filter (fun r => r.owner == p)
    || (a.quotas.getD []).filter (fun q => q.1 == p) != (b.quotas.getD []).filter (fun q => q.1 == p)
    || a.windows.filter (fun w => !w.provider && w.owner == p) != b.windows.filter (fun w => !w.provider && w.owner == p)
    || ((a.twin.map (·.regions)).getD []).filter (fun r => r.part == p) != ((b.twin.map (·.regions)).getD []).filter (fun r => r.part == p)
    || a.tele.filter (fun t => !t.all && t.owner == p) != b.tele.filter (fun t => !t.all && t.owner == p)
    || a.binds.filter (fun e => e.part == p) != b.binds.filter (fun e => e.part == p)

/-- LINK_PLAN without the E2E fields (R125). -/
def LinkPlan.hard (l : LinkPlan) : LinkPlan := { l with ports := l.ports.map (fun q => { q with e2e := 0 }) }

/-- The partitions that the commit of an image changes (R125). -/
def Struct.changedBy (c : Struct) (im : Image) : List Nat :=
  if !im.isBase then [im.target]
  else
    let slots := slotDiff c.img im
    (List.range 64).filter (fun p =>
      c.img.link.hard != im.link.hard || (c.part? p).isSome || slots.contains p || namesDiffer c.img im p)

/-- The slot tables of a port differ between two structures (code 0x33). -/
def Struct.slotsDiffer (c d : Struct) (port : Nat) : Bool :=
  [false, true].any (fun rx => (List.range 4096).any (fun j => c.slotEnt rx port j != d.slotEnt rx port j))

/-! ### The commit (R111, R116, R117, R131, R430 to R432, R440, R441) -/

/-- The bytes of one span that lie outside another become undefined. -/
def State.undefineOut (s : State) (a b c d : Nat) : State :=
  let s := if a < min b c then s.undefine a (min b c) else s
  if max a d < b then s.undefine (max a d) b else s

/-- One key range at a commit: its key slots, its register, and the bytes whose key or LBN changes (R111, R430, R431). -/
def State.commitRange (s : State) (n : KeyRange) (keys : List (Nat × Bool × Nat × Nat)) (r : Nat) : State :=
  let o := s.rangePlan r
  let held := s.rkeys r
  let slot (nx : Bool) (h : Option (Nat × Nat)) : Option (Nat × Nat) :=
    match keys.find? (fun w => w.1 == r && w.2.1 == nx) with
    | some w => if h.map (·.1) = some w.2.2.1 then h else some w.2.2
    | none => h
  let now : RangeKeys := if n.valid then { cur := slot false held.cur, next := slot true held.next } else {}
  let oe := o.base + o.size
  let ne := n.base + n.size
  let same := o.base / 4096 + n.lbnBase = n.base / 4096 + o.lbnBase
  let s :=
    if !n.valid then s
    else if !o.valid then s.undefine n.base ne
    else if now.cur != held.cur || (o != n && !same) then (s.undefineOut o.base oe n.base ne).undefine n.base ne
    else if o != n then (s.undefineOut o.base oe n.base ne).undefineOut n.base ne o.base oe
    else s
  let s := s.modMem (fun m => { m with keys := if n.valid then kput r now m.keys else kdel r m.keys })
  let id (k : Option (Nat × Nat)) : Nat := (k.map (·.1)).getD 0
  let s := ((s.put .CRY_KR_ID_CUR_ID r (id now.cur)).put .CRY_KR_ID_NEXT_ID r (id now.next)).put .CRY_KR_RK_NEXT_VALID r (b2n now.next.isSome)
  let s := s.put .CRY_KR_RK_VALID r (b2n n.valid)
  if n.valid then s else (((s.put .CRY_KR_RK_STATE r 0).put .CRY_KR_RK_BOUNDARY r 0).put .CRY_KR_RK_PACE r 0)

/-- The ports of a link key whose KEY_ID has changed: LINKUP counts from 0, and a port held for its exhaustion is released
(R441, R442, R444). -/
def State.newLinkKey (s : State) (ports : List Nat) : State :=
  ports.foldl (fun s p =>
    let s := (s.modPort p (fun r => { r with prevLinkup := s.get .FAB_PORT_STAT_LINKUP p })).put .FAB_PORT_STAT_LINKUP p 0
    if s.portState p = 8 && bit (s.get .FAB_PORT_QUAR_CAUSE p) 6 then s.fabPortReset p 14 else s) s

/-- The link key that an image gives for a target: the held one where its KEY_ID is the same (R440, R444). -/
def linkKeyOf (keys : List (Nat × Bool × Nat × Nat)) (t : Nat) (h : Option (Nat × Nat)) : Option (Nat × Nat) :=
  match keys.find? (fun w => w.1 == t) with
  | some w => if h.map (fun k => k.1) = some w.2.2.1 then h else some w.2.2
  | none => none

/-- The link keys of a base commit (R440, R444). -/
def State.commitLinkKeys (s : State) (keys : List (Nat × Bool × Nat × Nat)) : State :=
  let fab : Option (Nat × Nat) := linkKeyOf keys 24 s.mem.fab
  let twin : Option (Nat × Nat) := linkKeyOf keys 25 s.mem.twin
  let s1 : State := if fab = s.mem.fab then s else (s.modMem (fun m => { m with fab := fab, prevFab := m.fab })).newLinkKey (List.range 12)
  let s2 : State := if twin = s.mem.twin then s1 else (s1.modMem (fun m => { m with twin := twin, prevTwin := m.twin })).newLinkKey [12, 13]
  let id (k : Option (Nat × Nat)) : Nat := (k.map (·.1)).getD 0
  (((s2.put .CRY_KEK_FAB_KEY_VALID 0 (b2n fab.isSome)).put .CRY_KEK_TWIN_KEY_VALID 0 (b2n twin.isSome)).put .CRY_LINK_FAB_KEY_ID 0 (id fab)).put
    .CRY_LINK_TWIN_KEY_ID 0 (id twin)

/-- The composite digest (R139). -/
def Struct.composite (c : Struct) : Nat :=
  leNat (sha384 (leBytes 48 c.img.digest ++ (List.range 64).flatMap (fun p => leBytes 48 (((c.part? p).map (·.digest)).getD 0))))

/-- Tiles that a structure assigns to a partition. -/
def Struct.tileCount (c : Struct) (p : Nat) : Nat := (allTiles.filter (fun n => c.owner? (nodeX n) (nodeY n) == some p)).length

/-- The "img" fields that a partition image gives too (R131, Tables 3-27, 4-18). -/
def State.partFields (s : State) (p : Nat) : State :=
  let c := s.com
  let im := c.part? p
  let s := (s.put .KIM_PART_REV_REV p ((im.map (·.partRev)).getD 0)).put .KIM_PART_REV_VALID p (b2n im.isSome)
  let s := (s.put .PART_RES_TILES p (c.tileCount p)).put .PART_RES_QUOTA p (c.quota p)
  (s.put .PART_RES_FLOWS p (c.grant p).flows).put .PART_RES_LNT_CORES p (c.grant p).lntCores

/-- Every "img" field after a base commit (R50, R131, Tables 1-6, 3-24, 4-18, 11-10). -/
def State.baseFields (s : State) (im : Image) : State :=
  let s := ((s.put .KIM_EPOCH_EPOCH 0 im.epoch).put .KIM_EPOCH_BASE_VALID 0 1).putDigest .KIM_DIG_BASE_DIGEST im.digest
  let s := s.putDigest .KIM_DIG_DOMAIN_DIGEST im.domainDigest
  let s := (((s.put .GLB_TOPO_DEV_X 0 im.link.self).put .GLB_TOPO_DEV_Y 0 (im.link.self / 8)).put .GLB_TOPO_DEV_Z 0 (im.link.self / 64)).put
    .GLB_TOPO_COORD_VALID 0 1
  let s := s.put .GLB_UNITS_SPARES_LEFT 0 (popc 64 s.fuses.goodSpares - ((im.remap.getD []).filter (fun r => !r.lend)).length)
  let s := (List.range 64).foldl (fun s p =>
    let b := im.binds.find? (fun b => b.part == p)
    ((s.put .PART_STATE_BOUND p (b2n b.isSome)).put .PART_STATE_PF_BOUND p (b2n (b.any (·.pf)))).put .PART_STATE_VF p ((b.map (·.vf)).getD 0)) s
  let s := (rangeFrom 1 64).foldl (fun s v =>
    (s.put .DF_FUNC_PART v ((s.com.partOfVf? v).getD 0)).put .DF_FUNC_BOUND v (b2n (s.com.partOfVf? v).isSome)) s
  (List.range 64).foldl State.partFields s

/-- A partition whose entry the base commit removes: its reset is performed at the boundary, and its page reads its
cold-reset values (Table 4-9, R752). -/
def State.removePart (s : State) (p : Nat) : State :=
  let tiles := s.tilesOf p
  let s := s.partReset p 11
  let s := s.resetCells (fun e => s.pageCell p e && !e.fld.partKeeps)
  let s := (s.modPilot (fun q => { q with tileReset := q.tileReset.filter (fun n => !tiles.contains n) })).freeColls p
  let s := { s with tiles := s.tiles.filter (fun e => !tiles.contains e.1), rings := kdel p s.rings }
  let s := s.modPart p (fun r => { nextNum := r.nextNum, incHeld := kput (s.incOf p) s.cadence r.incHeld })
  let s := ((s.put .PART_STATE_INCARNATION p 0).bump .PART_STATE_RESETS p).setPartState p 0
  s.scopeDone 4 11 (some p) p

/-- A partition that the base commit grants resources: JOB_IDLE, incarnation 0, queues disabled (Table 4-9, R752). -/
def State.addPart (s : State) (p : Nat) : State :=
  let s := (s.resetCells (fun e => s.pageCell p e && !e.fld.partKeeps)).modPart p (fun r => { r with nextInc := 0 })
  (s.newInc p).enterIdle p

/-- The REMAP entry that replaces a tile. -/
def Struct.spareOf? (c : Struct) (n : Nat) : Option (Nat × Nat) :=
  (c.remaps.find? (fun e => !e.lend && nodeKey e.tx e.ty == n)).map (fun e => (e.die, e.spare))

/-- Tiles that another physical tile serves after a commit hold undefined contents. -/
def State.remapped (s : State) (old : Struct) : State :=
  let ns := ((old.remaps ++ s.com.remaps).filter (fun e => !e.lend)).map (fun e => nodeKey e.tx e.ty)
  (ns.eraseDups.filter (fun n => old.spareOf? n != s.com.spareOf? n)).foldl State.spoilTile s

/-- The fabric and twin ports after a base commit: one that is no longer enabled stops; the others train where they may; a
HAIL is due (R571, R594, R112). -/
def State.commitPorts (s : State) : State :=
  let s := (List.range 14).foldl (fun s p =>
    if !s.trainable p && s.portState p != 0 && s.portState p != 9 then ((s.clearPort p).setPortState p 9).portLost p else s.trainStart p) s
  s.modFab (fun f => { f with ports := f.ports.map (fun e => (e.1, { e.2 with hailDue := true })) })

/-- A base image is committed: the whole structure is replaced (R117, R131). -/
def State.commitBase (s : State) (im : Image) (keys : List (Nat × Bool × Nat × Nat)) (changed : List Nat) : State :=
  let old := s.com
  let new_ := old.commit im
  let gone := (List.range 64).filter (fun p => old.assigned p && !new_.assigned p)
  let fresh := (List.range 64).filter (fun p => !old.assigned p && new_.assigned p)
  let s := gone.foldl State.removePart s
  let s := (List.range 24).foldl (fun s r => s.commitRange (nthD im.ranges r {}) keys r) s
  let twinKey := s.mem.twin
  let s := s.commitLinkKeys keys
  let s := s.modKim (fun k => { k with
    com := new_, prevEpoch := if old.base.isSome then some (old.img.epoch % 256) else none, lastChanged := (changed.map (fun p => 2 ^ p)).sum })
  let s := (s.baseFields im).putDigest .KIM_DIG_COMP_DIGEST new_.composite
  let s := fresh.foldl State.addPart s
  let s := ((List.range 16).filter (fun c => s.assigned c && gone.contains (s.get .LNT_CORE_CFG_PART c))).foldl State.freeCore s
  let s := ((s.remapped old).applyPower).segRecheck
  let s := ((s.rootSettle).twinCommit old.twin? (decide (s.mem.twin = twinKey))).commitPorts
  let s := changed.foldl State.failback s
  if im.arbAdvance && s.get .KIM_ARB_FUSE_VALUE < im.arb then s.modKim (fun k => { k with burn := some im.arb }) else s

/-- A partition image is committed: it replaces the partition's previous one (R99, R118). -/
def State.commitPart (s : State) (im : Image) (keys : List (Nat × Bool × Nat × Nat)) : State :=
  let old := s.com
  let p := im.target
  let s := (List.range 24).foldl (fun s r => if keys.any (fun w => w.1 == r) then s.commitRange (s.rangePlan r) keys r else s) s
  let s := s.modKim (fun k => { k with com := old.commit im })
  let s := ((s.partFields p).putDigest .KIM_DIG_COMP_DIGEST s.com.composite).remapped old
  let s := s.modFab (fun f => { f with ports := f.ports.map (fun e => (e.1, { e.2 with hailDue := true })) })
  s.failback p

/-- The commit of the staged image at this boundary (R131); late: it was UNCERTAIN (R128). -/
def State.kimCommit (s : State) (late : Bool) : State :=
  match s.kim.staged with
  | none => s
  | some im =>
    let keys := s.kim.keys
    let changed := (List.range 64).filter (bit s.kim.changed)
    let s := if im.isBase then s.commitBase im keys changed else s.commitPart im keys
    let s := ((s.bump .KIM_COUNT_COMMITS).put .KIM_STATUS_LAST_ID 0 s.kim.armId).put .KIM_STATUS_COMMITTED_ID_VALID 0 1
    let s := if late then s.put .KIM_STATUS_LATE 0 1 else s
    ((s.kimEmpty).dropUnroutable).settleAll.cchPump

/-- ARB_BURN: the fuse burn of R116 ends; reached is the count where it failed. -/
def State.arbBurn (s : State) (ok : Bool) (reached : Nat) : State :=
  match s.kim.burn with
  | none => s
  | some n =>
    let now := s.get .KIM_ARB_FUSE_VALUE
    let v := if ok then n else max now (min reached (n - 1))
    let s := (({ s with fuses := { s.fuses with arb := v } } : State).put .KIM_ARB_FUSE_VALUE 0 v).modKim (fun k => { k with burn := none })
    if ok then s else (s.put .KIM_STATUS_ARB_FAIL 0 1).kimFault 0x39

def execArbBurn (ok : Bool) (reached : Nat) (s : State) : Host.Outcome State Fault Refusal := .next (s.arbBurn ok reached)

/-! ### ARM, decisions and their messages (R124 to R130) -/

/-- A KIM payload to a device (Table 3-18). -/
def State.kimPkt (s : State) (dest kind : Nat) (go : Bool) (id c pre : Nat) : Pkt :=
  { dd := dest, dtx := 62, cls := 5, sd := s.self, stx := 62, opcode := 0x28, arg := 1
    data := leBytes 4 (kind + 4 * b2n go + s.self * 2 ^ 8) ++ leBytes 4 id ++ leBytes 8 c ++ leBytes 8 pre ++ leBytes 8 0 }

/-- A KIM payload read. -/
structure KimMsg where
  kind : Nat := 0
  go : Bool := false
  sender : Nat := 0
  id : Nat := 0
  c : Nat := 0
  pre : Nat := 0
deriving DecidableEq, Repr

/-- The KIM payload that a MGMT packet to this device carries. -/
def State.kimMsg? (s : State) (p : Pkt) (kind : Nat) : Option KimMsg :=
  let w := leAt p.data 0 4
  if p.opcode = 0x28 && p.dd = s.self && p.arg % 2 ^ 16 = 1 && p.data.length = 32 && bits w 0 2 = kind then
    some { kind := kind, go := bit w 2, sender := bits w 8 8, id := leAt p.data 4 4, c := leAt p.data 8 8, pre := leAt p.data 16 8 }
  else none

/-- The first 64 bits of the staged DOMAIN_DIGEST; of the committed one once nothing is staged. -/
def State.stagedPrefix (s : State) : Nat := ((s.kim.staged.map (·.domainDigest)).getD s.com.img.domainDigest) % 2 ^ 64

/-- Why an ARM is refused: codes 0x30, 0x14, 0x31, 0x32 and 0x33 of Table 3-16 in that order (R124). -/
def State.armRefused? (s : State) (a : ArmArgs) : Option Nat :=
  match (if s.kimState = 3 then s.kim.staged else none) with
  | none => some 0x30
  | some im =>
    if !im.isBase && (s.com.base.isNone || im.baseDigest != s.com.img.digest) then some 0x14
    else if !a.local_ && a.c < s.cadence + 4 then some 0x31
    else if (s.com.changedBy im).any (fun p => [2, 3, 4, 6, 7].contains (s.pstate p)) then some 0x32
    else if a.local_ && (List.range 14).any (fun q => s.carries q && s.com.slotsDiffer (s.com.commit im) q) then some 0x33
    else none

/-- ARM (R124 to R126, R129). -/
def State.kimArm (s : State) (a : ArmArgs) : State :=
  match s.armRefused? a with
  | some code => s.kimFault code
  | none =>
    let changed := (s.kim.staged.map s.com.changedBy).getD []
    let s := s.modKim (fun k => { k with
      armC := a.c, armId := a.id, armN := a.n, armCoord := a.coord, armExt := a.ext, armLocal := a.local_, decision := none
      changed := (changed.map (fun p => 2 ^ p)).sum })
    let s := changed.foldl (fun s p => s.put .PART_STATE_COMMIT_HOLD p 1) s
    let s := s.setKimState 4
    if a.local_ then (if s.aligned then s else s.kimCommit false)
    else if a.ext then s
    else if a.coord = s.self then s.modKim (fun k => { k with armedMsgs := k.armedMsgs ++ [(s.self, a.id, s.stagedPrefix, a.c)] })
    else s.sendPkt (s.kimPkt a.coord 0 false a.id a.c s.stagedPrefix)

/-- The values of KIM_ARM_C and KIM_ARM_CFG. -/
def State.armRegs (s : State) : ArmArgs :=
  { c := s.get .KIM_ARM_C_C, id := s.get .KIM_ARM_CFG_COMMIT_ID, n := s.get .KIM_ARM_CFG_PARTICIPANTS, coord := s.get .KIM_ARM_CFG_COORD
    ext := s.flag .KIM_ARM_CFG_EXTERNAL, local_ := s.flag .KIM_ARM_CFG_LOCAL }

/-- ARM by KIM_CMD (none), or with the values of a sideband or MGMT command. -/
def execKimArm (a : Option ArmArgs) (s : State) : Host.Outcome State Fault Refusal :=
  .next (match a with | none => let t := s.put .KIM_CMD_OP 0 3; t.kimArm t.armRegs | some v => s.kimArm v)

/-- ABORT (Table 3-17). -/
def State.kimAbort (s : State) : State :=
  let s := s.put .KIM_CMD_OP 0 4
  if s.kimState = 3 || s.kimState = 4 then s.kimReject 0x35 else s

def execKimAbort (s : State) : Host.Outcome State Fault Refusal := .next s.kimAbort

/-- DISCARD (R123). -/
def State.kimDiscard (s : State) : State :=
  let s := s.put .KIM_CMD_OP 0 5
  if 4 ≤ s.kimState then s.kimFault 0x37 else if s.kimState = 0 then s else s.kimEmpty

def execKimDiscard (s : State) : Host.Outcome State Fault Refusal := .next s.kimDiscard

/-- A decision reaches the device: ABORT ends the commit with code 0x34, GO is held until the boundary (R128). -/
def State.kimLearn (s : State) (go : Bool) : State :=
  if go then s.modKim (fun k => { k with decision := some true }) else s.kimReject 0x34

/-- RESOLVE_GO and RESOLVE_ABORT act in UNCERTAIN (R128). -/
def State.kimResolve (s : State) (go : Bool) : State :=
  let s := s.put .KIM_CMD_OP 0 (if go then 6 else 7)
  if s.kimState = 5 then s.kimLearn go else s

def execResolveGo (s : State) : Host.Outcome State Fault Refusal := .next (s.kimResolve true)
def execResolveAbort (s : State) : Host.Outcome State Fault Refusal := .next (s.kimResolve false)

/-- DECIDE_GO and DECIDE_ABORT carry the decision of an EXTERNAL coordinator (R127). -/
def State.kimDecideCmd (s : State) (go : Bool) : State :=
  let s := s.put .KIM_CMD_OP 0 (if go then 8 else 9)
  if 4 ≤ s.kimState && s.kim.armExt then s.kimLearn go else s

def execDecideGo (s : State) : Host.Outcome State Fault Refusal := .next (s.kimDecideCmd true)
def execDecideAbort (s : State) : Host.Outcome State Fault Refusal := .next (s.kimDecideCmd false)

/-- KIM_ARMED: the coordinator holds the message (R126). -/
def execKimArmed (p : Pkt) (s : State) : Host.Outcome State Fault Refusal :=
  .next <| match s.kimMsg? p 0 with
    | some m => s.modKim (fun k => { k with armedMsgs := k.armedMsgs ++ [(m.sender, m.id, m.pre, m.c)] })
    | none => s

/-- COORDINATOR_DECIDE at the boundary of C - 2: GO where N distinct senders with one prefix are held, ABORT otherwise; the
decision is kept and sent to every participant (R126). -/
def State.coordDecide (s : State) (id : Nat) : State :=
  let mine := s.kim.armedMsgs.filter (fun m => m.2.1 == id)
  match mine with
  | [] => s
  | m0 :: _ =>
    let c := m0.2.2.2
    if s.get .FAB_SYNC_SLOT != 0 || s.cadence + 2 != c || s.kim.kept.any (fun k => k.1 == id) then s
    else
      let senders := (mine.map (·.1)).eraseDups
      let self := s.kimState == 4 && s.kim.armId == id && !s.kim.armExt && !s.kim.armLocal && s.kim.armCoord == s.self
      let go := self && senders.length == s.kim.armN && mine.all (fun m => m.2.2.1 == m0.2.2.1)
      let others := senders.filter (fun d => d != s.self)
      let s := s.modKim (fun k => { k with armedMsgs := k.armedMsgs.filter (fun m => m.2.1 != id), kept := k.kept ++ [(id, go, c, others)] })
      let s := others.foldl (fun s d => s.sendPkt (s.kimPkt d 1 go id c m0.2.2.1)) s
      if self then s.kimLearn go else s

def execCoordinatorDecide (id : Nat) (s : State) : Host.Outcome State Fault Refusal := .next (s.coordDecide id)

/-- KIM_DECIDE reaches a participant (R128). -/
def execKimDecide (p : Pkt) (s : State) : Host.Outcome State Fault Refusal :=
  .next <| match s.kimMsg? p 1 with
    | some m => if 4 ≤ s.kimState && !s.kim.armExt && !s.kim.armLocal && m.id = s.kim.armId && m.sender = s.kim.armCoord then s.kimLearn m.go else s
    | none => s

/-- KIM_DECIDE_RESEND: a participant of a kept decision has acknowledged it, or is sent it again (R126). -/
def State.decideResend (s : State) (id dest : Nat) (acked : Bool) : State :=
  match s.kim.kept.find? (fun k => k.1 == id && k.2.2.2.contains dest) with
  | none => s
  | some (_, go, c, _) =>
    if acked then s.modKim (fun k => { k with kept := k.kept.map (fun e => if e.1 = id then (e.1, e.2.1, e.2.2.1, e.2.2.2.filter (· != dest)) else e) })
    else s.sendPkt (s.kimPkt dest 1 go id c s.stagedPrefix)

def execKimDecideResend (id dest : Nat) (acked : Bool) (s : State) : Host.Outcome State Fault Refusal := .next (s.decideResend id dest acked)

/-- KIM_QUERY: the coordinator answers with the decision that it keeps (R126). -/
def execKimQuery (p : Pkt) (s : State) : Host.Outcome State Fault Refusal :=
  .next <| match s.kimMsg? p 2 with
    | some m => match s.kim.kept.find? (fun k => k.1 == m.id) with
      | some (_, go, c, _) => s.sendPkt (s.kimPkt m.sender 1 go m.id c m.pre)
      | none => s
    | none => s

/-! ### Slots and cadences (R585, R444, R132) -/

/-- Slot 0 of the commit's cadence is over: the previous link keys and the previous epoch are forgotten (R132, R444). -/
def State.slot0End (s : State) : State :=
  let s := s.modMem (fun m => { m with prevFab := none, prevTwin := none })
  s.modKim (fun k => { k with prevEpoch := none, lastChanged := 0 })

/-- Tasks that wait for cadence time are looked at again (R205, R206). -/
def State.wakeTimed (s : State) : State := s.tiles.foldl (fun s e => s.settleNode e.1) s

/-- SLOT_START: a later slot of this cadence begins; the timer runs from the 156.25 MHz reference (R73). -/
def State.slotStart (s : State) (slot : Nat) : State :=
  let old := s.get .FAB_SYNC_SLOT
  if slot ≤ old || 4095 < slot || !s.flag .CLK_STATUS_FAB_REF_OK then s
  else
    let s := if old = 0 then s.slot0End else s
    ((s.put .FAB_SYNC_SLOT 0 slot).fabSlot old slot).wakeTimed

def execSlotStart (slot : Nat) (s : State) : Host.Outcome State Fault Refusal := .next (s.slotStart slot)

/-- What the commit does at a cadence boundary (R128, R129, Table 3-17). -/
def State.kimBoundary (s : State) : State :=
  match s.kimState with
  | 4 =>
    if s.kim.armLocal then (if s.aligned then s.kimCommit false else s)
    else if s.cadence < s.kim.armC then s
    else if s.kim.decision = some true then s.kimCommit false
    else (s.kimFault 0x36).setKimState 5
  | 5 => if s.kim.decision = some true then s.kimCommit true else s
  | _ => s

/-- An UNCERTAIN participant asks its coordinator once every cadence (R128). -/
def State.kimAsk (s : State) : State :=
  if s.kimState = 5 && !s.kim.armExt && s.kim.armCoord != s.self then
    s.sendPkt (s.kimPkt s.kim.armCoord 2 false s.kim.armId s.kim.armC s.stagedPrefix)
  else s

/-- CADENCE_BOUNDARY: the next cadence begins with its slot 0. -/
def State.cadenceBoundary (s : State) : State :=
  let old := s.get .FAB_SYNC_SLOT
  let s := s.slot0End
  let s := (s.put .FAB_CADENCE_CADENCE 0 (s.cadence + 1)).put .FAB_SYNC_SLOT 0 0
  let s := (s.fabSlot old 0).fabBoundary
  let s := if s.aligned then { s with parts := s.parts.map (fun e => (e.1, { e.2 with gateLeft := e.2.gateLeft - 1 })) } else s
  let s := s.modKim (fun k => { k with kept := k.kept.filter (fun e => s.cadence + 2 < e.2.2.1 + 4096) })
  (s.kimBoundary.kimAsk).wakeTimed

def execCadenceBoundary (s : State) : Host.Outcome State Fault Refusal :=
  .next (if s.flag .CLK_STATUS_FAB_REF_OK then s.cadenceBoundary else s)

end Sys2Proof.Machine
end

