-- ==== Sys2Proof/Machine/Fwu.lean ====
section
/-! DEFINITION. The live update of the LANTERN firmware (R164 to R168, R176, Tables 4-13, 4-14, 4-21). -/
namespace Sys2Proof.Machine

/-- The state of the update: 0 IDLE, 1 STAGED, 2 VERIFIED, 3 ACTIVATING, 4 DONE, 5 FAILED (Table 4-21). -/
def State.fwuState (s : State) : Nat := s.get .PART_FWU_STATUS_STATE

/-- A change of the update's state is a global event (R500). -/
def State.setFwu (s : State) (st : Nat) : State :=
  if s.fwuState = st then s else (s.put .PART_FWU_STATUS_STATE 0 st).globalEvent 2

/-- The state with the update's record changed. -/
def State.modFwu (s : State) (f : Fwu → Fwu) : State := { s with fwu := f s.fwu }

/-- A code of Table 4-14. -/
def State.fwuFault (s : State) (code : Nat) : State := s.put .PART_FWU_STATUS_FAULT 0 code

/-- A command that the state of the update does not allow. -/
def State.fwuSequence (s : State) : State := s.fwuFault 0x09

/-- The bundle of core c: its digest. -/
def State.coreBundle (s : State) (c : Nat) : Nat := kgetD s.fwu.cores c s.fwu.runDigest

/-- The bundle DMA has ended: the bundle is STAGED (R165). -/
def State.fwuStaged (s : State) : State := (s.put .PART_FWU_CMD_BUSY 0 0).setFwu 1

/-- The bundle DMA reads on from an address, as R121 gives for images. -/
def State.fwuPull (s : State) (addr : Nat) : State :=
  if s.fwu.xferLen ≤ s.fwu.bytes.length || s.hostBlocked 0 then s.fwuStaged
  else s.ioRead .fwuStage 0 none addr (s.fwu.xferLen - s.fwu.bytes.length)

/-- The staged bundle leaves the store. -/
def State.fwuDrop (s : State) : State :=
  let s := s.dropReqs (fun r => r.who == .fwuStage)
  let s := ((s.put .PART_FWU_CMD_BUSY 0 0).put .PART_FWU_VER_STG_MINOR 0 0).put .PART_FWU_VER_STG_MAJOR 0 0
  (s.put .PART_FWU_STATUS_WAITING 0 0).modFwu (fun f => { f with bytes := [], xferLen := 0, stgDigest := 0, reverting := false })

/-- STAGE: not while a rollout runs. -/
def State.fwuStage (s : State) : State :=
  let s := s.put .PART_FWU_CMD_OP 0 1
  if s.fwuState = 3 then s.fwuSequence
  else
    let s := (s.fwuDrop.fwuFault 0).setFwu 0
    ((s.modFwu (fun f => { f with xferLen := s.get .PART_FWU_LEN_LEN })).put .PART_FWU_CMD_BUSY 0 1).fwuPull (s.get .PART_FWU_ADDR_ADDR)

def execFwuStage (s : State) : Host.Outcome State Fault Refusal := .next s.fwuStage

/-- The first failure of a bundle in the order of Table 4-14 (R164). -/
def State.bundleFault? (s : State) (b : List Byte) : Option Nat :=
  let len := leAt b 8 4
  let sig := leAt b 0x0C 4
  let major := leAt b 6 2
  let minor := leAt b 4 2
  let im := s.com.img
  let run := s.get .PART_FWU_VER_RUN_MAJOR
  if len % 8 ≠ 0 ∨ len < 0x40 + 0xC8 ∨ 2 ^ 25 < len ∨ sig + 0xC8 ≠ len ∨ b.length ≠ len then some 0x01
  else if leAt b 0 4 ≠ 0x4257464C then some 0x02
  else
    match sigFault (s.imgEnv b) b sig with
    | some f => some (if f.code = 0x09 then 0x04 else 0x03)
    | none =>
      if major ≠ run then some 0x05
      else if minor ≤ s.get .PART_FWU_VER_RUN_MINOR then some 0x06
      else if s.com.base.isSome ∧ (major < im.fwMinMajor ∨ (major = im.fwMinMajor ∧ minor < im.fwMinMinor)) then some 0x07
      else if leAt b 0x10 48 ≠ 0 ∨ leAt b (sig + 1) 7 ≠ 0 then some 0x0A
      else none

/-- The bundle digest (R164). -/
def bundleDigest (b : List Byte) : Nat := leNat (sha384 (b.take (leAt b 0x0C 4 + 0x68)))

/-- VERIFY. -/
def State.fwuVerify (s : State) : State :=
  let s := s.put .PART_FWU_CMD_OP 0 2
  if s.fwuState ≠ 1 then s.fwuSequence
  else
    let b := s.fwu.bytes
    match s.bundleFault? b with
    | some code => (s.fwuFault code).setFwu 5
    | none =>
      let s := (s.put .PART_FWU_VER_STG_MINOR 0 (leAt b 4 2)).put .PART_FWU_VER_STG_MAJOR 0 (leAt b 6 2)
      ((s.modFwu (fun f => { f with stgDigest := bundleDigest b })).fwuFault 0).setFwu 2

def execFwuVerify (s : State) : Host.Outcome State Fault Refusal := .next s.fwuVerify

/-- ACTIVATE: the rollout starts with core 0. -/
def State.fwuActivate (s : State) : State :=
  let s := s.put .PART_FWU_CMD_OP 0 3
  if s.fwuState ≠ 2 then s.fwuSequence
  else
    let s := (s.modFwu (fun f => { f with core := 0, reverting := false })).put .PART_FWU_STATUS_UPDATED 0 0
    ((s.put .PART_FWU_CMD_BUSY 0 1).fwuFault 0).setFwu 3

def execFwuActivate (s : State) : Host.Outcome State Fault Refusal := .next s.fwuActivate

/-- The first core that does not run the running bundle, or is being restarted on another. -/
def State.updated? (s : State) : Option Nat := (List.range 16).find? (fun k => (kfind? k s.fwu.cores).isSome)

/-- REVERT: every updated core returns to the old bundle, which the store holds until a rollout is DONE (R167). -/
def State.fwuRevert (s : State) : State :=
  let s := s.put .PART_FWU_CMD_OP 0 4
  if s.fwuState = 4 then s.fwuSequence
  else
    match s.updated? with
    | none => if s.fwuState = 3 then (s.put .PART_FWU_STATUS_WAITING 0 0).put .PART_FWU_CMD_BUSY 0 0 |>.setFwu 0 else s.fwuSequence
    | some c =>
      (((s.modFwu (fun f => { f with core := c, reverting := true })).put .PART_FWU_STATUS_WAITING 0 0).put .PART_FWU_CMD_BUSY 0 1).setFwu 3

def execFwuRevert (s : State) : Host.Outcome State Fault Refusal := .next s.fwuRevert

/-- DISCARD: the rollout is abandoned; the cores already updated stay on the new bundle (R176). -/
def State.fwuDiscard (s : State) : State := ((s.put .PART_FWU_CMD_OP 0 5).fwuDrop).setFwu 0

def execFwuDiscard (s : State) : Host.Outcome State Fault Refusal := .next s.fwuDiscard

/-- The rollout's next core is restarted; ok tells that it starts on the new bundle. A core assigned to a partition waits
until that partition is in JOB_IDLE, QUIESCED or UNASSIGNED (R165, R167). -/
def State.fwuCoreUpdate (s : State) (ok : Bool) : State :=
  let c := s.fwu.core
  let st := s.pstate (s.get .LNT_CORE_CFG_PART c)
  if s.fwuState ≠ 3 || s.coreState c = 5 then s
  else if s.assigned c && !(st == 0 || st == 1 || st == 5) then s.put .PART_FWU_STATUS_WAITING 0 (2 ^ c)
  else
    s.needs domLantern (fun s =>
      let s := (s.put .PART_FWU_STATUS_WAITING 0 0).restartCore c false
      let old := s.modFwu (fun f => { f with cores := kdel c f.cores })
      if s.fwu.reverting then old.clrBit .PART_FWU_STATUS_UPDATED 0 c
      else if ok then s.modFwu (fun f => { f with cores := kput c f.stgDigest f.cores })
      else ((old.fwuFault 0x08).put .PART_FWU_CMD_BUSY 0 0).setFwu 5)

def execFwuCoreUpdate (ok : Bool) (s : State) : Host.Outcome State Fault Refusal := .next (s.fwuCoreUpdate ok)

/-- ACTIVATE ends in DONE: the new bundle is the running one (R168). -/
def State.fwuDone (s : State) : State :=
  let s := (s.put .PART_FWU_VER_RUN_MINOR 0 (s.get .PART_FWU_VER_STG_MINOR)).put .PART_FWU_VER_RUN_MAJOR 0 (s.get .PART_FWU_VER_STG_MAJOR)
  ((s.modFwu (fun f => { f with runDigest := f.stgDigest, cores := [] })).put .PART_FWU_CMD_BUSY 0 0).setFwu 4

/-- A core serves again: the rollout, or the return to the old bundle, goes on with the next core (R165, R167). -/
def State.fwuServed (s : State) (c : Nat) : State :=
  if s.fwuState ≠ 3 || s.fwu.core ≠ c then s
  else if s.fwu.reverting then
    if (kfind? c s.fwu.cores).isSome then s
    else
      match s.updated? with
      | some k => s.modFwu (fun f => { f with core := k })
      | none => ((s.modFwu (fun f => { f with reverting := false })).put .PART_FWU_CMD_BUSY 0 0).setFwu 0
  else if kfind? c s.fwu.cores ≠ some s.fwu.stgDigest then s
  else
    let s := (s.setBit .PART_FWU_STATUS_UPDATED 0 c).modFwu (fun f => { f with core := c + 1 })
    if c = 15 then s.fwuDone else s

end Sys2Proof.Machine
end

