-- ==== Sys2Proof/Machine/HostRows.lean ====
section
/-! DEFINITION. Events of the host link: completions, interrupts, QUARANTINE, power states, hot reset, training and Function
Level Reset (R457, R459, R479, R482, R483, R493 to R524, R798, Tables 12-3, 12-5 to 12-7). -/
namespace Sys2Proof.Machine

/-! ### Completions (R493 to R497, R509, R523) -/

/-- What the requester of a failed non-posted request sees (Table 12-3). -/
def State.reqFail (s : State) (r : HostReq) : State :=
  match r.who with
  | .sqFetch p q => s.stopPair p q 0
  | .kimStage => s.modKim (fun k => { k with dmaEnd := true })
  | .fwuStage => s.fwuStaged
  | .acc id => match s.acc? id with | some a => s.ioFail a | none => s
  | .ats id => s.atsDone id 1 []
  | .nobody | .flr => s

/-- All the bytes of a read have come, got with whether any was poisoned. -/
def State.reqDone (s : State) (r : HostReq) (got : List Byte) (bad : Bool) : State :=
  match r.who with
  | .sqFetch p q => if bad then s.stopPair p q 0 else s.acceptCommand p q got
  | .kimStage =>
    if bad then s.modKim (fun k => { k with dmaEnd := true })
    else (s.modKim (fun k => { k with staging := k.staging ++ got })).kimPull (r.addr + r.len)
  | .fwuStage => if bad then s.fwuStaged else (s.modFwu (fun f => { f with bytes := f.bytes ++ got })).fwuPull (r.addr + r.len)
  | .acc id => s.modAcc id (fun a => { a with got := [(r.addr, got, bad)], wait := .run })
  | .ats _ | .nobody | .flr => s

/-- The access of a GET, whose data leaves as it arrives (R493). -/
def State.getAcc? (s : State) (r : HostReq) : Option Acc :=
  match r.who with
  | .acc id => (s.acc? id).filter (fun a => a.kind == 0 && match a.who with | .get _ => true | _ => false)
  | _ => none

/-- Data of a completion comes for its request. -/
def State.reqData (s : State) (r : HostReq) (data : List Byte) (bad : Bool) : State :=
  let got := r.got ++ data
  let s := if got.length = r.len then s.delReq r.tag
    else s.modHost (fun h => { h with reqs := h.reqs.map (fun q => if q.tag = r.tag then { q with got := got, bad := r.bad || bad } else q) })
  match s.getAcc? r with
  | some a =>
    let at_ := r.addr + got.length
    let t := s.deliver a data bad
    if got.length = r.len then t else (t.modAcc a.id (fun b => { b with page := some (at_, r.len - got.length, true) })).waitAcc a.id .io
  | none => if got.length = r.len then s.reqDone r got (r.bad || bad) else s

/-- A CXL.io completion: ok tells that it contradicts its request in nothing (Table 12-4, code 0x06). -/
def State.completion (s : State) (tag status : Nat) (data : List Byte) (poison ok : Bool) (hdr : List Byte) : State :=
  match s.host.reqs.find? (fun r => r.tag == tag) with
  | none => s.strayCpl tag hdr
  | some r =>
    if r.ats.isSome then s
    else if r.who = .flr ∨ r.who = .nobody then
      let s := if r.who = .flr then s else s.bump .HL_CTO_LATE
      if status != 0 || r.len ≤ r.got.length + data.length then s.delReq tag
      else s.modHost (fun h => { h with reqs := h.reqs.map (fun q => if q.tag = tag then { q with got := q.got ++ data } else q) })
    else if !ok || r.len < r.got.length + data.length || (status == 0 && data == []) then
      ((s.violation 0x06 r.fn hdr).delReq tag).reqFail r
    else if status != 0 then
      let got := if status = 1 then 0x2000 else if status = 4 then 0x1000 else 0
      ((s.modFn r.fn (fun c => { c with status := c.status ||| got })).delReq tag).reqFail r
    else s.reqData r data poison

def execCxlioCompletion (tag status : Nat) (data : List Byte) (poison ok : Bool) (hdr : List Byte) (s : State) :
    Host.Outcome State Fault Refusal :=
  .next ((s.completion tag status data poison ok hdr).pumpHost).settleAll

/-- COMPLETION_TIMEOUT (R494, R495): the requester fails and the tag is held. -/
def State.ctoFire (s : State) (tag : Nat) : State :=
  match s.host.reqs.find? (fun r => r.tag == tag) with
  | none => s
  | some r =>
    if (s.fn 0).ctoDis || r.who = .flr || r.who = .nobody then s
    else
      let s := ((s.delReq tag).modHost (fun h => { h with heldTags := tag :: h.heldTags })).bump .HL_CTO_TIMEOUTS
      (s.aerReport 14 false).reqFail r

def execCompletionTimeout (tag : Nat) (s : State) : Host.Outcome State Fault Refusal := .next ((s.ctoFire tag).pumpHost).settleAll

/-- TAG_HOLD_EXPIRE (R495, R523): a tag of the host link is usable again; with a port, a tag of that downlink port (R545). -/
def execTagHoldExpire (tag : Nat) (port : Option Nat) (s : State) : Host.Outcome State Fault Refusal :=
  .next <|
    match port with
    | some p => s.modDlPort p (fun r => { r with heldTags := r.heldTags.filter (· != tag) })
    | none =>
      (s.modHost (fun h => { h with
        heldTags := h.heldTags.filter (· != tag)
        reqs := h.reqs.filter (fun r => r.tag != tag || !(r.who == .nobody || r.who == .flr)) })).pumpHost

/-! ### Interrupts (R499, R520) -/

/-- MSIX_UNMASK: a vector of a function becomes unmasked, or with none its Function Mask clears. -/
def State.msixUnmask (s : State) (n : Nat) (v : Option Nat) : State :=
  match v with
  | some v =>
    let s := s.modMsix n v (fun e => { e with masked := false })
    if (s.msixEnt n v).pending && !(s.fn n).fnMask then s.msixEvent n v else s
  | none => (s.modFn n (fun c => { c with fnMask := false })).sendPending n

def execMsixUnmask (n : Nat) (v : Option Nat) (s : State) : Host.Outcome State Fault Refusal := .next (s.msixUnmask n v)

/-- The PF's vectors of the INTx source bits that are set: vector 0 of a partition, the vector of a global event. -/
def State.intxVectors (s : State) : List Nat :=
  let g := s.get .HL_INTX_GLB_GLB
  let p := s.get .HL_INTX_PART_PART
  ((List.range 64).filter (bit p)).map (32 * ·) ++
    ([Fld.HL_GVEC_FAULT_VEC, .HL_GVEC_KIM_VEC, .HL_GVEC_FWU_VEC, .HL_GVEC_HL_VEC, .HL_GVEC_EMB_VEC].zipIdx.filter (fun e => bit g e.2)).map
      (fun e => s.get e.1)

/-- The INTx sources go, and the level with them (R501, R507, R517). -/
def State.intxClear (s : State) : State := ((s.put .HL_INTX_PART_PART 0 0).put .HL_INTX_GLB_GLB 0 0).updIntx

/-- The pending bits of a function go. -/
def State.dropPending (s : State) (n : Nat) : State :=
  s.modHost (fun h => { h with msix := h.msix.map (fun e => if e.1 / 4096 = n then (e.1, { e.2 with pending := false }) else e) })

/-- MSIX_ENABLE: the PF's MSI-X Enable changes (R520). -/
def State.msixEnable (s : State) (en : Bool) : State :=
  if en = (s.fn 0).msixEn then s
  else if en then
    let vs := s.intxVectors
    vs.foldl (fun s v => s.msixEvent 0 v) (s.intxClear.modFn 0 (fun c => { c with msixEn := true }))
  else (s.modFn 0 (fun c => { c with msixEn := false })).dropPending 0

def execMsixEnable (en : Bool) (s : State) : Host.Outcome State Fault Refusal := .next (s.msixEnable en)

/-! ### What is held is sent (R512, R706, R798) -/

/-- The requests and pending vectors of a function that can go now are sent, and what waited for them goes on. -/
def State.sendHeld (s : State) (n : Nat) : State :=
  let s := if n = 0 then (List.range 65).foldl (fun s m => s.sendPending m) s else s.sendPending n
  (s.pumpHost.ringsPump).cchPump.settleAll

/-- BUS_MASTER_ENABLE of a function (R798). -/
def execBusMasterEnable (n : Nat) (s : State) : Host.Outcome State Fault Refusal :=
  .next (if s.fnLive n then (s.modFn n (fun c => { c with busMaster := true })).sendHeld n else s)

/-! ### QUARANTINE (R505) -/

/-- QUARANTINE ends, and the counting window starts empty. -/
def State.quarantineEnd (s : State) : State :=
  let s := s.modHost (fun h => { h with violTicks := [] })
  if s.flag .HL_STATUS_QUARANTINE then (s.put .HL_STATUS_QUARANTINE 0 0).globalEvent 3 else s

/-- A write of 1 to HL_STATUS.RELEASE. -/
def State.quarantineRelease (s : State) : State :=
  if s.flag .HL_STATUS_QUARANTINE then s.quarantineEnd.sendHeld 0 else s

def execQuarantineRelease (s : State) : Host.Outcome State Fault Refusal := .next s.quarantineRelease

/-! ### Power states (R511 to R516, R524) -/

/-- The PowerState of a function changes: 0 D0, 3 D3hot. -/
def State.setDstate (s : State) (n d : Nat) : State :=
  let s := s.modFn n (fun c => { c with dstate := d })
  if n = 0 then s.put .HL_STATUS_PF_DSTATE 0 d else s

def execD3hotEntry (n : Nat) (s : State) : Host.Outcome State Fault Refusal := .next (if s.fnLive n then s.setDstate n 3 else s)

/-- D0_RETURN (R512). -/
def execD0Return (n : Nat) (s : State) : Host.Outcome State Fault Refusal :=
  .next (if s.fnLive n then (s.setDstate n 0).sendHeld n else s)

/-- PME_TURN_OFF: requests are held and the cache flush starts, as by CACHE_DISABLE_FLUSH of the device scope (R513, R524). -/
def execPmeTurnOff (s : State) : Host.Outcome State Fault Refusal :=
  .next (if s.flag .HL_STATUS_LINK_UP then ((s.modHost (fun h => { h with turnOff := true })).cacheCtl none .flush true false .power).2.cchPump else s)

/-- PME_TO_ACK: the cache is flushed and the BI pending buffer is empty (Table 12-7). -/
def execPmeToAck (s : State) : Host.Outcome State Fault Refusal :=
  .next (if s.host.turnOff && !s.flag .HL_STATUS_D3COLD_ENTRY && !s.flushing none && s.cch.evb == [] && s.biPending == 0 then
    (s.emit (.hostMsg .pmeToAck)).put .HL_STATUS_D3COLD_ENTRY 0 1 else s)

/-- WAKE# falls back (R516). -/
def State.wakeEnd (s : State) : State :=
  if s.flag .HL_WAKE_WAKE_OUT then (s.put .HL_WAKE_WAKE_OUT 0 0).emit (.pin .wake false) else s

/-- A wake source of HL_WAKE: 0 a sideband wake request, 1 a change on TWIN_HB_IN, 2 + g an edge on GPIO g (R514, R516). -/
def State.wakeSource (s : State) (src : Nat) : State :=
  let on := match src with
    | 0 => s.flag .HL_WAKE_SIDEBAND_EN
    | 1 => s.flag .HL_WAKE_TWIN_HB_EN
    | g + 2 => bit (s.get .HL_WAKE_GPIO_EN) g
  if !on then s
  else if s.pilot.inD3cold then
    let s := s.modFn 0 (fun c => { c with pmeStatus := true })
    if (s.fn 0).pmeEn && !s.flag .HL_WAKE_WAKE_OUT then ((s.put .HL_WAKE_WAKE_OUT 0 1).bump .HL_WAKE_WAKES).emit (.pin .wake true) else s
  else s.pmeEvent 0

def execD3coldWake (src : Nat) (s : State) : Host.Outcome State Fault Refusal := .next (s.wakeSource src)

/-! ### What resets share -/

/-- The sticky fields of the PF and the configuration that the standard lets an FLR or a hot reset keep; cxl keeps the CXL
DVSEC's control bits (R401, R508, R517, Table 2-7). -/
def FnCfg.kept (c : FnCfg) (cxl : Bool) : FnCfg :=
  let k : FnCfg := { pmeEn := c.pmeEn, pmeStatus := c.pmeStatus, aerUncor := c.aerUncor, aerUncorMask := c.aerUncorMask
                     aerUncorSev := c.aerUncorSev, aerCor := c.aerCor, aerCorMask := c.aerCorMask, aerLog := c.aerLog }
  if cxl then { k with cxlCacheEn := c.cxlCacheEn, cxlMemEn := c.cxlMemEn, disCaching := c.disCaching, cacheInvalid := c.cacheInvalid } else k

/-- The configuration spaces of all functions take their reset values. -/
def State.resetCfg (s : State) (cxl : Bool) : State := s.modHost (fun h => { h with fns := [(0, (kgetD h.fns 0 {}).kept cxl)], turnOff := false })

/-- The requests of the functions that meet a condition end: completions of those outstanding are dropped, image and bundle
transfers among them have ended (R509, R519). -/
def State.endReqs (s : State) (c : HostReq → Bool) (nw : Requester) : State :=
  let live := (s.host.reqs ++ s.host.waitq).filter c
  let s := s.dropReqs c nw
  let s := if live.any (fun r => r.who == .kimStage) then s.modKim (fun k => { k with dmaEnd := true }) else s
  if live.any (fun r => r.who == .fwuStage) then s.fwuStaged else s

/-- ATS Invalidate Requests of the functions that meet a condition are completed at once (R518, Table 12-5). -/
def State.endInvs (s : State) (c : Nat → Bool) (send : Bool) : State :=
  let all := (s.xlat.hinv ++ s.xlat.hinvWait).filter (fun r => c r.fn)
  let s := if send then all.foldl (fun s r => s.emit (.invCpl r.fn r.itag)) s else s
  s.modXlat (fun x => { x with hinv := x.hinv.filter (fun r => !c r.fn), hinvWait := x.hinvWait.filter (fun r => !c r.fn) })

/-- The pages of partitions that are not assigned return to their reset values (R76). -/
def State.resetFreePages (s : State) : State :=
  (List.range 64).foldl (fun s p => if s.pstate p = 0 then s.resetCells (fun e => s.pageCell p e && !e.fld.partKeeps) else s) s

/-- Every partition is reset (R175). -/
def State.resetAllParts (s : State) (cause : Nat) : State := (List.range 64).foldl (fun s p => s.partReset p cause) s

/-! ### Hot reset and link-down (R402, R479, R485, R517) -/

/-- Cache, directory and their requests go without write-back; what waited for them fails (R402). -/
def State.cacheLost (s : State) : State :=
  let lines := s.cch.bi.flatMap (fun r => r.cores.map (fun c => (c, r.line)))
  let s := s.cch.d2h.foldl State.d2hFail s
  let s := lines.foldl (fun s e => s.modCore e.1 (fun k => { k with far := kput (2 ^ 65 + e.2) ([], false) k.far })) s
  let s := s.modCch (fun c => { c with lines := [], evb := [], d2h := [], dir := [], bi := [], m2s := [], hostOps := [] })
  let s := s.put .CCH_DEV_STALE_RISK 0 0
  ((List.range 64).foldl (fun s p => s.put .CCH_PSTATE_STALE_RISK p 0) s).flushPump

/-- DF_LINK as it reads: HDM_MODE, BI_ACTIVE and CACHE_ACTIVE follow the link and its configuration (Table 11-9). -/
def State.dfLink (s : State) : Nat :=
  s.regWord .DF_LINK 0 + s.dirMode * 2 ^ 11 + b2n (s.get .DF_LINK_LINK_MODE == 2) * 2 ^ 13 + b2n s.cacheActive * 2 ^ 14

/-- HOST_LINK_DOWN: scope 6 (R517, Table 2-6). -/
def State.hostDown (s : State) : State :=
  if !s.flag .HL_STATUS_LINK_UP then s
  else
    let s := (s.put .HL_STATUS_LINK_UP 0 0).modPilot (fun r => { r with hotReset := true, flr := [] })
    let s := (s.cacheLost.endReqs (fun _ => true) .nobody).resetAllParts 10
    let s := (s.modHost (fun h => { h with reqs := [], waitq := [], heldTags := [], msix := [], violTicks := [], decoders := [] })).intxClear
    let s := ((s.endInvs (fun _ => true) false).priReset 0).tlbDrop (fun _ => true)
    let s := (s.modXlat (fun x => { x with ats := [] })).resetCfg false
    let s := ((s.put .HL_STATUS_QUARANTINE 0 0).put .HL_STATUS_D3COLD_ENTRY 0 0).put .HL_STATUS_PF_DSTATE 0 0
    let s := (((s.put .DF_LINK_LINK_MODE 0 0).put .DF_LINK_FLIT 0 0).put .DF_LINK_SPEED 0 0).put .DF_LINK_WIDTH 0 0
    (((s.resetFreePages.ember' 5 1 0 none 0 s.dfLink).cchPump).settleAll).hotDone

def execHostLinkDown (s : State) : Host.Outcome State Fault Refusal := .next s.hostDown

/-- A mode, rate and width that Table 11-1 allows: rates 1 to 6 are 2.5 to 64 GT/s. -/
def linkOk (mode speed width : Nat) : Bool :=
  [1, 2, 4, 8, 16].contains width && speed ≤ 6 && match mode with | 0 => 1 ≤ speed | 1 => 3 ≤ speed && speed ≤ 5 | 2 => 3 ≤ speed | _ => false

/-- HOST_LINK_UP: the link has trained to a mode, a rate and a width (R456, R457). -/
def State.hostUp (s : State) (mode speed width : Nat) : State :=
  let powered := match s.pilot.phase with | .locked | .fwLoaded | .ready => true | _ => false
  if !powered || s.pins.perst || !s.flag .CLK_STATUS_HL_REF_OK || s.flag .HL_STATUS_LINK_UP || s.pilot.hotReset || !linkOk mode speed width then s
  else
    let s := (s.put .DF_LINK_LINK_MODE 0 mode).put .DF_LINK_FLIT 0 (b2n (mode == 0 && speed == 6))
    let s := (s.put .DF_LINK_SPEED 0 speed).put .DF_LINK_WIDTH 0 width
    let s := (if mode < 2 then s.bump .DF_LINK_FALLBACKS else s).put .HL_STATUS_LINK_UP 0 1
    let s := s.ember' 5 1 mode none 0 s.dfLink
    (if (s.fn 0).pmeStatus && (s.fn 0).pmeEn then s.emit (.hostMsg .pmPme) else s).cchPump.settleAll

def execHostLinkUp (mode speed width : Nat) (s : State) : Host.Outcome State Fault Refusal := .next (s.hostUp mode speed width)

/-! ### Function Level Reset (R507 to R510, R518, R519, Table 12-5) -/

/-- The partition bound to a function. -/
def State.partsOf (s : State) (n : Nat) : List Nat := (List.range 64).filter (fun p => s.fnOf? p == some n)

/-- An FLR of VF v (R175). -/
def State.vfFlr (s : State) (v : Nat) : State :=
  if v = 0 || !s.fnLive v || s.underFlr v then s
  else
    let s := (s.partsOf v).foldl (fun s p => s.partReset p 9) (s.dropReqs (fun r => r.fn == v) .flr)
    let s := (s.dropReqs (fun r => r.fn == v) .flr).modPilot (fun r => { r with flr := v :: r.flr })
    let s := ((s.endInvs (· == v) true).priReset v).modXlat (fun x => { x with ats := x.ats.filter (fun r => r.fn != v) })
    s.modHost (fun h => { h with fns := kdel v h.fns, msix := h.msix.filter (fun e => e.1 / 4096 != v) })

def execVfFlr (v : Nat) (s : State) : Host.Outcome State Fault Refusal := .next (s.vfFlr v).settleAll

/-- An FLR of the PF: scope 3 (R401, R505). -/
def State.pfFlr (s : State) : State :=
  if s.underFlr 0 then s
  else
    let s := (s.quarantineEnd.endReqs (fun _ => true) .flr).resetAllParts 9
    let s := ((s.endReqs (fun _ => true) .flr).modPilot (fun r => { r with flr := [0] })).intxClear
    let s := ((s.endInvs (fun _ => true) true).priReset 0).tlbDrop (fun _ => true)
    let s := (s.modXlat (fun x => { x with ats := [] })).modHost (fun h => { h with msix := [] })
    let s := (s.resetCfg true).put .HL_STATUS_PF_DSTATE 0 0
    let s := if (s.fn 0).disCaching then
        let t := if s.staleRisk none then s.cacheFault 0x02 none none (s.retained none) else s
        (t.setScope none 2).flushStart none .host
      else s.resetScope none
    (s.resetFreePages.cchPump).settleAll

def execPfFlr (s : State) : Host.Outcome State Fault Refusal := .next s.pfFlr

/-- FLR_COMPLETE: the resets of the function's partitions are complete (R508). -/
def State.flrComplete (s : State) (n : Nat) : State :=
  let ps := if n = 0 then List.range 64 else s.partsOf n
  if !s.pilot.flr.contains n || ps.any (fun p => s.pstate p == 6) || (n = 0 && s.flushing none) then s
  else
    let s := s.modPilot (fun r => { r with flr := r.flr.filter (· != n) })
    if n = 0 then (s.bump .HL_FLR_PF_FLRS).scopeDone 3 9 none 0
    else ((s.bump .HL_FLR_VF_FLRS).put .HL_FLR_LAST_VF 0 n).scopeDone 4 9 ps.head? n

def execFlrComplete (n : Nat) (s : State) : Host.Outcome State Fault Refusal := .next (s.flrComplete n).settleAll

/-! ### VF Enable (R459, R482, R483) -/

/-- VF_ENABLE_SET: the VFs take their routing IDs, with their configuration at its reset values. -/
def execVfEnableSet (s : State) : Host.Outcome State Fault Refusal :=
  .next (if (s.fn 0).vfEn then s else (s.modFn 0 (fun c => { c with vfEn := true })).pumpHost)

/-- VF_ENABLE_CLEAR: every partition bound to a VF is reset as by a VF FLR (R483). -/
def State.vfEnableClear (s : State) : State :=
  if !(s.fn 0).vfEn then s
  else
    let s := (List.range 65).foldl (fun s v => if s.partsOf v = [] then s else s.vfFlr v) s
    (s.modFn 0 (fun c => { c with vfEn := false })).modHost (fun h => { h with
      fns := h.fns.filter (fun e => e.1 == 0), msix := h.msix.filter (fun e => e.1 / 4096 == 0) })

def execVfEnableClear (s : State) : Host.Outcome State Fault Refusal := .next s.vfEnableClear.settleAll

/-- UNSUPPORTED_MESSAGE: a message of an unsupported type; Vendor-Defined Type 0 is answered UR (Table 12-4, code 0x04). -/
def execUnsupportedMessage (vdm0 : Bool) (hdr : List Byte) (s : State) : Host.Outcome State Fault Refusal :=
  .next (s.violation 0x04 0 hdr false vdm0)

end Sys2Proof.Machine
end

