-- ==== Sys2Proof/Machine/Power.lean ====
section
/-! DEFINITION. PILOT: cold and warm start, the supplies, the switched domains, the power governor and the clocks
(R51 to R88, R316, R513 to R516, R702, R784, R788, R791, R795). -/
namespace Sys2Proof.Machine

/-! ### The governor (R68 to R70, R784, R791) -/

/-- The part can run its tile clock at 2.25 GHz now. -/
def State.boosts (s : State) : Bool :=
  s.get .GLB_IDENT_BOOST_CLK == 225 && !s.pilot.powerDrop && !s.pilot.thermalDrop && !s.pins.prochot && !s.pilot.avsPending

/-- CLK_STATUS.TILE_CLK as the locks and the governor give it: 0 while a die PLL is unlocked. -/
def State.tileClk (s : State) : Nat := if s.get .CLK_STATUS_DIE_LOCK != 15 then 0 else if s.boosts then 225 else 200

/-- Matrix-array issue that the limits allow: the strictest governs. -/
def State.duty (s : State) : Nat := min (15 - s.pilot.powerSteps) (min (15 - s.pilot.thermalSteps) (if s.pins.prochot then 7 else 15))

/-- PWR_GOV and CLK_STATUS follow the limits; a drop of the boost and each 1/16 of matrix issue taken are throttling steps,
where steps tells that a limit causes them (R69, Table 2-13). -/
def State.limitsSet (s : State) (steps : Bool) : State :=
  let old := s.get .PWR_GOV_ISSUE_DUTY
  let off := s.flag .PWR_GOV_BOOST_ACTIVE && s.tileClk == 200
  let n := (old - s.duty) + b2n off
  let s := ((s.put .CLK_STATUS_TILE_CLK 0 s.tileClk).put .PWR_GOV_BOOST_ACTIVE 0 (b2n (s.tileClk == 225))).put .PWR_GOV_ISSUE_DUTY 0 s.duty
  let s := if steps && n != 0 then (s.put .PWR_GOV_LIMIT_HIT 0 1).bump .PWR_GOV_THROTTLE_EVENTS 0 n else s
  let s := if off then s.powerRec 5 else s
  if s.duty < old then s.powerRec 3 else s

/-- THROTTLE_STEP: a limit of R68 would be exceeded: the boost goes first, then 1/16 of matrix issue. -/
def State.throttle (s : State) : State :=
  let s := if s.flag .PWR_GOV_BOOST_ACTIVE then s.modPilot (fun r => { r with powerDrop := true })
    else s.modPilot (fun r => { r with powerSteps := min 15 (max r.powerSteps (15 - s.get .PWR_GOV_ISSUE_DUTY) + 1) })
  s.limitsSet true

def execThrottleStep (s : State) : Host.Outcome State Fault Refusal := .next s.throttle

/-- One step of the thermal limit (R784). -/
def State.thermalStep (s : State) : State :=
  let s := if s.get .GLB_IDENT_BOOST_CLK = 225 && !s.pilot.thermalDrop then s.modPilot (fun r => { r with thermalDrop := true })
    else s.modPilot (fun r => { r with thermalSteps := min 15 (r.thermalSteps + 1) })
  s.limitsSet true

def execThermalThrottleStep (s : State) : Host.Outcome State Fault Refusal := .next s.thermalStep

/-- THROTTLE_TEMPERATURE_REACHED: a die sensor has reached 103 degrees: one step at once (R784). -/
def execThrottleTemperatureReached (s : State) : Host.Outcome State Fault Refusal := .next s.thermalStep

/-- THERMAL_LIMIT_LIFT: one step of the thermal limit is lifted, in the reverse of the order of R69. -/
def execThermalLimitLift (s : State) : Host.Outcome State Fault Refusal :=
  .next ((if s.pilot.thermalSteps != 0 then s.modPilot (fun r => { r with thermalSteps := r.thermalSteps - 1 })
    else s.modPilot (fun r => { r with thermalDrop := false })).limitsSet false)

/-- One step of the power limits is lifted. -/
def State.powerLift (s : State) : State :=
  (if s.pilot.powerSteps != 0 then s.modPilot (fun r => { r with powerSteps := r.powerSteps - 1 })
    else s.modPilot (fun r => { r with powerDrop := false })).limitsSet false

/-- The level on PROCHOT#. -/
def State.setProchot (s : State) (on : Bool) : State :=
  if s.pins.prochot = on then s
  else
    let s := { s with pins := { s.pins with prochot := on } }
    ((s.put .PWR_GOV_PROCHOT_IN 0 (b2n on)).powerRec (if on then 1 else 2)).limitsSet true

def execProchotAssert (s : State) : Host.Outcome State Fault Refusal := .next (s.setProchot true)
def execProchotRelease (s : State) : Host.Outcome State Fault Refusal := .next (s.setProchot false)

/-- AVS_FAIL: a write to a rail stays unacknowledged after its attempts (R791). -/
def execAvsFail (rail attempts : Nat) (s : State) : Host.Outcome State Fault Refusal :=
  .next (((s.modPilot (fun r => { r with avsPending := true })).limitsSet false).powerRec 6 (rail % 2 + attempts % 256 * 2 ^ 8))

/-! ### The main side stops and starts (R74 to R76, R87, R513, R788, R795, Table 2-9) -/

/-- The fields that a warm reset keeps: PILOT's registers, the fuse shadow, the KEK slots' state, the sticky fields of DF_LINK
(Table 2-7, R488). -/
def FCell.warmKeeps (e : FCell) : Bool :=
  e.fld.info.reg.info.cls == .pilot || e.fld.info.reset == .fuse ||
    match e.fld with | .CRY_KEK_KEK_VALID | .DF_LINK_FALLBACKS | .DF_LINK_FALLBACK_SAT => true | _ => false

/-- SPINE and every switched domain lose their state, with every working key; stored bytes stay where power does, but none
reads as it did (Table 2-6). -/
def State.stopMain (s : State) (powered : Bool) : State :=
  let t : State := {
    fields := s.fields.filter FCell.warmKeeps, fuses := s.fuses, pins := s.pins
    pilot := { phase := s.pilot.phase, ticking := s.pilot.ticking, sensed := s.pilot.sensed, emberOn := s.pilot.emberOn
               tickInexact := s.pilot.tickInexact, scope := s.pilot.scope, cause := s.pilot.cause, starting := s.pilot.starting }
    host := { fns := [(0, (s.fn 0).kept false)] }
    ember := { s.ember with fatal := false, past := true }
    mem := { cells := if powered then s.mem.cells else [], keks := s.mem.keks }
    twin := { edge := s.twin.edge, flit := s.twin.flit, toggle := s.twin.toggle }
    out := s.out, freeCtr := s.freeCtr, pending := s.pending }
  let t := (t.undefine 0 hbmEnd).undefine farBase farEnd
  ((t.put .RST_STATUS_MAIN_READY 0 0).put .CLK_STATUS_PILOT_REF_OK 0 (b2n (t.pilot.ticking && !t.pilot.tickInexact))).put .PWR_GOV_PROCHOT_IN 0
    (b2n t.pins.prochot)

/-- The main phase begins, where the supply is good and nothing holds it (R74, R788). -/
def State.mainStart (s : State) : State :=
  if s.pilot.phase = .mainOff && s.pins.pilotPwrOk && s.pins.mainPwrOk && !s.pins.thermTrip && !s.pilot.waitPerst then
    match s.pilot.onMainRise with
    | some c => s.modPilot (fun r => { r with phase := .mainOn, starting := true, scope := 2, cause := c, onMainRise := none, inD3cold := false })
    | none => s.modPilot (fun r => { r with phase := .mainOn, inD3cold := false })
  else s

/-- A warm reset starts with a cause. -/
def State.warmReset (s : State) (cause : Nat) : State :=
  ((s.stopMain true).modPilot (fun r => { r with phase := .mainOff, starting := true, scope := 2, cause := cause })).mainStart

/-- The device runs: the last start is complete. -/
def State.up (s : State) : Bool := s.pilot.phase == .ready

/-- The main side is stopped until the supply returns, which then performs a warm reset with a cause. -/
def State.stopUntilRise (s : State) (cause : Nat) (powered : Bool) : State :=
  (s.stopMain powered).modPilot (fun r => { r with phase := .mainOff, onMainRise := some cause })

/-- MAIN_PWR_OK_RISE. -/
def execMainPwrOkRise (s : State) : Host.Outcome State Fault Refusal :=
  .next ({ s with pins := { s.pins with mainPwrOk := true } } : State).mainStart

/-- MAIN_PWR_OK_FALL (R87, R513, R515, R795): under load a fatal error; after PME_TO_Ack or under PERST# the way into D3cold;
during the main phase its end. -/
def State.mainFall (s : State) : State :=
  let s := { s with pins := { s.pins with mainPwrOk := false } }
  match s.pilot.phase with
  | .off | .pilot => s
  | .ready =>
    if s.flag .HL_STATUS_D3COLD_ENTRY then (s.stopUntilRise 6 false).modPilot (fun r => { r with inD3cold := true })
    else ((s.put .HL_STATUS_LINK_UP 0 0).acceptFault (s.mkFault 0x0C 0x04 none)).stopUntilRise 3 false
  | .mainOff =>
    if s.pilot.waitPerst then
      s.modPilot (fun r => { r with waitPerst := false, inD3cold := true, onMainRise := some (if r.d3coldEntry then 6 else 2) })
    else s
  | _ => (s.stopMain false).modPilot (fun r => { r with phase := .mainOff })

def execMainPwrOkFall (s : State) : Host.Outcome State Fault Refusal := .next s.mainFall

/-- PERST_ASSERT: a warm reset that lasts until PERST# deasserts; one in progress absorbs it (R74, R75). -/
def State.perstAssert (s : State) : State :=
  let s := { s with pins := { s.pins with perst := true } }
  if s.up then
    let entry := s.flag .HL_STATUS_D3COLD_ENTRY
    (s.stopMain true).modPilot (fun r => { r with
      phase := .mainOff, starting := true, scope := 2, cause := 2, waitPerst := true, d3coldEntry := entry })
  else s

def execPerstAssert (s : State) : Host.Outcome State Fault Refusal := .next s.perstAssert

/-- PERST_DEASSERT (R74, R516). -/
def execPerstDeassert (s : State) : Host.Outcome State Fault Refusal :=
  .next ((({ s with pins := { s.pins with perst := false } } : State).wakeEnd).modPilot (fun r => { r with waitPerst := false })).mainStart

/-- RST_REQ_WARM: RST_REQ.WARM is written as 1. -/
def State.rstReqWarm (s : State) : State := if s.up then s.warmReset 4 else s

def execRstReqWarm (s : State) : Host.Outcome State Fault Refusal := .next s.rstReqWarm

def execSidebandWarmRequest (s : State) : Host.Outcome State Fault Refusal := .next (if s.up then s.onBus.warmReset 5 else s)

/-- KICK: LNT_WDOG.KICK is written as 1, and the count begins again (Table 7-13). -/
def State.kick (s : State) : State := s.modPilot (fun r => { r with wdogFrom := s.get .CLK_TICK_TICK })

def execKick (s : State) : Host.Outcome State Fault Refusal := .next s.kick

/-- PROV_WATCHDOG: TIMEOUT_MS has passed without KICK: a fault, then a warm reset (R702). -/
def State.provWatchdog (s : State) : State :=
  let ms := s.get .LNT_WDOG_TIMEOUT_MS
  if s.up && ms != 0 && s.pilot.wdogFrom + 3125 * ms ≤ s.get .CLK_TICK_TICK then (s.acceptFault (s.mkFault 0x0C 0x06 none)).warmReset 8 else s

def execProvWatchdog (s : State) : Host.Outcome State Fault Refusal := .next s.provWatchdog

/-- The level on THERM_TRIP#. -/
def State.setTrip (s : State) (on : Bool) : State := ({ s with pins := { s.pins with thermTrip := on } } : State).emit (.pin .thermTrip on)

/-- THERMAL_TRIP: a die has reached 115 degrees (R71, R784): the clocks stop, and the next main phase has cause 7 (R788). -/
def State.thermalTrip (s : State) : State :=
  if s.pins.thermTrip then s
  else
    match s.pilot.phase with
    | .off | .pilot | .mainOff => s
    | _ => ((s.setTrip true).acceptFault (s.mkFault 0x0C 0x03 none)).stopUntilRise 7 false

def execThermalTrip (s : State) : Host.Outcome State Fault Refusal := .next s.thermalTrip

/-- THERM_TRIP_RELEASE: main power is off and the dies are below 100 degrees (R788). -/
def execThermTripRelease (s : State) : Host.Outcome State Fault Refusal :=
  .next (if s.pins.thermTrip && !s.pins.mainPwrOk then s.setTrip false else s)

/-! ### Cold start, PILOT phase (R77 to R79, R88, R730, Table 2-8) -/

/-- PILOT_PWR_OK_RISE: everything is reset; what MRAM holds stays. -/
def execPilotPwrOkRise (s : State) : Host.Outcome State Fault Refusal :=
  .next <|
    if s.pins.pilotPwrOk then s
    else
      let t : State := {
        fuses := s.fuses, pins := { pilotPwrOk := true, mainPwrOk := s.pins.mainPwrOk, perst := s.pins.perst, prochot := s.pins.prochot }
        pilot := { phase := .pilot, starting := true, scope := 1, cause := 1 }
        ember := { slots := s.ember.slots, ageNext := s.ember.ageNext }
        out := s.out, freeCtr := s.freeCtr, pending := s.pending }
      (t.undefine 0 hbmEnd).undefine farBase farEnd

/-- TICK_COUNTER_START: t0 + 100 us. -/
def execTickCounterStart (s : State) : Host.Outcome State Fault Refusal :=
  .next (if s.pilot.phase = .pilot && !s.pilot.ticking then
    ((s.modPilot (fun r => { r with ticking := true })).put .CLK_TICK_TICK 0 0).put .CLK_STATUS_PILOT_REF_OK 0 1 else s)

/-- The fields that the fuses give (Tables 0-8, 1-7, 3-25, 11-10). -/
def State.fuseFields (s : State) (f : Fuses) : State :=
  let s := ((s.put .GLB_IDENT_BIN 0 f.bin).put .GLB_IDENT_FUSE_EXT 0 (b2n f.fuseExt)).put .GLB_IDENT_STEP_MINOR 0 f.stepMinor
  let s := ((s.put .GLB_IDENT_STEP_MAJOR 0 f.stepMajor).put .GLB_IDENT_KEY_SLOTS 0 f.keySlots).put .GLB_IDENT_BOOST_CLK 0 f.boostClk
  let s := ((s.put .GLB_UNITS_SPARES_LEFT 0 (popc 64 f.goodSpares)).put .KIM_ARB_FUSE_VALUE 0 f.arb).put .KIM_ARB_REVOKED 0 f.revoked
  (s.put .KIM_UID_UID 0 f.uid).put .DF_IDENT_IDENT 0 s.ident

/-- FUSES_SENSED: t0 + 1.5 ms; a count that was burned stays burned (R116). -/
def execFusesSensed (f : Fuses) (s : State) : Host.Outcome State Fault Refusal :=
  .next <|
    if s.pilot.phase = .pilot && s.pilot.ticking && !s.pilot.sensed then
      let f := { f with arb := max f.arb s.fuses.arb }
      (({ s with fuses := f } : State).modPilot (fun r => { r with sensed := true })).fuseFields f
    else s

/-- EMBER_MRAM_CHECK: t0 + 3 ms (R730, R737). -/
def State.mramCheck (s : State) : State :=
  if s.pilot.phase = .pilot && s.pilot.sensed && !s.pilot.emberOn then
    let s := (s.modPilot (fun r => { r with emberOn := true })).modEmber (fun e => { e with
      slots := e.slots.map (fun q => (q.1, if q.2.complete && q.2.crcOk then { q.2 with preserved := true, keep := true } else q.2)) })
    s.embSlotBits.ember' 1 0 0 none s.ident (s.regWord .RST_STATUS 0)
  else s

def execEmberMramCheck (s : State) : Host.Outcome State Fault Refusal := .next s.mramCheck

/-- PILOT_READY: t0 + 5 ms, with the address that the straps give (R779); the main phase may begin. -/
def execPilotReady (addr : Nat) (s : State) : Host.Outcome State Fault Refusal :=
  .next (if s.pilot.phase = .pilot && s.pilot.emberOn then
    ((s.put .RST_STATUS_PILOT_READY 0 1).put .MGT_STATUS_ADDR 0 (0x30 + addr % 4)).modPilot (fun r => { r with phase := .mainOff }) |>.mainStart
    else s)

/-- PILOT_TICK: 320 ns pass (R52): the average power over 10 ms; lift tells that the power limits ask for one step less, avsOk
that the AVSBus writes are confirmed (R68, R69, R791, Table 2-15). -/
def State.pilotTick (s : State) (watts : Nat) (lift avsOk : Bool) : State :=
  if !s.pilot.ticking then s
  else
    let s := s.put .CLK_TICK_TICK 0 (s.get .CLK_TICK_TICK + 1)
    if !s.up then s
    else
      let s := ((List.range 24).filter (fun d => s.domState d == 1)).foldl (fun s d => s.bump .PWR_DOM_DOZE_COUNT d) s
      let s := s.put .PWR_GOV_AVG_10MS_W 0 watts
      let s := if avsOk && s.pilot.avsPending then (s.modPilot (fun r => { r with avsPending := false })).limitsSet false else s
      if lift then s.powerLift else s

def execPilotTick (watts : Nat) (lift avsOk : Bool) (s : State) : Host.Outcome State Fault Refusal := .next (s.pilotTick watts lift avsOk)

/-- PILOT_PWR_OK_FALL (R78, R88): EMBER freezes and copies; the main side stops; a rise then starts cold. -/
def execPilotPwrOkFall (s : State) : Host.Outcome State Fault Refusal :=
  .next (if s.pins.pilotPwrOk then
    ((({ s with pins := { s.pins with pilotPwrOk := false } } : State).emberTrigger 9).stopMain false).modPilot (fun r => { r with
      phase := .off, starting := false }) else s)

/-! ### Main phase (Tables 2-9 and 13-2) -/

/-- PLL_LOCK: t1 + 2 ms. -/
def execPllLock (s : State) : Host.Outcome State Fault Refusal :=
  .next (if s.pilot.phase = .mainOn then
    let s := ((s.put .CLK_STATUS_HUB_LOCK 0 1).put .CLK_STATUS_LNT_LOCK 0 1).put .CLK_STATUS_HL_REF_OK 0 1
    (((s.put .CLK_STATUS_FAB_REF_OK 0 1).put .CLK_STATUS_DIE_LOCK 0 15).modPilot (fun r => { r with phase := .locked })).limitsSet true
    else s)

/-- What the device knows of a bundle at start: its format and its signature (R164, Table 4-13). -/
def State.bootBundleOk (s : State) (b : List Byte) : Bool :=
  let sig := leAt b 0x0C 4
  leAt b 8 4 == b.length && sig + 0xC8 == b.length && b.length ≤ 2 ^ 25 && leAt b 0 4 == 0x4257464C && (sigFault (s.imgEnv b) b sig).isNone

/-- FW_BUNDLE_LOADED: t1 + 25 ms: the bundle of the boot flash runs on every core, the straps are sampled, and the downlink ports
begin to train; rom is the option ROM that the bundle names (R164, R474, R526, R772, R790). -/
def State.fwLoaded (s : State) (b rom : List Byte) (split : Nat) (sris : Bool) : State :=
  if s.pilot.phase != .locked || !s.bootBundleOk b then s
  else
    let s := (s.modFwu (fun f => { f with runDigest := bundleDigest b, cores := [] })).modPilot (fun r => { r with phase := .fwLoaded })
    let s := (s.put .PART_FWU_VER_RUN_MINOR 0 (leAt b 4 2)).put .PART_FWU_VER_RUN_MAJOR 0 (leAt b 6 2)
    let s := ({ s with pins := { s.pins with hlClkMode := sris } } : State).modHost (fun h => { h with romImage := rom.take (2 ^ 21) })
    let s := s.put .DL_STATUS_BIF 0 (if split % 4 = 3 then 0 else split % 4)
    let s := ((s.setDom domLantern 3).setDom domDownlink 3).startCores
    (List.range s.dlPorts).foldl (fun s p => s.setDlState p 1) s

def execFwBundleLoaded (bundle rom : List Byte) (split : Nat) (sris : Bool) (s : State) : Host.Outcome State Fault Refusal :=
  .next (s.fwLoaded bundle rom split sris)

/-- MAIN_READY: t1 + 60 ms: the states of R59 hold and the start is complete (R75, R420). -/
def State.mainReady (s : State) : State :=
  if s.pilot.phase != .fwLoaded then s
  else
    let r := s.draw 512
    let s := (rangeFrom 16 8).foldl (fun s d => s.setDom d 3) (r.2.modMem (fun m => { m with bg := r.1 }))
    let s := (s.put .RST_STATUS_MAIN_READY 0 1).fenceSettle
    let s := if s.pilot.scope = 2 then s.bump .RST_STATUS_WARM_COUNT else s
    let s := (s.scopeDone s.pilot.scope s.pilot.cause none 0).modPilot (fun r => { r with phase := .ready, starting := false })
    (List.range 14).foldl State.trainStart s

def execMainReady (s : State) : Host.Outcome State Fault Refusal := .next s.mainReady

/-- CONFIG_READY: t2 + 100 ms: no more Request Retry Status. -/
def execConfigReady (s : State) : Host.Outcome State Fault Refusal :=
  .next (if s.up && !s.pins.perst then s.modPilot (fun r => { r with cfgReady := true }) else s)

/-- BOOT_IMAGE_COMMIT: t1 + 150 ms: the image that the bundle directory names, or none where the flash could not be read
(R80, R121, R122, R129). -/
def State.bootCommit (s : State) (image : Option (List Byte)) : State :=
  if !s.up then s
  else
    match image with
    | none => s.kimFault 0x38
    | some b =>
      if leAt b 8 1 != 255 || !bit (leAt b 8 4) 8 then s
      else if 4 ≤ s.kimState then s.kimFault 0x37
      else
        let idv := s.get .KIM_STATUS_COMMITTED_ID_VALID
        let id := s.get .KIM_STATUS_LAST_ID
        let s := s.kimEmpty.kimStaged b
        if s.kimState != 1 then s
        else
          let s := s.kimValidate.validationDone
          if s.kimState != 3 then s
          else
            let s := s.kimArm { local_ := true }
            if s.kimState = 0 then (s.put .KIM_STATUS_COMMITTED_ID_VALID 0 idv).put .KIM_STATUS_LAST_ID 0 id else s

def execBootImageCommit (image : Option (List Byte)) (s : State) : Host.Outcome State Fault Refusal := .next (s.bootCommit image)

/-! ### Domains (R57 to R67, R81, R85) -/

/-- A domain holds pending work (R61, condition 3). -/
def State.domBusy (s : State) (d : Nat) : Bool :=
  if d < 16 then
    s.tiles.any (fun e => s.quad e.1 == d && (e.2.matq != [] || e.2.msg.pendRsv != [] || e.2.msg.sends.any (fun m => m.queued && m.granted) ||
      e.2.tasks.any (fun k => k.state == .ready || k.state == .running))) || s.pilot.tileReset.any (fun n => s.quad n == d)
  else
    let port (p : Nat) : Bool :=
      let r := s.port p
      r.os != [] || r.txHop != [] || r.txE2e != [] || r.unacked != [] || r.replay != [] || (1 ≤ s.portState p && s.portState p ≤ 3)
    match d with
    | 16 => (List.range 16).any (fun c => !(2 ≤ s.coreState c && s.coreState c ≤ 4) || (s.core c).storeBuf != [] || (s.core c).nt != [] ||
        (s.core c).msg.sends.any (fun m => m.queued))
    | 17 => s.cch.d2h != [] || s.cch.evb != [] || s.cch.bi != [] || s.cch.m2s != [] || s.cch.flushes != [] || s.cch.drain
    | 18 => s.dl.reqs != [] || (List.range s.dlPorts).any (fun p => s.dlState p == 1 || s.dlState p == 2)
    | 19 => s.fab.exit != [] || s.fab.held != [] || (domPorts 19).any port
    | 20 => s.fab.exit != [] || s.fab.held != [] || (domPorts 20).any port || s.seqs.any (fun e => e.2.colls != [])
    | 21 => s.fab.twinq != [] || (domPorts 21).any port
    | _ => s.xlat.accs.any (fun a => a.target == 1)

/-- A slot is marked awake for a SLOT_DRIVEN domain (R60). -/
def State.awake (s : State) (d slot : Nat) : Bool :=
  let ports := (domPorts d).filter s.trainable
  bit (nthD s.com.img.power d {}).awake slot ||
    (domPorts d != [] && (slot = 0 || slot = 4095 || ports.any (fun p => (s.com.slotEnt false p slot).kind != .idle || (s.com.slotEnt true p slot).kind != .idle)))

/-- The DOZE-to-clocked time in nanoseconds (Table 2-1). -/
def dozeTime (d : Nat) : Nat :=
  if d < 16 then 24 else match d with | 16 => 1500 | 17 => 200 | 18 => 8000 | 19 | 20 | 21 => 600 | _ => 1600

/-- The effective wake lead in nanoseconds (R62). -/
def State.wakeLead (s : State) (d : Nat) : Nat := max (8 * s.get .PWR_DOM_CFG_WAKE_LEAD d) (dozeTime d)

/-- Units of 0.8 ns to the start of the next marked slot, rest of them being left of this one; none: no slot is marked. -/
def State.toAwake? (s : State) (d rest : Nat) : Option Nat :=
  ((rangeFrom 1 4096).find? (fun k => s.awake d ((s.get .FAB_SYNC_SLOT + k) % 4096))).map (fun k => rest + (k - 1) * s.fab.slotLen)

/-- DOZE_ENTRY: a domain has been idle for HYST (R61); rest is what is left of the slot. -/
def State.dozeEntry (s : State) (d rest : Nat) : State :=
  let p := s.policy d
  let far := match s.toAwake? d rest with
    | none => true
    | some t => s.wakeLead d + 8 * s.get .PWR_DOM_CFG_MIN_DOZE d ≤ t * 4 / 5
  if d < 24 && s.domState d == 3 && (p == 1 || (p == 2 && !s.awake d (s.get .FAB_SYNC_SLOT) && far)) && !bit (s.get .PWR_HOLD_HOLD) d &&
      !s.domBusy d then (s.setDom d 1).modPilot (fun r => { r with striker := if bit r.striker d then r.striker - 2 ^ d else r.striker })
  else s

def execDozeEntry (d rest : Nat) (s : State) : Host.Outcome State Fault Refusal := .next (s.dozeEntry d rest)

/-- DOMAIN_WAKE: a source of Table 2-3 arrives (R63). -/
def execDomainWake (d : Nat) (s : State) : Host.Outcome State Fault Refusal := .next (if d < 24 then s.wake d else s)

/-- SCHEDULED_WAKE: the next marked slot is one effective wake lead away (R62). -/
def State.scheduledWake (s : State) (d rest : Nat) : State :=
  match s.toAwake? d rest with
  | some t => if d < 24 && s.policy d == 2 && t * 4 / 5 ≤ s.wakeLead d then s.wake d else s
  | none => s

def execScheduledWake (d rest : Nat) (s : State) : Host.Outcome State Fault Refusal := .next (s.scheduledWake d rest)

/-- What a domain that is ON again goes on with. -/
def State.domRuns (s : State) : State := s.settleAll.cchPump

/-- A domain that wakes from DOZE is clocked; a quadrant, LANTERN and CACHE run on STRIKER first (R65, R67). -/
def State.clocked (s : State) (d : Nat) : State :=
  if s.domState d = 2 && !bit s.pilot.fromOff d then
    let s := s.setDom d 3
    (if d ≤ 17 then s.modPilot (fun r => { r with striker := r.striker ||| 2 ^ d }) else s).domRuns
  else s

/-- QUADRANT_CLOCKED (Table 2-4). -/
def execQuadrantClocked (d : Nat) (s : State) : Host.Outcome State Fault Refusal := .next (if d < 16 then s.clocked d else s)

/-- DOMAIN_CLOCKED (R63, Table 2-1). -/
def execDomainClocked (d : Nat) (s : State) : Host.Outcome State Fault Refusal := .next (if 16 ≤ d && d < 24 then s.clocked d else s)

/-- STRIKER_HANDOVER (R65, R67): the main clock takes over. -/
def execStrikerHandover (d : Nat) (s : State) : Host.Outcome State Fault Refusal :=
  .next (if bit s.pilot.striker d then s.modPilot (fun r => { r with striker := r.striker - 2 ^ d }) else s)

/-- DOMAIN_POWERED: a domain that leaves OFF is usable, its state undefined, empty or started afresh (R57, Table 2-1). -/
def State.powered (s : State) (d : Nat) : State :=
  if s.domState d != 2 || !bit s.pilot.fromOff d then s
  else
    let s := (s.setDom d 3).modPilot (fun r => { r with fromOff := r.fromOff - 2 ^ d })
    let s :=
      if d < 16 then (s.quadTiles d).foldl State.spoilTile s
      else match d with
        | 16 => s.startCores
        | 18 => (List.range s.dlPorts).foldl (fun s p => s.setDlState p 1) s
        | _ => (domPorts d).foldl State.trainStart s
    s.domRuns

def execDomainPowered (d : Nat) (s : State) : Host.Outcome State Fault Refusal := .next (s.powered d)

/-- PWR_HOLD is written: the marked domains that doze wake (Table 2-12). -/
def State.pwrHold (s : State) (mask : Nat) : State :=
  ((List.range 24).filter (fun d => bit mask d && s.policy d != 3)).foldl State.wake (s.put .PWR_HOLD_HOLD 0 mask)

def execPwrHold (mask : Nat) (s : State) : Host.Outcome State Fault Refusal := .next (s.pwrHold mask)

/-- CACHE_OFF (R85). -/
def State.cacheOff (s : State) : State :=
  if s.com.base.isSome && s.get .PWR_DOM_CFG_POLICY domCache == 3 && s.domState domCache != 0 && s.get .CCH_DEV_STATE == 2 && s.cch.dir == [] &&
      s.cch.lines == [] && !s.domBusy domCache && !bit (s.get .PWR_HOLD_HOLD) domCache then s.domOff domCache
  else s

def execCacheOff (s : State) : Host.Outcome State Fault Refusal := .next s.cacheOff

/-! ### Clocks (R73) -/

/-- Every PLL of the 156.25 MHz reference locks or unlocks. -/
def State.setLocks (s : State) (on : Bool) : State :=
  ((s.put .CLK_STATUS_HUB_LOCK 0 (b2n on)).put .CLK_STATUS_LNT_LOCK 0 (b2n on)).put .CLK_STATUS_DIE_LOCK 0 (if on then 15 else 0)

/-- Bit what of CLK_STATUS, 0 to 8: its fields. -/
def State.clkBit (s : State) (what : Nat) : Bool := bit (s.regWord .CLK_STATUS 0) what
def State.setClkBit (s : State) (what : Nat) (on : Bool) : State :=
  match what with
  | 0 => s.put .CLK_STATUS_PILOT_REF_OK 0 (b2n on)
  | 1 => s.put .CLK_STATUS_HUB_LOCK 0 (b2n on)
  | 2 => s.put .CLK_STATUS_LNT_LOCK 0 (b2n on)
  | 3 => s.put .CLK_STATUS_HL_REF_OK 0 (b2n on)
  | 4 => (s.put .CLK_STATUS_FAB_REF_OK 0 (b2n on)).setLocks on
  | d => if on then s.setBit .CLK_STATUS_DIE_LOCK 0 (d - 5) else s.clrBit .CLK_STATUS_DIE_LOCK 0 (d - 5)

/-- CLOCK_LOSS: a reference fails or a PLL loses lock, by its bit of CLK_STATUS. -/
def State.clockLoss (s : State) (what : Nat) : State :=
  if 8 < what || !s.clkBit what then s
  else
    let s := ((s.setClkBit what false).limitsSet false).bump .CLK_STATUS_LOCK_LOSS
    let s := if what = 0 then s.modPilot (fun r => { r with tickInexact := true }) else s
    let s := (s.powerRec 4).raiseGlb 0x02 none (s.regWord .CLK_STATUS 0)
    match what with
    | 3 => (List.range 4).foldl State.dlDown s.hostDown
    | 4 => if s.get .FAB_SYNC_STATE = 3 then s.fenceSettle else (s.modFab (fun f => { f with lock := 0 })).setSync 1
    | _ => s

def execClockLoss (what : Nat) (s : State) : Host.Outcome State Fault Refusal := .next (s.clockLoss what)

/-- CLOCK_RELOCK: the reference is back and the PLLs have relocked. -/
def State.clockRelock (s : State) (what : Nat) : State :=
  let powered := match s.pilot.phase with | .locked | .fwLoaded | .ready => true | _ => what == 0 && s.pilot.ticking
  if 8 < what || s.clkBit what || !powered then s
  else
    let s := (s.setClkBit what true).limitsSet false
    match what with
    | 0 => s.modPilot (fun r => { r with tickInexact := false })
    | 4 => if s.get .FAB_SYNC_STATE = 3 then s.fenceSettle else s.setSync 0
    | _ => s

def execClockRelock (what : Nat) (s : State) : Host.Outcome State Fault Refusal := .next (s.clockRelock what)

end Sys2Proof.Machine
end

