-- ==== Sys2Proof/Machine/Sideband.lean ====
section
/-! DEFINITION. The management sideband's MCTP, PLDM and SPDM answers and the DOE mailbox (R467, R779, R780, Tables 11-5, 18-7,
19-11, 19-12). -/
namespace Sys2Proof.Machine

/-! ### The endpoint (R779) -/

/-- I3C_DAA: the dynamic address of an I3C controller. -/
def State.i3cDaa (s : State) (addr : Nat) : State :=
  if s.flag .RST_STATUS_PILOT_READY then (s.put .MGT_STATUS_BUS 0 1).put .MGT_STATUS_ADDR 0 addr else s

def execI3cDaa (addr : Nat) (s : State) : Host.Outcome State Fault Refusal := .next (s.i3cDaa addr)

/-- A message is dropped and counted (Table 18-7). -/
def State.mgtDrop (s : State) : State := s.bump .MGT_ERR_DROPPED

/-! ### MCTP control (R780; the codes are those of DMTF DSP0236: PRESUMED, notes/assumptions/60.md) -/

/-- MCTP_CONTROL: command cmd; for Set Endpoint ID the operation op and the endpoint ID. -/
def State.mctpControl (s : State) (cmd op eid : Nat) : State :=
  let answer (s : State) (cc : Nat) : State := s.emit (.mctp cmd cc (s.get .MGT_STATUS_EID))
  if !s.flag .RST_STATUS_PILOT_READY then s
  else
    let s := s.onBus
    match cmd with
    | 1 => if 1 < op || eid = 0 || 0xFF ≤ eid then answer s 2 else answer (s.put .MGT_STATUS_EID 0 eid) 0
    | 2 | 3 | 4 | 5 | 6 => answer s 0
    | _ => answer s 5

def execMctpControl (cmd op eid : Nat) (s : State) : Host.Outcome State Fault Refusal := .next (s.mctpControl cmd op eid)

/-! ### PLDM (R780, Table 19-11) -/

/-- The upper critical threshold of a sensor. -/
def sensorLimit (id : Nat) : Option Int :=
  if id ≤ 5 then some 103 else if id ≤ 13 then some 95 else if id = 14 then some 1300 else none

/-- The reading of a sensor: unavailable while MAIN_PWR_OK is low; temperatures and voltages come with the command. -/
def State.sensor (s : State) (id : Nat) (reading : Int) : Option Int :=
  if !s.pins.mainPwrOk then none
  else if id = 14 then some (s.get .PWR_GOV_AVG_10MS_W)
  else if id = 17 then some (10 * s.get .CLK_STATUS_TILE_CLK)
  else some reading

/-- PLDM_REQUEST of a type, with its command; id is the sensor of GetSensorReading, reading what its sensor measures; fw tells
that the request is one for firmware (Table 7-6, line 6). -/
def State.pldmRequest (s : State) (typ cmd id : Nat) (reading : Int) (fw : Bool) : State :=
  if !s.flag .RST_STATUS_PILOT_READY then s
  else
    let s := if fw then s.onBus.coreLine 0 6 else s.onBus
    if typ = 2 && cmd = 0x11 then
      if id = 0 || 17 < id then s.emit (.pldm typ cmd 0x80 none)
      else
        let r := s.sensor id reading
        let crit := match r, sensorLimit id with | some v, some l => l ≤ v | _, _ => false
        s.emit (.pldm typ cmd 0 (some (id, r, crit)))
    else if typ = 0 || typ = 2 then s.emit (.pldm typ cmd 0 none)
    else s.mgtDrop

def execPldmRequest (typ cmd id : Nat) (reading : Int) (fw : Bool) (s : State) : Host.Outcome State Fault Refusal :=
  .next (s.pldmRequest typ cmd id reading fw)

/-! ### SPDM (R168, R467, R780, Table 19-12; the codes are those of DMTF DSP0274: PRESUMED, notes/assumptions/60.md) -/

/-- Measurement block i (Table 19-12). -/
def State.measurement (s : State) (i : Nat) : List Byte :=
  match i with
  | 1 => leBytes 48 s.fwu.runDigest
  | 2 => (List.range 6).flatMap (fun k => leBytes 8 (s.get .KIM_DIG_COMP_DIGEST k))
  | _ => leBytes 8 s.ident ++ leBytes 8 (s.regWord .KIM_ARB 0)

/-- The requests that the capabilities of R780 serve; over DOE, GET_VERSION to GET_MEASUREMENTS (Table 11-5). -/
def spdmServed (doe : Bool) (code : Nat) : Bool :=
  [0x84, 0xE1, 0xE3, 0x81, 0x82, 0x83, 0xE0].contains code || (!doe && [0xE4, 0xE5, 0xEA, 0xEB, 0xEC].contains code)

/-- An SPDM request: GET_MEASUREMENTS asks for the number of blocks (0), one block, or every block (0xFF). FINISH opens a secure
session and END_SESSION closes it. ok tells that the request is one that SPDM 1.3 admits now. -/
def State.spdm (s : State) (doe : Bool) (code idx : Nat) (secured ok : Bool) : State :=
  let error (s : State) (e : Nat) : State := s.emit (.spdm doe 0x7F e [])
  let n := s.get .MGT_STATUS_SESSIONS
  if !spdmServed doe code then error s 7
  else if !ok then error s 1
  else if code = 0xE0 then
    if idx = 0 then s.emit (.spdm doe 0x60 3 [])
    else if idx = 0xFF then s.emit (.spdm doe 0x60 3 ([1, 2, 3].map (fun i => (i, s.measurement i))))
    else if idx ≤ 3 then s.emit (.spdm doe 0x60 1 [(idx, s.measurement idx)])
    else error s 1
  else if code = 0xE4 && n = 15 then error s 0x0A
  else if code = 0xE5 then (s.put .MGT_STATUS_SESSIONS 0 (min (n + 1) 15)).emit (.spdm doe 0x65 0 [])
  else if code = 0xEC then
    if secured && 0 < n then (s.put .MGT_STATUS_SESSIONS 0 (n - 1)).emit (.spdm doe 0x6C 0 []) else error s 4
  else s.emit (.spdm doe (code - 0x80) 0 [])

/-- SPDM_REQUEST on the sideband; a secured message while no session is open is dropped. -/
def State.spdmRequest (s : State) (code idx : Nat) (secured ok : Bool) : State :=
  if !s.flag .RST_STATUS_PILOT_READY then s
  else if secured && s.get .MGT_STATUS_SESSIONS = 0 then s.onBus.mgtDrop
  else s.onBus.spdm false code idx secured ok

def execSpdmRequest (code idx : Nat) (secured ok : Bool) (s : State) : Host.Outcome State Fault Refusal :=
  .next (s.spdmRequest code idx secured ok)

/-! ### DOE (R467, Table 11-5) -/

/-- The objects that DOE Discovery lists, by index. -/
def doeObjects : List (Nat × Nat) := [(0x0001, 0x00), (0x0001, 0x01), (0x1E98, 0x02)]

/-- DOE_REQUEST: the object's vendor and type; for CMA/SPDM the request, for DOE Discovery idx is the index asked for. -/
def State.doeRequest (s : State) (vendor typ code idx : Nat) (ok : Bool) : State :=
  if !s.flag .HL_STATUS_LINK_UP || !s.pilot.cfgReady then s
  else if vendor = 0x0001 && typ = 0x00 then
    match doeObjects[idx]? with
    | some o => s.emit (.doeObject o.1 o.2 (if idx + 1 < doeObjects.length then idx + 1 else 0))
    | none => s.emit (.doeObject 0xFFFF 0xFF 0)
  else if vendor = 0x0001 && typ = 0x01 then s.spdm true code idx false ok
  else if vendor = 0x1E98 && typ = 0x02 then s.emit (.cdat 0 0x0047FFFFFFFF true 110 110 24000)
  else s.emit .doeError

def execDoeRequest (vendor typ code idx : Nat) (ok : Bool) (s : State) : Host.Outcome State Fault Refusal :=
  .next (s.doeRequest vendor typ code idx ok)

end Sys2Proof.Machine
end

