-- ==== Sys2Proof/Machine/CfgSpace.lean ====
section
/-! DEFINITION. The configuration space of the functions: the values of Tables 11-2 to 11-10 as it reads, and what a
configuration write changes (R459 to R474, R487, R488, R501, R797). -/
namespace Sys2Proof.Machine

/-! ### BARs (R471 to R474) -/

/-- The size of VF BAR2/3 that System Page Size selects; none where it names not exactly one supported size (R473). -/
def vfPageBytes (sysPage : Nat) : Option Nat := if [1, 2, 4, 16].contains sysPage then some (4096 * sysPage) else none

/-- The writable bits of BAR dword k (0 to 5), and what its low bits read (R472, Table 11-7). -/
def barMask (k : Nat) : Nat := match k with | 0 => 0xF0000000 | 2 => 0 | 3 => 0xFFFFFFF0 | 4 => 0xFFFF0000 | _ => 0xFFFFFFFF
def barType (k : Nat) : Nat := match k with | 0 | 4 => 4 | 2 => 0xC | _ => 0

/-- BAR dword k of the PF as it reads. -/
def State.barDword (s : State) (k : Nat) : Nat := kgetD (s.fn 0).bars k 0 + barType k

/-- The address that a BAR pair of the PF holds. -/
def State.barBase (s : State) (k : Nat) : Nat := kgetD (s.fn 0).bars k 0 + kgetD (s.fn 0).bars (k + 1) 0 * 2 ^ 32

/-! ### The capability chain (Table 11-3) -/

/-- The extended capabilities of the PF, and of a VF: offset, ID, version. -/
def extCaps (vf : Bool) : List (Nat × Nat × Nat) :=
  if vf then [(0x100, 0x000E, 1), (0x108, 0x000F, 1), (0x110, 0x0023, 1)]
  else [(0x100, 0x0001, 2), (0x148, 0x0003, 1), (0x158, 0x000E, 1), (0x160, 0x0019, 1), (0x190, 0x0025, 1), (0x1A0, 0x0026, 1),
    (0x1D0, 0x002A, 1), (0x200, 0x0031, 1), (0x220, 0x0027, 1), (0x270, 0x001E, 1), (0x280, 0x0010, 1), (0x2C0, 0x000F, 1),
    (0x2C8, 0x001B, 1), (0x2D0, 0x0013, 1), (0x2E0, 0x002E, 1), (0x300, 0x0023, 1), (0x340, 0x0023, 1), (0x350, 0x0023, 1),
    (0x370, 0x0023, 1), (0x390, 0x0023, 1)]

/-- The header dword of an extended capability: ID, version, the next offset; 0 ends the chain. -/
def extHeader (vf : Bool) (off : Nat) : Option Nat :=
  let rec go : List (Nat × Nat × Nat) → Option Nat
    | [] => none
    | [(o, id, v)] => if o = off then some (id + v * 2 ^ 16) else none
    | (o, id, v) :: (o', i') :: rest => if o = off then some (id + v * 2 ^ 16 + o' * 2 ^ 20) else go ((o', i') :: rest)
  go (extCaps vf)

/-! ### What configuration space reads -/

/-- The INTx level (R501), as Status.Interrupt Status shows it. -/
def State.intxLevel (s : State) : Bool := s.get .HL_INTX_PART_PART != 0 || s.get .HL_INTX_GLB_GLB != 0

/-- Revision ID and Subsystem ID (R461). -/
def State.revision (s : State) : Nat := s.get .GLB_IDENT_STEP_MAJOR * 16 + s.get .GLB_IDENT_STEP_MINOR
def State.subsystem (s : State) : Nat := s.get .GLB_IDENT_BIN + s.get .GLB_IDENT_FUSE_EXT * 16

/-- PF dwords below 0x100 (Tables 11-2, 11-4). -/
def State.cfgPfLow (s : State) (off : Nat) : Option Nat :=
  let c := s.fn 0
  match off with
  | 0x00 => some 0x77001EDF
  | 0x04 => some (b2n c.memEn * 2 + b2n c.busMaster * 4 + b2n c.parityErr * 2 ^ 6 + b2n c.serrEn * 2 ^ 8 + b2n c.intxDis * 2 ^ 10 +
      (0x10 + b2n s.intxLevel * 8 + c.status) * 2 ^ 16)
  | 0x08 => some (s.revision + 0x120000 * 2 ^ 8)
  | 0x0C => some c.cacheLine
  | 0x10 => some (s.barDword 0)
  | 0x14 => some (s.barDword 1)
  | 0x18 => some (s.barDword 2)
  | 0x1C => some (s.barDword 3)
  | 0x20 => some (s.barDword 4)
  | 0x24 => some (s.barDword 5)
  | 0x28 | 0x38 => some 0
  | 0x2C => some (0x1EDF + s.subsystem * 2 ^ 16)
  | 0x30 => some (c.rom + b2n c.romEn)
  | 0x34 => some 0x40
  | 0x3C => some (c.intLine + 0x0100)
  | 0x40 => some 0xC8035001
  | 0x44 => some (c.dstate + 8 + b2n c.pmeEn * 2 ^ 8 + b2n c.pmeStatus * 2 ^ 15)
  | 0x50 => some 0x8002B010
  | 0x54 => some 0x10008E22
  | 0x58 => some (c.devCtl + c.mps * 2 ^ 5 + c.mrrs * 2 ^ 12 + c.devSta * 2 ^ 16)
  | 0x5C => some 0x00458906
  | 0x60 => some (kgetD c.plain 0x60 0 + (s.get .DF_LINK_SPEED + s.get .DF_LINK_WIDTH * 16) * 2 ^ 16)
  | 0x74 => some 0x0003001F
  | 0x78 => some (c.ctoVal + b2n c.ctoDis * 16 + b2n c.tag10 * 2 ^ 12)
  | 0x7C => some 0x0000007E
  | 0x80 => some (kgetD c.plain 0x80 0)
  | 0xB0 => some (0x07FF0011 + b2n c.fnMask * 2 ^ 30 + b2n c.msixEn * 2 ^ 31)
  | 0xB4 => some 0x00000004
  | 0xB8 => some 0x00008004
  | _ => none

/-- The values of SR-IOV, ATS, PASID and PRI in the PF (Table 11-4, R459, R464). -/
def State.cfgPfVirt (s : State) (off : Nat) : Option Nat :=
  let c := s.fn 0
  match off with
  | 0x284 => some 0
  | 0x288 => some (b2n c.vfEn + b2n c.vfMse * 8 + b2n c.ari * 16)
  | 0x28C => some (64 + 64 * 2 ^ 16)
  | 0x290 => some c.numVfs
  | 0x294 => some (if c.ari then 1 + 2 ^ 16 else 256 + 256 * 2 ^ 16)
  | 0x298 => some (0x7701 * 2 ^ 16)
  | 0x29C => some 0x17
  | 0x2A0 => some c.sysPage
  | 0x2A4 => some (c.vfBar0 % 2 ^ 32 + 4)
  | 0x2A8 => some (c.vfBar0 / 2 ^ 32)
  | 0x2AC => some (c.vfBar2 % 2 ^ 32 + 4)
  | 0x2B0 => some (c.vfBar2 / 2 ^ 32)
  | 0x2B4 | 0x2B8 => some 0
  | 0x2C4 => some (0x0060 + c.stu * 2 ^ 16 + b2n c.atsEn * 2 ^ 31)
  | 0x2CC => some (0x1400 + b2n c.pasidEn * 2 ^ 16)
  | 0x2D4 => some (b2n c.priEn + s.get .XLAT_GSTAT_PRI_STOPPED * 2 ^ 16 + 2 ^ 31)
  | 0x2D8 => some 512
  | 0x2DC => some c.priAlloc
  | _ => none

/-- The values of AER, the serial number, ARI and the DVSECs of the PF (Tables 11-4, 11-6, 11-9, 11-10). -/
def State.cfgPfExt (s : State) (off : Nat) : Option Nat :=
  let c := s.fn 0
  match off with
  | 0x104 => some c.aerUncor
  | 0x108 => some c.aerUncorMask
  | 0x10C => some c.aerUncorSev
  | 0x110 => some c.aerCor
  | 0x114 => some c.aerCorMask
  | 0x11C => some (leAt c.aerLog 0 4)
  | 0x120 => some (leAt c.aerLog 4 4)
  | 0x124 => some (leAt c.aerLog 8 4)
  | 0x128 => some (leAt c.aerLog 12 4)
  | 0x14C => some (s.get .KIM_UID_UID % 2 ^ 32)
  | 0x150 => some (s.get .KIM_UID_UID / 2 ^ 32)
  | 0x15C => some 0
  | 0x274 => some 0x1A
  | 0x278 => some (kgetD c.plain 0x278 0)
  | 0x308 => some 0x00570000
  | 0x30C => some (b2n c.cxlCacheEn + 2 + b2n c.cxlMemEn * 4)
  | 0x310 => some (b2n c.disCaching + b2n c.cacheInvalid * 2 ^ 16)
  | 0x314 => some 0x20020000
  | 0x318 => some 0x48
  | 0x31C => some (s.get .RST_STATUS_PILOT_READY + s.get .RST_STATUS_MAIN_READY * 2)
  | 0x320 => some (kgetD c.plain 0x320 0)
  | 0x324 => some (kgetD c.plain 0x324 0)
  | 0x37C => some 0x00800100
  | 0x380 => some 0
  | 0x394 => some (0x1EDF + 0x020 * 2 ^ 20)
  | 0x398 => some 0x0001
  | 0x39C => some s.dfLink
  | 0x3A0 => some (s.ident % 2 ^ 32)
  | 0x3A4 => some (s.ident / 2 ^ 32)
  | 0x3A8 | 0x3AC => some 0
  | _ => none

/-- A dword of VF v (Tables 11-2, 11-4, 11-9, 11-10). -/
def State.cfgVf (s : State) (v off : Nat) : Option Nat :=
  let c := s.fn v
  match off with
  | 0x00 => some 0xFFFFFFFF
  | 0x04 => some (b2n c.busMaster * 4 + 0x10 * 2 ^ 16)
  | 0x08 => some (s.revision + 0x120000 * 2 ^ 8)
  | 0x0C | 0x10 | 0x14 | 0x18 | 0x1C | 0x20 | 0x24 | 0x28 | 0x30 | 0x38 | 0x3C => some 0
  | 0x2C => some (0x1EDF + s.subsystem * 2 ^ 16)
  | 0x34 => some 0x40
  | 0x40 => some 0x00035001
  | 0x44 => some (c.dstate + 8)
  | 0x50 => some 0x8002B010
  | 0x58 => some (c.devCtl + c.devSta * 2 ^ 16)
  | 0xB0 => some (0x001F0011 + b2n c.fnMask * 2 ^ 30 + b2n c.msixEn * 2 ^ 31)
  | 0xB4 => some 0x00000002
  | 0xB8 => some 0x00000802
  | 0x104 => some 0
  | 0x10C => some (0x0060 + c.stu * 2 ^ 16 + b2n c.atsEn * 2 ^ 31)
  | 0x114 => some (0x1EDF + 0x020 * 2 ^ 20)
  | 0x118 => some 0x0001
  | 0x11C => some s.dfLink
  | 0x120 | 0x124 => some 0
  | 0x128 => some (match s.com.partOfVf? v with | some p => p + 2 ^ 6 | none => 0)
  | _ => none

/-- The dword at an offset of a function's configuration space; none where the spec leaves its value to the standard (R463). -/
def State.cfgRead? (s : State) (n off : Nat) : Option Nat :=
  match extHeader (n != 0) off with
  | some h => some h
  | none =>
    if n != 0 then s.cfgVf n off
    else
      match s.cfgPfLow off with
      | some w => some w
      | none => match s.cfgPfVirt off with | some w => some w | none => s.cfgPfExt off

/-! ### What a configuration write changes -/

/-- A write of one dword: its new value with the bytes not written as they read, and the bits written. -/
structure CfgWr where
  off : Nat
  /-- Bits that the write covers, the value written there, and the dword after it. -/
  mask : Nat
  val : Nat
  new : Nat
deriving DecidableEq, Repr

/-- Bit b is written as 1; the write covers bit b. -/
def CfgWr.one (w : CfgWr) (b : Nat) : Bool := bit w.val b
def CfgWr.has (w : CfgWr) (b : Nat) : Bool := bit w.mask b

/-- The bits of a RW1C field of the dword, from bit lo on, n of them, that stay. -/
def CfgWr.clear (w : CfgWr) (old lo n : Nat) : Nat := old - (old &&& bits w.val lo n)

/-- Command and Status (Table 11-2, R501, R798). -/
def State.cfgCommand (s : State) (n : Nat) (w : CfgWr) : State :=
  let old := s.fn n
  let s := s.modFn n (fun c => { c with
    busMaster := bit w.new 2
    memEn := n == 0 && bit w.new 1, parityErr := n == 0 && bit w.new 6, serrEn := n == 0 && bit w.new 8, intxDis := n == 0 && bit w.new 10
    status := w.clear c.status 16 16 })
  let s := if n = 0 && s.intxLevel && !(s.fn 0).msixEn && (s.fn 0).intxDis != old.intxDis then
      s.emit (.hostMsg (if old.intxDis then .assertInta else .deassertInta)) else s
  if !old.busMaster && bit w.new 2 then s.sendHeld n else s

/-- Power Management Control/Status (R511 to R516): D1 and D2 are absent, and a write of them changes nothing. -/
def State.cfgPm (s : State) (n : Nat) (w : CfgWr) : State :=
  let d := bits w.new 0 2
  let old := (s.fn n).dstate
  let s := if n = 0 then
      let s := s.modFn 0 (fun c => { c with pmeEn := bit w.new 8 })
      if w.one 15 then (s.modFn 0 (fun c => { c with pmeStatus := false })).wakeEnd else s
    else s
  if d = 3 && old != 3 then s.setDstate n 3 else if d = 0 && old != 0 then (s.setDstate n 0).sendHeld n else s

/-- Device Control and Device Status (Table 11-4, R491, R507, R797). -/
def State.cfgDevCtl (s : State) (n : Nat) (w : CfgWr) : State :=
  let mps := bits w.new 5 3
  let mrrs := bits w.new 12 3
  let s := s.modFn n (fun c => { c with
    devCtl := w.new &&& 0x0F1F, devSta := w.clear c.devSta 16 4
    mps := if n = 0 && mps ≤ 2 then mps else c.mps, mrrs := if n = 0 && mrrs ≤ 5 then mrrs else c.mrrs })
  let s := if n = 0 && 2 < mps && (w.has 5 || w.has 6 || w.has 7) then s.breach 0x58 else s
  if !w.one 15 then s else if n = 0 then s.pfFlr else (s.vfFlr n).settleAll

/-- MSI-X Message Control (R498 to R501, R520). -/
def State.cfgMsix (s : State) (n : Nat) (w : CfgWr) : State :=
  let en := bit w.new 31
  let mask := bit w.new 30
  let wasMasked := (s.fn n).fnMask
  let s := s.modFn n (fun c => { c with fnMask := mask })
  let s := if n = 0 then s.msixEnable en
    else if en = (s.fn n).msixEn then s
    else if en then s.modFn n (fun c => { c with msixEn := true })
    else (s.modFn n (fun c => { c with msixEn := false })).dropPending n
  if wasMasked && !mask then s.msixUnmask n none else s

/-- SR-IOV Control, NumVFs and System Page Size: changes that R797 refuses keep the field and are recorded (R459, R487). -/
def State.cfgSriov (s : State) (w : CfgWr) : State :=
  let c := s.fn 0
  match w.off with
  | 0x288 =>
    let bad := c.vfEn && bit w.new 4 != c.ari
    let s := if bad then s.breach 0x288 else s.modFn 0 (fun c => { c with ari := bit w.new 4 })
    let s := s.modFn 0 (fun c => { c with vfMse := bit w.new 3 })
    if bit w.new 0 && !c.vfEn then (s.modFn 0 (fun c => { c with vfEn := true })).pumpHost
    else if !bit w.new 0 && c.vfEn then s.vfEnableClear.settleAll
    else s
  | 0x290 =>
    let v := bits w.new 0 16
    if v = c.numVfs then s
    else if c.vfEn || 64 < v then s.breach 0x290
    else s.modFn 0 (fun c => { c with numVfs := v })
  | _ =>
    if w.new = c.sysPage then s
    else if c.vfEn then s.breach 0x2A0
    else s.modFn 0 (fun c => { c with sysPage := w.new })

/-- A VF BAR dword: VF BAR0/1 of 1 MiB, VF BAR2/3 of System Page Size (R472, R473). -/
def State.cfgVfBar (s : State) (w : CfgWr) : State :=
  let keep (a size : Nat) : Nat := a / size * size
  let size2 := (vfPageBytes (s.fn 0).sysPage).getD 4096
  s.modFn 0 (fun c => match w.off with
    | 0x2A4 => { c with vfBar0 := keep (c.vfBar0 / 2 ^ 32 * 2 ^ 32 + w.new) (2 ^ 20) }
    | 0x2A8 => { c with vfBar0 := c.vfBar0 % 2 ^ 32 + w.new * 2 ^ 32 }
    | 0x2AC => { c with vfBar2 := keep (c.vfBar2 / 2 ^ 32 * 2 ^ 32 + w.new) size2 }
    | _ => { c with vfBar2 := c.vfBar2 % 2 ^ 32 + w.new * 2 ^ 32 })

/-- ATS Control: STU, and Enable, whose clearing ends the function's translations (R361, R465). -/
def State.cfgAts (s : State) (n : Nat) (w : CfgWr) : State :=
  let was := (s.fn n).atsEn
  let s := s.modFn n (fun c => { c with stu := bits w.new 16 5 })
  if bit w.new 31 then s.modFn n (fun c => { c with atsEn := true }) else if was then s.atsOff n else s

/-- The CXL Device DVSEC's control bits (R469, Table 11-6). -/
def State.cfgCxl (s : State) (w : CfgWr) : State :=
  if w.off = 0x30C then (s.modFn 0 (fun c => { c with cxlCacheEn := bit w.new 0, cxlMemEn := bit w.new 2 })).cchPump
  else
    let was := (s.fn 0).disCaching
    let s := if bit w.new 0 = was then s
      else (s.modFn 0 (fun c => { c with disCaching := bit w.new 0 })).hostCtl (if was then 3 else 1)
    if w.one 1 && (s.fn 0).disCaching then s.hostCtl 2 else s

/-- DF_LINK: FALLBACK_SAT is W1C; bit 15 is RSV (R715, R749, Table 11-9). -/
def State.cfgDfLink (s : State) (w : CfgWr) : State :=
  let s := if w.one 15 then s.breach w.off else s
  if w.one 31 then (s.put .DF_LINK_FALLBACK_SAT 0 0).put .DF_LINK_FALLBACKS 0 0 else s

/-- The uncorrectable and the correctable AER errors that the PF implements. -/
def aerUncorBits : Nat := 0x0057F030
def aerCorBits : Nat := 0x000071C1

/-- A write to the PF's configuration space. -/
def State.cfgWritePf (s : State) (w : CfgWr) : State :=
  let plain (s : State) (m : Nat) : State := s.modFn 0 (fun c => { c with plain := kput w.off (w.new &&& m) c.plain })
  match w.off with
  | 0x04 => s.cfgCommand 0 w
  | 0x0C => s.modFn 0 (fun c => { c with cacheLine := w.new % 256 })
  | 0x10 | 0x14 | 0x18 | 0x1C | 0x20 | 0x24 =>
    let k := (w.off - 0x10) / 4
    s.modFn 0 (fun c => { c with bars := kput k (w.new &&& barMask k) c.bars })
  | 0x30 => s.modFn 0 (fun c => { c with rom := w.new &&& 0xFFE00000, romEn := bit w.new 0 })
  | 0x3C => s.modFn 0 (fun c => { c with intLine := w.new % 256 })
  | 0x44 => s.cfgPm 0 w
  | 0x58 => s.cfgDevCtl 0 w
  | 0x60 => plain s 0x01FB
  | 0x78 => s.modFn 0 (fun c => { c with ctoVal := w.new % 16, ctoDis := bit w.new 4, tag10 := bit w.new 12 })
  | 0x80 => plain s 0xFFFF
  | 0xB0 => s.cfgMsix 0 w
  | 0x104 => s.modFn 0 (fun c => { c with aerUncor := w.clear c.aerUncor 0 32 })
  | 0x108 => s.modFn 0 (fun c => { c with aerUncorMask := w.new &&& aerUncorBits })
  | 0x10C => s.modFn 0 (fun c => { c with aerUncorSev := w.new &&& aerUncorBits })
  | 0x110 => s.modFn 0 (fun c => { c with aerCor := w.clear c.aerCor 0 32 })
  | 0x114 => s.modFn 0 (fun c => { c with aerCorMask := w.new &&& aerCorBits })
  | 0x278 => plain s 0xE3FF000F
  | 0x288 | 0x290 | 0x2A0 => s.cfgSriov w
  | 0x2A4 | 0x2A8 | 0x2AC | 0x2B0 => s.cfgVfBar w
  | 0x2C4 => s.cfgAts 0 w
  | 0x2CC => s.modFn 0 (fun c => { c with pasidEn := bit w.new 16 })
  | 0x2D4 =>
    let s := s.modFn 0 (fun c => { c with priEn := bit w.new 0 })
    if w.one 1 then (s.priReset 0).settleAll else s
  | 0x2DC => s.modFn 0 (fun c => { c with priAlloc := w.new })
  | 0x30C | 0x310 => s.cfgCxl w
  | 0x320 => plain s 0xFFFFFFFF
  | 0x324 => plain s 0xF0000000
  | 0x39C => s.cfgDfLink w
  | 0x3A8 => if w.val / 2 ^ 7 != 0 then s.breach w.off else s
  | _ => s

/-- A write to a VF's configuration space. -/
def State.cfgWriteVf (s : State) (v : Nat) (w : CfgWr) : State :=
  match w.off with
  | 0x04 => s.cfgCommand v w
  | 0x44 => s.cfgPm v w
  | 0x58 => s.cfgDevCtl v w
  | 0xB0 => s.cfgMsix v w
  | 0x10C => s.cfgAts v w
  | 0x11C => if w.one 15 then s.breach w.off else s
  | 0x128 => if w.val / 2 ^ 7 != 0 then s.breach w.off else s
  | _ => s

/-- A configuration write of len bytes that lie within one dword; a VF that does not exist answers UR (violation 0x10). -/
def State.cfgWrite (s : State) (n off len v : Nat) (hdr : List Byte) : State :=
  if !s.flag .HL_STATUS_LINK_UP || !s.pilot.cfgReady then s
  else if !s.fnLive n then (s.violation 0x10 n hdr true).emit (.hostCompletion 1 [] false)
  else
    let o := off / 4 * 4
    let sh := 8 * (off % 4)
    let mask := ((2 ^ (8 * min len (4 - off % 4)) - 1) * 2 ^ sh)
    let val := (v * 2 ^ sh) &&& mask
    let old := (s.cfgRead? n o).getD 0
    let w : CfgWr := { off := o, mask := mask, val := val, new := (old - (old &&& mask)) ||| val }
    if n = 0 then s.cfgWritePf w else s.cfgWriteVf n w

end Sys2Proof.Machine
end

