-- ==== Sys2Proof/Machine/RegWrite.lean ====
section
/-! DEFINITION. Registers by offset: what a register reads, what a write does, and the host's memory requests that no register
or memory serves (R27, R138, R177, R224, R454, R502, R707, R715, R741 to R752). -/
namespace Sys2Proof.Machine

/-! ### Registers by offset (R742, R743, R755) -/

/-- The instance of a register at an offset of its space. -/
def Reg.instAt? (r : Reg) (o : Nat) : Option Nat :=
  let k := r.info
  if o < k.off then none
  else
    let d := o - k.off
    let a := if k.stride = 0 then 0 else d / k.stride
    let e := d - k.stride * a
    let b := if k.innerStride = 0 then 0 else e / k.innerStride
    if k.innerStride * b = e && b < k.inner && a * k.inner + b < k.count then some (a * k.inner + b) else none

/-- The register at an aligned offset of PF BAR0 or of the partition page. -/
def regAt? (sp : Space) (o : Nat) : Option (Reg × Nat) :=
  Reg.all.findSome? (fun r => if r.info.space == sp then (r.instAt? o).map (fun i => (r, i)) else none)

/-- The instance number in the state of instance i of a page register, seen in the page of p. -/
def Reg.pageInst (r : Reg) (p i : Nat) : Nat := match r.info.cls with | .tile => i | _ => p * r.info.count + i

/-- The page of p shows a tile's registers only where p owns the tile (R224). -/
def State.tileShown (s : State) (p : Nat) (r : Reg) (i : Nat) : Bool :=
  r.info.cls != .tile || s.com.owner? (i % 48) (i / 48) == some p

/-! ### What a register reads -/

/-- TILE_STATUS of a tile (Table 5-16). -/
def State.tileStatus (s : State) (i : Nat) : Nat :=
  let n := nodeKey (i % 48) (i / 48)
  let t := s.tile n
  let core := if s.pilot.tileReset.contains n then 3 else if s.get .TILE_STATUS_CORE i = 2 then 2 else if t.cur.isSome then 1 else 0
  core + b2n (t.matq != []) * 4 + ((t.msg.sends.filter (·.queued)).length % 32) * 8 +
    b2n (bit s.pilot.striker (s.quad n)) * 2 ^ 8 + t.pc % 2 ^ 16 * 2 ^ 16

/-- MSG_CTR_DATA of partition p (Table 6-13). -/
def State.ctrData (s : State) (p : Nat) : Nat :=
  let n := nodeKey (s.get .MSG_CTR_SEL_TX p) (s.get .MSG_CTR_SEL_TY p)
  if isTile n && s.com.owner? (nodeX n) (nodeY n) == some p then
    kgetD (s.tile n).msg.ctrs (s.get .MSG_CTR_SEL_CTR p) 0 % 2 ^ 32 + (s.tile n).tasks.length % 2 ^ 7 * 2 ^ 32 + 2 ^ 39
  else 0

/-- Entries of partition p that wait in the mailbox its doorbells go to (Table 7-14). -/
def State.dbDepth (s : State) (p : Nat) : Nat :=
  ((s.core (s.get .LNT_DB_ROUTE_CORE p)).mbox.filter (fun e => !e.prov && e.part == p)).length

/-- A slot entry as FAB_TBL_DATA shows it (Table 3-8). -/
def SlotEnt.word (e : SlotEnt) : Nat :=
  e.flow * 2 ^ 4 + e.part * 2 ^ 8 + (match e.kind with | .idle => 0 | .slack => 1 | .flow => 2 | .backup => 3) * 2 ^ 14

/-- What instance i of a register reads: the fields as they stand, and those that show what the device holds elsewhere. -/
def State.regRead (s : State) (r : Reg) (i : Nat) : Nat :=
  let w := s.regWord r i
  match r with
  | .TILE_STATUS => s.tileStatus i
  | .MSG_CTR_DATA => s.ctrData i
  | .LNT_DB_STAT => w + s.dbDepth i % 32
  | .XLAT_CTX_STAT => w + b2n (s.xlat.streams.any (fun t => t.part == i / 16 && t.ctx == i % 16 && t.parked)) * 2 ^ 42
  | .XLAT_GSTAT => w + min s.xlat.ats.length 256 + min (s.fn 0).priAlloc 512 * 2 ^ 32
  | .XLAT_L2 => w + s.xlat.l2.length % 2 ^ 15
  | .CCH_DEV => w + s.retained none * 2 ^ 16 + s.cch.lines.length * 2 ^ 36
  | .CCH_EVB => w + s.cch.evb.length + s.fills 0 * 2 ^ 16 + s.fills 1 * 2 ^ 24 + s.fills 2 * 2 ^ 32 + s.fills 3 * 2 ^ 40
  | .DIR_STATUS => w + s.dirMode + s.biPending * 2 ^ 4 + s.cch.dir.length * 2 ^ 16
  | .CCH_PSTATE => w + s.retained (some i) * 2 ^ 12 + s.occupancy i * 2 ^ 32
  | .MEM_STACK => w + b2n (s.pilot.phase == .ready) + b2n (s.domState (22 + i / 4) == 1) * 2
  | .CRY_PKR_ID => if s.rangeGranted (i / 24) (i % 24) then s.regWord .CRY_KR_ID (i % 24) else 0
  | .CRY_PKR_RK => if s.rangeGranted (i / 24) (i % 24) then s.regWord .CRY_KR_RK (i % 24) else 0
  | .HL_PSTAT => w + s.heldNow i % 2 ^ 16 * 2 ^ 32
  | .FAB_TBL_DATA =>
    let p := s.get .FAB_TBL_SEL_PORT
    if p < 14 then (s.com.slotEnt (s.flag .FAB_TBL_SEL_RX) p (s.get .FAB_TBL_SEL_SLOT)).word else 0
  | .FAB_OCC_DATA => kgetD s.fab.occLast (4096 * s.get .FAB_OCC_SEL_PORT + s.get .FAB_OCC_SEL_SLOT) 0 % 256
  | .EMB_DIR => leAt ((s.slot (i / 8 + 1)).dir (i / 8 + 1)) (8 * (i % 8)) 8
  | .DF_LINK => s.dfLink
  | _ => w

/-- What an access of n bytes at an offset of PF BAR0 or of a partition's page reads (R224, R747, R748). -/
def State.regSpaceRead (s : State) (page : Option Nat) (off n : Nat) : Nat :=
  let o := off / 8 * 8
  let w := match page with
    | some p =>
      match regAt? .page o with
      | some (r, i) => if s.tileShown p r i then s.regRead r (r.pageInst p i) else 0
      | none => 0
    | none => match regAt? .pf o with | some (r, i) => s.regRead r i | none => 0
  bits w (8 * (off % 8)) (8 * n)

/-- The EMBER window (R731, R753): record i of the selected buffer lies at offset 64 i. -/
def State.embWindow (s : State) (off n : Nat) : List Byte :=
  let k := s.get .EMB_WIN_SEL_SLOT
  let rs := if k = 0 then s.ember.buf else (s.slot k).recs
  if k != 0 && !(s.slot k).used then List.replicate n 0 else slice (recAt rs (off / 64)) (off % 64) n

/-- A read of PF BAR0 or of its image: registers, pages, and the EMBER window. -/
def State.bar0Read (s : State) (off n : Nat) : List Byte :=
  if 0x140000 ≤ off && off < 0x180000 then s.embWindow (off - 0x140000) n
  else if 0x01000000 ≤ off && off < 0x05000000 then leBytes n (s.regSpaceRead (some ((off - 0x01000000) / 2 ^ 20)) (off % 2 ^ 20) n)
  else leBytes n (s.regSpaceRead none off n)

/-! ### Writing a register (R27, R177, R715, R747, R749) -/

/-- A write of a register: the bits it covers and their value, as of the whole register. -/
structure RegWr where
  mask : Nat
  val : Nat
deriving DecidableEq, Repr

/-- The bits of field f that the write covers, and what it writes there. -/
def RegWr.cov (w : RegWr) (f : Fld) : Nat := bits w.mask f.info.lo f.info.width
def RegWr.wr (w : RegWr) (f : Fld) : Nat := bits w.val f.info.lo f.info.width

/-- The write covers some bit of the field; a bit of it is written as 1. -/
def RegWr.covers (w : RegWr) (f : Fld) : Bool := w.cov f != 0
def RegWr.hits (w : RegWr) (f : Fld) : Bool := w.wr f != 0

/-- A field's value after the write: only its covered bits change (R747). -/
def State.newVal (s : State) (w : RegWr) (f : Fld) (i : Nat) : Nat :=
  let old := s.get f i
  (old - (old &&& w.cov f)) ||| w.wr f

/-- The bits that a register's fields fill; all others are RSV. -/
def Reg.fieldBits (r : Reg) : Nat := (r.fields.map (fun f => (2 ^ f.info.width - 1) * 2 ^ f.info.lo)).sum

/-- A SAT flag written as 1 clears itself and the counters it belongs to (R715). -/
def State.satClear (s : State) (f : Fld) (i : Nat) : State :=
  match f.satCounter with
  | some c => (s.put f i 0).put c i 0
  | none => s.put f i 0

/-- A field takes a write under its access code (R27). -/
def State.fldWrite (s : State) (w : RegWr) (i : Nat) (f : Fld) : State :=
  match f.info.access with
  | .rw => if w.covers f then s.put f i (s.newVal w f i) else s
  | .w1c =>
    if !w.hits f then s
    else if f.satCounter.isSome then s.satClear f i
    else s.put f i (s.get f i - (s.get f i &&& w.wr f))
  | _ => s

/-- Every field of a register takes a write. -/
def State.regPlain (s : State) (w : RegWr) (r : Reg) (i : Nat) : State := r.fields.foldl (fun s f => s.fldWrite w i f) s

/-- Its W1C fields alone take the write (R751). -/
def State.clearWrite (s : State) (w : RegWr) (r : Reg) (i : Nat) : State :=
  r.fields.foldl (fun s f => if f.info.access == .w1c then s.fldWrite w i f else s) s

/-! ### Registers whose write does more -/

/-- KIM_CMD (Table 3-20). -/
def State.kimOp (s : State) (op : Nat) : State :=
  match op with
  | 1 => s.kimStage
  | 2 => s.kimValidate
  | 3 => let t := s.put .KIM_CMD_OP 0 3; t.kimArm t.armRegs
  | 4 => s.kimAbort
  | 5 => s.kimDiscard
  | 6 => s.kimResolve true
  | 7 => s.kimResolve false
  | 8 => s.kimDecideCmd true
  | 9 => s.kimDecideCmd false
  | n => s.put .KIM_CMD_OP 0 n

/-- PART_FWU_CMD (Table 4-21). -/
def State.fwuOp (s : State) (op : Nat) : State :=
  match op with
  | 1 => s.fwuStage
  | 2 => s.fwuVerify
  | 3 => s.fwuActivate
  | 4 => s.fwuRevert
  | 5 => s.fwuDiscard
  | n => s.put .PART_FWU_CMD_OP 0 n

/-- TWN_CMD starts an operation of Table 16-8 where none runs; a reserved encoding ends with RESERVED (R686, Table 16-13). -/
def State.twnCmd (s : State) (w : RegWr) : State :=
  if s.flag .TWN_CMD_BUSY then s
  else
    let s := s.regPlain w .TWN_CMD 0
    let op := s.get .TWN_CMD_OP
    let all := s.flag .TWN_CMD_ALL
    let p := s.get .TWN_CMD_PART
    if all && (2 < op || p != 0) then s.twinEnd .reg 2 0
    else (s.put .TWN_CMD_BUSY 0 1).twinOp .reg op all p (s.get .TWN_CMD_EPOCH_EPOCH)

/-- PART_SQ_CFG and PART_CQ_CFG: EN reads 0 with a size outside 4 to 16; setting it starts the queue afresh, and a stopped pair
serves again (R148, Table 4-19). -/
def State.sqCfgWrite (s : State) (w : RegWr) (i : Nat) : State :=
  let was := s.flag .PART_SQ_CFG_EN i
  let s := s.regPlain w .PART_SQ_CFG i
  let z := s.get .PART_SQ_CFG_SIZE_LOG2 i
  if !s.flag .PART_SQ_CFG_EN i then s
  else if z < 4 || 16 < z then s.put .PART_SQ_CFG_EN i 0
  else if was then s
  else (s.put .PART_SQ_CFG_HEAD i 0).put .PART_Q_ERR_STOPPED i 0
def State.cqCfgWrite (s : State) (w : RegWr) (i : Nat) : State :=
  let was := s.flag .PART_CQ_CFG_EN i
  let s := s.regPlain w .PART_CQ_CFG i
  let z := s.get .PART_CQ_CFG_SIZE_LOG2 i
  if !s.flag .PART_CQ_CFG_EN i then s
  else if z < 4 || 16 < z then s.put .PART_CQ_CFG_EN i 0
  else if was then s
  else ((s.put .PART_CQ_CFG_TAIL i 0).put .PART_CQ_CFG_PHASE i 1).put .PART_Q_ERR_STOPPED i 0

/-- PART_PROV_CTL of partition p (Table 4-20): FORCE and TIMEOUT_MS first, then QUIESCE, RESUME and RESET. -/
def State.provCtlWrite (s : State) (w : RegWr) (p : Nat) : State :=
  let s := s.regPlain w .PART_PROV_CTL p
  let s := if w.hits .PART_PROV_CTL_QUIESCE then s.quiesce p (s.flag .PART_PROV_CTL_FORCE p) else s
  let s := if w.hits .PART_PROV_CTL_RESUME then s.resume p else s
  if w.hits .PART_PROV_CTL_RESET then s.provReset p else s

/-- LNT_CORE_CFG of core c (Table 7-13): PART and FAULT_PART are fixed while ASSIGNED. -/
def State.coreCfgWrite (s : State) (w : RegWr) (c : Nat) : State :=
  let part := s.get .LNT_CORE_CFG_PART c
  let fp := s.get .LNT_CORE_CFG_FAULT_PART c
  let t := s.regPlain w .LNT_CORE_CFG c
  let t := if s.assigned c then (t.put .LNT_CORE_CFG_PART c part).put .LNT_CORE_CFG_FAULT_PART c fp else t
  let t := if w.hits .LNT_CORE_CFG_ASSIGN then t.assignCore c (t.newVal w .LNT_CORE_CFG_PART c) else t
  if w.hits .LNT_CORE_CFG_RELEASE then t.releaseCore c else t

/-- A fault ring's CFG: SIZE_LOG2 is fixed while EN is 1; EN starts and stops the ring (R707, R711, Table 17-16). Ring 64 is the
device's. -/
def State.ringCfgWrite (s : State) (w : RegWr) (r : Nat) : State :=
  let (reg, i, en, size) : Reg × Nat × Fld × Fld := if r < 64 then (.FLT_PRING_CFG, r, .FLT_PRING_CFG_EN, .FLT_PRING_CFG_SIZE_LOG2)
    else (.FLT_RING_CFG, 0, .FLT_RING_CFG_EN, .FLT_RING_CFG_SIZE_LOG2)
  let was := s.flag en i
  let on := s.newVal w en i != 0
  let old := s.get size i
  let t := (s.regPlain w reg i).put en i (b2n was)
  let t := if was then t.put size i old else t
  if on && !was then t.ringEnable r else if was && !on then t.ringDisable r else t

/-- A fault ring's BASE, HEAD and STAT (R705, R707). -/
def State.ringRegWrite (s : State) (w : RegWr) (r : Nat) (k : Nat) : State :=
  let (base, stat, i, head, clr) : Reg × Reg × Nat × Fld × Fld :=
    if r < 64 then (.FLT_PRING_BASE, .FLT_PRING_STAT, r, .FLT_PRING_HEAD_HEAD, .FLT_PRING_STAT_CLR_LOST)
    else (.FLT_RING_BASE, .FLT_RING_STAT, 0, .FLT_RING_HEAD_HEAD, .FLT_RING_STAT_CLR_LOST)
  match k with
  | 0 => if s.ringOn r then s else s.regPlain w base i
  | 1 => s.ringCfgWrite w r
  | 2 => if w.covers head then s.ringHeadWrite r (s.newVal w head i) else s
  | _ =>
    let s := s.regPlain w stat i
    if w.hits clr then s.clrLost r else s

/-- A write of a register's instance (R27, Table 0-7): its own operation where it has one, its access codes otherwise. n is the
number of bytes written. -/
def State.regWrite (s : State) (r : Reg) (i : Nat) (w : RegWr) (n : Nat) : State :=
  match r with
  | .PWR_HOLD => if w.covers .PWR_HOLD_HOLD then s.pwrHold (s.newVal w .PWR_HOLD_HOLD 0) else s
  | .RST_REQ => if w.hits .RST_REQ_WARM then s.rstReqWarm else s.rstFabPorts (w.wr .RST_REQ_FAB_PORT)
  | .KIM_CMD => if w.covers .KIM_CMD_OP then s.kimOp (s.newVal w .KIM_CMD_OP 0) else s
  | .KIM_SRC_ADDR | .KIM_SRC_LEN | .KIM_ARM_C | .KIM_ARM_CFG =>
    if 4 ≤ s.kimState then s.lockedWrite (r.offset i) w.val else s.regPlain w r i
  | .PART_SQ_CFG => s.sqCfgWrite w i
  | .PART_CQ_CFG => s.cqCfgWrite w i
  | .PART_SQ_DB => if w.covers .PART_SQ_DB_TAIL then s.sqDoorbell (i / 16) (i % 16) (s.newVal w .PART_SQ_DB_TAIL i) else s
  | .PART_CQ_DB => if w.covers .PART_CQ_DB_HEAD then s.cqDoorbell (i / 16) (i % 16) (s.newVal w .PART_CQ_DB_HEAD i) else s
  | .PART_PROV_CTL => s.provCtlWrite w i
  | .PART_FWU_CMD => if w.covers .PART_FWU_CMD_OP then s.fwuOp (s.newVal w .PART_FWU_CMD_OP 0) else s
  | .LNT_CORE_CFG => s.coreCfgWrite w i
  | .LNT_PROV_DB => s.lntProvDb w.val n
  | .LNT_WDOG =>
    let t := s.regPlain w r i
    if w.hits .LNT_WDOG_KICK || w.covers .LNT_WDOG_TIMEOUT_MS then t.kick else t
  | .LNT_DB => s.lntDb i w.val n
  | .LNT_HOSTIRQ => if w.covers .LNT_HOSTIRQ_VECTOR then s.lntHostIrq i (s.newVal w .LNT_HOSTIRQ_VECTOR i) else s
  | .CCH_CFG => (s.regPlain w r i).cchPump
  | .DIR_CFG => if w.hits .DIR_CFG_DRAIN then s.dirDrain else s
  | .CRY_PKR_RK => s
  | .HL_STATUS =>
    let t := s.regPlain w r i
    if w.hits .HL_STATUS_RELEASE then t.quarantineRelease else t
  | .HL_INTX_PART | .HL_INTX_GLB => (s.regPlain w r i).updIntx
  | .DL_CMD =>
    if !w.covers .DL_CMD_OP then s
    else
      let p := s.newVal w .DL_CMD_PORT 0
      match s.newVal w .DL_CMD_OP 0 with
      | 1 => s.dlReenum p (s.newVal w .DL_CMD_ALL 0 != 0)
      | 2 => s.dlRelease p
      | _ => s.regPlain w r i
  | .TWN_CMD => if w.covers .TWN_CMD_OP then s.twnCmd w else s.regPlain w r i
  | .FLT_PRING_BASE => s.ringRegWrite w i 0
  | .FLT_PRING_CFG => s.ringRegWrite w i 1
  | .FLT_PRING_HEAD => s.ringRegWrite w i 2
  | .FLT_PRING_STAT => s.ringRegWrite w i 3
  | .FLT_RING_BASE => s.ringRegWrite w 64 0
  | .FLT_RING_CFG => s.ringRegWrite w 64 1
  | .FLT_RING_HEAD => s.ringRegWrite w 64 2
  | .FLT_RING_STAT => s.ringRegWrite w 64 3
  | .EMB_CTL =>
    let t := if w.hits .EMB_CTL_FREEZE then s.emberTrigger 6 else s
    if w.hits .EMB_CTL_REARM then t.rearm else t
  | .EMB_SLOTS => if w.covers .EMB_SLOTS_KEEP then s.embKeep (2 * s.newVal w .EMB_SLOTS_KEEP 0) else s
  | .EMB_FAULT_OUT => (s.regPlain w r i).updFaultOut
  | .EMB_NOTE => s.embNote (s.newVal w .EMB_NOTE_VALUE 0)
  | _ => s.regPlain w r i

/-- A write of n bytes of value v at an offset of PF BAR0, or of a partition's page (R224, R748, R749, R751). -/
def State.regSpaceWrite (s : State) (page : Option Nat) (off n v : Nat) : State :=
  let o := off / 8 * 8
  let sh := 8 * (off % 8)
  let m := 2 ^ (8 * n) - 1
  let w : RegWr := { mask := m * 2 ^ sh, val := v % 2 ^ (8 * n) * 2 ^ sh }
  let rsv (s : State) (r : Reg) : State := if w.val - (w.val &&& r.fieldBits) != 0 then s.breach o else s
  match page with
  | none => match regAt? .pf o with | some (r, i) => (rsv s r).regWrite r i w n | none => s
  | some p =>
    match regAt? .page o with
    | none => s
    | some (r, i) =>
      if !s.tileShown p r i then s
      else if s.pstate p = 6 then s.clearWrite w r (r.pageInst p i)
      else (rsv s r).regWrite r (r.pageInst p i) w n

/-- A write to PF BAR0 or to its image. -/
def State.bar0Write (s : State) (off n v : Nat) : State :=
  if 0x140000 ≤ off && off < 0x180000 then s
  else if 0x01000000 ≤ off && off < 0x05000000 then s.regSpaceWrite (some ((off - 0x01000000) / 2 ^ 20)) (off % 2 ^ 20) n v
  else if 0x01000000 ≤ off then s
  else s.regSpaceWrite none off n v

/-! ### MSI-X tables (R498, R499) -/

/-- A write to the MSI-X table of a function; the PBA and what lies outside discard it (R748). -/
def State.msixWrite (s : State) (fn off n v : Nat) : State :=
  let vec := off / 16
  if (if fn = 0 then 2048 else 32) ≤ vec then s
  else
    let dw (s : State) (k x : Nat) : State :=
      match k with
      | 0 => s.modMsix fn vec (fun e => { e with addr := e.addr / 2 ^ 32 * 2 ^ 32 + x / 4 * 4 })
      | 1 => s.modMsix fn vec (fun e => { e with addr := e.addr % 2 ^ 32 + x * 2 ^ 32 })
      | 2 => s.modMsix fn vec (fun e => { e with data := x })
      | _ =>
        if bit x 0 then s.modMsix fn vec (fun e => { e with masked := true })
        else if (s.msixEnt fn vec).masked then s.msixUnmask fn (some vec) else s
    let k := off % 16 / 4
    let s := dw s k (v % 2 ^ 32)
    if n = 8 then dw s (k + 1) (v / 2 ^ 32 % 2 ^ 32) else s

/-! ### The host's memory requests (R472, R502, R510, R745) -/

/-- What a host memory address hits. -/
inductive BarHit where
  | pf0 | pf2 | pf4 | rom
  | vf0 (v : Nat)
  | vf2 (v : Nat)
deriving DecidableEq, Repr

/-- The function of a BAR. -/
def BarHit.fn : BarHit → Nat
  | .vf0 v | .vf2 v => v
  | _ => 0

/-- A function decodes memory requests: in D0 and under no FLR (R510, Table 12-6). -/
def State.decodes (s : State) (n : Nat) : Bool := s.fnLive n && !s.inD3 n && !s.underFlr n && s.pilot.cfgReady

/-- The BAR that the first byte of a request hits, the offset there and the BAR's size (R471 to R474). -/
def State.barHit? (s : State) (addr : Nat) : Option (BarHit × Nat × Nat) :=
  let c := s.fn 0
  let inside (b n : Nat) : Bool := b ≤ addr && addr < b + n
  let pf := c.memEn && s.decodes 0
  let vfs (base size : Nat) : Option Nat :=
    if c.vfEn && c.vfMse && inside base (size * c.numVfs) then
      (let v := (addr - base) / size + 1; if s.decodes v then some v else none) else none
  if pf && inside (s.barBase 0) (2 ^ 28) then some (.pf0, addr - s.barBase 0, 2 ^ 28)
  else if pf && inside (s.barBase 2) (2 ^ 36) then some (.pf2, addr - s.barBase 2, 2 ^ 36)
  else if pf && inside (s.barBase 4) (2 ^ 16) then some (.pf4, addr - s.barBase 4, 2 ^ 16)
  else if pf && c.romEn && inside c.rom (2 ^ 21) then some (.rom, addr - c.rom, 2 ^ 21)
  else
    match vfPageBytes c.sysPage with
    | none => none
    | some z =>
      match vfs c.vfBar0 (2 ^ 20) with
      | some v => some (.vf0 v, (addr - c.vfBar0) % 2 ^ 20, 2 ^ 20)
      | none => (vfs c.vfBar2 z).map (fun v => (.vf2 v, (addr - c.vfBar2) % z, z))

/-- An access of the first row of Table 18-4: 4 bytes aligned to 4, or 8 aligned to 8, all enabled. -/
def wordAccess (off len : Nat) (enabled : Bool) : Bool := enabled && ((len = 4 && off % 4 = 0) || (len = 8 && off % 8 = 0))

/-- A write within LNT_DB of a page, which R292 drops where it is narrower than 8 bytes; one of LNT_PROV_DB takes 8 bytes. -/
def inLntDb (pageOff len : Nat) : Bool := 0x100 ≤ pageOff && pageOff + len ≤ 0x108

/-- Table 18-4 for PF BAR0. -/
def bar0Access (off len : Nat) (write enabled : Bool) : Bool :=
  if 0x140000 ≤ off && off < 0x180000 then !write && enabled && [4, 8, 16, 32, 64].contains len && off % len = 0
  else if 0x800000 ≤ off && off < 0x810000 then true
  else if write && off / 8 = 0x50400 / 8 then len = 8 && wordAccess off len enabled
  else wordAccess off len enabled || (write && 0x01000000 ≤ off && off < 0x05000000 && inLntDb (off % 2 ^ 20) len)

/-- Table 18-4 for a BAR. -/
def BarHit.allows (h : BarHit) (off len : Nat) (write enabled : Bool) : Bool :=
  match h with
  | .pf0 => bar0Access off len write enabled
  | .pf2 | .rom => true
  | .pf4 | .vf2 _ => wordAccess off len enabled
  | .vf0 _ => wordAccess off len enabled || (write && inLntDb off len)

/-- The answer to a host request that breaks the rules: UR (1) or CA (4) to a read, and a write is discarded (Table 12-4). -/
def State.badRequest (s : State) (code fn : Nat) (write : Bool) (hdr : List Byte) : State :=
  let s := s.violation code fn hdr (!write)
  if write then s else s.emit (.hostCompletion (if code = 1 then 1 else 4) [] false)

/-- The violation a host memory request is: 0x01 no BAR, 0x02 its width, 0x03 a poisoned write of MMIO; none where it is proper. -/
def State.memViolation? (s : State) (write : Bool) (addr len : Nat) (enabled poison : Bool) : Option (Nat × Nat) :=
  match s.barHit? addr with
  | none => some (1, 0)
  | some (h, off, size) =>
    if size < off + len || !h.allows off len write enabled then some (2, h.fn)
    else if write && poison && h != .pf2 then some (3, h.fn)
    else none

/-- HOST_MEMORY_REQUEST (R502, R745): a request that is proper has its own command. -/
def execHostMemoryRequest (write : Bool) (addr len : Nat) (enabled poison : Bool) (hdr : List Byte) (s : State) :
    Host.Outcome State Fault Refusal :=
  .next <|
    if !s.flag .HL_STATUS_LINK_UP then s
    else
      match s.memViolation? write addr len enabled poison with
      | some (code, fn) => s.badRequest code fn write hdr
      | none => s

/-! ### REGISTER_WRITE (R27, R742 to R752, R797) -/

/-- The host writes len bytes of value v at an offset of a function's memory space. -/
def State.hostWrite (s : State) (fn : Nat) (h : BarHit) (off len v : Nat) (hdr : List Byte) : State :=
  let size := match h with | .pf0 => 2 ^ 28 | .pf4 => 2 ^ 16 | .vf0 _ => 2 ^ 20 | _ => (vfPageBytes (s.fn 0).sysPage).getD 4096
  let on := if fn = 0 then (s.fn 0).memEn else (s.fn 0).vfMse && (vfPageBytes (s.fn 0).sysPage).isSome
  if !s.flag .HL_STATUS_LINK_UP then s
  else if !on || !s.decodes fn then s.badRequest 1 fn true hdr
  else if size < off + len || !h.allows off len true true then s.badRequest 2 fn true hdr
  else
    match h with
    | .pf0 => s.bar0Write off len v
    | .vf0 n => match s.com.partOfVf? n with | some p => s.regSpaceWrite (some p) off len v | none => s
    | .pf4 | .vf2 _ => s.msixWrite fn off len v
    | _ => s

/-- REGISTER_WRITE. -/
def execRegisterWrite (t : WrTarget) (off len v : Nat) (hdr : List Byte) (s : State) : Host.Outcome State Fault Refusal :=
  .next <| State.settleAll <|
    match t with
    | .bar0 => s.hostWrite 0 .pf0 off len v hdr
    | .vfBar0 n => s.hostWrite n (.vf0 n) off len v hdr
    | .msix n => s.hostWrite n (if n = 0 then .pf4 else .vf2 n) off len v hdr
    | .cfg n => s.cfgWrite n off len v hdr

end Sys2Proof.Machine
end

