-- ==== Sys2Proof/Machine/Lantern.lean ====
section
/-! DEFINITION. What a LANTERN core does with memory: translation and its TLB, loads, stores and their buffers, the
internal MMIO image (R271 to R273, R277, R284 to R287, R296 to R308, R313, R315, R741, R746). See
notes/assumptions/70.md to 73.md. -/
namespace Sys2Proof.Machine

/-! ### Outcomes -/

/-- A part of an instruction: its value, an exception of Table 7-5 with its address, or a wait, after which the
instruction starts again. -/
inductive Res (α : Type) where
  | ok (v : α) (s : State)
  | exc (code addr : Nat) (s : State)
  | wait (s : State)

def Res.bind {α β : Type} (r : Res α) (f : α → State → Res β) : Res β :=
  match r with
  | .ok v s => f v s
  | .exc c a s => .exc c a s
  | .wait s => .wait s

/-! ### The physical space (R271, R277, R412, R741) -/

/-- The image of PF BAR0, 256 MiB (R741). -/
def mmioBase : Nat := 0xF00000000000
def mmioSize : Nat := 2 ^ 28

/-- What a device physical address names for a LANTERN core. -/
inductive PaKind where
  | hbm | far | mmio
  /-- No memory and no register (R412). -/
  | hole
deriving DecidableEq, Repr

def State.paKind (s : State) (a : Nat) : PaKind :=
  if a < hbmEnd then .hbm
  else if (s.dlPortOf? a).isSome then .far
  else if mmioBase ≤ a && a < mmioBase + mmioSize then .mmio
  else .hole

/-- A core may reach n bytes at a physical address: an assigned one only its partition's windows and page (R277, R315). -/
def State.coreReach (s : State) (c a n : Nat) : Bool :=
  !s.assigned c ||
    let p := s.get .LNT_CORE_CFG_PART c
    if mmioBase ≤ a then
      let page := mmioBase + 0x01000000 + p * 2 ^ 20
      page ≤ a && a + n ≤ page + 2 ^ 20
    else match s.com.window? a n with
      | some w => !w.provider && w.owner == p
      | none => false

/-- The partition of an assigned core. -/
def State.corePart? (s : State) (c : Nat) : Option Nat := if s.assigned c then some (s.get .LNT_CORE_CFG_PART c) else none

/-- The CXL component registers, which have no image (R741). -/
def cxlRows (off : Nat) : Bool := 0x800000 ≤ off && off < 0x810000

/-- An access of the image that R746 allows. -/
def imageAccess (off n : Nat) (write : Bool) : Bool := if cxlRows off then wordAccess off n true else bar0Access off n write true

/-- The image read and written. -/
def State.imageRead (s : State) (off n : Nat) : List Byte := if cxlRows off then List.replicate n 0 else s.bar0Read off n
def State.imageWrite (s : State) (off : Nat) (bs : List Byte) : State := if cxlRows off then s else s.bar0Write off bs.length (leNat bs)

/-! ### Lines (R272, R393, R396, R540) -/

/-- A core waits for the answer to a read; one of its writes is not yet acknowledged. -/
def State.coreAsks (s : State) (c : Nat) : Bool :=
  s.dl.reqs.any (fun r => r.who == .core c && r.wr == []) || s.cch.d2h.any (fun d => d.core == some c && d.wr == []) ||
    s.cch.bi.any (fun r => r.cores.contains c)
def State.coreWrites (s : State) (c : Nat) : Bool :=
  s.dl.reqs.any (fun r => r.who == .core c && r.wr != []) || s.cch.d2h.any (fun d => d.core == some c && d.wr != [])

/-- Nothing that has come for a core's instruction is kept beyond it. -/
def State.coreClear (s : State) (c : Nat) : State := s.modCore c (fun k => { k with far := [] })

/-- A core's BISnp for a line (Table 9-8); one of another kind that is outstanding ends first. -/
def State.coreBi (s : State) (c line kind : Nat) : State :=
  if s.cch.bi.any (fun r => r.line == line && r.kind == kind) then
    s.modCch (fun k => { k with bi := k.bi.map (fun (r : BiReq) => if r.line = line ∧ !r.cores.contains c then { r with cores := r.cores ++ [c] } else r) })
  else if s.cch.bi.any (fun r => r.line == line) then s
  else s.biSend { line := line, kind := kind, part := s.corePart? c, cores := [c] }

/-- The BISnp of Table 9-8 that a core's access to a line of HBM still needs. -/
def State.coreBi? (s : State) (c line : Nat) (own : Bool) : Option Nat :=
  if s.dirMode != 1 || (kfind? (2 ^ 65 + line) (s.core c).far).isSome then none
  else (s.biKind? line own).map (fun _ => if own then 2 else 1)

/-- What ECC finds in a line of HBM that a core reads (R414). -/
def eccLine (line : Nat) : Ecc → List EccEvent
  | .none => []
  | .corrected => [⟨line, .corrected⟩]
  | .uncorrectable => [⟨line, .uncorrectable⟩]

/-- The 64 bytes of a line of HBM or the far tier, and their poison; own asks for ownership. A far-tier line, and an HDM line
in HDM-D mode, come by an answer that the core waits for. A failed one reads as poison (Table 13-4). -/
def State.lineGet (s : State) (c line : Nat) (own : Bool) (ecc : Ecc) : Res (List Byte × Bool) :=
  if line < hbmEnd then
    if s.domState (memDom line) != 3 then .wait (s.wake (memDom line))
    else if s.dirMode = 2 && s.isHdm line then
      match kfind? (2 ^ 64 + line) (s.core c).far with
      | some v => .ok v s
      | none =>
        if s.cch.d2h.any (fun d => d.core == some c && d.line == line) then .wait s
        else .wait (s.d2hSend { op := .rdCurr, line := line, part := (s.corePart? c).getD 0, core := some c })
    else match s.coreBi? c line own with
      | some kind => .wait (s.coreBi c line kind)
      | none =>
        let s := s.eccRead (eccLine line ecc)
        .ok (s.plainRead line 64, s.poisoned line) s
  else
    match kfind? line (s.core c).far with
    | some v => .ok v s
    | none =>
      match s.dlPortOf? line with
      | none => .ok ([], true) s
      | some p =>
        if s.dlState p != 3 then .ok ([], true) (s.dlRecord dlAbsent (s.corePart? c) p line 2)
        else if s.domState domDownlink != 3 then .wait (s.wake domDownlink)
        else if s.dl.reqs.any (fun r => r.line == line && (r.wr != [] || r.who == .core c)) then .wait s
        else .wait ((s.dlAccess? p line (.core c) (s.corePart? c) 0 none false).getD s)

/-- Bytes within one line stored: true where the store is performed or discarded, false where it must wait. -/
def State.linePut (s : State) (c a : Nat) (bs : List Byte) : Bool × State :=
  let line := lineOf a
  let off := a % 64
  if line < hbmEnd then
    if s.domState (memDom line) != 3 then (false, s.wake (memDom line))
    else if s.dirMode = 2 && s.isHdm line then
      if s.cch.d2h.any (fun d => d.core == some c && d.line == line) then (false, s)
      else (true, s.d2hSend { op := if bs.length = 64 then .itoMWr else .woWrInv, line := line, part := (s.corePart? c).getD 0
                              off := off, wr := bs, core := some c })
    else match s.coreBi? c line true with
      | some kind => (false, s.coreBi c line kind)
      | none => (true, s.writeLine line off bs false)
  else
    match s.dlPortOf? line with
    | none => (true, s.breach line)
    | some p =>
      if s.dlState p != 3 then (true, (s.dlRecord dlAbsent (s.corePart? c) p line 2).breach line)
      else if s.domState domDownlink != 3 then (false, s.wake domDownlink)
      else if s.dl.reqs.any (fun r => r.line == line) then (false, s)
      else match s.dlAccess? p line (.core c) (s.corePart? c) off (some bs) false with
        | some s => (true, s)
        | none => (false, s)

/-- A store to memory or to the image is performed. -/
def State.storePut (s : State) (c a : Nat) (bs : List Byte) : Bool × State :=
  if s.paKind a = .mmio then (true, s.imageWrite (a - mmioBase) bs) else s.linePut c a bs

/-! ### The store buffer and the combining buffer (R302 to R304, R313) -/

/-- A byte of a buffered store. -/
def BufStore.byte? (e : BufStore) (a : Nat) : Option Byte := if e.addr ≤ a then e.bytes[a - e.addr]? else none

/-- Bytes of a buffered store and a span meet. -/
def BufStore.meets (e : BufStore) (a n : Nat) : Bool := spansMeet e.addr e.bytes.length a n

/-- The byte that a core's own stores give an address: the youngest one's (R302, R303). -/
def Core.own? (k : Core) (a : Nat) : Option Byte :=
  match k.storeBuf.reverse.findSome? (fun e => e.byte? a) with
  | some b => some b
  | none => (k.nt.find? (fun e => e.line == lineOf a)).bind (fun e => kfind? (a % 64) e.bytes)

/-- The stores of a buffer, marks apart. -/
def Core.stores (k : Core) : Nat := (k.storeBuf.filter (fun e => !e.mark)).length

/-- A mark that nothing precedes any more leaves. -/
def State.marksSettle (s : State) (c : Nat) : State :=
  if s.coreWrites c then s else s.modCore c (fun k => { k with storeBuf := k.storeBuf.dropWhile (·.mark) })

/-- The store at place k of the buffer is performed, where it can be: it leaves first. -/
def State.performAt (s : State) (c k : Nat) : Bool × State :=
  match (s.core c).storeBuf[k]? with
  | none => (false, s)
  | some e =>
    if e.mark then (false, s)
    else
      let r := (s.modCore c (fun q => { q with storeBuf := q.storeBuf.eraseIdx k })).storePut c e.addr e.bytes
      if r.1 then (true, r.2.marksSettle c) else (false, r.2.modCore c (fun q => { q with storeBuf := (s.core c).storeBuf }))

/-- The order lets the store at place k be performed: no mark before it, and no earlier store to its bytes, DEV-B ones
apart (R296, R299, Table 7-8). -/
def Core.mayPerform (q : Core) (k : Nat) : Bool :=
  match q.storeBuf[k]? with
  | none => false
  | some e => !e.mark && (q.storeBuf.take k).all (fun d => !d.mark && (d.devB || e.devB || !d.meets e.addr e.bytes.length))

/-- Buffered stores that the bits of v choose are performed, from place k on (R296, R302). -/
def State.drainSome (c : Nat) : Nat → Nat → Nat → State → State
  | 0, _, _, s => s
  | f + 1, k, v, s =>
    if v % 2 = 1 && (s.core c).mayPerform k then
      let r := s.performAt c k
      State.drainSome c f (if r.1 then k else k + 1) (v / 2) r.2
    else State.drainSome c f (k + 1) (v / 2) s

/-- Between two instructions any of a core's buffered stores may be performed: which ones is open (R296). -/
def State.drainFree (s : State) (c : Nat) : State :=
  if (s.core c).storeBuf = [] then s
  else
    let r := s.draw 32
    (State.drainSome c 32 0 r.1 r.2).marksSettle c

/-- The oldest store of the buffer is performed. -/
def State.performOldest (s : State) (c : Nat) : Bool × State :=
  let s := s.marksSettle c
  if ((s.core c).storeBuf.headD {}).mark then (false, s) else s.performAt c 0

/-- Stores are performed, oldest first, until none is left that a condition names; false where one must wait. -/
def State.drainWhich (c : Nat) (p : BufStore → Bool) : Nat → State → Bool × State
  | 0, s => (false, s)
  | f + 1, s =>
    if (s.core c).storeBuf.any (fun e => !e.mark && p e) then
      let r := s.performOldest c
      if r.1 then State.drainWhich c p f r.2 else r
    else (true, s)

/-- Every buffered store is performed, oldest first. -/
def State.drainStores (s : State) (c : Nat) : Bool × State := State.drainWhich c (fun _ => true) 33 s

/-- Stores enter the buffer together; where it has no room for them its oldest are performed first (R302). -/
def State.bufferStores (c : Nat) (es : List BufStore) : Nat → State → Bool × State
  | 0, s => (false, s)
  | f + 1, s =>
    if (s.core c).stores + es.length ≤ 32 then (true, s.modCore c (fun k => { k with storeBuf := k.storeBuf ++ es }))
    else
      let r := s.performOldest c
      if r.1 then State.bufferStores c es f r.2 else r

/-- The first run of adjacent bytes of a combining-buffer entry. -/
def firstRun : KMap Byte → Nat × List Byte
  | [] => (0, [])
  | (o, b) :: rest =>
    let r := firstRun rest
    if r.2 ≠ [] ∧ r.1 = o + 1 then (o, b :: r.2) else (o, [b])

/-- A combining-buffer entry drains: a full line as one write, a partial one as a masked write (R304). Bytes drained leave. -/
def State.ntRuns (c line : Nat) : Nat → State → Bool × State
  | 0, s => (false, s)
  | f + 1, s =>
    match (s.core c).nt.find? (fun e => e.line == line) with
    | none => (true, s)
    | some e =>
      if e.bytes = [] then (true, s.modCore c (fun k => { k with nt := k.nt.filter (fun d => d.line != line) }))
      else
        let run := firstRun e.bytes
        let r := s.linePut c (line + run.1) run.2
        if r.1 then
          State.ntRuns c line f (r.2.modCore c (fun k => { k with nt := k.nt.map (fun d =>
            if d.line = line then { d with bytes := d.bytes.filter (fun b => b.1 < run.1 || run.1 + run.2.length ≤ b.1) } else d) }))
        else r

def State.ntDrain (s : State) (c line : Nat) : Bool × State := State.ntRuns c line 65 s

/-- Every entry drains, oldest first. -/
def State.ntAll (c : Nat) : Nat → State → Bool × State
  | 0, s => ((s.core c).nt == [], s)
  | f + 1, s =>
    match (s.core c).nt with
    | [] => (true, s)
    | e :: _ =>
      let r := s.ntDrain c e.line
      if r.1 then State.ntAll c f r.2 else r

/-- Both buffers drain; true where all of the core's stores are performed (R298, Table 7-8). -/
def State.drainAll (s : State) (c : Nat) : Bool × State :=
  let r := s.drainStores c
  let q := State.ntAll c 8 r.2
  (r.1 && q.1 && !q.2.coreWrites c, q.2)

/-- Earlier stores of the core to n bytes at a are performed first (R296, R313). -/
def State.drainMeeting (s : State) (c a n : Nat) : Bool × State := State.drainWhich c (fun e => e.meets a n) 33 s

/-- An entry of the combining buffer that holds some of n bytes at a drains first (R313). -/
def State.drainNt (s : State) (c a n : Nat) : Bool × State :=
  match (s.core c).nt.find? (fun e => e.bytes.any (fun b => a ≤ e.line + b.1 && e.line + b.1 < a + n)) with
  | some e => s.ntDrain c e.line
  | none => (true, s)

/-- A non-temporal store within one line enters the combining buffer; the oldest of 8 entries drains for a new one, and a
full line drains (R303, R304). -/
def State.ntStore (s : State) (c a : Nat) (bs : List Byte) : Bool × State :=
  let line := lineOf a
  let have_ := (s.core c).nt.any (fun e => e.line == line)
  let r := match have_ || (s.core c).nt.length < 8, (s.core c).nt with
    | false, e :: _ => s.ntDrain c e.line
    | _, _ => (true, s)
  if !r.1 then r
  else
    let s := if have_ then r.2 else r.2.modCore c (fun k => { k with nt := k.nt ++ [{ line := line }] })
    let s := s.modCore c (fun k => { k with nt := k.nt.map (fun e =>
      if e.line = line then { e with bytes := bs.zipIdx.foldl (fun m b => kput (a % 64 + b.2) b.1 m) e.bytes } else e) })
    if (s.core c).nt.any (fun e => e.line == line && e.bytes.length == 64) then (true, (s.ntDrain c line).2) else (true, s)

/-! ### Translation (R284 to R287, Table 7-4) -/

/-- The kinds of access. -/
inductive AccKind where
  | fetch | load | store
deriving DecidableEq, Repr

/-- The page fault of a kind (Table 7-5). -/
def AccKind.fault : AccKind → Nat | .fetch => 0x10 | .load => 0x11 | .store => 0x12

/-- The level of a core: 0 T, 1 K, 2 W. -/
def State.level (s : State) (c : Nat) : Nat := bits (s.lcsr c 0x40) 0 2

/-- A leaf's flags allow a kind of access at a level; WR requires RD (Table 7-4). -/
def leafAllows (flags : Nat) (k : AccKind) (lvl : Nat) : Bool :=
  (match k with | .fetch => bit flags 4 && !(lvl == 1 && bit flags 5) | .load => bit flags 2 | .store => bit flags 2 && bit flags 3) &&
    (lvl != 0 || bit flags 5)

/-- A table entry, or a leaf of 4 KiB or 16 MiB, that has every reserved bit 0 (Table 7-4, R285). -/
def tableOk (e : Nat) : Bool := bits e 0 2 = 1 && bits e 2 13 = 0 && bits e 48 16 = 0
def leafOk (e : Nat) (big : Bool) : Bool :=
  bits e 0 2 = 2 && bits e 9 3 = 0 && bits e 48 16 = 0 && bits e 6 2 != 3 && (!big || bits e 12 12 = 0)

/-- An entry of the TLB holds the translation of an address. -/
def TlbEnt.covers (e : TlbEnt) (va asid : Nat) : Bool :=
  (e.glob || e.asid == asid) && (if e.big then va / 2 ^ 24 == e.va / 2 ^ 24 else va / 2 ^ 12 == e.va / 2 ^ 12)

/-- The physical address by an entry. -/
def TlbEnt.at_ (e : TlbEnt) (va : Nat) : Nat := if e.big then e.pa + va % 2 ^ 24 else e.pa + va % 2 ^ 12

/-- Where an access of n bytes at a physical address stands: it may be made as its type (0 NORMAL, 1 DEV-S, 2 DEV-B), or ACCESS. -/
def State.reach (s : State) (c pa n mtype : Nat) : Bool :=
  match s.paKind pa with
  | .hole => false
  | .mmio => mtype != 0 && s.coreReach c pa n
  | _ => s.coreReach c pa n

/-- One entry of a page table, read as NORMAL memory (R285). -/
def State.readPte (s : State) (c a va : Nat) : Res Nat :=
  if !s.reach c a 8 0 then .exc 0x13 va s
  else (s.lineGet c (lineOf a) false .none).bind (fun v s => if v.2 then .exc 0x07 va s else .ok (leAt v.1 (a % 64) 8) s)

/-- The walk (R284): the leaf as a TLB entry. -/
def State.walk (s : State) (c va asid : Nat) (k : AccKind) : Res TlbEnt :=
  let leaf (e : Nat) (big : Bool) (s : State) : Res TlbEnt :=
    if leafOk e big then
      .ok { va := va, big := big, asid := asid, glob := bit e 8, pa := bits e 12 36 * 2 ^ 12, flags := e % 2 ^ 12 } s
    else .exc k.fault va s
  (s.readPte c (bits (s.lcsr c 0x49) 15 33 * 2 ^ 15 + 8 * bits va 36 12) va).bind (fun e1 s =>
    if !tableOk e1 then .exc k.fault va s
    else (s.readPte c (bits e1 12 36 * 2 ^ 12 + 8 * bits va 24 12) va).bind (fun e2 s =>
      if bits e2 0 2 = 2 then leaf e2 true s
      else if !tableOk e2 then .exc k.fault va s
      else (s.readPte c (bits e2 12 36 * 2 ^ 12 + 8 * bits va 12 12) va).bind (fun e3 s => leaf e3 false s)))

/-- The physical address and the memory type of a virtual address (R284 to R286). Whether a TLB still holds an entry is open. -/
def State.translate (s : State) (c va : Nat) (k : AccKind) : Res (Nat × Nat) :=
  let lvl := s.level c
  let vm := s.lcsr c 0x49
  if lvl = 2 || !bit vm 0 then .ok (va, if s.paKind va = .mmio then 1 else 0) s
  else if 2 ^ 48 ≤ va then .exc k.fault va s
  else
    let asid := bits vm 48 16
    let use (e : TlbEnt) (s : State) : Res (Nat × Nat) :=
      if leafAllows e.flags k lvl then .ok (e.at_ va, bits e.flags 6 2) s else .exc k.fault va s
    let fresh (s : State) : Res (Nat × Nat) :=
      (s.walk c va asid k).bind (fun e s =>
        use e (s.modCore c (fun q => { q with tlb := e :: q.tlb.filter (fun d => !d.covers va asid) })))
    match (s.core c).tlb.find? (fun e => e.covers va asid) with
    | some e =>
      let r := s.draw 1
      if r.1 = 1 then use e r.2 else fresh r.2
    | none => fresh s

/-- The pieces of n bytes at a virtual address, one for each page, all checked first (R306): (address, count, type). -/
def State.pieces (s : State) (c va n : Nat) (k : AccKind) : Res (List (Nat × Nat × Nat)) :=
  let n1 := min n (4096 - va % 4096)
  (s.translate c va k).bind (fun x s =>
    if n1 = n then .ok [(x.1, n, x.2)] s
    else (s.translate c ((va + n1) % 2 ^ 64) k).bind (fun y s => .ok [(x.1, n1, x.2), (y.1, n - n1, y.2)] s))

/-- Bytes that a message still to be read holds become open where the program writes them (R199). -/
def SendEnt.dirtied (e : SendEnt) (a n : Nat) : SendEnt :=
  if e.kind != 1 && !e.counted && spansMeet e.off e.len a n then { e with dirty := e.dirty ++ [(a, a + n)] } else e

/-- A store to a core's message window touches what its messages hold (R199, R293). -/
def State.coreDirty (s : State) (c a n : Nat) : State :=
  match s.window? c with
  | some b =>
    if (s.core c).msg.sends = [] || !spansMeet b (2 ^ 19) a n then s
    else s.modCore c (fun k => { k with msg := { k.msg with sends := k.msg.sends.map (fun e =>
      e.dirtied (max a b - b) (a + n - max a b)) } })
  | none => s

/-- An access of n bytes at a virtual address: its pieces, which the core may reach; strict takes no misaligned one (R277,
R286, R307, R412, R746). -/
def State.access (s : State) (c va n : Nat) (k : AccKind) (strict : Bool) : Res (List (Nat × Nat × Nat)) :=
  if (s.core c).hold && s.coreWrites c then .wait s
  else if strict && va % n != 0 then .exc 0x02 va s
  else (s.pieces c va n k).bind (fun ps s =>
    if va % n != 0 && ps.any (fun p => p.2.2 != 0) then .exc 0x02 va s
    else if ps.any (fun p => !s.reach c p.1 p.2.1 p.2.2 || !s.reach c (p.1 + p.2.1 - 1) 1 p.2.2 ||
        (s.paKind p.1 == .mmio && !imageAccess (p.1 - mmioBase) p.2.1 (k == .store))) then .exc 0x13 va s
    else .ok ps (if k = .store then ps.foldl (fun s p => s.coreDirty c p.1 p.2.1) s else s))

/-- A DEV-S access waits until every earlier access of the core has been performed (R298). -/
def State.orderly (s : State) (c mtype : Nat) : Res Unit :=
  if mtype != 1 then .ok () s
  else
    let r := s.drainAll c
    if r.1 then .ok () r.2 else .wait r.2

/-! ### Loads -/

/-- The bytes of one line that a load reads, its own stores before memory (R302, R303). -/
def State.readInLine (s : State) (c a n va : Nat) (own : Bool) (ecc : Ecc) : Res (List Byte) :=
  let mine := (rangeFrom a n).map (fun x => (s.core c).own? x)
  if mine.all (·.isSome) && !own then .ok (mine.map (·.getD 0)) s
  else
    (s.lineGet c (lineOf a) own ecc).bind (fun v s =>
      if v.2 then .exc 0x07 va s
      else .ok ((mine.zip (slice v.1 (a % 64) n)).map (fun e => e.1.getD e.2)) s)

/-- One piece of a load. -/
def State.readPiece (s : State) (c a n va : Nat) (ecc : Ecc) : Res (List Byte) :=
  if s.paKind a = .mmio then .ok (s.imageRead (a - mmioBase) n) s
  else
    let n1 := min n (64 - a % 64)
    (s.readInLine c a n1 va false ecc).bind (fun x s =>
      if n1 = n then .ok x s else (s.readInLine c (a + n1) (n - n1) va false .none).bind (fun y s => .ok (x ++ y) s))

/-- The pieces of a load. -/
def State.readPieces (c va : Nat) (ecc : Ecc) : List (Nat × Nat × Nat) → State → Res (List Byte)
  | [], s => .ok [] s
  | p :: ps, s =>
    (s.orderly c p.2.2).bind (fun _ s =>
      (s.readPiece c p.1 p.2.1 va ecc).bind (fun x s => (State.readPieces c va ecc ps s).bind (fun y s => .ok (x ++ y) s)))

/-- A load of n bytes. -/
def State.coreLoad (s : State) (c va n : Nat) (ecc : Ecc) : Res (List Byte) :=
  (s.access c va n .load false).bind (fun ps s => State.readPieces c va ecc ps s)

/-! ### Stores -/

/-- A store whose effect on registers comes after the instruction has ended, so that it may restart the core itself. -/
structure Late where
  addr : Nat
  bytes : List Byte
deriving DecidableEq, Repr

/-- What a store leaves to do. -/
def Late.run (l : Late) (c : Nat) (s : State) : State := (s.storePut c l.addr l.bytes).2

/-- A store that is performed at once, after every earlier access (R298). -/
def State.storeNow (s : State) (c a : Nat) (bs : List Byte) : Res (Option Late) :=
  (s.orderly c 1).bind (fun _ s =>
    if s.paKind a = .mmio then .ok (some ⟨a, bs⟩) s
    else
      let r := s.linePut c a bs
      if r.1 then .ok none (r.2.modCore c (fun k => { k with hold := true })) else .wait r.2)

/-- NORMAL bytes enter the store buffer: whole where aligned, else byte by byte (R306); earlier NT bytes drain first (R313). -/
def State.storeNormal (s : State) (c : Nat) (ps : List (Nat × Nat × Nat)) (bs : List Byte) (whole : Bool) : Res (Option Late) :=
  let cells := ((ps.flatMap (fun p => rangeFrom p.1 p.2.1)).zip bs)
  let ents := if whole then [{ addr := (cells.headD (0, 0)).1, bytes := bs }] else cells.map (fun e => ({ addr := e.1, bytes := [e.2] } : BufStore))
  let r := cells.foldl (fun (r : Bool × State) e => if r.1 then r.2.drainNt c e.1 1 else r) (true, s)
  if !r.1 then .wait r.2
  else
    let q := State.bufferStores c ents 33 r.2
    if q.1 then .ok none q.2 else .wait q.2

/-- A store of bytes at a virtual address. -/
def State.coreStore (s : State) (c va : Nat) (bs : List Byte) : Res (Option Late) :=
  (s.access c va bs.length .store false).bind (fun ps s =>
    match ps with
    | [(a, _, 1)] => s.storeNow c a bs
    | [(a, _, 2)] =>
      let r := State.bufferStores c [{ addr := a, bytes := bs, devB := true }] 33 s
      if r.1 then .ok none r.2 else .wait r.2
    | _ => s.storeNormal c ps bs (va % bs.length == 0))

/-- A non-temporal store (R303). -/
def State.coreNt (s : State) (c va : Nat) (bs : List Byte) : Res (Option Late) :=
  (s.access c va bs.length .store true).bind (fun ps s =>
    match ps with
    | [(a, _, 0)] =>
      let r := s.drainMeeting c a bs.length
      if !r.1 then .wait r.2
      else
        let q := r.2.ntStore c a bs
        if q.1 then .ok none q.2 else .wait q.2
    | [(a, _, 1)] => s.storeNow c a bs
    | [(a, _, _)] =>
      let r := State.bufferStores c [{ addr := a, bytes := bs, devB := true }] 33 s
      if r.1 then .ok none r.2 else .wait r.2
    | _ => .wait s)

/-! ### AMO (R281) and fetch -/

/-- The read, the operation and the write of an AMO as one action; f gives the value to write. With rel every earlier
access is performed first; after acq no later one is before it. -/
def State.coreAmo (s : State) (c va n : Nat) (acq rel : Bool) (ecc : Ecc) (f : Nat → Option Nat) : Res Nat :=
  (s.access c va n .store true).bind (fun ps s =>
    match ps with
    | [(a, _, 0)] =>
      let r := if rel then s.drainAll c else s.drainMeeting c a n
      let q := if r.1 then r.2.drainNt c a n else r
      if !q.1 then .wait q.2
      else
        (q.2.lineGet c (lineOf a) true ecc).bind (fun v s =>
          if v.2 then .exc 0x07 va s
          else
            let old := leAt v.1 (a % 64) n
            match f old with
            | none => .ok old s
            | some x =>
              let w := s.linePut c a (leBytes n x)
              if w.1 then .ok old (w.2.modCore c (fun k => { k with hold := k.hold || acq })) else .wait w.2)
    | _ => .exc 0x13 va s)

/-- The word at a core's PC. Code outside HBM, the far tier and the image lies in the firmware store, which the kernel and the
warden may run; its word comes from outside. -/
def State.coreFetch (s : State) (c word : Nat) (parity : Bool) : Res Nat :=
  let pc := (s.core c).pc
  if parity then .exc 0x15 pc s
  else (s.translate c pc .fetch).bind (fun x s =>
    match s.paKind x.1 with
    | .hole => if s.level c = 0 then .exc 0x13 pc s else .ok (word % 2 ^ 32) s
    | .mmio =>
      if s.reach c x.1 4 x.2 && imageAccess (x.1 - mmioBase) 4 false then .ok (leNat (s.imageRead (x.1 - mmioBase) 4)) s
      else .exc 0x13 pc s
    | _ =>
      if !s.reach c x.1 4 x.2 then .exc 0x13 pc s
      else (s.lineGet c (lineOf x.1) false .none).bind (fun v s =>
        if v.2 then .exc 0x07 pc s else .ok (leAt v.1 (x.1 % 64) 4) s))

end Sys2Proof.Machine
end

