-- ==== Sys2Proof/Machine/LntCore.lean ====
section
/-! DEFINITION. LANTERN cores: exceptions, interrupts, the CSRs of Table 7-15, and the events that come to a core
(R276, R282, R283, R288 to R290, R293, R304, R317). See notes/assumptions/74.md to 78.md. -/
namespace Sys2Proof.Machine

/-! ### Entry and return (R288) -/

/-- The CSRs XPC, XCAUSE and XADDR of level x, 1 K or 2 W, and its vector. -/
def xvecOf (x : Nat) : Nat := if x = 1 then 0x41 else 0x42
def xpcOf (x : Nat) : Nat := if x = 1 then 0x43 else 0x44
def xcauseOf (x : Nat) : Nat := if x = 1 then 0x45 else 0x46
def xaddrOf (x : Nat) : Nat := if x = 1 then 0x47 else 0x48

/-- LSTATUS on entry to level x: the level and IE_x are saved, IE_x is cleared, and PRIV is x (Table 7-15). -/
def enterStatus (st x : Nat) : Nat :=
  let lvl := bits st 0 2
  let st := if x = 1 then setBits (setBits (setBits st 4 2 lvl) 6 1 (bits st 2 1)) 2 1 0
    else setBits (setBits (setBits st 8 2 lvl) 10 1 (bits st 3 1)) 3 1 0
  setBits st 0 2 x

/-- LSTATUS after XRET at level x. -/
def returnStatus (st x : Nat) : Nat :=
  if x = 1 then setBits (setBits st 2 1 (bits st 6 1)) 0 2 (bits st 4 2) else setBits (setBits st 3 1 (bits st 10 1)) 0 2 (bits st 8 2)

/-- A core enters level x with a cause and an address; pc is saved, and the core runs. -/
def State.enter (s : State) (c x cause addr pc : Nat) : State :=
  let s := ((s.setLcsr c (xpcOf x) pc).setLcsr c (xcauseOf x) cause).setLcsr c (xaddrOf x) addr
  let s := (s.setLcsr c 0x40 (enterStatus (s.lcsr c 0x40) x)).put .LNT_CORE_CFG_STATE c 1
  (s.modCore c (fun k => { k with pc := s.lcsr c (xvecOf x) / 4 * 4 })).coreClear c

/-- A LANTERN exception (Table 7-5): from T to K, from K or W to W, CACHE_ECC always to W; ACCESS, POISON and CACHE_ECC write an
EMBER record (Table 17-9). -/
def State.lntExc (s : State) (c code addr : Nat) : State :=
  let x := if s.level c = 0 && code != 0x15 then 1 else 2
  let pc := (s.core c).pc
  let s := s.enter c x code addr pc
  if code = 0x13 || code = 0x07 || code = 0x15 then s.ember' 0x0B c code (s.corePart? c) 0 pc addr else s

/-- XRET at level x: the saved level and IE_x, and a jump to XPC_x, whose bits [1:0] are not used. -/
def State.lntReturn (s : State) (c : Nat) : State :=
  let x := s.level c
  (s.setLcsr c 0x40 (returnStatus (s.lcsr c 0x40) x)).modCore c (fun k => { k with pc := s.lcsr c (xpcOf x) / 4 * 4 })

/-! ### Interrupts (R289, Table 7-6) -/

/-- IRQ_PEND: TIMER, MBOX and INBOX follow their sources, the others are events not yet taken. -/
def State.irqPend (s : State) (c : Nat) : Nat :=
  let k := s.core c
  b2n (s.lcsr c 0x4D ≤ s.get .CLK_TICK_TICK) + 2 * b2n (k.mbox != []) + 4 * b2n (k.inbox.state == 2) + k.lines / 8 * 8

/-- Line k of a core is pending and enabled. -/
def State.irqOn (s : State) (c k : Nat) : Bool := bit (s.irqPend c) k && bit (s.lcsr c 0x4A) k

/-- The level that a line is delivered to, and whether the core takes it now. -/
def State.irqLevel (s : State) (c k : Nat) : Nat := if bit (s.lcsr c 0x4C) k then 1 else 2
def State.irqTaken (s : State) (c k : Nat) : Bool :=
  let st := s.lcsr c 0x40
  s.irqOn c k && (if s.irqLevel c k = 1 then s.level c == 0 || (s.level c == 1 && bit st 2) else s.level c < 2 || bit st 3)

/-- The core executes: it is RUNNING, in WFI or in WAIT, and its domain is ON. -/
def State.coreOn (s : State) (c : Nat) : Bool := 1 ≤ s.coreState c && s.coreState c ≤ 3 && s.domState domLantern == 3

/-- INTERRUPT_ENTRY: the core takes a line between two instructions (R289, R314); a WFI it leaves has retired, a wait it leaves is
executed again (R282). An event's line is taken with it. -/
def State.interruptEntry (s : State) (c k : Nat) : State :=
  if !s.coreOn c || s.coreAsks c || !s.irqTaken c k then s
  else
    let pc := (s.core c).pc
    let pc := if s.coreState c = 2 then (pc + 4) % 2 ^ 64 else pc
    (s.enter c (s.irqLevel c k) (2 ^ 63 + k) 0 pc).modCore c (fun q => { q with lines := if 3 ≤ k then q.lines - bits q.lines k 1 * 2 ^ k else q.lines })

def execInterruptEntry (c k : Nat) (s : State) : Host.Outcome State Fault Refusal := .next (s.interruptEntry (c % 16) k)

/-- TIMECMP_EXPIRE: TICK has reached TIMECMP, so that TIMER is pending; a dozing domain wakes (Table 2-3). -/
def execTimecmpExpire (c : Nat) (s : State) : Host.Outcome State Fault Refusal :=
  .next (if s.lcsr (c % 16) 0x4D ≤ s.get .CLK_TICK_TICK then s.wake domLantern else s)

/-- NT_DRAIN_TIMEOUT: entry k of a core's combining buffer drains after 1 us without a merge (R304). -/
def execNtDrainTimeout (c k : Nat) (s : State) : Host.Outcome State Fault Refusal :=
  .next <|
    match (s.core (c % 16)).nt[k]? with
    | some e => if s.domState domLantern = 3 then (s.ntDrain (c % 16) e.line).2 else s
    | none => s

/-! ### CSRs (R210, R317, Tables 5-13, 7-15) -/

/-- COORD of node n (Table 5-13). -/
def State.coord (s : State) (n : Nat) : Nat :=
  let p := (s.nodePart? n).getD 0
  nodeX n + nodeY n * 2 ^ 8 + p * 2 ^ 16 + (s.incOf p % 16) * 2 ^ 24 + (s.self % 256) * 2 ^ 32

/-- The bits of a CSR that are RW or W1C, and those that are RSV. -/
structure CsrShape where
  rw : Nat := 0
  w1c : Nat := 0
  rsv : Nat := 0
deriving DecidableEq, Repr

/-- The mask of bits [lo + w - 1 : lo]. -/
def mask (lo w : Nat) : Nat := (2 ^ w - 1) * 2 ^ lo

/-- The CSRs that a LANTERN core has. -/
def lntCsr? (k : Nat) : Option CsrShape :=
  match k with
  | 0x02 | 0x04 | 0x09 => some {}
  | 0x03 => some { w1c := mask 63 1, rsv := mask 48 15 }
  | 0x40 => some { rw := mask 2 5 + mask 8 3, rsv := mask 7 1 + mask 11 53 }
  | 0x41 | 0x42 => some { rw := mask 2 62, rsv := mask 0 2 }
  | 0x43 | 0x44 | 0x47 | 0x48 => some { rw := mask 0 64 }
  | 0x45 | 0x46 => some { rw := mask 0 8 + mask 63 1, rsv := mask 8 55 }
  | 0x49 => some { rw := mask 0 1 + mask 15 49, rsv := mask 1 14 }
  | 0x4A | 0x4C | 0x53 => some { rw := mask 0 16, rsv := mask 16 48 }
  | 0x4B | 0x4E | 0x4F | 0x50 => some {}
  | 0x4D => some { rw := mask 0 56, rsv := mask 56 8 }
  | 0x51 => some { rw := mask 0 1 + mask 19 29, rsv := mask 1 18 + mask 48 16 }
  | 0x52 => some { rw := mask 6 13 + mask 20 22, rsv := mask 0 6 + mask 19 1 + mask 44 20 }
  | _ => none

/-- The CSRs that a level may access (R317). -/
def csrAllowed (k lvl : Nat) : Bool :=
  match lvl with
  | 0 => [0x02, 0x03, 0x04, 0x09, 0x4E].contains k
  | 1 => !([0x42, 0x44, 0x46, 0x48, 0x4C].contains k)
  | _ => true

/-- The inbox as its CSR shows it. -/
def Region.inboxWord (r : Region) (v : Nat) : Nat := v % 2 ^ 42 + r.state * 2 ^ 42

/-- The value of a CSR; reading MBOX_POP pops only by `lntPop`. -/
def State.lntCsrRead (s : State) (c k : Nat) : Nat :=
  let q := s.core c
  match k with
  | 0x02 => q.cycle % 2 ^ 64
  | 0x03 => q.retired + b2n q.retiredSat * 2 ^ 63
  | 0x04 => s.coord (nodeKey 62 c)
  | 0x09 => s.cadenceTime
  | 0x4B => s.irqPend c
  | 0x4E => s.get .CLK_TICK_TICK
  | 0x4F =>
    let h : MboxEnt := q.mbox.headD {}
    q.mbox.length + h.part * 2 ^ 8 + b2n h.prov * 2 ^ 14
  | 0x50 => (q.mbox.headD {}).data
  | 0x51 => s.lcsr c 0x51 / 2 * 2 + b2n (s.window? c).isSome
  | 0x52 => q.inbox.inboxWord (s.lcsr c 0x52)
  | 0x53 => 0
  | _ => s.lcsr c k

/-- A read of MBOX_POP takes the head entry. -/
def State.lntPop (s : State) (c k : Nat) : State := if k = 0x50 then s.modCore c (fun q => { q with mbox := q.mbox.drop 1 }) else s

/-- What keeps a write of v to a CSR, of which the bits m are written, from being made: an exception code, or 0. A level that is 11b,
an inbox of mode 11b and a size that is no multiple of 64 are reserved values; an inbox lies inside the window (R210, R293, R283). -/
def State.lntCsrBad (s : State) (c k m v : Nat) : Nat :=
  let st := s.lcsr c 0x40
  match k with
  | 0x40 =>
    if bits v 4 2 = 3 || bits v 8 2 = 3 then 0x04
    else if s.level c = 1 && (bits v 3 1 != bits st 3 1 || bits v 8 3 != bits st 8 3) && m != 0 then 0x14 else 0
  | 0x52 =>
    if bits v 40 2 = 3 || bits v 20 6 != 0 then 0x04
    else if bits v 40 2 != 0 && 2 ^ 19 < bits v 6 13 * 64 + bits v 20 20 then 0x03 else 0
  | _ => 0

/-- INBOX declares the landing region anew (R293): an inbox with a mode arms; one without is disarmed, once its granted bytes
have landed. -/
def State.setInbox (s : State) (c v : Nat) : State :=
  let r := (s.core c).inbox
  let n := nodeKey 62 c
  let s := s.setLcsr c 0x52 (v % 2 ^ 42)
  if bits v 40 2 = 0 then
    (s.modCore c (fun q => { q with inbox := if r.granted = r.landed then {} else { r with state := 3 } })).nackPending n [r]
  else
    (s.modCore c (fun q => { q with inbox := { mode := bits v 40 2, base := bits v 6 13 * 64, size := bits v 20 20, state := 1 } })).examine n

/-- IPI: line 3 of each core named; an assigned core reaches only the cores of its partition. -/
def State.sendIpi (s : State) (c v : Nat) : State :=
  (List.range 16).foldl (fun s d =>
    if bit v d && (!s.assigned c || (s.assigned d && s.get .LNT_CORE_CFG_PART d == s.get .LNT_CORE_CFG_PART c)) then s.coreLine d 3 else s) s

/-- A CSR takes a new value. -/
def State.lntCsrWrite (s : State) (c k v : Nat) : State :=
  match k with
  | 0x03 => if bit v 63 then s.modCore c (fun q => { q with retired := 0, retiredSat := false }) else s
  | 0x52 => s.setInbox c v
  | 0x53 => s.sendIpi c v
  | _ => s.setLcsr c k v

/-! ### Restart (R165, R276) -/

/-- CORE_RESTART_DONE: the buffers have emptied into memory and the core serves again at the kernel entry. -/
def State.restartDone (s : State) (c : Nat) : State :=
  if s.coreState c != 5 then s
  else
    s.needs domLantern (fun s =>
      let r := s.drainAll c
      if !r.1 || r.2.coreAsks c then r.2
      else
        let s := (r.2.freeRegs c).coreClear c
        let s := s.modCore c (fun k => { k with pc := Config.entry (s.coreBundle c) true % 2 ^ 64, assigning := none, hold := false, storeBuf := [] })
        let s := ((s.setLcsr c 0x40 (setBits (s.lcsr c 0x40) 0 2 1)).put .LNT_CORE_CFG_STATE c 1).put .LNT_CORE_CFG_ASSIGN c 0
        (s.put .LNT_CORE_CFG_RELEASE c 0).fwuServed c)

def execCoreRestartDone (c : Nat) (s : State) : Host.Outcome State Fault Refusal := .next (s.restartDone (c % 16))

end Sys2Proof.Machine
end

