-- ==== Sys2Proof/Machine/Operands.lean ====
section
/-! DEFINITION. The fields of a Wick word, the row of the opcode table that a word belongs to, and the registers that
a field names, for tiles and LANTERN cores alike (R186, R189, R190, Tables 5-4 to 5-9, 5-12, 7-2, 7-3). -/
namespace Sys2Proof.Machine

/-! ### Fields (Table 5-4) -/

def wMajor (w : Nat) : Nat := bits w 26 6
def wD (w : Nat) : Nat := bits w 21 5
def wA (w : Nat) : Nat := bits w 16 5
def wB (w : Nat) : Nat := bits w 11 5
/-- FN of formats R and X. -/
def wFn (w : Nat) : Nat := bits w 0 11
/-- IMM of formats I and S, and its sign-extended value. -/
def wImm (w : Nat) : Nat := bits w 0 16
def wSimm (w : Nat) : Int := sInt 16 w
/-- P, W and FN of format V. -/
def wP (w : Nat) : Nat := bits w 8 3
def wW (w : Nat) : Nat := bits w 6 2
def wVfn (w : Nat) : Nat := bits w 0 6
/-- ACC, FMT, C and FN of format M. -/
def wAcc (w : Nat) : Nat := bits w 23 3
def wFmt (w : Nat) : Nat := bits w 21 2
def wMc (w : Nat) : Nat := bits w 6 5

/-! ### Rows -/

/-- The rows of the opcode table that a word can belong to. -/
inductive WRow where
  | alu | aluw | addi | andi | ori | xori | slti | sltiu | shi | lui | load | store | branch | jal | jalr
  | vint | vfp | vcmp | vld | vst | vldb | vcvt | vbcast | vmovs | vredadd | vredfadd | vredmax | vredfmax | vperm
  | pand | por | pxor | pnot | pmov | pread | mma | mzero | mload | mstore | mwait
  | sendData | sendGet | sendPut | sendf | recvwait | cwait | cadd | cread | taskYield | taskDone | slotwait
  | csrr | csrx | csrm | trap | ctime | sdnt | swnt | amo | barFull | barLd | barSt | barDev | barNt | tlbinv | wfi | xret
  /-- A word that raises ILLEGAL. -/
  | illegal
deriving DecidableEq, Repr

/-- A row where a condition of its encoding holds. -/
def rowIf (ok : Bool) (r : WRow) : WRow := if ok then r else .illegal

/-- SYS on a LANTERN core with FN[2:0] = 111b (Table 7-3). -/
def lntRow (w : Nat) : WRow :=
  let plain := bits w 11 15 = 0
  match wFn w with
  | 0x0F => rowIf plain .barFull
  | 0x17 => rowIf plain .barLd
  | 0x1F => rowIf plain .barSt
  | 0x27 => rowIf plain .barDev
  | 0x2F => rowIf plain .barNt
  | 0x47 => rowIf (wD w ≤ 2) .tlbinv
  | 0x4F => rowIf plain .wfi
  | 0x57 => rowIf plain .xret
  | _ => .illegal

/-- SYS (Table 5-12). -/
def sysRow (core : Bool) (w : Nat) : WRow :=
  match bits w 0 3 with
  | 1 => .csrr
  | 2 => .csrx
  | 3 => .csrm
  | 5 => .trap
  | 6 => .ctime
  | 7 => if core then lntRow w else .illegal
  | _ => .illegal

/-- VXFER (Table 5-8); a field that names a p register above p7 is illegal (R189). -/
def vxferRow (w : Nat) : WRow :=
  let f32 := wW w = 2
  match wVfn w with
  | 0x00 => .vbcast
  | 0x01 => .vmovs
  | 0x02 => .vredadd
  | 0x03 => rowIf f32 .vredfadd
  | 0x04 => .vredmax
  | 0x05 => rowIf f32 .vredfmax
  | 0x06 => .vperm
  | 0x08 => rowIf (wD w < 8 && wA w < 8 && wB w < 8) .pand
  | 0x09 => rowIf (wD w < 8 && wA w < 8 && wB w < 8) .por
  | 0x0A => rowIf (wD w < 8 && wA w < 8 && wB w < 8) .pxor
  | 0x0B => rowIf (wD w < 8 && wA w < 8) .pnot
  | 0x0C => rowIf (wD w < 8) .pmov
  | 0x0D => rowIf (wA w < 8) .pread
  | _ => .illegal

/-- The vector and matrix majors, which tiles alone have. -/
def vectorRow (w : Nat) : WRow :=
  let f := bits w 0 5
  let float := wW w = 1 || wW w = 2
  match wMajor w with
  | 0x28 => rowIf (f ≤ 0x0E) .vint
  | 0x29 => rowIf (f ≤ 7 && float) .vfp
  | 0x2A => match wVfn w with | 0 => .vld | 1 => .vst | 2 => .vldb | _ => .illegal
  | 0x2B =>
    let src := bits w 0 3
    let dst := bits w 3 3
    rowIf (src ≤ 4 && dst ≤ 4 && src != dst && (!bit w 7 || 2 ≤ dst)) .vcvt
  | 0x2C => vxferRow w
  | 0x2D => rowIf (wD w < 8 && (f ≤ 5 || (8 ≤ f && f ≤ 0x0B && float))) .vcmp
  | 0x30 => rowIf (wVfn w = 0) .mma
  | 0x31 =>
    match wVfn w with
    | 0 => .mzero
    | 1 => .mload
    | 2 => rowIf (bits w 8 3 = 0) .mstore
    | 3 => rowIf (bits w 6 20 = 0) .mwait
    | _ => .illegal
  | _ => .illegal

/-- ALU function codes of Table 5-6, and those that ALUW has. -/
def aluFn (f : Nat) : Bool := f ≤ 0x0D || (0x10 ≤ f && f ≤ 0x17)
def aluwFn (f : Nat) : Bool := [0, 1, 5, 6, 7, 0x10, 0x14, 0x15, 0x16, 0x17].contains f

/-- The row of a word on a tile or on a LANTERN core (Tables 5-5, 7-2). -/
def wickRow (core : Bool) (w : Nat) : WRow :=
  match wMajor w with
  | 0x00 => sysRow core w
  | 0x01 => rowIf (aluFn (wFn w)) .alu
  | 0x02 => rowIf (aluwFn (wFn w)) .aluw
  | 0x03 => .addi
  | 0x04 => .andi
  | 0x05 => .ori
  | 0x06 => .xori
  | 0x07 => .slti
  | 0x08 => .sltiu
  | 0x09 => rowIf (bits w 8 8 = 0 && bits w 6 2 != 3) .shi
  | 0x0A => rowIf (wA w = 0) .lui
  | 0x10 | 0x11 | 0x12 | 0x13 | 0x14 | 0x15 | 0x16 => .load
  | 0x18 | 0x19 | 0x1A | 0x1B => .store
  | 0x1C => rowIf core .sdnt
  | 0x1D => rowIf core .swnt
  | 0x20 | 0x21 | 0x22 | 0x23 | 0x24 | 0x25 => .branch
  | 0x26 => .jal
  | 0x27 => .jalr
  | 0x34 => match wFn w with | 0 => .sendData | 1 => .sendGet | 2 => .sendPut | _ => .illegal
  | 0x35 => rowIf (wFn w = 0) .sendf
  | 0x36 => .recvwait
  | 0x38 => .cwait
  | 0x39 => .cadd
  | 0x3A => .cread
  | 0x3B => if core then .illegal else match wFn w with | 0 => .taskYield | 1 => .taskDone | _ => .illegal
  | 0x3C => rowIf (!core) .slotwait
  | 0x3D => rowIf (core && bits w 0 4 ≤ 9 && bits w 7 4 = 0) .amo
  | _ => if core then .illegal else vectorRow w

/-! ### Registers (R186) -/

/-- Register s r of a tile or of a LANTERN core; s0 reads 0. -/
def State.sreg (s : State) (n r : Nat) : Word :=
  if r = 0 then 0 else kgetD (if isCore n then (s.core (nodeY n)).regs else (s.tile n).regs) r 0

/-- A write of register s r; one to s0 is ignored. -/
def State.setSreg (s : State) (n r : Nat) (v : Word) : State :=
  if r = 0 then s
  else if isCore n then s.modCore (nodeY n) (fun k => { k with regs := kput r v k.regs })
  else s.modTile n (fun t => { t with regs := kput r v t.regs })

/-- The program counter of a tile, 16 bits (R179), or of a LANTERN core. -/
def State.wpc (s : State) (n : Nat) : Nat := if isCore n then (s.core (nodeY n)).pc else (s.tile n).pc
def State.setWpc (s : State) (n pc : Nat) : State :=
  if isCore n then s.modCore (nodeY n) (fun k => { k with pc := pc % 2 ^ 64 }) else s.modTile n (fun t => { t with pc := pc % 2 ^ 16 })

/-- Vector register r, and predicate register r; p0 reads all ones. -/
def State.vreg (s : State) (n r : Nat) : Vec := kgetD (s.tile n).vregs r 0
def State.setVreg (s : State) (n r : Nat) (v : Vec) : State := s.modTile n (fun t => { t with vregs := kput r v t.vregs })
def State.preg (s : State) (n r : Nat) : Word := if r = 0 then BitVec.allOnes 64 else kgetD (s.tile n).preds r 0
def State.setPreg (s : State) (n r : Nat) (v : Word) : State :=
  if r = 0 then s else s.modTile n (fun t => { t with preds := kput r v t.preds })

/-- sA + IMM, the address of a scalar access and of JALR. -/
def State.effAddr (s : State) (n w : Nat) : Nat := (s.sreg n (wA w) + BitVec.ofInt 64 (wSimm w)).toNat

end Sys2Proof.Machine
end

