-- ==== Sys2Proof/Machine/Flags.lean ====
section
/-! DEFINITION. The sticky flags of FPCSR and MFLAGS (Table 5-13, R184, R191, R210). -/
namespace Sys2Proof.Machine

/-- FPCSR.RM. -/
def State.roundMode (s : State) (n : Nat) : Nat := bits (s.tile n).fpcsr 0 2

/-- Bits that become set in FPCSR and stay set until the program clears them; a LANTERN core has no FPCSR (R317). -/
def State.stickFpcsr (s : State) (n m : Nat) : State :=
  if isTile n then s.modTile n (fun t => { t with fpcsr := t.fpcsr ||| m }) else s

/-- The four IEEE flags go to FPCSR[8:5], and for matrix results to MFLAGS[3:0]. -/
def State.fpFlags (s : State) (n : Nat) (f : FFlags) : State := s.stickFpcsr n (f.bits * 2 ^ 5)
def State.matFlags (s : State) (n : Nat) (f : FFlags) : State := s.modTile n (fun t => { t with mflags := t.mflags ||| f.bits })

/-- DZI and OVI of a division (R191). -/
def State.divFlags (s : State) (n : Nat) (dz ov : Bool) : State := s.stickFpcsr n (b2n dz * 2 ^ 2 + b2n ov * 2 ^ 3)

end Sys2Proof.Machine
end

