-- ==== Sys2Proof/Machine/Wick.lean ====
section
/-! DEFINITION. How an instruction issues on a tile and on a LANTERN core, how it ends, and the accesses of a tile
program to its store (R178, R181, R199, R209 to R222, R280). See notes/assumptions/80.md to 83.md. -/
namespace Sys2Proof.Machine

/-! ### How an instruction ends -/

/-- What an instruction does after its fetch. -/
inductive Ex where
  /-- It retires, and the PC moves to the next word or to a target. -/
  | next (s : State)
  | jump (pc : Nat) (s : State)
  /-- An exception of Table 5-14 or 7-5: code, address, INFO. -/
  | fault (code addr info : Nat) (s : State)
  /-- It issues again. -/
  | stall (s : State)
  /-- A yield point has dealt with the task. -/
  | done (s : State)
  /-- It retires, and a store is performed after that. -/
  | late (l : Late) (s : State)

/-- The running task of a tile changed. -/
def State.modTask (s : State) (n id : Nat) (f : TaskRec → TaskRec) : State :=
  s.modTile n (fun t => { t with tasks := t.tasks.map (fun k => if k.id = id then f k else k) })
def State.task? (s : State) (n id : Nat) : Option TaskRec := (s.tile n).tasks.find? (fun k => k.id == id)

/-! ### On a tile -/

/-- The watchdog's budget of a tile is spent (R211). -/
def Tile.overBudget (t : Tile) : Bool := t.wdog != 0 && t.wdog * 1024 ≤ t.runClocks

/-- The core of a tile can issue: powered, clocked, not halted and not under reset (R83, R215, Table 2-12). -/
def State.tileLive (s : State) (n : Nat) : Bool :=
  isTile n && s.domState (s.quad n) == 3 && s.get .CLK_STATUS_TILE_CLK != 0 && !s.halted n && !s.pilot.tileReset.contains n

/-- Clocks pass on a tile. -/
def State.tileClocks (s : State) (n k : Nat) : State :=
  s.modTile n (fun t => { t with cycle := t.cycle + k, runClocks := t.runClocks + k })

/-- An instruction of a tile retires. -/
def State.tileRetire (s : State) (n id pc new : Nat) : State :=
  (((s.bump .TILE_RETIRED_COUNT (tileIx n)).modTask n id (fun k => { k with lastPc := pc })).setWpc n new)

/-- An exception of a tile: fatal to the tile or to its task (R214, R215). -/
def State.tileFault (s : State) (n id code pc addr info : Nat) : State :=
  let a := addr % 2 ^ 32
  if excFatal code then s.tileFatal n code pc a false else s.taskFault n id code pc a info false

/-- An instruction of a tile ends. -/
def Ex.onTile (e : Ex) (n id pc : Nat) : State :=
  match e with
  | .next s => s.tileRetire n id pc (pc + 4)
  | .jump t s => s.tileRetire n id pc t
  | .fault code addr info s => s.tileFault n id code pc addr info
  | .stall s | .done s => s
  | .late _ s => s.tileRetire n id pc (pc + 4)

/-- The next instruction of a tile issues, if it belongs to a row (R179, R212, R222). -/
def State.tileIssue (s : State) (i : Issue) (row : WRow) (body : Nat → State → Ex) : State :=
  let n := i.node
  let t := s.tile n
  match t.cur with
  | none => s
  | some id =>
    if !s.tileLive n || t.overBudget then s
    else if i.parity then (s.tileClocks n i.clocks).tileFatal n 0x0A t.pc t.pc false
    else
      let w := kgetD t.imem (t.pc / 4) 0
      if wickRow false w != row then s else (body w (s.tileClocks n i.clocks)).onTile n id t.pc

/-! ### On a LANTERN core -/

/-- An instruction of a core retires. -/
def State.coreRetire (s : State) (c pc : Nat) : State :=
  let s := s.modCore c (fun k =>
    let v := k.retired + 1
    { k with pc := pc % 2 ^ 64, retired := min v (2 ^ 48 - 1), retiredSat := k.retiredSat || 2 ^ 48 - 1 ≤ v })
  ((if s.coreState c = 1 then s else s.put .LNT_CORE_CFG_STATE c 1).coreClear c)

/-- An instruction of a core ends. -/
def Ex.onCore (e : Ex) (c pc : Nat) : State :=
  match e with
  | .next s => s.coreRetire c (pc + 4)
  | .jump t s => s.coreRetire c t
  | .fault code addr _ s => s.lntExc c code addr
  | .stall s | .done s => s
  | .late l s => l.run c (s.coreRetire c (pc + 4))

/-- The next instruction of a core issues, if it belongs to a row: buffered stores may be performed first (R296). -/
def State.coreIssue (s : State) (i : Issue) (row : WRow) (body : Nat → State → Ex) : State :=
  let c := nodeY i.node
  if !s.coreOn c then s
  else
    let s1 := (s.modCore c (fun k => { k with cycle := k.cycle + i.clocks })).drainFree c
    if !s1.coreOn c then s1
    else match s1.coreFetch c i.word (i.parity && row != .load && row != .amo) with
      | .wait t => t
      | .exc code addr t => t.lntExc c code addr
      | .ok w t => if wickRow true w != row then s else (body w t).onCore c (t.core c).pc

/-- The instruction of a row issues at a node. -/
def State.issue (s : State) (i : Issue) (row : WRow) (body : Nat → State → Ex) : State :=
  if isCore i.node then s.coreIssue i row body else s.tileIssue i row body

/-- A meaning as an answer. -/
def State.issued (s : State) (i : Issue) (row : WRow) (body : Nat → State → Ex) : Host.Outcome State Fault Refusal := .next (s.issue i row body)

/-! ### The program's accesses to the tile store -/

/-- What keeps a tile from an access of n bytes at a, aligned to al: MISALIGN or RANGE, else 0 (R178, Table 5-14). -/
def storeFault (a n al : Nat) : Nat := if a % al != 0 then 0x02 else if 2 ^ 19 < a + n then 0x03 else 0

/-- Bytes of the tile store read by the program: poison and errors of ECC raise their exceptions (R181, Table 5-14). -/
def State.progRead (s : State) (n a len al : Nat) (ecc : Ecc) (f : List Byte → State → Ex) : Ex :=
  if storeFault a len al != 0 then .fault (storeFault a len al) a 0 s
  else if (s.tile n).bad a len then .fault 0x07 a 0 s
  else
    let r := s.tileRead n a len
    match ecc with
    | .none => f r.1 r.2
    | .corrected => f r.1 (r.2.bump .TILE_ECC_CORRECTED)
    | .uncorrectable => .fault 0x09 a 0 s

/-- Bytes written by the program. -/
def State.progWrite (s : State) (n a : Nat) (bs : List Byte) : State :=
  s.modTile n (fun t => { t.write a bs with msg := { t.msg with sends := t.msg.sends.map (fun e => e.dirtied a bs.length) } })

/-- A store of the program. -/
def State.progStore (s : State) (n a : Nat) (bs : List Byte) (al : Nat) : Ex :=
  if storeFault a bs.length al != 0 then .fault (storeFault a bs.length al) a 0 s else .next (s.progWrite n a bs)

/-! ### Accesses of either -/

/-- What a part of a LANTERN instruction gives its end. -/
def Res.ex {α : Type} (r : Res α) (f : α → State → Ex) : Ex :=
  match r with
  | .ok v s => f v s
  | .exc code addr s => .fault code addr 0 s
  | .wait s => .stall s

/-- A scalar load of n bytes (R178, R296, R306). -/
def State.scalarRead (s : State) (i : Issue) (a n : Nat) (f : List Byte → State → Ex) : Ex :=
  if isCore i.node then
    if i.parity then .fault 0x15 a 0 s else (s.coreLoad (nodeY i.node) a n i.ecc).ex f
  else s.progRead i.node a n n i.ecc f

/-- A store of a core, with what it leaves to do. -/
def Res.stored (r : Res (Option Late)) : Ex := r.ex (fun l s => match l with | some l => .late l s | none => .next s)

/-- A scalar store (R178, R296, R306). -/
def State.scalarWrite (s : State) (i : Issue) (a : Nat) (bs : List Byte) : Ex :=
  if isCore i.node then (s.coreStore (nodeY i.node) a bs).stored else s.progStore i.node a bs bs.length

end Sys2Proof.Machine
end

