-- ==== Sys2Proof/Machine/Scalar.lean ====
section
/-! DEFINITION. The scalar instructions of Wick, on tiles and on LANTERN cores: integer arithmetic, loads and stores,
branches and jumps (R178, R189 to R191, Tables 5-5 and 5-6). -/
namespace Sys2Proof.Machine

/-! ### Integer arithmetic (R191, Table 5-6) -/

/-- A division: its result, and whether DZI and OVI become set. -/
def divide {w : Nat} (signed rem : Bool) (a b : BitVec w) : BitVec w × Bool × Bool :=
  if b = 0 then (0, true, false)
  else if signed && a == BitVec.intMin w && b == BitVec.allOnes w then (if rem then 0 else BitVec.intMax w, false, true)
  else (match signed, rem with
    | true, false => a.sdiv b
    | true, true => a.srem b
    | false, false => a.udiv b
    | false, true => a.umod b, false, false)

/-- The high half of a product. -/
def mulHigh {w : Nat} (x y : Int) : BitVec w := BitVec.ofInt w (x * y / 2 ^ w)

/-- A function code of Table 5-6 at a width: the result, and whether DZI and OVI become set. A shift takes its amount
modulo the width, a power of two. -/
def aluOp {w : Nat} (f : Nat) (a b : BitVec w) : BitVec w × Bool × Bool :=
  let sh := b.toNat % w
  let val (v : BitVec w) : BitVec w × Bool × Bool := (v, false, false)
  match f with
  | 0x00 => val (a + b)
  | 0x01 => val (a - b)
  | 0x02 => val (a &&& b)
  | 0x03 => val (a ||| b)
  | 0x04 => val (a ^^^ b)
  | 0x05 => val (a <<< sh)
  | 0x06 => val (a >>> sh)
  | 0x07 => val (a.sshiftRight sh)
  | 0x08 => val (if a.slt b then 1 else 0)
  | 0x09 => val (if a.ult b then 1 else 0)
  | 0x0A => val (if a.slt b then a else b)
  | 0x0B => val (if a.slt b then b else a)
  | 0x0C => val (if a.ult b then a else b)
  | 0x0D => val (if a.ult b then b else a)
  | 0x10 => val (a * b)
  | 0x11 => val (mulHigh a.toInt b.toInt)
  | 0x12 => val (mulHigh a.toNat b.toNat)
  | 0x13 => val (mulHigh a.toInt b.toNat)
  | 0x14 => divide true false a b
  | 0x15 => divide false false a b
  | 0x16 => divide true true a b
  | _ => divide false true a b

/-- ALU: sD = sA op sB. -/
def aluBody (n w : Nat) (s : State) : Ex :=
  let r := aluOp (wFn w) (s.sreg n (wA w)) (s.sreg n (wB w))
  .next ((s.divFlags n r.2.1 r.2.2).setSreg n (wD w) r.1)

def execAlu (i : Issue) (s : State) : Host.Outcome State Fault Refusal := s.issued i .alu (aluBody i.node)

/-- ALUW: the same on bits [31:0], the result sign-extended. -/
def aluwBody (n w : Nat) (s : State) : Ex :=
  let r := aluOp (wFn w) ((s.sreg n (wA w)).truncate 32) ((s.sreg n (wB w)).truncate 32)
  .next ((s.divFlags n r.2.1 r.2.2).setSreg n (wD w) (r.1.signExtend 64))

def execAluw (i : Issue) (s : State) : Host.Outcome State Fault Refusal := s.issued i .aluw (aluwBody i.node)

/-- sD = f sA. -/
def immBody (n : Nat) (f : Nat → Word → Word) (w : Nat) (s : State) : Ex := .next (s.setSreg n (wD w) (f w (s.sreg n (wA w))))

/-- IMM sign-extended and zero-extended to 64 bits. -/
def simmW (w : Nat) : Word := BitVec.ofInt 64 (wSimm w)
def uimmW (w : Nat) : Word := BitVec.ofNat 64 (wImm w)

/-- The shift of SHI: IMM[5:0] is its amount, IMM[7:6] its kind. -/
def shiVal (w : Nat) (a : Word) : Word :=
  let k := bits w 0 6
  match bits w 6 2 with
  | 0 => a <<< k
  | 1 => a >>> k
  | _ => a.sshiftRight k

/-- The value of LUI. -/
def luiVal (w : Nat) : Word := (BitVec.ofNat 32 (wImm w * 2 ^ 16)).signExtend 64

def execAddi (i : Issue) (s : State) : Host.Outcome State Fault Refusal := s.issued i .addi (immBody i.node (fun w a => a + simmW w))
def execAndi (i : Issue) (s : State) : Host.Outcome State Fault Refusal := s.issued i .andi (immBody i.node (fun w a => a &&& uimmW w))
def execOri (i : Issue) (s : State) : Host.Outcome State Fault Refusal := s.issued i .ori (immBody i.node (fun w a => a ||| uimmW w))
def execXori (i : Issue) (s : State) : Host.Outcome State Fault Refusal := s.issued i .xori (immBody i.node (fun w a => a ^^^ uimmW w))
def execSlti (i : Issue) (s : State) : Host.Outcome State Fault Refusal :=
  s.issued i .slti (immBody i.node (fun w a => if a.slt (simmW w) then 1 else 0))
def execSltiu (i : Issue) (s : State) : Host.Outcome State Fault Refusal :=
  s.issued i .sltiu (immBody i.node (fun w a => if a.ult (simmW w) then 1 else 0))
def execShi (i : Issue) (s : State) : Host.Outcome State Fault Refusal := s.issued i .shi (immBody i.node shiVal)
def execLui (i : Issue) (s : State) : Host.Outcome State Fault Refusal := s.issued i .lui (immBody i.node (fun w _ => luiVal w))

/-! ### Loads and stores -/

/-- Bytes that a load or a store moves (Table 5-5). -/
def moveBytes (major : Nat) : Nat := 2 ^ (major % 4)

/-- The register value of loaded bytes: majors 0x10 to 0x13 sign-extend, 0x14 to 0x16 zero-extend. -/
def loadVal (major : Nat) (bs : List Byte) : Word :=
  if major < 0x14 then BitVec.ofInt 64 (sInt (8 * bs.length) (leNat bs)) else BitVec.ofNat 64 (leNat bs)

def loadBody (i : Issue) (w : Nat) (s : State) : Ex :=
  s.scalarRead i (s.effAddr i.node w) (moveBytes (wMajor w)) (fun bs s => .next (s.setSreg i.node (wD w) (loadVal (wMajor w) bs)))

def execScalarLoad (i : Issue) (s : State) : Host.Outcome State Fault Refusal := s.issued i .load (loadBody i)

/-- The low n bytes of a register; format S names it in bits [25:21]. -/
def State.lowBytes (s : State) (m r n : Nat) : List Byte := leBytes n (s.sreg m r).toNat

def storeBody (i : Issue) (w : Nat) (s : State) : Ex :=
  s.scalarWrite i (s.effAddr i.node w) (s.lowBytes i.node (wD w) (moveBytes (wMajor w)))

def execScalarStore (i : Issue) (s : State) : Host.Outcome State Fault Refusal := s.issued i .store (storeBody i)

/-! ### Branches and jumps -/

/-- A jump to a target: on a tile one above 0xFFFC raises RANGE; f acts on the state first. -/
def State.jumpTo (s : State) (n : Nat) (target : Int) (f : State → State) : Ex :=
  let t := (target % 2 ^ 64).toNat
  if isCore n then .jump t (f s)
  else if target < 0 ∨ 0xFFFC < target then .fault 0x03 t 0 s
  else .jump t (f s)

/-- The comparison of a branch. -/
def branchTaken (major : Nat) (a b : Word) : Bool :=
  match major with
  | 0x20 => a == b
  | 0x21 => a != b
  | 0x22 => a.slt b
  | 0x23 => !a.slt b
  | 0x24 => a.ult b
  | _ => !a.ult b

def branchBody (n w : Nat) (s : State) : Ex :=
  if branchTaken (wMajor w) (s.sreg n (wA w)) (s.sreg n (wD w)) then s.jumpTo n (s.wpc n + 4 * wSimm w) id else .next s

def execBranch (i : Issue) (s : State) : Host.Outcome State Fault Refusal := s.issued i .branch (branchBody i.node)

/-- The link value PC + 4. -/
def State.linkVal (s : State) (n : Nat) : Word := BitVec.ofNat 64 (s.wpc n + 4)

def jalBody (n w : Nat) (s : State) : Ex := s.jumpTo n (s.wpc n + 4 * sInt 26 w) (fun s => s.setSreg n 31 (s.linkVal n))

def execJal (i : Issue) (s : State) : Host.Outcome State Fault Refusal := s.issued i .jal (jalBody i.node)

def jalrBody (n w : Nat) (s : State) : Ex :=
  s.jumpTo n (s.effAddr n w / 4 * 4 : Nat) (fun s => s.setSreg n (wD w) (s.linkVal n))

def execJalr (i : Issue) (s : State) : Host.Outcome State Fault Refusal := s.issued i .jalr (jalrBody i.node)

end Sys2Proof.Machine
end

