-- ==== Sys2Proof/Machine/Vector.lean ====
section
/-! DEFINITION. The vector and predicate instructions of a tile (R183 to R187, R192, R193, Tables 5-7 and 5-8). -/
namespace Sys2Proof.Machine

/-! ### Elements and lanes -/

/-- The element width in bytes that W selects. -/
def laneBytes (w : Nat) : Nat := 2 ^ wW w

/-- The elements of a vector register at a width in bytes, and a register put together from them. -/
def elems (b : Nat) (v : Vec) : List Nat := (List.range (64 / b)).map (fun i => bits v.toNat (8 * b * i) (8 * b))
def ofElems (b : Nat) (l : List Nat) : Vec := BitVec.ofNat 512 ((l.zipIdx.map (fun e => (e.1 % 2 ^ (8 * b)) * 2 ^ (8 * b * e.2))).sum)

/-- Element i is active under a predicate (R187). -/
def active (p : Word) (b i : Nat) : Bool := p.getLsbD (i * b)

/-- The active elements of a register at a width. -/
def activeElems (p : Word) (b : Nat) (v : Vec) : List Nat := ((elems b v).zipIdx.filter (fun e => active p b e.2)).map (·.1)

/-- New elements where active, the old ones elsewhere (R187). -/
def blend (p : Word) (b : Nat) (old new : List Nat) : Vec :=
  ofElems b ((old.zip new).zipIdx.map (fun e => if active p b e.2 then e.1.2 else e.1.1))

/-- The predicate of an instruction. -/
def State.wordPred (s : State) (n w : Nat) : Word := s.preg n (wP w)

/-- The B operand: vB, or the low bits of sB for every element where FN[5] is 1 (Table 5-7). -/
def State.vecB (s : State) (n w : Nat) : List Nat :=
  let b := laneBytes w
  if bit w 5 then List.replicate (64 / b) ((s.sreg n (wB w)).toNat % 2 ^ (8 * b)) else elems b (s.vreg n (wB w))

/-- The elements of vA, vB and vD at the instruction's width. -/
def State.operands (s : State) (n w : Nat) : List (Nat × Nat × Nat) :=
  let b := laneBytes w
  (elems b (s.vreg n (wA w))).zip ((s.vecB n w).zip (elems b (s.vreg n (wD w))))

/-- vD takes new elements where active. -/
def State.putElems (s : State) (n w : Nat) (new : List Nat) : State :=
  s.setVreg n (wD w) (blend (s.wordPred n w) (laneBytes w) (elems (laneBytes w) (s.vreg n (wD w))) new)

/-! ### VINT, VFP, VCMP (Table 5-7) -/

/-- A VINT function on elements of k bits; a shift takes its amount modulo the width. -/
def vintOp (k f x y : Nat) : Nat :=
  let a := BitVec.ofNat k x
  let b := BitVec.ofNat k y
  let r : BitVec k := match f with
    | 0x00 => a + b
    | 0x01 => a - b
    | 0x02 => a &&& b
    | 0x03 => a ||| b
    | 0x04 => a ^^^ b
    | 0x05 => a <<< (y % k)
    | 0x06 => a >>> (y % k)
    | 0x07 => a.sshiftRight (y % k)
    | 0x08 => if a.slt b then a else b
    | 0x09 => if a.slt b then b else a
    | 0x0A => if a.ult b then a else b
    | 0x0B => if a.ult b then b else a
    | 0x0C => a * b
    | 0x0D => BitVec.ofInt k (max (-(2 ^ (k - 1) : Int)) (min (2 ^ (k - 1) - 1) (a.toInt + b.toInt)))
    | _ => BitVec.ofNat k (min (2 ^ k - 1) (x + y))
  r.toNat

def vintBody (n w : Nat) (s : State) : Ex :=
  .next (s.putElems n w ((s.operands n w).map (fun e => vintOp (8 * laneBytes w) (bits w 0 5) e.1 e.2.1)))

def execVint (i : Issue) (s : State) : Host.Outcome State Fault Refusal := s.issued i .vint (vintBody i.node)

/-- The float format that W selects in VFP and VCMP. -/
def wFloat (w : Nat) : Fmt := if wW w = 1 then .bf16 else .f32

/-- A VFP function: x of vA, y of B, z of vD (R183). -/
def vfpOp (m : Fmt) (rm f x y z : Nat) : Nat × FFlags :=
  match f with
  | 0 => m.add rm x y
  | 1 => m.sub rm x y
  | 2 => m.mul rm x y
  | 3 => m.fma rm x y z
  | 4 => m.minmax false x y
  | 5 => m.minmax true x y
  | 6 => (m.fabs x, {})
  | _ => (m.fneg x, {})

/-- The flags of the active elements together. -/
def laneFlags (p : Word) (b : Nat) (l : List FFlags) : FFlags :=
  (l.zipIdx.filter (fun e => active p b e.2)).foldl (fun a e => a.or e.1) {}

def vfpBody (n w : Nat) (s : State) : Ex :=
  let r := (s.operands n w).map (fun e => vfpOp (wFloat w) (s.roundMode n) (bits w 0 5) e.1 e.2.1 e.2.2)
  .next ((s.putElems n w (r.map (·.1))).fpFlags n (laneFlags (s.wordPred n w) (laneBytes w) (r.map (·.2))))

def execVfp (i : Issue) (s : State) : Host.Outcome State Fault Refusal := s.issued i .vfp (vfpBody i.node)

/-- A VCMP function. -/
def vcmpOp (b : Nat) (m : Fmt) (f x y : Nat) : Bool × FFlags :=
  let k := 8 * b
  match f with
  | 0 => (x == y, {})
  | 1 => (x != y, {})
  | 2 => (sInt k x < sInt k y, {})
  | 3 => (sInt k x ≤ sInt k y, {})
  | 4 => (x < y, {})
  | 5 => (x ≤ y, {})
  | _ => m.cmp (f - 8) x y

/-- A predicate with all b bits of each active element written (R187). -/
def putLanes (p old : Word) (b : Nat) (l : List Bool) : Word :=
  BitVec.ofNat 64 ((List.range 64).map (fun j => b2n (if active p b (j / b) then nthD l (j / b) false else old.getLsbD j) * 2 ^ j)).sum

def vcmpBody (n w : Nat) (s : State) : Ex :=
  let b := laneBytes w
  let p := s.wordPred n w
  let r := (s.operands n w).map (fun e => vcmpOp b (wFloat w) (bits w 0 5) e.1 e.2.1)
  .next ((s.setPreg n (wD w) (putLanes p (s.preg n (wD w)) b (r.map (·.1)))).fpFlags n (laneFlags p b (r.map (·.2))))

def execVcmp (i : Issue) (s : State) : Host.Outcome State Fault Refusal := s.issued i .vcmp (vcmpBody i.node)

/-! ### VMEM (Table 5-8) -/

/-- The address in sA. -/
def State.addrA (s : State) (n w : Nat) : Nat := (s.sreg n (wA w)).toNat

/-- Bytes as elements of b bytes. -/
def bytesToElems (b : Nat) (bs : List Byte) : List Nat := (List.range (bs.length / b)).map (fun i => leAt bs (b * i) b)

def vldBody (i : Issue) (w : Nat) (s : State) : Ex :=
  s.progRead i.node (s.addrA i.node w) 64 64 i.ecc (fun bs s => .next (s.putElems i.node w (bytesToElems (laneBytes w) bs)))

def execVld (i : Issue) (s : State) : Host.Outcome State Fault Refusal := s.issued i .vld (vldBody i)

/-- The bytes of the active elements of vD stored; a store of all 64 writes the granule whole (R181). -/
def vstBody (n w : Nat) (s : State) : Ex :=
  let a := s.addrA n w
  let b := laneBytes w
  let es := (elems b (s.vreg n (wD w))).zipIdx.filter (fun e => active (s.wordPred n w) b e.2)
  if storeFault a 64 64 != 0 then .fault (storeFault a 64 64) a 0 s
  else if es.length = 64 / b then .next (s.progWrite n a (leBytes 64 (s.vreg n (wD w)).toNat))
  else .next (es.foldl (fun s e => s.progWrite n (a + b * e.2) (leBytes b e.1)) s)

def execVst (i : Issue) (s : State) : Host.Outcome State Fault Refusal := s.issued i .vst (vstBody i.node)

def vldbBody (i : Issue) (w : Nat) (s : State) : Ex :=
  let b := laneBytes w
  s.progRead i.node (s.addrA i.node w) b b i.ecc (fun bs s => .next (s.putElems i.node w (List.replicate (64 / b) (leNat bs))))

def execVldb (i : Issue) (s : State) : Host.Outcome State Fault Refusal := s.issued i .vldb (vldbBody i)

/-! ### VCVT (R184, R185, R192) -/

/-- SEED of a tile (Table 5-13). -/
def State.seedOf (s : State) (n : Nat) : Nat := (s.tile n).seed.getD (1 + 48 * nodeY n + nodeX n)

/-- Elements converted in ascending order, from lane j on: an inactive one keeps its old value and takes no step of SEED. -/
def convertLanes (src dst : CvtTy) (rm : Nat) (sat sr : Bool) (p : Word) (b : Nat) : Nat → Nat → List (Nat × Nat) → List Nat × FFlags × Nat
  | _, seed, [] => ([], {}, seed)
  | j, seed, (x, old) :: rest =>
    if active p b j then
      let r := convert src dst rm sat sr seed x
      let q := convertLanes src dst rm sat sr p b (j + 1) r.2.2 rest
      (r.1 :: q.1, r.2.1.or q.2.1, q.2.2)
    else
      let q := convertLanes src dst rm sat sr p b (j + 1) seed rest
      (old :: q.1, q.2.1, q.2.2)

def vcvtBody (n w : Nat) (s : State) : Ex :=
  match cvtTy (bits w 0 3), cvtTy (bits w 3 3) with
  | some src, some dst =>
    let k := 64 / max src.bytes dst.bytes
    let xs := ((elems src.bytes (s.vreg n (wA w))).take k).zip ((elems dst.bytes (s.vreg n (wD w))).take k)
    let r := convertLanes src dst (s.roundMode n) (bit w 6) (bit w 7) (s.wordPred n w) dst.bytes 0 (s.seedOf n) xs
    let s := (s.setVreg n (wD w) (ofElems dst.bytes r.1)).fpFlags n r.2.1
    .next (if bit w 7 then s.modTile n (fun t => { t with seed := some r.2.2 }) else s)
  | _, _ => .fault 0x01 0 0 s

def execVcvt (i : Issue) (s : State) : Host.Outcome State Fault Refusal := s.issued i .vcvt (vcvtBody i.node)

/-! ### VXFER (R193, Table 5-8) -/

def vbcastBody (n w : Nat) (s : State) : Ex :=
  .next (s.putElems n w (List.replicate (64 / laneBytes w) ((s.sreg n (wA w)).toNat % 2 ^ (8 * laneBytes w))))

def execVbcast (i : Issue) (s : State) : Host.Outcome State Fault Refusal := s.issued i .vbcast (vbcastBody i.node)

/-- VMOVS: the index must lie below the element count; what an index above it gives is open. -/
def vmovsBody (n w : Nat) (s : State) : Ex :=
  let k := (s.sreg n (wB w)).toNat % 64
  match (elems (laneBytes w) (s.vreg n (wA w)))[k]? with
  | some x => .next (s.setSreg n (wD w) (BitVec.ofNat 64 x))
  | none =>
    let r := s.draw 64
    .next (r.2.setSreg n (wD w) (BitVec.ofNat 64 r.1))

def execVmovs (i : Issue) (s : State) : Host.Outcome State Fault Refusal := s.issued i .vmovs (vmovsBody i.node)

/-- The active elements of vA. -/
def State.activeA (s : State) (n w : Nat) : List Nat := activeElems (s.wordPred n w) (laneBytes w) (s.vreg n (wA w))

/-- The elements are read as signed numbers and summed modulo 2^64. -/
def vredaddBody (n w : Nat) (s : State) : Ex :=
  .next (s.setSreg n (wD w) (BitVec.ofInt 64 ((s.activeA n w).map (sInt (8 * laneBytes w))).sum))

def execVredadd (i : Issue) (s : State) : Host.Outcome State Fault Refusal := s.issued i .vredadd (vredaddBody i.node)

/-- The pairwise tree over all 16 elements, an inactive one as +0 (R193). -/
def vredfaddBody (n w : Nat) (s : State) : Ex :=
  let xs := (elems 4 (s.vreg n (wA w))).zipIdx.map (fun e => if active (s.wordPred n w) 4 e.2 then e.1 else 0)
  let r := redTree (s.roundMode n) 4 xs
  .next ((s.setSreg n (wD w) (BitVec.ofNat 64 r.1)).fpFlags n r.2)

def execVredfadd (i : Issue) (s : State) : Host.Outcome State Fault Refusal := s.issued i .vredfadd (vredfaddBody i.node)

/-- The signed maximum of the active elements, 0 where none is active. -/
def vredmaxBody (n w : Nat) (s : State) : Ex :=
  let v := match (s.activeA n w).map (sInt (8 * laneBytes w)) with
    | [] => 0
    | x :: xs => xs.foldl max x
  .next (s.setSreg n (wD w) (BitVec.ofInt 64 v))

def execVredmax (i : Issue) (s : State) : Host.Outcome State Fault Refusal := s.issued i .vredmax (vredmaxBody i.node)

/-- The maximum of the active F32 elements in ascending order, as VFMAX orders them; 0 where none is active. -/
def fmaxOf : List Nat → Nat × FFlags
  | [] => (0, {})
  | x :: xs => xs.foldl (fun a y => let r := Fmt.f32.minmax true a.1 y; (r.1, a.2.or r.2)) (if Fmt.f32.isNan x then Fmt.f32.nan else x, {})

def vredfmaxBody (n w : Nat) (s : State) : Ex :=
  let r := fmaxOf (s.activeA n w)
  .next ((s.setSreg n (wD w) (BitVec.ofNat 64 r.1)).fpFlags n r.2)

def execVredfmax (i : Issue) (s : State) : Host.Outcome State Fault Refusal := s.issued i .vredfmax (vredfmaxBody i.node)

def vpermBody (n w : Nat) (s : State) : Ex :=
  let b := laneBytes w
  let a := elems b (s.vreg n (wA w))
  .next (s.putElems n w ((elems b (s.vreg n (wB w))).map (fun x => nthD a (x % (64 / b)) 0)))

def execVperm (i : Issue) (s : State) : Host.Outcome State Fault Refusal := s.issued i .vperm (vpermBody i.node)

/-! ### Predicates -/

/-- pD = f pA pB. -/
def predBody (n : Nat) (f : Word → Word → Word) (w : Nat) (s : State) : Ex :=
  .next (s.setPreg n (wD w) (f (s.preg n (wA w)) (s.preg n (wB w))))

def execPand (i : Issue) (s : State) : Host.Outcome State Fault Refusal := s.issued i .pand (predBody i.node (· &&& ·))
def execPor (i : Issue) (s : State) : Host.Outcome State Fault Refusal := s.issued i .por (predBody i.node (· ||| ·))
def execPxor (i : Issue) (s : State) : Host.Outcome State Fault Refusal := s.issued i .pxor (predBody i.node (· ^^^ ·))
def execPnot (i : Issue) (s : State) : Host.Outcome State Fault Refusal :=
  s.issued i .pnot (fun w s => .next (s.setPreg i.node (wD w) (~~~ s.preg i.node (wA w))))
def execPmov (i : Issue) (s : State) : Host.Outcome State Fault Refusal :=
  s.issued i .pmov (fun w s => .next (s.setPreg i.node (wD w) (s.sreg i.node (wA w))))
def execPread (i : Issue) (s : State) : Host.Outcome State Fault Refusal :=
  s.issued i .pread (fun w s => .next (s.setSreg i.node (wD w) (s.preg i.node (wA w))))

end Sys2Proof.Machine
end

