-- ==== Sys2Proof/Machine/Matrix.lean ====
section
/-! DEFINITION. The matrix instructions of a tile, their queue and its completions (R184, R185, R194, R195, R213, Table 5-9). -/
namespace Sys2Proof.Machine

/-! ### Issue -/

/-- A matrix instruction enters the queue; a full one stalls the core (R195). -/
def State.enqueue (s : State) (n : Nat) (e : MatEnt) : Ex :=
  if 4 ≤ (s.tile n).matq.length then .stall s else .next (s.modTile n (fun t => { t with matq := t.matq ++ [{ e with pc := t.pc }] }))

/-- A span that the array takes: MISALIGN or RANGE, or f. -/
def State.span (s : State) (a n al : Nat) (f : Ex) : Ex := if storeFault a n al != 0 then .fault (storeFault a n al) a 0 s else f

/-- MMA: K, alignment and span are checked at issue; K = 0 has no effect (R194). -/
def mmaBody (n w : Nat) (s : State) : Ex :=
  let k := (s.sreg n (wMc w)).toNat % 2 ^ 16
  let a := (s.sreg n (wA w)).toNat
  let b := (s.sreg n (wB w)).toNat
  let al := if wFmt w = 3 then 64 else 32
  let len := 32 * k * (if wFmt w = 3 then 2 else 1)
  if k = 0 then .next s
  else if a % al != 0 then .fault 0x02 a 0 s
  else if b % al != 0 then .fault 0x02 b 0 s
  else s.span a len al (s.span b len al (s.enqueue n { op := 0, acc := wAcc w, fmt := wFmt w, a := a, b := b, k := k }))

def execMma (i : Issue) (s : State) : Host.Outcome State Fault Refusal := s.issued i .mma (mmaBody i.node)

def execMzero (i : Issue) (s : State) : Host.Outcome State Fault Refusal :=
  s.issued i .mzero (fun w s => s.enqueue i.node { op := 1, acc := wAcc w })

def mloadBody (n w : Nat) (s : State) : Ex :=
  let a := s.addrA n w
  s.span a 4096 64 (s.enqueue n { op := 2, acc := wAcc w, a := a })

def execMload (i : Issue) (s : State) : Host.Outcome State Fault Refusal := s.issued i .mload (mloadBody i.node)

/-- Bytes of an element that MSTORE writes. -/
def mstoreBytes (fmt : Nat) : Nat := match fmt with | 0 => 4 | 1 => 2 | _ => 1

def mstoreBody (n w : Nat) (s : State) : Ex :=
  let a := s.addrA n w
  s.span a (1024 * mstoreBytes (wFmt w)) 64
    (s.enqueue n { op := 3, acc := wAcc w, fmt := wFmt w, a := a, sat := bit (wMc w) 0, sr := bit (wMc w) 1 })

def execMstore (i : Issue) (s : State) : Host.Outcome State Fault Refusal := s.issued i .mstore (mstoreBody i.node)

/-! ### Waiting (R188, R195, R213, R219) -/

/-- A fault of the matrix array is reported (R213). -/
def State.imprecise (s : State) (n id code addr : Nat) : State :=
  let pc := (s.tile n).pc
  if excFatal code then s.tileFatal n code pc addr true else s.taskFault n id code pc addr 0 true

/-- The task's queued matrix instructions complete first, and a fault that one met is raised here. -/
def State.drained (s : State) (n : Nat) (f : State → Ex) : Ex :=
  let t := s.tile n
  if t.matq != [] then .stall s
  else match t.imprecise, t.cur with
    | some (code, addr), some id => .done (s.imprecise n id code addr)
    | _, _ => f s

def execMwait (i : Issue) (s : State) : Host.Outcome State Fault Refusal := s.issued i .mwait (fun _ s => s.drained i.node .next)

/-! ### Completion -/

/-- Accumulator a of a tile, row-major, 1,024 binary32 elements. -/
def Tile.acc (t : Tile) (a : Nat) : List Nat := kgetD t.accs a (List.replicate 1024 0)

/-- The formats of the A and B panels (Table 5-9). -/
def mmaFmts (fmt : Nat) : Fmt × Fmt :=
  match fmt with
  | 0 => (.e4m3, .e4m3)
  | 1 => (.e5m2, .e5m2)
  | 2 => (.e4m3, .e5m2)
  | _ => (.bf16, .bf16)

/-- Element (k, i) of a panel. -/
def panelAt (f : Fmt) (bs : List Byte) (k i : Nat) : Nat := leAt bs ((32 * k + i) * f.bytes) f.bytes

/-- R194 for every element of the accumulator. -/
def mmaRun (e : MatEnt) (acc : List Nat) (pa pb : List Byte) : List (Nat × FFlags) :=
  let (fa, fb) := mmaFmts e.fmt
  acc.zipIdx.map (fun c => mmaDot fa fb c.1 ((List.range e.k).map (fun k => (panelAt fa pa k (c.2 / 32), panelAt fb pb k (c.2 % 32)))))

/-- Flags of many elements. -/
def allFlags (l : List FFlags) : FFlags := l.foldl FFlags.or {}

/-- The elements that MSTORE writes, with their flags and SEED after them; F32 is stored as it is. -/
def mstoreRun (e : MatEnt) (seed : Nat) (acc : List Nat) : List Byte × FFlags × Nat :=
  let dst : Fmt := match e.fmt with | 1 => .bf16 | 2 => .e4m3 | _ => .e5m2
  if e.fmt = 0 then (acc.flatMap (leBytes 4), {}, seed)
  else
    let r := convertLanes (.fl .f32) (.fl dst) 0 e.sat e.sr (BitVec.allOnes 64) 0 0 seed (acc.map (fun x => (x, 0)))
    (r.1.flatMap (leBytes dst.bytes), r.2)

/-- A value of an accumulator, or of stored bytes, that is open (R195). -/
def freeAcc (c : Nat) : List Nat := (List.range 1024).map (fun j => Config.free (c + j) % 2 ^ 32)

/-- Bytes that the array reads: queued instructions that follow do not matter to it. -/
def State.arrayRead (s : State) (n a len : Nat) : List Byte × State :=
  let q := (s.tile n).matq
  let r := (s.modTile n (fun t => { t with matq := [] })).tileRead n a len
  (r.1, r.2.modTile n (fun t => { t with matq := q }))

/-- A matrix read meets poison or an uncorrectable word: the first such fault waits to be reported (R213). -/
def State.arrayFault (s : State) (n : Nat) (e : MatEnt) (ecc : Ecc) : State :=
  let t := s.tile n
  let reads := if e.op = 0 || e.op = 2 then e.spans else []
  let note (s : State) (code addr : Nat) : State := s.modTile n (fun t => { t with imprecise := t.imprecise.or (some (code, addr)) })
  match reads with
  | [] => s
  | (a, _) :: _ =>
    let s := match reads.find? (fun p => t.bad p.1 p.2) with | some p => note s 0x07 p.1 | none => s
    match ecc with
    | .none => s
    | .corrected => s.bump .TILE_ECC_CORRECTED
    | .uncorrectable => note s 0x09 a

/-- An accumulator takes new elements. -/
def State.setAcc (s : State) (n a : Nat) (l : List Nat) : State := s.modTile n (fun t => { t with accs := kput a l t.accs })

/-- The stored bytes of MSTORE; matrix instructions that follow see them (R195). -/
def State.arrayWrite (s : State) (n a : Nat) (bs : List Byte) : State :=
  let q := (s.tile n).matq
  ((s.modTile n (fun t => { t with matq := [] })).progWrite n a bs).modTile n (fun t => { t with matq := q })

/-- MATRIX_COMPLETE: the oldest queued matrix instruction completes; one whose bytes were touched since gives open results. -/
def State.matrixComplete (s : State) (n : Nat) (ecc : Ecc) : State :=
  if !s.tileLive n then s
  else match (s.tile n).matq with
    | [] => s
    | e :: rest =>
      let s := (s.modTile n (fun t => { t with matq := rest })).arrayFault n e ecc
      let acc := (s.tile n).acc e.acc
      let c := s.freeCtr
      let s := if e.spoilt then { s with freeCtr := c + 4097 } else s
      match e.op with
      | 0 =>
        let (fa, fb) := mmaFmts e.fmt
        let pa := s.arrayRead n e.a (32 * e.k * fa.bytes)
        let pb := pa.2.arrayRead n e.b (32 * e.k * fb.bytes)
        if e.spoilt then (pb.2.setAcc n e.acc (freeAcc c)).modTile n (fun t => { t with mflags := t.mflags ||| Config.free (c + 4096) % 16 })
        else
          let r := mmaRun e acc pa.1 pb.1
          (pb.2.setAcc n e.acc (r.map (·.1))).matFlags n (allFlags (r.map (·.2)))
      | 1 => s.setAcc n e.acc (List.replicate 1024 0)
      | 2 =>
        let r := s.arrayRead n e.a 4096
        r.2.setAcc n e.acc (if e.spoilt then freeAcc c else bytesToElems 4 r.1)
      | _ =>
        let r := mstoreRun e (s.seedOf n) acc
        let bs := if e.spoilt then (List.range r.1.length).map (fun j => Config.freeByte c j) else r.1
        let s := (s.arrayWrite n e.a bs).matFlags n r.2.1
        if e.sr && e.fmt != 0 then s.modTile n (fun t => { t with seed := some r.2.2 }) else s

def execMatrixComplete (n : Nat) (ecc : Ecc) (s : State) : Host.Outcome State Fault Refusal := .next (s.matrixComplete n ecc)

end Sys2Proof.Machine
end

