-- ==== Sys2Proof/Machine/Tasks.lean ====
section
/-! DEFINITION. Tasks on a tile: yield points, dispatch, the watchdog, and the counter, region and cadence waits of tiles
and LANTERN cores (R188, R201 to R208, R211, R239, R250 to R257, R282). -/
namespace Sys2Proof.Machine

/-! ### Yield points (R188, R207, R219, R250, R257) -/

/-- The running task leaves the core in a state; its context slot takes what R188 names. -/
def State.leaveCore (s : State) (n id : Nat) (st : TaskState) : State :=
  s.modTile n (fun t => { t with
    cur := none, runClocks := 0, readyCtr := t.readyCtr + 1
    tasks := t.tasks.map (fun k => if k.id = id then { k with
      state := st, readySeq := t.readyCtr, otherRan := false
      regs := t.regs, preds := t.preds, pc := t.pc, fpcsr := t.fpcsr, mflags := t.mflags } else k) })

/-- A yield point is reached: queued matrix work completes, its fault is raised, a pending cancel ends the task; else f. -/
def State.yieldPoint (s : State) (n : Nat) (user : Nat) (f : Nat → State → State) : Ex :=
  s.drained n (fun s =>
    match (s.tile n).cur with
    | none => .stall s
    | some id =>
      if ((s.task? n id).map (·.cancel)).getD false then .done (s.endTask n id { how := 2, user := user })
      else .done (f id s))

/-- The running task suspends until a condition holds. -/
def State.suspend (s : State) (n : Nat) (w : WaitOn) : Ex := s.yieldPoint n 0 (fun id s => (s.leaveCore n id (.suspended w)).settleNode n)

/-- A reserved field of an instruction that is not 0: OPERAND, else f. -/
def State.operandIf (s : State) (bad : Bool) (reg : Nat) (f : Ex) : Ex := if bad then .fault 0x04 0 reg s else f

/-- YIELD: the task goes back to the ready queue. -/
def yieldBody (n w : Nat) (s : State) : Ex :=
  s.operandIf (bits w 11 15 != 0) 0
    (let pc := s.wpc n
     s.yieldPoint n 0 (fun id s => (s.tileRetire n id pc (pc + 4)).leaveCore n id .ready))

def execTaskYield (i : Issue) (s : State) : Host.Outcome State Fault Refusal := s.issued i .taskYield (yieldBody i.node)

/-- DONE: the task ends with the status sA[7:0]; D and B must be 0. -/
def doneBody (n w : Nat) (s : State) : Ex :=
  s.operandIf (wD w != 0 || wB w != 0) 0
    (let user := (s.sreg n (wA w)).toNat % 256
     let pc := s.wpc n
     let retired (s : State) : State := match (s.tile n).cur with | some id => s.tileRetire n id pc (pc + 4) | none => s
     s.drained n (fun s => (retired s).yieldPoint n user (fun id s => s.endTask n id { how := 0, user := user })))

def execTaskDone (i : Issue) (s : State) : Host.Outcome State Fault Refusal := s.issued i .taskDone (doneBody i.node)

/-! ### Waits -/

/-- A LANTERN core waits at an instruction that it executes again (R282). -/
def State.coreWait (s : State) (c : Nat) : Ex := .stall (if s.coreState c = 3 then s else s.put .LNT_CORE_CFG_STATE c 3)

/-- CWAIT: a counter has reached a target, or the task or core waits (R202). -/
def cwaitBody (n w : Nat) (s : State) : Ex :=
  s.operandIf (bits w 6 10 != 0 || wD w != 0) 0
    (let c := bits w 0 6
     let target := (s.sreg n (wA w)).toNat % 2 ^ 32
     if ctrReached (kgetD (s.msgOf n).ctrs c 0) target then .next s
     else if isCore n then s.coreWait (nodeY n)
     else s.suspend n (.ctr c target))

def execCwait (i : Issue) (s : State) : Host.Outcome State Fault Refusal := s.issued i .cwait (cwaitBody i.node)

/-- A COMPLETE region returns LANDED in register d and arms again; pending reservations are examined (R239). -/
def State.rearmRegion (s : State) (n task idx d : Nat) : State :=
  match (s.regionsOf n).find? (fun e => e.1 == task && e.2.1 == idx) with
  | none => s
  | some e =>
    ((s.setSreg n d (BitVec.ofNat 64 e.2.2.landed)).modRegion n task idx
      (fun r => { r with granted := 0, landed := 0, fence := false, state := 1 })).examine n

/-- RECVWAIT: region IMM[2:0] of the running task, or the inbox of a core (R201, R293). -/
def recvwaitBody (n w : Nat) (s : State) : Ex :=
  let task := if isCore n then 0 else (s.tile n).cur.getD 0
  let idx := bits w 0 3
  let reg := (s.regionsOf n).find? (fun e => e.1 == task && e.2.1 == idx && e.2.2.mode != 0)
  s.operandIf (bits w 3 13 != 0 || wA w != 0 || reg.isNone) 0
    (match reg with
     | none => .stall s
     | some e =>
       if e.2.2.state = 2 then .next (s.rearmRegion n task idx (wD w))
       else if isCore n then s.coreWait (nodeY n)
       else s.suspend n (.region idx (wD w)))

def execRecvwait (i : Issue) (s : State) : Host.Outcome State Fault Refusal := s.issued i .recvwait (recvwaitBody i.node)

/-- CADD: sA[31:0] is added to a counter (R203). -/
def caddBody (n w : Nat) (s : State) : Ex :=
  s.operandIf (bits w 6 10 != 0 || wD w != 0) 0 (.next (s.advance n (bits w 0 6) ((s.sreg n (wA w)).toNat % 2 ^ 32)))

def execCadd (i : Issue) (s : State) : Host.Outcome State Fault Refusal := s.issued i .cadd (caddBody i.node)

/-- CREAD: a counter, zero-extended (R203). -/
def creadBody (n w : Nat) (s : State) : Ex :=
  s.operandIf (bits w 6 10 != 0 || wA w != 0) 0
    (.next (s.setSreg n (wD w) (BitVec.ofNat 64 (kgetD (s.msgOf n).ctrs (bits w 0 6) 0))))

def execCread (i : Issue) (s : State) : Host.Outcome State Fault Refusal := s.issued i .cread (creadBody i.node)

/-- The next start of a slot after cadence time t (R206). -/
def nextSlot (t slot : Nat) : Nat :=
  let u := t / 4096 * 4096 + slot
  if u ≤ t then u + 4096 else u

/-- SLOTWAIT: ABS waits for a cadence time, NEXT for the next start of a slot (R206). -/
def slotwaitBody (n w : Nat) (s : State) : Ex :=
  let a := (s.sreg n (wA w)).toNat
  if bit w 15 then
    s.operandIf (bits w 12 3 != 0 || wA w != 0) 0 (s.suspend n (.slot (nextSlot s.time (bits w 0 12)) (wD w)))
  else if bits w 0 15 != 0 then .fault 0x04 0 0 s
  else if bit a 63 then .fault 0x04 0 (wA w) s
  else if a ≤ s.time then .next (s.setSreg n (wD w) (BitVec.ofNat 64 s.cadenceTime))
  else s.suspend n (.time a (wD w))

def execSlotwait (i : Issue) (s : State) : Host.Outcome State Fault Refusal := s.issued i .slotwait (slotwaitBody i.node)

/-! ### Dispatch (R188, R251 to R253) -/

/-- The READY task with the highest PRIO; among equals the one that became READY first. -/
def bestReady (ks : List TaskRec) : Option TaskRec :=
  (ks.filter (fun k => k.state == .ready)).foldl (fun b k =>
    match b with
    | none => some k
    | some j => if j.prio < k.prio || (j.prio == k.prio && k.readySeq < j.readySeq) then some k else b) none

/-- Vector registers with undefined contents. -/
def freeVregs (c : Nat) : KMap Vec := (List.range 32).map (fun i => (i, BitVec.ofNat 512 (Config.free (c + i))))

/-- The registers that a task finds: ARG0 to ARG5 and cold-reset values at its first dispatch, its context slot after that; v and
a registers are open where another task ran. -/
def Tile.restore (t : Tile) (c : Nat) (k : TaskRec) : Tile :=
  if !k.dispatched then
    { t with regs := k.args.zipIdx.map (fun e => (e.2 + 1, BitVec.ofNat 64 e.1)), preds := [], vregs := [], accs := [], pc := k.entry, fpcsr := 0, mflags := 0 }
  else
    let t := { t with regs := k.regs, preds := k.preds, pc := k.pc, fpcsr := k.fpcsr, mflags := k.mflags }
    if k.otherRan then { t with vregs := freeVregs c, accs := freeAccs (c + 32) } else t

/-- The wait that a task was suspended in completes (R202, R201, R206). -/
def State.resumeTask (s : State) (n id : Nat) (w : WaitOn) : State :=
  let pc := s.wpc n
  let s := match w with
    | .ctr _ _ => s
    | .region r d => s.rearmRegion n id r d
    | .time _ d | .slot _ d => s.setSreg n d (BitVec.ofNat 64 s.cadenceTime)
  s.tileRetire n id pc (pc + 4)

/-- TASK_DISPATCH: the core is free and the best READY task is dispatched. -/
def State.dispatch (s : State) (n : Nat) : State :=
  let t := s.tile n
  if !s.tileLive n || t.cur.isSome then s
  else match bestReady t.tasks with
    | none => s
    | some k =>
      let s := s.modTile n (fun t => { t.restore s.freeCtr k with
        cur := some k.id, runClocks := 0, imprecise := none
        tasks := t.tasks.map (fun j =>
          if j.id = k.id then { j with state := .running, dispatched := true, resume := none }
          else if j.dispatched && j.state != .ended then { j with otherRan := true } else j) })
      let s := { s with freeCtr := s.freeCtr + 8224 }
      match k.resume with
      | some w => s.resumeTask n k.id w
      | none => s

def execTaskDispatch (n : Nat) (s : State) : Host.Outcome State Fault Refusal := .next (s.dispatch n)

/-- WATCHDOG: the budget is spent without a yield point (R211). -/
def execWatchdog (n : Nat) (s : State) : Host.Outcome State Fault Refusal :=
  .next <|
    let t := s.tile n
    match t.cur with
    | some id => if s.tileLive n && t.overBudget then s.taskFault n id 0x06 t.pc 0 0 false else s
    | none => s

end Sys2Proof.Machine
end

