-- ==== Sys2Proof/Machine/Sends.lean ====
section
/-! DEFINITION. SEND and SENDF on tiles and LANTERN cores (R196 to R200, R293, Table 5-11). -/
namespace Sys2Proof.Machine

/-- The destination word (Table 5-11): its reserved bits, and the device that it names. -/
def destRsv (v : Nat) : Bool := bits v 6 2 != 0 || bits v 13 3 != 0 || bits v 25 3 != 0 || bits v 38 2 != 0 || bit v 47 || bits v 56 8 != 0
def State.destDev (s : State) (v : Nat) : Nat := if bit v 24 then bits v 16 8 else s.self

/-- The message of the operand words, of kind 0 DATA, 1 GET, 2 PUT (R196, R197). -/
def State.sendEnt (s : State) (n kind dest addr len : Nat) (fence : Bool) : SendEnt :=
  let p := (s.nodePart? n).getD 0
  { mtag := (s.msgOf n).nextTag, kind := kind, dd := s.destDev dest, dtx := bits dest 0 6, dty := bits dest 8 5, flow := bits dest 28 4
    ctr := bits dest 32 6, lctr := bits dest 40 6, lctrEn := bit dest 46, ctx := bits dest 48 8
    off := if kind = 0 then bits addr 0 32 else bits len 32 32
    addr := if kind = 0 then bits addr 32 32 else addr
    len := bits len 0 20, fence := fence, part := p, inc := s.incOf p % 16 }

/-- What R198 finds wrong, in its order: the number of the register of the failing operand word. -/
def sendOperand? (kind dest addr len ra rb rc : Nat) : Option Nat :=
  let n := bits len 0 20
  let off := if kind = 0 then bits addr 0 32 else bits len 32 32
  if destRsv dest then some ra
  else if bits len 20 12 != 0 then some rc
  else if n = 0 || 2 ^ 19 < n then some rc
  else if 2 ^ 19 < off + n then some (if kind = 0 then rb else rc)
  else if kind = 0 && bits len 32 32 != 0 then some rc
  else if kind = 0 && bits dest 48 8 != 0 then some ra
  else if kind != 0 && (bit dest 24 || bits dest 0 6 < 48 || 57 < bits dest 0 6) then some ra
  else none

/-- The message is issued: it holds a send queue entry and its first packet leaves; a GET has no source and is counted at once (R199). -/
def State.issueSend (s : State) (n : Nat) (e : SendEnt) : State :=
  let s := s.modMsg n (fun m => { m with sends := m.sends ++ [e], nextTag := (m.nextTag + 1) % 2 ^ 16 })
  let s := s.sendPkt (s.sendHead n e)
  if e.kind = 1 then s.countSend n e else s

/-- A local span of a core lies outside its message window, or it has none (R293). -/
def State.offWindow (s : State) (n : Nat) (e : SendEnt) : Bool :=
  isCore n && ((s.window? (nodeY n)).isNone || 2 ^ 19 < e.off + e.len)

/-- SEND and SENDF: the operands are checked, and a full send queue stalls the core (R198, R199). -/
def sendBody (n kind : Nat) (fence : Bool) (w : Nat) (s : State) : Ex :=
  let dest := (s.sreg n (wA w)).toNat
  let addr := (s.sreg n (wB w)).toNat
  let len := (s.sreg n (wD w)).toNat
  let e := s.sendEnt n kind dest addr len fence
  let rangeFirst := isCore n && 1 ≤ e.len && e.len ≤ 2 ^ 19 && s.offWindow n e
  match sendOperand? kind dest addr len (wA w) (wB w) (wD w) with
  | some r => if rangeFirst && !destRsv dest && bits len 20 12 = 0 then .fault 0x03 e.off 0 s else .fault 0x04 0 r s
  | none =>
    if s.offWindow n e then .fault 0x03 e.off 0 s
    else if 16 ≤ ((s.msgOf n).sends.filter (·.queued)).length then .stall s
    else .next (s.issueSend n e)

def execSendData (i : Issue) (s : State) : Host.Outcome State Fault Refusal := s.issued i .sendData (sendBody i.node 0 false)
def execSendGet (i : Issue) (s : State) : Host.Outcome State Fault Refusal := s.issued i .sendGet (sendBody i.node 1 false)
def execSendPut (i : Issue) (s : State) : Host.Outcome State Fault Refusal := s.issued i .sendPut (sendBody i.node 2 false)
def execSendf (i : Issue) (s : State) : Host.Outcome State Fault Refusal := s.issued i .sendf (sendBody i.node 0 true)

end Sys2Proof.Machine
end

