-- ==== Sys2Proof/Machine/System.lean ====
section
/-! DEFINITION. SYS on tiles and LANTERN cores: CSRs, TRAP, CTIME, ILLEGAL (R205, R209, R210, R212, Tables 5-12 and 5-13). -/
namespace Sys2Proof.Machine

/-- The CSRs of a tile (Table 5-13). -/
def tileCsr? (k : Nat) : Option CsrShape :=
  match k with
  | 0 => some { rw := mask 0 4 + mask 5 4, rsv := mask 4 1 + mask 9 55 }
  | 1 => some { rw := mask 0 4, rsv := mask 4 60 }
  | 2 | 4 | 5 | 8 | 9 => some {}
  | 3 => some { w1c := mask 63 1, rsv := mask 48 15 }
  | 6 | 7 => some { rw := mask 0 32, rsv := mask 32 32 }
  | _ => none

/-- The value of a tile's CSR. -/
def State.tileCsrRead (s : State) (n k : Nat) : Nat :=
  let t := s.tile n
  match k with
  | 0 => t.fpcsr
  | 1 => t.mflags
  | 2 => t.cycle % 2 ^ 64
  | 3 => s.get .TILE_RETIRED_COUNT (tileIx n) + s.get .TILE_RETIRED_SAT (tileIx n) * 2 ^ 63
  | 4 => s.coord n
  | 5 =>
    let id := t.cur.getD 0
    id + b2n (((s.task? n id).map (·.otherRan)).getD false) * 2 ^ 16
  | 6 => s.seedOf n
  | 7 => t.wdog
  | 8 => (t.msg.sends.filter (·.queued)).length
  | _ => s.cadenceTime

/-- A tile's CSR takes a new value; 0 to SEED stores 1. -/
def State.tileCsrWrite (s : State) (n k v : Nat) : State :=
  match k with
  | 0 => s.modTile n (fun t => { t with fpcsr := v })
  | 1 => s.modTile n (fun t => { t with mflags := v })
  | 3 => if bit v 63 then (s.put .TILE_RETIRED_COUNT (tileIx n) 0).put .TILE_RETIRED_SAT (tileIx n) 0 else s
  | 6 => s.modTile n (fun t => { t with seed := some (if v = 0 then 1 else v) })
  | 7 => s.modTile n (fun t => { t with wdog := v })
  | _ => s

/-- CSRs of either kind of node. -/
def nodeCsr? (n k : Nat) : Option CsrShape := if isCore n then lntCsr? k else tileCsr? k
def State.nodeCsrRead (s : State) (n k : Nat) : Nat := if isCore n then s.lntCsrRead (nodeY n) k else s.tileCsrRead n k
def State.nodeCsrWrite (s : State) (n k v : Nat) : State := if isCore n then s.lntCsrWrite (nodeY n) k v else s.tileCsrWrite n k v

/-- The number of a CSR, or the code of TRAP. -/
def wCsr (w : Nat) : Nat := bits w 3 8

/-- A CSR that the node has and the level may access; else OPERAND or PRIV (R210, R317). -/
def State.withCsr (s : State) (n k : Nat) (f : CsrShape → Ex) : Ex :=
  match nodeCsr? n k with
  | none => .fault 0x04 0 0 s
  | some c => if isCore n && !csrAllowed k (s.level (nodeY n)) then .fault 0x14 0 0 s else f c

/-- CSRR; a read of MBOX_POP pops. -/
def csrrBody (n w : Nat) (s : State) : Ex :=
  s.withCsr n (wCsr w) (fun _ =>
    let t := s.setSreg n (wD w) (BitVec.ofNat 64 (s.nodeCsrRead n (wCsr w)))
    .next (if isCore n then t.lntPop (nodeY n) (wCsr w) else t))

def execCsrr (i : Issue) (s : State) : Host.Outcome State Fault Refusal := s.issued i .csrr (csrrBody i.node)

/-- Bits m of a CSR take those of x: only RW and W1C fields act, and a 1 in an RSV bit raises OPERAND (R210). -/
def State.csrUpdate (s : State) (n w x m : Nat) : Ex :=
  let k := wCsr w
  s.withCsr n k (fun c =>
    let x := x &&& m
    let old := s.nodeCsrRead n k
    let rw := c.rw &&& m
    let new := (old - (old &&& rw)) ||| (x &&& rw)
    let new := if c.w1c != 0 then (x &&& c.w1c) else new
    if (c.rw = 0 && c.w1c = 0) || (x &&& c.rsv) != 0 then .fault 0x04 0 (wA w) s
    else
      let bad := if isCore n then s.lntCsrBad (nodeY n) k m new else 0
      if bad != 0 then .fault bad 0 (wA w) s
      else .next ((s.setSreg n (wD w) (BitVec.ofNat 64 old)).nodeCsrWrite n k new))

/-- CSRX: every bit; CSRM: the bits that sB selects. -/
def csrxBody (n w : Nat) (s : State) : Ex := s.csrUpdate n w (s.sreg n (wA w)).toNat (2 ^ 64 - 1)
def csrmBody (n w : Nat) (s : State) : Ex := s.csrUpdate n w (s.sreg n (wA w)).toNat (s.sreg n (wB w)).toNat

def execCsrx (i : Issue) (s : State) : Host.Outcome State Fault Refusal := s.issued i .csrx (csrxBody i.node)
def execCsrm (i : Issue) (s : State) : Host.Outcome State Fault Refusal := s.issued i .csrm (csrmBody i.node)

def execTaskTrap (i : Issue) (s : State) : Host.Outcome State Fault Refusal := s.issued i .trap (fun w s => .fault 0x05 0 (wCsr w) s)

def execCtime (i : Issue) (s : State) : Host.Outcome State Fault Refusal :=
  s.issued i .ctime (fun w s => .next (s.setSreg i.node (wD w) (BitVec.ofNat 64 s.cadenceTime)))

/-- ILLEGAL: a word that no row of its node takes (R189, R190, R192, R280). -/
def execIllegalWord (i : Issue) (s : State) : Host.Outcome State Fault Refusal := s.issued i .illegal (fun _ s => .fault 0x01 0 0 s)

end Sys2Proof.Machine
end

