-- ==== Sys2Proof/Machine/LntRows.lean ====
section
/-! DEFINITION. The LANTERN additions to Wick: non-temporal stores, AMO, barriers, TLBINV, WFI and XRET (R281, R283, R287 to
R290, R300, R303, R304, Tables 7-3 and 7-8). Tiles have none of them (R280). -/
namespace Sys2Proof.Machine

/-! ### Stores and AMO -/

/-- A non-temporal store of the low n bytes of sB. -/
def ntBody (m n w : Nat) (s : State) : Ex := (s.coreNt (nodeY m) (s.effAddr m w) (s.lowBytes m (wD w) n)).stored

def execSdnt (i : Issue) (s : State) : Host.Outcome State Fault Refusal := s.issued i .sdnt (ntBody i.node 8)
def execSwnt (i : Issue) (s : State) : Host.Outcome State Fault Refusal := s.issued i .swnt (ntBody i.node 4)

/-- The value that an AMO writes (R281): the operation, sB and what sD held; none where CAS writes nothing. -/
def amoOp (k f : Nat) (old b d : BitVec k) : Option (BitVec k) :=
  match f with
  | 0 => some b
  | 1 => some (old + b)
  | 2 => some (old &&& b)
  | 3 => some (old ||| b)
  | 4 => some (old ^^^ b)
  | 5 => some (if old.slt b then old else b)
  | 6 => some (if old.slt b then b else old)
  | 7 => some (if old.ult b then old else b)
  | 8 => some (if old.ult b then b else old)
  | _ => if old = d then some b else none

def amoBody (i : Issue) (w : Nat) (s : State) : Ex :=
  let m := i.node
  let n := if bit w 4 then 4 else 8
  let a := (s.sreg m (wA w)).toNat
  let f (old : Nat) : Option Nat :=
    (amoOp (8 * n) (bits w 0 4) (BitVec.ofNat (8 * n) old) ((s.sreg m (wB w)).truncate (8 * n)) ((s.sreg m (wD w)).truncate (8 * n))).map (·.toNat)
  if i.parity then .fault 0x15 a 0 s
  else (s.coreAmo (nodeY m) a n (bit w 5) (bit w 6) i.ecc f).ex (fun old s => .next (s.setSreg m (wD w) (BitVec.ofInt 64 (sInt (8 * n) old))))

def execAmo (i : Issue) (s : State) : Host.Outcome State Fault Refusal := s.issued i .amo (amoBody i)

/-! ### Barriers (Table 7-8) -/

/-- An instruction that waits until something is performed. -/
def whenDone (r : Bool × State) : Ex := if r.1 then .next r.2 else .stall r.2

def execBarFull (i : Issue) (s : State) : Host.Outcome State Fault Refusal :=
  s.issued i .barFull (fun _ s => whenDone (s.drainAll (nodeY i.node)))

/-- BAR.LD: a load has its value when it retires, so nothing is left to order. -/
def execBarLd (i : Issue) (s : State) : Host.Outcome State Fault Refusal := s.issued i .barLd (fun _ s => .next s)

/-- A mark in the store buffer, where stores are still to be performed. -/
def State.markStores (s : State) (c : Nat) : State :=
  if (s.core c).storeBuf = [] && !s.coreWrites c then s else s.modCore c (fun k => { k with storeBuf := k.storeBuf ++ [{ mark := true }] })

def execBarSt (i : Issue) (s : State) : Host.Outcome State Fault Refusal := s.issued i .barSt (fun _ s => .next (s.markStores (nodeY i.node)))

def execBarDev (i : Issue) (s : State) : Host.Outcome State Fault Refusal :=
  s.issued i .barDev (fun _ s =>
    let c := nodeY i.node
    let r := State.drainWhich c (·.devB) 33 s
    whenDone (r.1 && !r.2.coreWrites c, r.2))

def execBarNt (i : Issue) (s : State) : Host.Outcome State Fault Refusal :=
  s.issued i .barNt (fun _ s =>
    let c := nodeY i.node
    let r := State.ntAll c 8 s
    whenDone (r.1, if r.1 && r.2.coreWrites c then r.2.markStores c else r.2))

/-! ### TLBINV, WFI, XRET -/

/-- An instruction that T may not execute (R283). -/
def State.above (s : State) (n : Nat) (f : Ex) : Ex := if s.level (nodeY n) = 0 then .fault 0x14 0 0 s else f

/-- TLBINV: earlier stores are performed before any later walk; D = 0 drops an address under an ASID, 1 an ASID, 2 all (R287). -/
def tlbinvBody (n w : Nat) (s : State) : Ex :=
  let c := nodeY n
  let va := (s.sreg n (wA w)).toNat
  let asid := (s.sreg n (wB w)).toNat % 2 ^ 16
  let drop (e : TlbEnt) : Bool := match wD w with | 0 => e.covers va asid | 1 => !e.glob && e.asid == asid | _ => true
  s.above n
    (let r := s.drainAll c
     whenDone (r.1, if r.1 then r.2.modCore c (fun k => { k with tlb := k.tlb.filter (fun e => !drop e) }) else r.2))

def execTlbinv (i : Issue) (s : State) : Host.Outcome State Fault Refusal := s.issued i .tlbinv (tlbinvBody i.node)

/-- WFI: the buffers drain; it ends once an enabled interrupt is pending (R290, R304). -/
def wfiBody (n : Nat) (s : State) : Ex :=
  let c := nodeY n
  s.above n
    (let r := s.drainAll c
     if !r.1 then .stall r.2
     else if (List.range 16).any (fun k => r.2.irqOn c k) then .next r.2
     else .stall (if r.2.coreState c = 2 then r.2 else r.2.put .LNT_CORE_CFG_STATE c 2))

def execWfi (i : Issue) (s : State) : Host.Outcome State Fault Refusal := s.issued i .wfi (fun _ s => wfiBody i.node s)

def execXret (i : Issue) (s : State) : Host.Outcome State Fault Refusal :=
  s.issued i .xret (fun _ s =>
    s.above i.node
      (let t := s.lntReturn (nodeY i.node)
       .jump (t.core (nodeY i.node)).pc t))

end Sys2Proof.Machine
end

