-- ==== Sys2Proof/Machine/Dispatch.lean ====
section
/-! DEFINITION. The meaning of every command: one arm per constructor of Instr, one direct call each. -/
namespace Sys2Proof.Machine

def exec (i : Instr) (s : State) : Host.Outcome State Fault Refusal :=
  match i with
  | .pilotPwrOkRise => Sys2Proof.Machine.execPilotPwrOkRise s
  | .tickCounterStart => Sys2Proof.Machine.execTickCounterStart s
  | .fusesSensed f => Sys2Proof.Machine.execFusesSensed f s
  | .emberMramCheck => Sys2Proof.Machine.execEmberMramCheck s
  | .pilotReady addr => Sys2Proof.Machine.execPilotReady addr s
  | .pilotTick watts lift avsOk => Sys2Proof.Machine.execPilotTick watts lift avsOk s
  | .pilotPwrOkFall => Sys2Proof.Machine.execPilotPwrOkFall s
  | .mainPwrOkRise => Sys2Proof.Machine.execMainPwrOkRise s
  | .pllLock => Sys2Proof.Machine.execPllLock s
  | .fwBundleLoaded bundle rom split sris => Sys2Proof.Machine.execFwBundleLoaded bundle rom split sris s
  | .mainReady => Sys2Proof.Machine.execMainReady s
  | .configReady => Sys2Proof.Machine.execConfigReady s
  | .bootImageCommit image => Sys2Proof.Machine.execBootImageCommit image s
  | .mainPwrOkFall => Sys2Proof.Machine.execMainPwrOkFall s
  | .perstAssert => Sys2Proof.Machine.execPerstAssert s
  | .perstDeassert => Sys2Proof.Machine.execPerstDeassert s
  | .rstReqWarm => Sys2Proof.Machine.execRstReqWarm s
  | .rstReqFabPort mask => Sys2Proof.Machine.execRstReqFabPort mask s
  | .fabricPortResetDone p => Sys2Proof.Machine.execFabricPortResetDone p s
  | .sidebandWarmRequest => Sys2Proof.Machine.execSidebandWarmRequest s
  | .provWatchdog => Sys2Proof.Machine.execProvWatchdog s
  | .kick => Sys2Proof.Machine.execKick s
  | .dozeEntry d rest => Sys2Proof.Machine.execDozeEntry d rest s
  | .domainWake d => Sys2Proof.Machine.execDomainWake d s
  | .scheduledWake d rest => Sys2Proof.Machine.execScheduledWake d rest s
  | .quadrantClocked d => Sys2Proof.Machine.execQuadrantClocked d s
  | .strikerHandover d => Sys2Proof.Machine.execStrikerHandover d s
  | .domainPowered d => Sys2Proof.Machine.execDomainPowered d s
  | .pwrHold mask => Sys2Proof.Machine.execPwrHold mask s
  | .cacheOff => Sys2Proof.Machine.execCacheOff s
  | .throttleStep => Sys2Proof.Machine.execThrottleStep s
  | .prochotAssert => Sys2Proof.Machine.execProchotAssert s
  | .prochotRelease => Sys2Proof.Machine.execProchotRelease s
  | .thermalThrottleStep => Sys2Proof.Machine.execThermalThrottleStep s
  | .thermalLimitLift => Sys2Proof.Machine.execThermalLimitLift s
  | .thermalTrip => Sys2Proof.Machine.execThermalTrip s
  | .thermTripRelease => Sys2Proof.Machine.execThermTripRelease s
  | .clockLoss what => Sys2Proof.Machine.execClockLoss what s
  | .clockRelock what => Sys2Proof.Machine.execClockRelock what s
  | .avsFail rail attempts => Sys2Proof.Machine.execAvsFail rail attempts s
  | .kimStage => Sys2Proof.Machine.execKimStage s
  | .stageComplete => Sys2Proof.Machine.execStageComplete s
  | .kimSidebandChunk off bytes close => Sys2Proof.Machine.execKimSidebandChunk off bytes close s
  | .kimValidate => Sys2Proof.Machine.execKimValidate s
  | .validationDone => Sys2Proof.Machine.execValidationDone s
  | .kimArm a => Sys2Proof.Machine.execKimArm a s
  | .kimAbort => Sys2Proof.Machine.execKimAbort s
  | .kimDiscard => Sys2Proof.Machine.execKimDiscard s
  | .resolveGo => Sys2Proof.Machine.execResolveGo s
  | .resolveAbort => Sys2Proof.Machine.execResolveAbort s
  | .decideGo => Sys2Proof.Machine.execDecideGo s
  | .decideAbort => Sys2Proof.Machine.execDecideAbort s
  | .kimArmed p => Sys2Proof.Machine.execKimArmed p s
  | .coordinatorDecide id => Sys2Proof.Machine.execCoordinatorDecide id s
  | .kimDecide p => Sys2Proof.Machine.execKimDecide p s
  | .kimDecideResend id dest acked => Sys2Proof.Machine.execKimDecideResend id dest acked s
  | .kimQuery p => Sys2Proof.Machine.execKimQuery p s
  | .cadenceBoundary => Sys2Proof.Machine.execCadenceBoundary s
  | .arbBurn ok reached => Sys2Proof.Machine.execArbBurn ok reached s
  | .slotStart slot => Sys2Proof.Machine.execSlotStart slot s
  | .sqDoorbell p q tail => Sys2Proof.Machine.execSqDoorbell p q tail s
  | .cqDoorbell p q head => Sys2Proof.Machine.execCqDoorbell p q head s
  | .commandFetch p entry => Sys2Proof.Machine.execCommandFetch p entry s
  | .completionRecordWrite p n => Sys2Proof.Machine.execCompletionRecordWrite p n s
  | .cqIrqTimeout p q => Sys2Proof.Machine.execCqIrqTimeout p q s
  | .nopCommand p n => Sys2Proof.Machine.execNopCommand p n s
  | .jobBegin p n => Sys2Proof.Machine.execJobBegin p n s
  | .jobEnd p n => Sys2Proof.Machine.execJobEnd p n s
  | .launchCommand p n => Sys2Proof.Machine.execLaunchCommand p n s
  | .launchTileLoad p n j => Sys2Proof.Machine.execLaunchTileLoad p n j s
  | .copyCommand p n => Sys2Proof.Machine.execCopyCommand p n s
  | .fenceCommand p n => Sys2Proof.Machine.execFenceCommand p n s
  | .tileReset p n => Sys2Proof.Machine.execTileReset p n s
  | .tileResetDone n => Sys2Proof.Machine.execTileResetDone n s
  | .partReset p n => Sys2Proof.Machine.execPartReset p n s
  | .taskCancel p n raced => Sys2Proof.Machine.execTaskCancel p n raced s
  | .quiesce p force => Sys2Proof.Machine.execQuiesce p force s
  | .partResume p => Sys2Proof.Machine.execPartResume p s
  | .partProvReset p => Sys2Proof.Machine.execPartProvReset p s
  | .quiesceTimeout p => Sys2Proof.Machine.execQuiesceTimeout p s
  | .partResetDone p => Sys2Proof.Machine.execPartResetDone p s
  | .partIdleReached p => Sys2Proof.Machine.execPartIdleReached p s
  | .incGateExpire p => Sys2Proof.Machine.execIncGateExpire p s
  | .vfFlr v => Sys2Proof.Machine.execVfFlr v s
  | .pfFlr => Sys2Proof.Machine.execPfFlr s
  | .flrComplete n => Sys2Proof.Machine.execFlrComplete n s
  | .fwuStage => Sys2Proof.Machine.execFwuStage s
  | .fwuVerify => Sys2Proof.Machine.execFwuVerify s
  | .fwuActivate => Sys2Proof.Machine.execFwuActivate s
  | .fwuCoreUpdate ok => Sys2Proof.Machine.execFwuCoreUpdate ok s
  | .fwuRevert => Sys2Proof.Machine.execFwuRevert s
  | .fwuDiscard => Sys2Proof.Machine.execFwuDiscard s
  | .alu j => Sys2Proof.Machine.execAlu j s
  | .aluw j => Sys2Proof.Machine.execAluw j s
  | .addi j => Sys2Proof.Machine.execAddi j s
  | .andi j => Sys2Proof.Machine.execAndi j s
  | .ori j => Sys2Proof.Machine.execOri j s
  | .xori j => Sys2Proof.Machine.execXori j s
  | .slti j => Sys2Proof.Machine.execSlti j s
  | .sltiu j => Sys2Proof.Machine.execSltiu j s
  | .shi j => Sys2Proof.Machine.execShi j s
  | .lui j => Sys2Proof.Machine.execLui j s
  | .scalarLoad j => Sys2Proof.Machine.execScalarLoad j s
  | .scalarStore j => Sys2Proof.Machine.execScalarStore j s
  | .branch j => Sys2Proof.Machine.execBranch j s
  | .jal j => Sys2Proof.Machine.execJal j s
  | .jalr j => Sys2Proof.Machine.execJalr j s
  | .vint j => Sys2Proof.Machine.execVint j s
  | .vfp j => Sys2Proof.Machine.execVfp j s
  | .vcmp j => Sys2Proof.Machine.execVcmp j s
  | .vld j => Sys2Proof.Machine.execVld j s
  | .vst j => Sys2Proof.Machine.execVst j s
  | .vldb j => Sys2Proof.Machine.execVldb j s
  | .vcvt j => Sys2Proof.Machine.execVcvt j s
  | .vbcast j => Sys2Proof.Machine.execVbcast j s
  | .vmovs j => Sys2Proof.Machine.execVmovs j s
  | .vredadd j => Sys2Proof.Machine.execVredadd j s
  | .vredfadd j => Sys2Proof.Machine.execVredfadd j s
  | .vredmax j => Sys2Proof.Machine.execVredmax j s
  | .vredfmax j => Sys2Proof.Machine.execVredfmax j s
  | .vperm j => Sys2Proof.Machine.execVperm j s
  | .pand j => Sys2Proof.Machine.execPand j s
  | .por j => Sys2Proof.Machine.execPor j s
  | .pxor j => Sys2Proof.Machine.execPxor j s
  | .pnot j => Sys2Proof.Machine.execPnot j s
  | .pmov j => Sys2Proof.Machine.execPmov j s
  | .pread j => Sys2Proof.Machine.execPread j s
  | .mma j => Sys2Proof.Machine.execMma j s
  | .mzero j => Sys2Proof.Machine.execMzero j s
  | .mload j => Sys2Proof.Machine.execMload j s
  | .mstore j => Sys2Proof.Machine.execMstore j s
  | .mwait j => Sys2Proof.Machine.execMwait j s
  | .matrixComplete n ecc => Sys2Proof.Machine.execMatrixComplete n ecc s
  | .sendData j => Sys2Proof.Machine.execSendData j s
  | .sendGet j => Sys2Proof.Machine.execSendGet j s
  | .sendPut j => Sys2Proof.Machine.execSendPut j s
  | .sendf j => Sys2Proof.Machine.execSendf j s
  | .sendSourceRead node mtag ecc => Sys2Proof.Machine.execSendSourceRead node mtag ecc s
  | .recvwait j => Sys2Proof.Machine.execRecvwait j s
  | .cwait j => Sys2Proof.Machine.execCwait j s
  | .cadd j => Sys2Proof.Machine.execCadd j s
  | .cread j => Sys2Proof.Machine.execCread j s
  | .taskYield j => Sys2Proof.Machine.execTaskYield j s
  | .taskDone j => Sys2Proof.Machine.execTaskDone j s
  | .slotwait j => Sys2Proof.Machine.execSlotwait j s
  | .csrr j => Sys2Proof.Machine.execCsrr j s
  | .csrx j => Sys2Proof.Machine.execCsrx j s
  | .csrm j => Sys2Proof.Machine.execCsrm j s
  | .taskTrap j => Sys2Proof.Machine.execTaskTrap j s
  | .ctime j => Sys2Proof.Machine.execCtime j s
  | .illegalWord j => Sys2Proof.Machine.execIllegalWord j s
  | .watchdog n => Sys2Proof.Machine.execWatchdog n s
  | .taskDispatch n => Sys2Proof.Machine.execTaskDispatch n s
  | .sdnt j => Sys2Proof.Machine.execSdnt j s
  | .swnt j => Sys2Proof.Machine.execSwnt j s
  | .amo j => Sys2Proof.Machine.execAmo j s
  | .barFull j => Sys2Proof.Machine.execBarFull j s
  | .barLd j => Sys2Proof.Machine.execBarLd j s
  | .barSt j => Sys2Proof.Machine.execBarSt j s
  | .barDev j => Sys2Proof.Machine.execBarDev j s
  | .barNt j => Sys2Proof.Machine.execBarNt j s
  | .tlbinv j => Sys2Proof.Machine.execTlbinv j s
  | .wfi j => Sys2Proof.Machine.execWfi j s
  | .xret j => Sys2Proof.Machine.execXret j s
  | .interruptEntry c k => Sys2Proof.Machine.execInterruptEntry c k s
  | .timecmpExpire c => Sys2Proof.Machine.execTimecmpExpire c s
  | .ntDrainTimeout c k => Sys2Proof.Machine.execNtDrainTimeout c k s
  | .assign c p => Sys2Proof.Machine.execAssign c p s
  | .coreRelease c => Sys2Proof.Machine.execCoreRelease c s
  | .coreRestartDone c => Sys2Proof.Machine.execCoreRestartDone c s
  | .lntDb p v n => Sys2Proof.Machine.execLntDb p v n s
  | .lntProvDb v n => Sys2Proof.Machine.execLntProvDb v n s
  | .lntHostirq p v => Sys2Proof.Machine.execLntHostirq p v s
  | .meshRsv p => Sys2Proof.Machine.execMeshRsv p s
  | .meshGrant p => Sys2Proof.Machine.execMeshGrant p s
  | .meshRetry p => Sys2Proof.Machine.execMeshRetry p s
  | .rsvResend node mtag => Sys2Proof.Machine.execRsvResend node mtag s
  | .meshNack p => Sys2Proof.Machine.execMeshNack p s
  | .rsvWaitExpire node mtag => Sys2Proof.Machine.execRsvWaitExpire node mtag s
  | .pendingRsvTimeout node k => Sys2Proof.Machine.execPendingRsvTimeout node k s
  | .meshData p => Sys2Proof.Machine.execMeshData p s
  | .meshRelease p => Sys2Proof.Machine.execMeshRelease p s
  | .getReq p ecc => Sys2Proof.Machine.execGetReq p ecc s
  | .getData p => Sys2Proof.Machine.execGetData p s
  | .putReq p => Sys2Proof.Machine.execPutReq p s
  | .putGo p ecc => Sys2Proof.Machine.execPutGo p ecc s
  | .putData p ecc => Sys2Proof.Machine.execPutData p ecc s
  | .putAck p => Sys2Proof.Machine.execPutAck p s
  | .streamRetryResend node mtag => Sys2Proof.Machine.execStreamRetryResend node mtag s
  | .setCfg p n => Sys2Proof.Machine.execSetCfg p n s
  | .setSeg p n => Sys2Proof.Machine.execSetSeg p n s
  | .clearSeg p n => Sys2Proof.Machine.execClearSeg p n s
  | .clearCtx p n => Sys2Proof.Machine.execClearCtx p n s
  | .xlatInv p n => Sys2Proof.Machine.execXlatInv p n s
  | .atsCompletion tag status trs hdr => Sys2Proof.Machine.execAtsCompletion tag status trs hdr s
  | .absentListExpire k page => Sys2Proof.Machine.execAbsentListExpire k page s
  | .prgClose id => Sys2Proof.Machine.execPrgClose id s
  | .prgSend id => Sys2Proof.Machine.execPrgSend id s
  | .prgResponse fn idx pasid code hdr => Sys2Proof.Machine.execPrgResponse fn idx pasid code hdr s
  | .priTimeout id => Sys2Proof.Machine.execPriTimeout id s
  | .priReset fn => Sys2Proof.Machine.execPriReset fn s
  | .atsInvalidate fn itag iova size pasid glob hdr => Sys2Proof.Machine.execAtsInvalidate fn itag iova size pasid glob hdr s
  | .invalidateCompletion k => Sys2Proof.Machine.execInvalidateCompletion k s
  | .atsEnableClear fn => Sys2Proof.Machine.execAtsEnableClear fn s
  | .cacheDisableFlush p n => Sys2Proof.Machine.execCacheDisableFlush p n s
  | .cacheDisableRetain p n => Sys2Proof.Machine.execCacheDisableRetain p n s
  | .cacheEnable p n => Sys2Proof.Machine.execCacheEnable p n s
  | .h2dSnoop line op => Sys2Proof.Machine.execH2dSnoop line op s
  | .h2dResponse id go data hdr => Sys2Proof.Machine.execH2dResponse id go data hdr s
  | .writePull id hdr => Sys2Proof.Machine.execWritePull id hdr s
  | .streamingEnd k => Sys2Proof.Machine.execStreamingEnd k s
  | .cacheResponseTimeout id hdr => Sys2Proof.Machine.execCacheResponseTimeout id hdr s
  | .m2sRequest r ecc hdr => Sys2Proof.Machine.execM2sRequest r ecc hdr s
  | .birsp line ans err dirty hdr => Sys2Proof.Machine.execBirsp line ans err dirty hdr s
  | .biTimeout line hdr => Sys2Proof.Machine.execBiTimeout line hdr s
  | .biconflict line => Sys2Proof.Machine.execBiconflict line s
  | .dirDrain => Sys2Proof.Machine.execDirDrain s
  | .dirDrainDone => Sys2Proof.Machine.execDirDrainDone s
  | .disableCachingSet => Sys2Proof.Machine.execDisableCachingSet s
  | .initiateCacheWbinv => Sys2Proof.Machine.execInitiateCacheWbinv s
  | .disableCachingClear => Sys2Proof.Machine.execDisableCachingClear s
  | .gpfPhase1 => Sys2Proof.Machine.execGpfPhase1 s
  | .hdmDecoderCommit j base size skip ways gran lock => Sys2Proof.Machine.execHdmDecoderCommit j base size skip ways gran lock s
  | .hdmDecoderUncommit j => Sys2Proof.Machine.execHdmDecoderUncommit j s
  | .decoderUncommitDone j => Sys2Proof.Machine.execDecoderUncommitDone j s
  | .rekeyStart p n => Sys2Proof.Machine.execRekeyStart p n s
  | .rekeyPause p n => Sys2Proof.Machine.execRekeyPause p n s
  | .rekeyResume p n => Sys2Proof.Machine.execRekeyResume p n s
  | .rekeyStatus p n => Sys2Proof.Machine.execRekeyStatus p n s
  | .rekeyTransit r waits far bad ecc => Sys2Proof.Machine.execRekeyTransit r waits far bad ecc s
  | .scrubRead line err => Sys2Proof.Machine.execScrubRead line err s
  | .kekSet x b => Sys2Proof.Machine.execKekSet x b s
  | .kekClear x b => Sys2Proof.Machine.execKekClear x b s
  | .debugWindowRead off n ecc hdr => Sys2Proof.Machine.execDebugWindowRead off n ecc hdr s
  | .debugWindowWrite off bs poison hdr => Sys2Proof.Machine.execDebugWindowWrite off bs poison hdr s
  | .jtagMemoryAccess a n wr ecc => Sys2Proof.Machine.execJtagMemoryAccess a n wr ecc s
  | .cxlioCompletion tag status data poison ok hdr => Sys2Proof.Machine.execCxlioCompletion tag status data poison ok hdr s
  | .completionTimeout tag => Sys2Proof.Machine.execCompletionTimeout tag s
  | .tagHoldExpire tag port => Sys2Proof.Machine.execTagHoldExpire tag port s
  | .msixUnmask n v => Sys2Proof.Machine.execMsixUnmask n v s
  | .msixEnable en => Sys2Proof.Machine.execMsixEnable en s
  | .busMasterEnable n => Sys2Proof.Machine.execBusMasterEnable n s
  | .quarantineRelease => Sys2Proof.Machine.execQuarantineRelease s
  | .d3hotEntry n => Sys2Proof.Machine.execD3hotEntry n s
  | .d0Return n => Sys2Proof.Machine.execD0Return n s
  | .pmeTurnOff => Sys2Proof.Machine.execPmeTurnOff s
  | .pmeToAck => Sys2Proof.Machine.execPmeToAck s
  | .d3coldWake src => Sys2Proof.Machine.execD3coldWake src s
  | .hostLinkDown => Sys2Proof.Machine.execHostLinkDown s
  | .hostLinkUp mode speed width => Sys2Proof.Machine.execHostLinkUp mode speed width s
  | .vfEnableSet => Sys2Proof.Machine.execVfEnableSet s
  | .vfEnableClear => Sys2Proof.Machine.execVfEnableClear s
  | .dlPortTrained p res mode speed width => Sys2Proof.Machine.execDlPortTrained p res mode speed width s
  | .dlEnumerate p code cap vendor device => Sys2Proof.Machine.execDlEnumerate p code cap vendor device s
  | .dlEnumDone => Sys2Proof.Machine.execDlEnumDone s
  | .dlS2mResponse p tag data hdr => Sys2Proof.Machine.execDlS2mResponse p tag data hdr s
  | .dlMemTimeout p tag hdr => Sys2Proof.Machine.execDlMemTimeout p tag hdr s
  | .dlUpstreamRequest p code posted hdr => Sys2Proof.Machine.execDlUpstreamRequest p code posted hdr s
  | .dlRasPoll p errs => Sys2Proof.Machine.execDlRasPoll p errs s
  | .dlPortDown p => Sys2Proof.Machine.execDlPortDown p s
  | .dlReenum p all => Sys2Proof.Machine.execDlReenum p all s
  | .dlRelease p => Sys2Proof.Machine.execDlRelease p s
  | .fabTrainAdvance p rev pol => Sys2Proof.Machine.execFabTrainAdvance p rev pol s
  | .fabTrainTimeout p => Sys2Proof.Machine.execFabTrainTimeout p s
  | .fabHail p body => Sys2Proof.Machine.execFabHail p body s
  | .fabSync p off body => Sys2Proof.Machine.execFabSync p off body s
  | .fabEcho p hold off body => Sys2Proof.Machine.execFabEcho p hold off body s
  | .fabCredit p body => Sys2Proof.Machine.execFabCredit p body s
  | .fabReplay p body => Sys2Proof.Machine.execFabReplay p body s
  | .flitReceive p corrected bytes => Sys2Proof.Machine.execFlitReceive p corrected bytes s
  | .flitTransmit p left => Sys2Proof.Machine.execFlitTransmit p left s
  | .txHeld k => Sys2Proof.Machine.execTxHeld k s
  | .replayTimeout p => Sys2Proof.Machine.execReplayTimeout p s
  | .retryExhausted p => Sys2Proof.Machine.execRetryExhausted p s
  | .linkDownDeclare p cause => Sys2Proof.Machine.execLinkDownDeclare p cause s
  | .syncLost => Sys2Proof.Machine.execSyncLost s
  | .e2eAck p => Sys2Proof.Machine.execE2eAck p s
  | .e2eResend k => Sys2Proof.Machine.execE2eResend k s
  | .collectiveStart p => Sys2Proof.Machine.execCollectiveStart p s
  | .collData p => Sys2Proof.Machine.execCollData p s
  | .collAck p => Sys2Proof.Machine.execCollAck p s
  | .collAbort p => Sys2Proof.Machine.execCollAbort p s
  | .chunkResend k slot chunk phase => Sys2Proof.Machine.execChunkResend k slot chunk phase s
  | .collNotReadyResend k slot chunk phase => Sys2Proof.Machine.execCollNotReadyResend k slot chunk phase s
  | .collectiveEnd k slot => Sys2Proof.Machine.execCollectiveEnd k slot s
  | .fabMgmt p full => Sys2Proof.Machine.execFabMgmt p full s
  | .twinPair p => Sys2Proof.Machine.execTwinPair p s
  | .pairAck p => Sys2Proof.Machine.execPairAck p s
  | .pairResend => Sys2Proof.Machine.execPairResend s
  | .hbToggle => Sys2Proof.Machine.execHbToggle s
  | .hbEdge => Sys2Proof.Machine.execHbEdge s
  | .hbTimeout => Sys2Proof.Machine.execHbTimeout s
  | .twinLinkTimeout => Sys2Proof.Machine.execTwinLinkTimeout s
  | .mirrorData p => Sys2Proof.Machine.execMirrorData p s
  | .mirrorDigestSend p => Sys2Proof.Machine.execMirrorDigestSend p s
  | .mirrorDigest p => Sys2Proof.Machine.execMirrorDigest p s
  | .mirrorDeadline p own => Sys2Proof.Machine.execMirrorDeadline p own s
  | .mirrorVerdict p => Sys2Proof.Machine.execMirrorVerdict p s
  | .mirrorApply p => Sys2Proof.Machine.execMirrorApply p s
  | .restoreBegin p => Sys2Proof.Machine.execRestoreBegin p s
  | .restoreReady p => Sys2Proof.Machine.execRestoreReady p s
  | .restoreEnd p => Sys2Proof.Machine.execRestoreEnd p s
  | .restoreDone p => Sys2Proof.Machine.execRestoreDone p s
  | .mirrorHold p n => Sys2Proof.Machine.execMirrorHold p n s
  | .mirrorUnhold p n => Sys2Proof.Machine.execMirrorUnhold p n s
  | .applyTo p n => Sys2Proof.Machine.execApplyTo p n s
  | .mirrorRestore p n => Sys2Proof.Machine.execMirrorRestore p n s
  | .resync p n => Sys2Proof.Machine.execResync p n s
  | .faultRecordWrite ue => Sys2Proof.Machine.execFaultRecordWrite ue s
  | .ringHead r head => Sys2Proof.Machine.execRingHead r head s
  | .faultRingEnable r => Sys2Proof.Machine.execFaultRingEnable r s
  | .faultRingDisable r => Sys2Proof.Machine.execFaultRingDisable r s
  | .clrLost r => Sys2Proof.Machine.execClrLost r s
  | .emberTrigger cause => Sys2Proof.Machine.execEmberTrigger cause s
  | .emberFreeze => Sys2Proof.Machine.execEmberFreeze s
  | .emberCopyDone => Sys2Proof.Machine.execEmberCopyDone s
  | .embCtlFreeze => Sys2Proof.Machine.execEmbCtlFreeze s
  | .rearm => Sys2Proof.Machine.execRearm s
  | .embNote v => Sys2Proof.Machine.execEmbNote v s
  | .embSlots w => Sys2Proof.Machine.execEmbSlots w s
  | .embDir => Sys2Proof.Machine.execEmbDir s
  | .embRead w => Sys2Proof.Machine.execEmbRead w s
  | .embFreeze => Sys2Proof.Machine.execEmbFreeze s
  | .embKeep w => Sys2Proof.Machine.execEmbKeep w s
  | .embStat => Sys2Proof.Machine.execEmbStat s
  | .i3cDaa addr => Sys2Proof.Machine.execI3cDaa addr s
  | .mctpControl cmd op eid => Sys2Proof.Machine.execMctpControl cmd op eid s
  | .pldmRequest typ cmd id reading fw => Sys2Proof.Machine.execPldmRequest typ cmd id reading fw s
  | .spdmRequest code idx secured ok => Sys2Proof.Machine.execSpdmRequest code idx secured ok s
  | .doeRequest vendor typ code idx ok => Sys2Proof.Machine.execDoeRequest vendor typ code idx ok s
  | .registerWrite t off len v hdr => Sys2Proof.Machine.execRegisterWrite t off len v hdr s
  | .domainClocked d => Sys2Proof.Machine.execDomainClocked d s
  | .throttleTemperatureReached => Sys2Proof.Machine.execThrottleTemperatureReached s
  | .hostMemoryRequest write addr len enabled poison hdr => Sys2Proof.Machine.execHostMemoryRequest write addr len enabled poison hdr s
  | .unsupportedMessage vdm0 hdr => Sys2Proof.Machine.execUnsupportedMessage vdm0 hdr s

end Sys2Proof.Machine
end

