-- ==== Sys2Proof/Safety.lean ====
section
/-! DEFINITION. What a safe run of the block is, and what a command leaves alone, in the terms the statements use. -/
namespace Sys2Proof.Machine

/-- The step from s answers a next state: neither a fault nor a refusal. -/
def State.Steps (s : State) : Prop := ∃ t, step s = .next t

/-- Command c answers a next state from s, and that state satisfies P. -/
def Runs (c : Instr) (s : State) (P : State → Prop) : Prop := ∃ t, exec c s = .next t ∧ P t

/-- A register cell belongs in the list: it differs from its cold-reset value and fits its width (R26, R27). -/
def FCell.ok (c : FCell) : Bool := c.val != c.fld.dflt c.inst && c.val < 2 ^ c.fld.info.width

/-- The register list is in its one canonical form above a cell: strictly rising, every cell in its place. -/
def cellsAbove (lo : Option FCell) : List FCell → Bool
  | [] => true
  | c :: rest => (match lo with | none => true | some l => c.before l.fld l.inst) && c.ok && cellsAbove (some c) rest

/-- The canonical form of a state: the register list and the store of HBM bytes are in theirs, so that equal machines are
equal data (R16, R26; notes/assumptions/1.md, notes/assumptions/4.md). -/
def State.Canon (s : State) : Prop := cellsAbove none s.fields = true ∧ s.mem.cells.wf = true

/-! ### Frames -/

/-- The parts of the state beside the register fields: hbm is the stored bytes of HBM, mem what HBM and the encryptor hold
with them, sent what the block has sent, drawn the count of free values. -/
inductive Comp where
  | fuses | pins | pilot | kim | parts | fwu | host | faultQ | rings | ember | mem | hbm | tiles | cores | xlat | cch | dl
  | fab | seqs | twin | sent | drawn
deriving DecidableEq, Repr

/-- A part of the state is the same in s and t; of HBM: every byte at every address reads as before. -/
def Comp.Same : Comp → State → State → Prop
  | .fuses, s, t => t.fuses = s.fuses
  | .pins, s, t => t.pins = s.pins
  | .pilot, s, t => t.pilot = s.pilot
  | .kim, s, t => t.kim = s.kim
  | .parts, s, t => t.parts = s.parts
  | .fwu, s, t => t.fwu = s.fwu
  | .host, s, t => t.host = s.host
  | .faultQ, s, t => t.faultQ = s.faultQ
  | .rings, s, t => t.rings = s.rings
  | .ember, s, t => t.ember = s.ember
  | .mem, s, t => t.mem = s.mem
  | .hbm, s, t => ∀ a, t.mem.cells.read a = s.mem.cells.read a
  | .tiles, s, t => t.tiles = s.tiles
  | .cores, s, t => t.cores = s.cores
  | .xlat, s, t => t.xlat = s.xlat
  | .cch, s, t => t.cch = s.cch
  | .dl, s, t => t.dl = s.dl
  | .fab, s, t => t.fab = s.fab
  | .seqs, s, t => t.seqs = s.seqs
  | .twin, s, t => t.twin = s.twin
  | .sent, s, t => t.out = s.out
  | .drawn, s, t => t.freeCtr = s.freeCtr

/-- From s to t nothing changes but, at most, register fields of the list fs and parts of the list cs: every other field
reads as before at every instance, every other part is the same, what was sent stays sent, and the queue is as it was. -/
structure Only (fs : List Fld) (cs : List Comp) (s t : State) : Prop where
  fields : ∀ f, f ∉ fs → ∀ i, t.get f i = s.get f i
  comps : ∀ c, c ∉ cs → c.Same s t
  sent : s.out <:+ t.out
  drawn : s.freeCtr ≤ t.freeCtr
  queue : t.pending = s.pending

/-- The fields that an EMBER record, and the freeze it may bring, can change (R719, R724 to R727, R501). -/
def recFlds : List Fld :=
  [.HL_INTX_GLB_GLB, .HL_INTX_GLB_LEVEL, .EMB_STATUS_STATE, .EMB_STATUS_COPYING, .EMB_STATUS_MRAM_FULL,
   .EMB_STATUS_LAST_SLOT, .EMB_STATUS_LAST_CAUSE, .EMB_STATUS_LOST_FAULTS, .EMB_STATUS_LOST,
   .EMB_STATUS_LOST_FAULTS_SAT, .EMB_STATUS_LOST_SAT, .EMB_RSEQ_NEXT, .EMB_FAULT_OUT_LATCH, .EMB_FAULT_OUT_PIN]

/-- The fields that waking a domain can change (R57, R63). -/
def domFlds : List Fld :=
  [.PWR_DOM_STATE_STATE_0, .PWR_DOM_STATE_STATE_1, .PWR_DOM_STATE_STATE_2, .PWR_DOM_STATE_STATE_3,
   .PWR_DOM_STATE_STATE_4, .PWR_DOM_STATE_STATE_5, .PWR_DOM_STATE_STATE_6, .PWR_DOM_STATE_STATE_7,
   .PWR_DOM_STATE_STATE_8, .PWR_DOM_STATE_STATE_9, .PWR_DOM_STATE_STATE_10, .PWR_DOM_STATE_STATE_11,
   .PWR_DOM_STATE_STATE_12, .PWR_DOM_STATE_STATE_13, .PWR_DOM_STATE_STATE_14, .PWR_DOM_STATE_STATE_15,
   .PWR_DOM_STATE_STATE_16, .PWR_DOM_STATE_STATE_17, .PWR_DOM_STATE_STATE_18, .PWR_DOM_STATE_STATE_19,
   .PWR_DOM_STATE_STATE_20, .PWR_DOM_STATE_STATE_21, .PWR_DOM_STATE_STATE_22, .PWR_DOM_STATE_STATE_23,
   .PWR_DOM_WAKES_COUNT, .PWR_DOM_WAKES_SAT]

/-- The fields that a waiting access going on can change: of the domains it wakes, of the requester it ends for, of the
cache and the counters on its way (R267 to R276, R282 to R299). -/
def accFlds : List Fld := domFlds ++
  [.MSG_ERR_FAILED, .MSG_ERR_FAILED_SAT, .XLAT_CTX_STAT_DRAIN_TOKEN, .XLAT_CTX_STAT_PAGES_WAITING,
   .XLAT_PSTAT_ATS_REQS, .XLAT_PSTAT_SAT, .XLAT_PFAULT_FAULTS, .XLAT_PFAULT_FAULTS_SAT, .XLAT_PFAULT_LAST_CODE,
   .XLAT_GSTAT_PRI_OUT, .CCH_DEV_STALE_RISK, .CCH_HITS_COUNT, .CCH_HITS_SAT, .CCH_MISSES_COUNT, .CCH_MISSES_SAT,
   .CCH_PREFETCHES_COUNT, .CCH_PREFETCHES_SAT, .CCH_STREAM_WRITES_COUNT, .CCH_STREAM_WRITES_SAT,
   .CCH_EVICT_DIRTY_COUNT, .CCH_EVICT_DIRTY_SAT, .CCH_EVICT_NOTIFIED_COUNT, .CCH_EVICT_NOTIFIED_SAT, .DIR_BISNP_COUNT,
   .DIR_BISNP_SAT, .CCH_PSTATE_STALE_RISK, .CCH_PHITS_COUNT, .CCH_PHITS_SAT, .CCH_PMISSES_COUNT, .CCH_PMISSES_SAT,
   .HL_PSTAT_HOST_ERRS, .HL_PSTAT_HOST_ERRS_SAT, .FAB_RECOV_RETAIN_KIB, .SEQ_STAT_ACTIVE, .SEQ_COLL_COLL_ID,
   .SEQ_COLL_PART, .SEQ_COLL_FLOW, .SEQ_COLL_STATE, .SEQ_COLL_DEGRADED, .SEQ_COLL_POISONED, .SEQ_COLL_COMMITTED,
   .TWN_PSTAT_STATE, .TWN_PSTAT_LAGGING]

/-- The fields that the cache going on can change: an access's, a record's, and the cache's own (R300 to R330). -/
def cacheFlds : List Fld := accFlds ++ recFlds ++
  [.CCH_DEV_STATE, .CCH_DEV_BUSY, .DIR_BI_EVICT_COUNT, .DIR_BI_EVICT_SAT, .CCH_PSTATE_STATE, .CCH_PSTATE_BUSY]

/-- The parts that a waiting access going on can change. -/
def accComps : List Comp :=
  [.parts, .host, .faultQ, .mem, .hbm, .tiles, .cores, .xlat, .cch, .dl, .fab, .seqs, .twin, .sent, .drawn]

end Sys2Proof.Machine
end

