-- ==== Sys2Proof/Certificates/Slice0/Obligations.lean ====
section
/-! DEFINITION. The statements about the block: each says what commands do, from the numbered rules, and what they leave
alone. Runs c s P says that the command c completes from s with P of the next state; Only fs cs s t that from s to t at most
the register fields fs and the parts cs change. -/
open Sys2Proof Sys2Proof.Machine

/-- A step at a state whose queue has a command at its front is exec of that command on the state with the rest of the queue: the host interface of the block. (ch. 0, notes/assumptions/9.md) -/
def Obligations.StepRunsFrontCommand : Prop :=
  ∀ (c : Instr) (rest : List Instr) (s : State), s.pending = c :: rest → step s = exec c { s with pending := rest }

/-- A step on an empty queue answers the same state. The model's choice (notes/assumptions/9.md). (ch. 0, notes/assumptions/9.md) -/
def Obligations.EmptyQueueIdles : Prop :=
  ∀ s : State, s.pending = [] → step s = .next s

/-- State.reset lists no register and no byte of HBM, so it is canonical, and every register field reads as its reset column says. (ch. 0, R26) -/
def Obligations.ResetIsCanonical : Prop :=
  State.reset.Canon ∧ ∀ (f : Fld) (i : Nat), State.reset.get f i = f.dflt i

/-- From every state in canonical form, reached or not, a step that answers a next state answers one in canonical form: the register list strictly rising with no field at its reset value or wider than its width, the HBM store strictly rising with no byte that an unlisted address reads as. (R26, R27, R16) -/
def Obligations.StepKeepsCanonicalForm : Prop :=
  ∀ s t : State, s.Canon → step s = .next t → t.Canon

/-- For every command and every state exec answers a next state: no command of the table ends in a fault or a refusal. (ch. 0, ch. 17) -/
def Obligations.EveryCommandAnswersNext : Prop :=
  ∀ (c : Instr) (s : State), ∃ t, exec c s = .next t

/-- Whatever the command and the state, the commands that wait are the same after it, what the block had sent stays sent, and the count of free values never falls. (ch. 0, notes/assumptions/5.md) -/
def Obligations.CommandsKeepQueueAndOutputs : Prop :=
  ∀ (c : Instr) (s t : State), exec c s = .next t → t.pending = s.pending ∧ s.out <:+ t.out ∧ s.freeCtr ≤ t.freeCtr

/-- Every other command, at every state, leaves the fuses as they are. (R79, R116, ch. 3) -/
def Obligations.FusesChangeOnlyByFuseCommands : Prop :=
  ∀ (c : Instr) (s t : State), exec c s = .next t → (∀ f, c ≠ .fusesSensed f) → (∀ ok n, c ≠ .arbBurn ok n) → t.fuses = s.fuses

/-- Every command but the listed ones, at every state, leaves every pin and strap as it is: the supplies, PERST#, PROCHOT#, THERM_TRIP#, the straps and TWIN_HB_OUT. (R51, R70, R71, R670, ch. 2) -/
def Obligations.PinsChangeOnlyByPinEvents : Prop :=
  ∀ (c : Instr) (s t : State), exec c s = .next t → (∀ b r n x, c ≠ .fwBundleLoaded b r n x) →
    c ∉ [.hbToggle, .mainPwrOkFall, .mainPwrOkRise, .perstAssert, .perstDeassert, .pilotPwrOkFall, .pilotPwrOkRise, .prochotAssert,
      .prochotRelease, .thermTripRelease, .thermalTrip] → t.pins = s.pins

/-- Reading a field instance after a write gives the value modulo two to the field width; every other field and every other instance reads as before. (R26, ch. 0) -/
def Obligations.RegisterReadAfterWrite : Prop :=
  ∀ (s : State) (f g : Fld) (i j v : Nat),
    (s.put f i v).get f i = v % 2 ^ f.info.width ∧ (¬ (f = g ∧ i = j) → (s.put f i v).get g j = s.get g j)

/-- For every tile instance whose TILE_CAPS fields hold their cold-reset values, which no command writes because they are RO, the register reads the stated constant. (R225) -/
def Obligations.TileCapsReadsItsConstant : Prop :=
  ∀ (s : State) (n : Nat), (∀ f ∈ Reg.TILE_CAPS.fields, s.get f n = f.dflt n) →
    s.regRead .TILE_CAPS n = 0x0000024200400100

/-- For every length: the number of packets is the quotient rounded up; packet k begins at 2048 k; every packet before the last carries 2,048 bytes and the last carries the remainder, so that the payloads add up to the length. (R226) -/
def Obligations.MessageIsCutIntoPackets : Prop :=
  ∀ len : Nat, (packetCuts len).length = (len + 2047) / 2048 ∧
    (∀ k, k + 1 < (packetCuts len).length → (packetCuts len)[k]? = some (2048 * k, 2048)) ∧
    (∀ k, k + 1 = (packetCuts len).length → (packetCuts len)[k]? = some (2048 * k, len - 2048 * k)) ∧
    ((packetCuts len).map (·.2)).sum = len

/-- Each row of the power and thermal governor completes: THROTTLE_STEP takes the boost first and then one sixteenth of matrix issue; the thermal rows take and lift one step; PROCHOT# sets and clears the pin, PROCHOT_IN and the duty limit; AVS_FAIL keeps the boost off. Each states its frame. (R69, R784, R791, Table 2-13) -/
def Obligations.GovernorRowsAct : Prop :=
  (∀ s : State, s.flag .PWR_GOV_BOOST_ACTIVE = true →
    s.get .CLK_STATUS_DIE_LOCK = 15 →
    Runs .throttleStep s fun t =>
      t.pilot = { s.pilot with powerDrop := true } ∧
      t.get .PWR_GOV_BOOST_ACTIVE = 0 ∧
      t.get .CLK_STATUS_TILE_CLK = 200 ∧
      t.get .PWR_GOV_LIMIT_HIT = 1 ∧
      Only (recFlds ++ [.PWR_GOV_ISSUE_DUTY, .PWR_GOV_BOOST_ACTIVE, .PWR_GOV_LIMIT_HIT, .PWR_GOV_THROTTLE_EVENTS, .PWR_GOV_THROTTLE_SAT, .CLK_STATUS_TILE_CLK]) [.pilot, .host, .faultQ, .ember, .sent] s t) ∧
  (∀ s : State, s.flag .PWR_GOV_BOOST_ACTIVE = false →
    s.get .PWR_GOV_ISSUE_DUTY = s.duty →
    0 < s.duty →
    Runs .throttleStep s fun t =>
      t.get .PWR_GOV_ISSUE_DUTY = s.duty - 1 ∧
      t.pilot = { s.pilot with powerSteps := 16 - s.duty } ∧
      Only (recFlds ++ [.PWR_GOV_ISSUE_DUTY, .PWR_GOV_BOOST_ACTIVE, .PWR_GOV_LIMIT_HIT, .PWR_GOV_THROTTLE_EVENTS, .PWR_GOV_THROTTLE_SAT, .CLK_STATUS_TILE_CLK]) [.pilot, .host, .faultQ, .ember, .sent] s t) ∧
  (∀ s : State, s.get .GLB_IDENT_BOOST_CLK = 225 →
    s.pilot.thermalDrop = false →
    Runs .thermalThrottleStep s fun t =>
      t.pilot = { s.pilot with thermalDrop := true } ∧
      t.get .PWR_GOV_BOOST_ACTIVE = 0 ∧
      Only (recFlds ++ [.PWR_GOV_ISSUE_DUTY, .PWR_GOV_BOOST_ACTIVE, .PWR_GOV_LIMIT_HIT, .PWR_GOV_THROTTLE_EVENTS, .PWR_GOV_THROTTLE_SAT, .CLK_STATUS_TILE_CLK]) [.pilot, .host, .faultQ, .ember, .sent] s t) ∧
  (∀ s : State, s.get .GLB_IDENT_BOOST_CLK ≠ 225 →
    Runs .thermalThrottleStep s fun t =>
      t.pilot = { s.pilot with thermalSteps := min 15 (s.pilot.thermalSteps + 1) } ∧
      t.get .PWR_GOV_ISSUE_DUTY ≤ 15 - min 15 (s.pilot.thermalSteps + 1) ∧
      Only (recFlds ++ [.PWR_GOV_ISSUE_DUTY, .PWR_GOV_BOOST_ACTIVE, .PWR_GOV_LIMIT_HIT, .PWR_GOV_THROTTLE_EVENTS, .PWR_GOV_THROTTLE_SAT, .CLK_STATUS_TILE_CLK]) [.pilot, .host, .faultQ, .ember, .sent] s t) ∧
  (∀ s : State, s.get .GLB_IDENT_BOOST_CLK ≠ 225 →
    Runs .throttleTemperatureReached s fun t =>
      t.pilot = { s.pilot with thermalSteps := min 15 (s.pilot.thermalSteps + 1) } ∧
      t.get .PWR_GOV_ISSUE_DUTY ≤ 15 - min 15 (s.pilot.thermalSteps + 1) ∧
      Only (recFlds ++ [.PWR_GOV_ISSUE_DUTY, .PWR_GOV_BOOST_ACTIVE, .PWR_GOV_LIMIT_HIT, .PWR_GOV_THROTTLE_EVENTS, .PWR_GOV_THROTTLE_SAT, .CLK_STATUS_TILE_CLK]) [.pilot, .host, .faultQ, .ember, .sent] s t) ∧
  (∀ s : State, s.pilot.thermalSteps ≠ 0 →
    Runs .thermalLimitLift s fun t =>
      t.pilot = { s.pilot with thermalSteps := s.pilot.thermalSteps - 1 } ∧
      t.get .PWR_GOV_LIMIT_HIT = s.get .PWR_GOV_LIMIT_HIT ∧
      Only (recFlds ++ [.PWR_GOV_ISSUE_DUTY, .PWR_GOV_BOOST_ACTIVE, .PWR_GOV_LIMIT_HIT, .PWR_GOV_THROTTLE_EVENTS, .PWR_GOV_THROTTLE_SAT, .CLK_STATUS_TILE_CLK]) [.pilot, .host, .faultQ, .ember, .sent] s t) ∧
  (∀ s : State, s.pilot.thermalSteps = 0 →
    Runs .thermalLimitLift s fun t =>
      t.pilot = { s.pilot with thermalDrop := false } ∧
      Only (recFlds ++ [.PWR_GOV_ISSUE_DUTY, .PWR_GOV_BOOST_ACTIVE, .PWR_GOV_LIMIT_HIT, .PWR_GOV_THROTTLE_EVENTS, .PWR_GOV_THROTTLE_SAT, .CLK_STATUS_TILE_CLK]) [.pilot, .host, .faultQ, .ember, .sent] s t) ∧
  (∀ s : State, s.pins.prochot = false →
    Runs .prochotAssert s fun t =>
      t.pins = { s.pins with prochot := true } ∧
      t.get .PWR_GOV_PROCHOT_IN = 1 ∧
      t.get .PWR_GOV_ISSUE_DUTY ≤ 7 ∧
      t.get .PWR_GOV_BOOST_ACTIVE = 0 ∧
      Only (recFlds ++ [.PWR_GOV_ISSUE_DUTY, .PWR_GOV_BOOST_ACTIVE, .PWR_GOV_PROCHOT_IN, .PWR_GOV_LIMIT_HIT, .PWR_GOV_THROTTLE_EVENTS, .PWR_GOV_THROTTLE_SAT, .CLK_STATUS_TILE_CLK]) [.pins, .host, .faultQ, .ember, .sent] s t) ∧
  (∀ s : State, s.pins.prochot = true →
    Runs .prochotRelease s fun t =>
      t.pins = { s.pins with prochot := false } ∧
      t.get .PWR_GOV_PROCHOT_IN = 0 ∧
      Only (recFlds ++ [.PWR_GOV_ISSUE_DUTY, .PWR_GOV_BOOST_ACTIVE, .PWR_GOV_PROCHOT_IN, .PWR_GOV_LIMIT_HIT, .PWR_GOV_THROTTLE_EVENTS, .PWR_GOV_THROTTLE_SAT, .CLK_STATUS_TILE_CLK]) [.pins, .host, .faultQ, .ember, .sent] s t) ∧
  (∀ (rail n : Nat) (s : State), Runs (.avsFail rail n) s fun t =>
      t.pilot = { s.pilot with avsPending := true } ∧
      t.get .PWR_GOV_BOOST_ACTIVE = 0 ∧
      Only (recFlds ++ [.PWR_GOV_ISSUE_DUTY, .PWR_GOV_BOOST_ACTIVE, .PWR_GOV_LIMIT_HIT, .PWR_GOV_THROTTLE_EVENTS, .PWR_GOV_THROTTLE_SAT, .CLK_STATUS_TILE_CLK]) [.pilot, .host, .faultQ, .ember, .sent] s t) ∧
  (∀ (w : Nat) (lift ok : Bool) (s : State), s.pilot.ticking = true →
    Runs (.pilotTick w lift ok) s fun t =>
      t.get .CLK_TICK_TICK = (s.get .CLK_TICK_TICK + 1) % 2 ^ 56 ∧
      Only (recFlds ++ [.PWR_GOV_ISSUE_DUTY, .PWR_GOV_BOOST_ACTIVE, .PWR_GOV_LIMIT_HIT, .PWR_GOV_THROTTLE_EVENTS, .PWR_GOV_THROTTLE_SAT, .PWR_GOV_AVG_10MS_W, .PWR_DOM_DOZE_COUNT, .PWR_DOM_DOZE_SAT, .CLK_TICK_TICK, .CLK_STATUS_TILE_CLK]) [.pilot, .host, .faultQ, .ember, .sent] s t) ∧
  (∀ (w : Nat) (lift ok : Bool) (s : State), s.pilot.ticking = true →
    s.pilot.phase = .ready →
    Runs (.pilotTick w lift ok) s fun t =>
      t.get .PWR_GOV_AVG_10MS_W = w % 2 ^ 12 ∧
      Only (recFlds ++ [.PWR_GOV_ISSUE_DUTY, .PWR_GOV_BOOST_ACTIVE, .PWR_GOV_LIMIT_HIT, .PWR_GOV_THROTTLE_EVENTS, .PWR_GOV_THROTTLE_SAT, .PWR_GOV_AVG_10MS_W, .PWR_DOM_DOZE_COUNT, .PWR_DOM_DOZE_SAT, .CLK_TICK_TICK, .CLK_STATUS_TILE_CLK]) [.pilot, .host, .faultQ, .ember, .sent] s t)

/-- PILOT_PWR_OK_RISE puts every register at its cold-reset value and begins PILOT phase with scope 1, cause 1; then the tick counter starts at 0, the fuses give their fields and a burned count stays, EMBER begins and PILOT_READY sets its bit; PILOT_PWR_OK_FALL ends all of it. (R77, R78, R79, R88, Table 2-8) -/
def Obligations.ColdStartRowsRun : Prop :=
  (∀ s : State, s.pins.pilotPwrOk = false →
    Runs .pilotPwrOkRise s fun t =>
      (∀ f i, t.get f i = f.dflt i) ∧
      t.pilot = { phase := .pilot, starting := true, scope := 1, cause := 1 } ∧
      t.pins.pilotPwrOk = true ∧
      t.fuses = s.fuses ∧
      t.ember.slots = s.ember.slots ∧
      t.tiles = [] ∧
      t.cores = [] ∧
      t.parts = [] ∧
      t.mem.cells = [] ∧
      t.out = s.out) ∧
  (∀ s : State, s.pilot.phase = .pilot →
    s.pilot.ticking = false →
    Runs .tickCounterStart s fun t =>
      t.get .CLK_TICK_TICK = 0 ∧
      t.get .CLK_STATUS_PILOT_REF_OK = 1 ∧
      t.pilot = { s.pilot with ticking := true } ∧
      Only [.CLK_TICK_TICK, .CLK_STATUS_PILOT_REF_OK] [.pilot] s t) ∧
  (∀ (f : Fuses) (s : State), s.pilot.phase = .pilot →
    s.pilot.ticking = true →
    s.pilot.sensed = false →
    Runs (.fusesSensed f) s fun t =>
      t.fuses = { f with arb := max f.arb s.fuses.arb } ∧
      t.get .KIM_UID_UID = f.uid % 2 ^ 64 ∧
      t.get .GLB_IDENT_BIN = f.bin % 2 ^ 4 ∧
      t.get .GLB_IDENT_KEY_SLOTS = f.keySlots % 2 ^ 8 ∧
      t.get .GLB_IDENT_BOOST_CLK = f.boostClk % 2 ^ 8 ∧
      t.pilot = { s.pilot with sensed := true } ∧
      Only [.GLB_IDENT_BIN, .GLB_IDENT_FUSE_EXT, .GLB_IDENT_STEP_MINOR, .GLB_IDENT_STEP_MAJOR, .GLB_IDENT_KEY_SLOTS, .GLB_IDENT_BOOST_CLK, .GLB_UNITS_SPARES_LEFT, .KIM_ARB_FUSE_VALUE, .KIM_ARB_REVOKED, .KIM_UID_UID, .DF_IDENT_IDENT] [.fuses, .pilot] s t) ∧
  (∀ s : State, s.pilot.phase = .pilot →
    s.pilot.sensed = true →
    s.pilot.emberOn = false →
    Runs .emberMramCheck s fun t =>
      t.pilot = { s.pilot with emberOn := true } ∧
      Only (recFlds ++ [.EMB_SLOTS_KEEP, .EMB_SLOTS_COMPLETE]) [.pilot, .host, .faultQ, .ember, .sent] s t) ∧
  (∀ (addr : Nat) (s : State), s.pilot.phase = .pilot →
    s.pilot.emberOn = true →
    Runs (.pilotReady addr) s fun t =>
      t.get .RST_STATUS_PILOT_READY = 1 ∧
      t.get .MGT_STATUS_ADDR = 0x30 + addr % 4 ∧
      Only [.RST_STATUS_PILOT_READY, .MGT_STATUS_ADDR] [.pilot] s t) ∧
  (∀ s : State, s.pins.pilotPwrOk = true →
    Runs .pilotPwrOkFall s fun t =>
      t.pins = { s.pins with pilotPwrOk := false } ∧
      t.pilot.phase = .off ∧
      t.pilot.starting = false ∧
      t.tiles = [] ∧
      t.cores = [] ∧
      t.parts = [] ∧
      t.mem.cells = [] ∧
      t.get .RST_STATUS_MAIN_READY = 0)
end

