-- ==== Sys2Proof/Laws/State.lean ====
section
/-! SUPPORT. What each elementary update of the state leaves as it was and what it gives: one lemma per field per update, so
that no proof unfolds a record update. -/
namespace Sys2Proof.Machine

@[simp] theorem State.put_fuses (s : State) (f : Fld) (i v : Nat) : (s.put f i v).fuses = s.fuses := rfl
@[simp] theorem State.put_pins (s : State) (f : Fld) (i v : Nat) : (s.put f i v).pins = s.pins := rfl
@[simp] theorem State.put_pilot (s : State) (f : Fld) (i v : Nat) : (s.put f i v).pilot = s.pilot := rfl
@[simp] theorem State.put_kim (s : State) (f : Fld) (i v : Nat) : (s.put f i v).kim = s.kim := rfl
@[simp] theorem State.put_parts (s : State) (f : Fld) (i v : Nat) : (s.put f i v).parts = s.parts := rfl
@[simp] theorem State.put_fwu (s : State) (f : Fld) (i v : Nat) : (s.put f i v).fwu = s.fwu := rfl
@[simp] theorem State.put_host (s : State) (f : Fld) (i v : Nat) : (s.put f i v).host = s.host := rfl
@[simp] theorem State.put_faultQ (s : State) (f : Fld) (i v : Nat) : (s.put f i v).faultQ = s.faultQ := rfl
@[simp] theorem State.put_rings (s : State) (f : Fld) (i v : Nat) : (s.put f i v).rings = s.rings := rfl
@[simp] theorem State.put_ember (s : State) (f : Fld) (i v : Nat) : (s.put f i v).ember = s.ember := rfl
@[simp] theorem State.put_mem (s : State) (f : Fld) (i v : Nat) : (s.put f i v).mem = s.mem := rfl
@[simp] theorem State.put_tiles (s : State) (f : Fld) (i v : Nat) : (s.put f i v).tiles = s.tiles := rfl
@[simp] theorem State.put_cores (s : State) (f : Fld) (i v : Nat) : (s.put f i v).cores = s.cores := rfl
@[simp] theorem State.put_xlat (s : State) (f : Fld) (i v : Nat) : (s.put f i v).xlat = s.xlat := rfl
@[simp] theorem State.put_cch (s : State) (f : Fld) (i v : Nat) : (s.put f i v).cch = s.cch := rfl
@[simp] theorem State.put_dl (s : State) (f : Fld) (i v : Nat) : (s.put f i v).dl = s.dl := rfl
@[simp] theorem State.put_fab (s : State) (f : Fld) (i v : Nat) : (s.put f i v).fab = s.fab := rfl
@[simp] theorem State.put_seqs (s : State) (f : Fld) (i v : Nat) : (s.put f i v).seqs = s.seqs := rfl
@[simp] theorem State.put_twin (s : State) (f : Fld) (i v : Nat) : (s.put f i v).twin = s.twin := rfl
@[simp] theorem State.put_out (s : State) (f : Fld) (i v : Nat) : (s.put f i v).out = s.out := rfl
@[simp] theorem State.put_freeCtr (s : State) (f : Fld) (i v : Nat) : (s.put f i v).freeCtr = s.freeCtr := rfl
@[simp] theorem State.put_pending (s : State) (f : Fld) (i v : Nat) : (s.put f i v).pending = s.pending := rfl

@[simp] theorem State.emit_fields (s : State) (o : Output) : (s.emit o).fields = s.fields := rfl
@[simp] theorem State.emit_fuses (s : State) (o : Output) : (s.emit o).fuses = s.fuses := rfl
@[simp] theorem State.emit_pins (s : State) (o : Output) : (s.emit o).pins = s.pins := rfl
@[simp] theorem State.emit_pilot (s : State) (o : Output) : (s.emit o).pilot = s.pilot := rfl
@[simp] theorem State.emit_kim (s : State) (o : Output) : (s.emit o).kim = s.kim := rfl
@[simp] theorem State.emit_parts (s : State) (o : Output) : (s.emit o).parts = s.parts := rfl
@[simp] theorem State.emit_fwu (s : State) (o : Output) : (s.emit o).fwu = s.fwu := rfl
@[simp] theorem State.emit_host (s : State) (o : Output) : (s.emit o).host = s.host := rfl
@[simp] theorem State.emit_faultQ (s : State) (o : Output) : (s.emit o).faultQ = s.faultQ := rfl
@[simp] theorem State.emit_rings (s : State) (o : Output) : (s.emit o).rings = s.rings := rfl
@[simp] theorem State.emit_ember (s : State) (o : Output) : (s.emit o).ember = s.ember := rfl
@[simp] theorem State.emit_mem (s : State) (o : Output) : (s.emit o).mem = s.mem := rfl
@[simp] theorem State.emit_tiles (s : State) (o : Output) : (s.emit o).tiles = s.tiles := rfl
@[simp] theorem State.emit_cores (s : State) (o : Output) : (s.emit o).cores = s.cores := rfl
@[simp] theorem State.emit_xlat (s : State) (o : Output) : (s.emit o).xlat = s.xlat := rfl
@[simp] theorem State.emit_cch (s : State) (o : Output) : (s.emit o).cch = s.cch := rfl
@[simp] theorem State.emit_dl (s : State) (o : Output) : (s.emit o).dl = s.dl := rfl
@[simp] theorem State.emit_fab (s : State) (o : Output) : (s.emit o).fab = s.fab := rfl
@[simp] theorem State.emit_seqs (s : State) (o : Output) : (s.emit o).seqs = s.seqs := rfl
@[simp] theorem State.emit_twin (s : State) (o : Output) : (s.emit o).twin = s.twin := rfl
@[simp] theorem State.emit_out (s : State) (o : Output) : (s.emit o).out = o :: s.out := rfl
@[simp] theorem State.emit_freeCtr (s : State) (o : Output) : (s.emit o).freeCtr = s.freeCtr := rfl
@[simp] theorem State.emit_pending (s : State) (o : Output) : (s.emit o).pending = s.pending := rfl
@[simp] theorem State.emit_get (s : State) (o : Output) (g : Fld) (j : Nat) : (s.emit o).get g j = s.get g j := rfl
@[simp] theorem State.emit_flag (s : State) (o : Output) (g : Fld) (j : Nat) : (s.emit o).flag g j = s.flag g j := rfl

@[simp] theorem State.draw_fields (s : State) (w : Nat) : ((s.draw w).2).fields = s.fields := rfl
@[simp] theorem State.draw_fuses (s : State) (w : Nat) : ((s.draw w).2).fuses = s.fuses := rfl
@[simp] theorem State.draw_pins (s : State) (w : Nat) : ((s.draw w).2).pins = s.pins := rfl
@[simp] theorem State.draw_pilot (s : State) (w : Nat) : ((s.draw w).2).pilot = s.pilot := rfl
@[simp] theorem State.draw_kim (s : State) (w : Nat) : ((s.draw w).2).kim = s.kim := rfl
@[simp] theorem State.draw_parts (s : State) (w : Nat) : ((s.draw w).2).parts = s.parts := rfl
@[simp] theorem State.draw_fwu (s : State) (w : Nat) : ((s.draw w).2).fwu = s.fwu := rfl
@[simp] theorem State.draw_host (s : State) (w : Nat) : ((s.draw w).2).host = s.host := rfl
@[simp] theorem State.draw_faultQ (s : State) (w : Nat) : ((s.draw w).2).faultQ = s.faultQ := rfl
@[simp] theorem State.draw_rings (s : State) (w : Nat) : ((s.draw w).2).rings = s.rings := rfl
@[simp] theorem State.draw_ember (s : State) (w : Nat) : ((s.draw w).2).ember = s.ember := rfl
@[simp] theorem State.draw_mem (s : State) (w : Nat) : ((s.draw w).2).mem = s.mem := rfl
@[simp] theorem State.draw_tiles (s : State) (w : Nat) : ((s.draw w).2).tiles = s.tiles := rfl
@[simp] theorem State.draw_cores (s : State) (w : Nat) : ((s.draw w).2).cores = s.cores := rfl
@[simp] theorem State.draw_xlat (s : State) (w : Nat) : ((s.draw w).2).xlat = s.xlat := rfl
@[simp] theorem State.draw_cch (s : State) (w : Nat) : ((s.draw w).2).cch = s.cch := rfl
@[simp] theorem State.draw_dl (s : State) (w : Nat) : ((s.draw w).2).dl = s.dl := rfl
@[simp] theorem State.draw_fab (s : State) (w : Nat) : ((s.draw w).2).fab = s.fab := rfl
@[simp] theorem State.draw_seqs (s : State) (w : Nat) : ((s.draw w).2).seqs = s.seqs := rfl
@[simp] theorem State.draw_twin (s : State) (w : Nat) : ((s.draw w).2).twin = s.twin := rfl
@[simp] theorem State.draw_out (s : State) (w : Nat) : ((s.draw w).2).out = s.out := rfl
@[simp] theorem State.draw_freeCtr (s : State) (w : Nat) : ((s.draw w).2).freeCtr = s.freeCtr + 1 := rfl
@[simp] theorem State.draw_pending (s : State) (w : Nat) : ((s.draw w).2).pending = s.pending := rfl
@[simp] theorem State.draw_get (s : State) (w : Nat) (g : Fld) (j : Nat) : ((s.draw w).2).get g j = s.get g j := rfl
@[simp] theorem State.draw_flag (s : State) (w : Nat) (g : Fld) (j : Nat) : ((s.draw w).2).flag g j = s.flag g j := rfl

@[simp] theorem State.modPart_fields (s : State) (p : Nat) (f : Part → Part) : (s.modPart p f).fields = s.fields := rfl
@[simp] theorem State.modPart_fuses (s : State) (p : Nat) (f : Part → Part) : (s.modPart p f).fuses = s.fuses := rfl
@[simp] theorem State.modPart_pins (s : State) (p : Nat) (f : Part → Part) : (s.modPart p f).pins = s.pins := rfl
@[simp] theorem State.modPart_pilot (s : State) (p : Nat) (f : Part → Part) : (s.modPart p f).pilot = s.pilot := rfl
@[simp] theorem State.modPart_kim (s : State) (p : Nat) (f : Part → Part) : (s.modPart p f).kim = s.kim := rfl
@[simp] theorem State.modPart_parts (s : State) (p : Nat) (f : Part → Part) : (s.modPart p f).parts = kmod s.parts p {} f := rfl
@[simp] theorem State.modPart_fwu (s : State) (p : Nat) (f : Part → Part) : (s.modPart p f).fwu = s.fwu := rfl
@[simp] theorem State.modPart_host (s : State) (p : Nat) (f : Part → Part) : (s.modPart p f).host = s.host := rfl
@[simp] theorem State.modPart_faultQ (s : State) (p : Nat) (f : Part → Part) : (s.modPart p f).faultQ = s.faultQ := rfl
@[simp] theorem State.modPart_rings (s : State) (p : Nat) (f : Part → Part) : (s.modPart p f).rings = s.rings := rfl
@[simp] theorem State.modPart_ember (s : State) (p : Nat) (f : Part → Part) : (s.modPart p f).ember = s.ember := rfl
@[simp] theorem State.modPart_mem (s : State) (p : Nat) (f : Part → Part) : (s.modPart p f).mem = s.mem := rfl
@[simp] theorem State.modPart_tiles (s : State) (p : Nat) (f : Part → Part) : (s.modPart p f).tiles = s.tiles := rfl
@[simp] theorem State.modPart_cores (s : State) (p : Nat) (f : Part → Part) : (s.modPart p f).cores = s.cores := rfl
@[simp] theorem State.modPart_xlat (s : State) (p : Nat) (f : Part → Part) : (s.modPart p f).xlat = s.xlat := rfl
@[simp] theorem State.modPart_cch (s : State) (p : Nat) (f : Part → Part) : (s.modPart p f).cch = s.cch := rfl
@[simp] theorem State.modPart_dl (s : State) (p : Nat) (f : Part → Part) : (s.modPart p f).dl = s.dl := rfl
@[simp] theorem State.modPart_fab (s : State) (p : Nat) (f : Part → Part) : (s.modPart p f).fab = s.fab := rfl
@[simp] theorem State.modPart_seqs (s : State) (p : Nat) (f : Part → Part) : (s.modPart p f).seqs = s.seqs := rfl
@[simp] theorem State.modPart_twin (s : State) (p : Nat) (f : Part → Part) : (s.modPart p f).twin = s.twin := rfl
@[simp] theorem State.modPart_out (s : State) (p : Nat) (f : Part → Part) : (s.modPart p f).out = s.out := rfl
@[simp] theorem State.modPart_freeCtr (s : State) (p : Nat) (f : Part → Part) : (s.modPart p f).freeCtr = s.freeCtr := rfl
@[simp] theorem State.modPart_pending (s : State) (p : Nat) (f : Part → Part) : (s.modPart p f).pending = s.pending := rfl
@[simp] theorem State.modPart_get (s : State) (p : Nat) (f : Part → Part) (g : Fld) (j : Nat) : (s.modPart p f).get g j = s.get g j := rfl
@[simp] theorem State.modPart_flag (s : State) (p : Nat) (f : Part → Part) (g : Fld) (j : Nat) : (s.modPart p f).flag g j = s.flag g j := rfl

@[simp] theorem State.modHost_fields (s : State) (f : HostLink → HostLink) : (s.modHost f).fields = s.fields := rfl
@[simp] theorem State.modHost_fuses (s : State) (f : HostLink → HostLink) : (s.modHost f).fuses = s.fuses := rfl
@[simp] theorem State.modHost_pins (s : State) (f : HostLink → HostLink) : (s.modHost f).pins = s.pins := rfl
@[simp] theorem State.modHost_pilot (s : State) (f : HostLink → HostLink) : (s.modHost f).pilot = s.pilot := rfl
@[simp] theorem State.modHost_kim (s : State) (f : HostLink → HostLink) : (s.modHost f).kim = s.kim := rfl
@[simp] theorem State.modHost_parts (s : State) (f : HostLink → HostLink) : (s.modHost f).parts = s.parts := rfl
@[simp] theorem State.modHost_fwu (s : State) (f : HostLink → HostLink) : (s.modHost f).fwu = s.fwu := rfl
@[simp] theorem State.modHost_host (s : State) (f : HostLink → HostLink) : (s.modHost f).host = f s.host := rfl
@[simp] theorem State.modHost_faultQ (s : State) (f : HostLink → HostLink) : (s.modHost f).faultQ = s.faultQ := rfl
@[simp] theorem State.modHost_rings (s : State) (f : HostLink → HostLink) : (s.modHost f).rings = s.rings := rfl
@[simp] theorem State.modHost_ember (s : State) (f : HostLink → HostLink) : (s.modHost f).ember = s.ember := rfl
@[simp] theorem State.modHost_mem (s : State) (f : HostLink → HostLink) : (s.modHost f).mem = s.mem := rfl
@[simp] theorem State.modHost_tiles (s : State) (f : HostLink → HostLink) : (s.modHost f).tiles = s.tiles := rfl
@[simp] theorem State.modHost_cores (s : State) (f : HostLink → HostLink) : (s.modHost f).cores = s.cores := rfl
@[simp] theorem State.modHost_xlat (s : State) (f : HostLink → HostLink) : (s.modHost f).xlat = s.xlat := rfl
@[simp] theorem State.modHost_cch (s : State) (f : HostLink → HostLink) : (s.modHost f).cch = s.cch := rfl
@[simp] theorem State.modHost_dl (s : State) (f : HostLink → HostLink) : (s.modHost f).dl = s.dl := rfl
@[simp] theorem State.modHost_fab (s : State) (f : HostLink → HostLink) : (s.modHost f).fab = s.fab := rfl
@[simp] theorem State.modHost_seqs (s : State) (f : HostLink → HostLink) : (s.modHost f).seqs = s.seqs := rfl
@[simp] theorem State.modHost_twin (s : State) (f : HostLink → HostLink) : (s.modHost f).twin = s.twin := rfl
@[simp] theorem State.modHost_out (s : State) (f : HostLink → HostLink) : (s.modHost f).out = s.out := rfl
@[simp] theorem State.modHost_freeCtr (s : State) (f : HostLink → HostLink) : (s.modHost f).freeCtr = s.freeCtr := rfl
@[simp] theorem State.modHost_pending (s : State) (f : HostLink → HostLink) : (s.modHost f).pending = s.pending := rfl
@[simp] theorem State.modHost_get (s : State) (f : HostLink → HostLink) (g : Fld) (j : Nat) : (s.modHost f).get g j = s.get g j := rfl
@[simp] theorem State.modHost_flag (s : State) (f : HostLink → HostLink) (g : Fld) (j : Nat) : (s.modHost f).flag g j = s.flag g j := rfl

@[simp] theorem State.modFn_fields (s : State) (n : Nat) (f : FnCfg → FnCfg) : (s.modFn n f).fields = s.fields := rfl
@[simp] theorem State.modFn_fuses (s : State) (n : Nat) (f : FnCfg → FnCfg) : (s.modFn n f).fuses = s.fuses := rfl
@[simp] theorem State.modFn_pins (s : State) (n : Nat) (f : FnCfg → FnCfg) : (s.modFn n f).pins = s.pins := rfl
@[simp] theorem State.modFn_pilot (s : State) (n : Nat) (f : FnCfg → FnCfg) : (s.modFn n f).pilot = s.pilot := rfl
@[simp] theorem State.modFn_kim (s : State) (n : Nat) (f : FnCfg → FnCfg) : (s.modFn n f).kim = s.kim := rfl
@[simp] theorem State.modFn_parts (s : State) (n : Nat) (f : FnCfg → FnCfg) : (s.modFn n f).parts = s.parts := rfl
@[simp] theorem State.modFn_fwu (s : State) (n : Nat) (f : FnCfg → FnCfg) : (s.modFn n f).fwu = s.fwu := rfl
@[simp] theorem State.modFn_host (s : State) (n : Nat) (f : FnCfg → FnCfg) : (s.modFn n f).host = { s.host with fns := kmod s.host.fns n {} f } := rfl
@[simp] theorem State.modFn_faultQ (s : State) (n : Nat) (f : FnCfg → FnCfg) : (s.modFn n f).faultQ = s.faultQ := rfl
@[simp] theorem State.modFn_rings (s : State) (n : Nat) (f : FnCfg → FnCfg) : (s.modFn n f).rings = s.rings := rfl
@[simp] theorem State.modFn_ember (s : State) (n : Nat) (f : FnCfg → FnCfg) : (s.modFn n f).ember = s.ember := rfl
@[simp] theorem State.modFn_mem (s : State) (n : Nat) (f : FnCfg → FnCfg) : (s.modFn n f).mem = s.mem := rfl
@[simp] theorem State.modFn_tiles (s : State) (n : Nat) (f : FnCfg → FnCfg) : (s.modFn n f).tiles = s.tiles := rfl
@[simp] theorem State.modFn_cores (s : State) (n : Nat) (f : FnCfg → FnCfg) : (s.modFn n f).cores = s.cores := rfl
@[simp] theorem State.modFn_xlat (s : State) (n : Nat) (f : FnCfg → FnCfg) : (s.modFn n f).xlat = s.xlat := rfl
@[simp] theorem State.modFn_cch (s : State) (n : Nat) (f : FnCfg → FnCfg) : (s.modFn n f).cch = s.cch := rfl
@[simp] theorem State.modFn_dl (s : State) (n : Nat) (f : FnCfg → FnCfg) : (s.modFn n f).dl = s.dl := rfl
@[simp] theorem State.modFn_fab (s : State) (n : Nat) (f : FnCfg → FnCfg) : (s.modFn n f).fab = s.fab := rfl
@[simp] theorem State.modFn_seqs (s : State) (n : Nat) (f : FnCfg → FnCfg) : (s.modFn n f).seqs = s.seqs := rfl
@[simp] theorem State.modFn_twin (s : State) (n : Nat) (f : FnCfg → FnCfg) : (s.modFn n f).twin = s.twin := rfl
@[simp] theorem State.modFn_out (s : State) (n : Nat) (f : FnCfg → FnCfg) : (s.modFn n f).out = s.out := rfl
@[simp] theorem State.modFn_freeCtr (s : State) (n : Nat) (f : FnCfg → FnCfg) : (s.modFn n f).freeCtr = s.freeCtr := rfl
@[simp] theorem State.modFn_pending (s : State) (n : Nat) (f : FnCfg → FnCfg) : (s.modFn n f).pending = s.pending := rfl
@[simp] theorem State.modFn_get (s : State) (n : Nat) (f : FnCfg → FnCfg) (g : Fld) (j : Nat) : (s.modFn n f).get g j = s.get g j := rfl
@[simp] theorem State.modFn_flag (s : State) (n : Nat) (f : FnCfg → FnCfg) (g : Fld) (j : Nat) : (s.modFn n f).flag g j = s.flag g j := rfl

@[simp] theorem State.modPilot_fields (s : State) (f : Pilot → Pilot) : (s.modPilot f).fields = s.fields := rfl
@[simp] theorem State.modPilot_fuses (s : State) (f : Pilot → Pilot) : (s.modPilot f).fuses = s.fuses := rfl
@[simp] theorem State.modPilot_pins (s : State) (f : Pilot → Pilot) : (s.modPilot f).pins = s.pins := rfl
@[simp] theorem State.modPilot_pilot (s : State) (f : Pilot → Pilot) : (s.modPilot f).pilot = f s.pilot := rfl
@[simp] theorem State.modPilot_kim (s : State) (f : Pilot → Pilot) : (s.modPilot f).kim = s.kim := rfl
@[simp] theorem State.modPilot_parts (s : State) (f : Pilot → Pilot) : (s.modPilot f).parts = s.parts := rfl
@[simp] theorem State.modPilot_fwu (s : State) (f : Pilot → Pilot) : (s.modPilot f).fwu = s.fwu := rfl
@[simp] theorem State.modPilot_host (s : State) (f : Pilot → Pilot) : (s.modPilot f).host = s.host := rfl
@[simp] theorem State.modPilot_faultQ (s : State) (f : Pilot → Pilot) : (s.modPilot f).faultQ = s.faultQ := rfl
@[simp] theorem State.modPilot_rings (s : State) (f : Pilot → Pilot) : (s.modPilot f).rings = s.rings := rfl
@[simp] theorem State.modPilot_ember (s : State) (f : Pilot → Pilot) : (s.modPilot f).ember = s.ember := rfl
@[simp] theorem State.modPilot_mem (s : State) (f : Pilot → Pilot) : (s.modPilot f).mem = s.mem := rfl
@[simp] theorem State.modPilot_tiles (s : State) (f : Pilot → Pilot) : (s.modPilot f).tiles = s.tiles := rfl
@[simp] theorem State.modPilot_cores (s : State) (f : Pilot → Pilot) : (s.modPilot f).cores = s.cores := rfl
@[simp] theorem State.modPilot_xlat (s : State) (f : Pilot → Pilot) : (s.modPilot f).xlat = s.xlat := rfl
@[simp] theorem State.modPilot_cch (s : State) (f : Pilot → Pilot) : (s.modPilot f).cch = s.cch := rfl
@[simp] theorem State.modPilot_dl (s : State) (f : Pilot → Pilot) : (s.modPilot f).dl = s.dl := rfl
@[simp] theorem State.modPilot_fab (s : State) (f : Pilot → Pilot) : (s.modPilot f).fab = s.fab := rfl
@[simp] theorem State.modPilot_seqs (s : State) (f : Pilot → Pilot) : (s.modPilot f).seqs = s.seqs := rfl
@[simp] theorem State.modPilot_twin (s : State) (f : Pilot → Pilot) : (s.modPilot f).twin = s.twin := rfl
@[simp] theorem State.modPilot_out (s : State) (f : Pilot → Pilot) : (s.modPilot f).out = s.out := rfl
@[simp] theorem State.modPilot_freeCtr (s : State) (f : Pilot → Pilot) : (s.modPilot f).freeCtr = s.freeCtr := rfl
@[simp] theorem State.modPilot_pending (s : State) (f : Pilot → Pilot) : (s.modPilot f).pending = s.pending := rfl
@[simp] theorem State.modPilot_get (s : State) (f : Pilot → Pilot) (g : Fld) (j : Nat) : (s.modPilot f).get g j = s.get g j := rfl
@[simp] theorem State.modPilot_flag (s : State) (f : Pilot → Pilot) (g : Fld) (j : Nat) : (s.modPilot f).flag g j = s.flag g j := rfl

@[simp] theorem State.modKim_fields (s : State) (f : Kim → Kim) : (s.modKim f).fields = s.fields := rfl
@[simp] theorem State.modKim_fuses (s : State) (f : Kim → Kim) : (s.modKim f).fuses = s.fuses := rfl
@[simp] theorem State.modKim_pins (s : State) (f : Kim → Kim) : (s.modKim f).pins = s.pins := rfl
@[simp] theorem State.modKim_pilot (s : State) (f : Kim → Kim) : (s.modKim f).pilot = s.pilot := rfl
@[simp] theorem State.modKim_kim (s : State) (f : Kim → Kim) : (s.modKim f).kim = f s.kim := rfl
@[simp] theorem State.modKim_parts (s : State) (f : Kim → Kim) : (s.modKim f).parts = s.parts := rfl
@[simp] theorem State.modKim_fwu (s : State) (f : Kim → Kim) : (s.modKim f).fwu = s.fwu := rfl
@[simp] theorem State.modKim_host (s : State) (f : Kim → Kim) : (s.modKim f).host = s.host := rfl
@[simp] theorem State.modKim_faultQ (s : State) (f : Kim → Kim) : (s.modKim f).faultQ = s.faultQ := rfl
@[simp] theorem State.modKim_rings (s : State) (f : Kim → Kim) : (s.modKim f).rings = s.rings := rfl
@[simp] theorem State.modKim_ember (s : State) (f : Kim → Kim) : (s.modKim f).ember = s.ember := rfl
@[simp] theorem State.modKim_mem (s : State) (f : Kim → Kim) : (s.modKim f).mem = s.mem := rfl
@[simp] theorem State.modKim_tiles (s : State) (f : Kim → Kim) : (s.modKim f).tiles = s.tiles := rfl
@[simp] theorem State.modKim_cores (s : State) (f : Kim → Kim) : (s.modKim f).cores = s.cores := rfl
@[simp] theorem State.modKim_xlat (s : State) (f : Kim → Kim) : (s.modKim f).xlat = s.xlat := rfl
@[simp] theorem State.modKim_cch (s : State) (f : Kim → Kim) : (s.modKim f).cch = s.cch := rfl
@[simp] theorem State.modKim_dl (s : State) (f : Kim → Kim) : (s.modKim f).dl = s.dl := rfl
@[simp] theorem State.modKim_fab (s : State) (f : Kim → Kim) : (s.modKim f).fab = s.fab := rfl
@[simp] theorem State.modKim_seqs (s : State) (f : Kim → Kim) : (s.modKim f).seqs = s.seqs := rfl
@[simp] theorem State.modKim_twin (s : State) (f : Kim → Kim) : (s.modKim f).twin = s.twin := rfl
@[simp] theorem State.modKim_out (s : State) (f : Kim → Kim) : (s.modKim f).out = s.out := rfl
@[simp] theorem State.modKim_freeCtr (s : State) (f : Kim → Kim) : (s.modKim f).freeCtr = s.freeCtr := rfl
@[simp] theorem State.modKim_pending (s : State) (f : Kim → Kim) : (s.modKim f).pending = s.pending := rfl
@[simp] theorem State.modKim_get (s : State) (f : Kim → Kim) (g : Fld) (j : Nat) : (s.modKim f).get g j = s.get g j := rfl
@[simp] theorem State.modKim_flag (s : State) (f : Kim → Kim) (g : Fld) (j : Nat) : (s.modKim f).flag g j = s.flag g j := rfl

@[simp] theorem State.modEmber_fields (s : State) (f : Ember → Ember) : (s.modEmber f).fields = s.fields := rfl
@[simp] theorem State.modEmber_fuses (s : State) (f : Ember → Ember) : (s.modEmber f).fuses = s.fuses := rfl
@[simp] theorem State.modEmber_pins (s : State) (f : Ember → Ember) : (s.modEmber f).pins = s.pins := rfl
@[simp] theorem State.modEmber_pilot (s : State) (f : Ember → Ember) : (s.modEmber f).pilot = s.pilot := rfl
@[simp] theorem State.modEmber_kim (s : State) (f : Ember → Ember) : (s.modEmber f).kim = s.kim := rfl
@[simp] theorem State.modEmber_parts (s : State) (f : Ember → Ember) : (s.modEmber f).parts = s.parts := rfl
@[simp] theorem State.modEmber_fwu (s : State) (f : Ember → Ember) : (s.modEmber f).fwu = s.fwu := rfl
@[simp] theorem State.modEmber_host (s : State) (f : Ember → Ember) : (s.modEmber f).host = s.host := rfl
@[simp] theorem State.modEmber_faultQ (s : State) (f : Ember → Ember) : (s.modEmber f).faultQ = s.faultQ := rfl
@[simp] theorem State.modEmber_rings (s : State) (f : Ember → Ember) : (s.modEmber f).rings = s.rings := rfl
@[simp] theorem State.modEmber_ember (s : State) (f : Ember → Ember) : (s.modEmber f).ember = f s.ember := rfl
@[simp] theorem State.modEmber_mem (s : State) (f : Ember → Ember) : (s.modEmber f).mem = s.mem := rfl
@[simp] theorem State.modEmber_tiles (s : State) (f : Ember → Ember) : (s.modEmber f).tiles = s.tiles := rfl
@[simp] theorem State.modEmber_cores (s : State) (f : Ember → Ember) : (s.modEmber f).cores = s.cores := rfl
@[simp] theorem State.modEmber_xlat (s : State) (f : Ember → Ember) : (s.modEmber f).xlat = s.xlat := rfl
@[simp] theorem State.modEmber_cch (s : State) (f : Ember → Ember) : (s.modEmber f).cch = s.cch := rfl
@[simp] theorem State.modEmber_dl (s : State) (f : Ember → Ember) : (s.modEmber f).dl = s.dl := rfl
@[simp] theorem State.modEmber_fab (s : State) (f : Ember → Ember) : (s.modEmber f).fab = s.fab := rfl
@[simp] theorem State.modEmber_seqs (s : State) (f : Ember → Ember) : (s.modEmber f).seqs = s.seqs := rfl
@[simp] theorem State.modEmber_twin (s : State) (f : Ember → Ember) : (s.modEmber f).twin = s.twin := rfl
@[simp] theorem State.modEmber_out (s : State) (f : Ember → Ember) : (s.modEmber f).out = s.out := rfl
@[simp] theorem State.modEmber_freeCtr (s : State) (f : Ember → Ember) : (s.modEmber f).freeCtr = s.freeCtr := rfl
@[simp] theorem State.modEmber_pending (s : State) (f : Ember → Ember) : (s.modEmber f).pending = s.pending := rfl
@[simp] theorem State.modEmber_get (s : State) (f : Ember → Ember) (g : Fld) (j : Nat) : (s.modEmber f).get g j = s.get g j := rfl
@[simp] theorem State.modEmber_flag (s : State) (f : Ember → Ember) (g : Fld) (j : Nat) : (s.modEmber f).flag g j = s.flag g j := rfl

@[simp] theorem State.modMem_fields (s : State) (f : MemSys → MemSys) : (s.modMem f).fields = s.fields := rfl
@[simp] theorem State.modMem_fuses (s : State) (f : MemSys → MemSys) : (s.modMem f).fuses = s.fuses := rfl
@[simp] theorem State.modMem_pins (s : State) (f : MemSys → MemSys) : (s.modMem f).pins = s.pins := rfl
@[simp] theorem State.modMem_pilot (s : State) (f : MemSys → MemSys) : (s.modMem f).pilot = s.pilot := rfl
@[simp] theorem State.modMem_kim (s : State) (f : MemSys → MemSys) : (s.modMem f).kim = s.kim := rfl
@[simp] theorem State.modMem_parts (s : State) (f : MemSys → MemSys) : (s.modMem f).parts = s.parts := rfl
@[simp] theorem State.modMem_fwu (s : State) (f : MemSys → MemSys) : (s.modMem f).fwu = s.fwu := rfl
@[simp] theorem State.modMem_host (s : State) (f : MemSys → MemSys) : (s.modMem f).host = s.host := rfl
@[simp] theorem State.modMem_faultQ (s : State) (f : MemSys → MemSys) : (s.modMem f).faultQ = s.faultQ := rfl
@[simp] theorem State.modMem_rings (s : State) (f : MemSys → MemSys) : (s.modMem f).rings = s.rings := rfl
@[simp] theorem State.modMem_ember (s : State) (f : MemSys → MemSys) : (s.modMem f).ember = s.ember := rfl
@[simp] theorem State.modMem_mem (s : State) (f : MemSys → MemSys) : (s.modMem f).mem = f s.mem := rfl
@[simp] theorem State.modMem_tiles (s : State) (f : MemSys → MemSys) : (s.modMem f).tiles = s.tiles := rfl
@[simp] theorem State.modMem_cores (s : State) (f : MemSys → MemSys) : (s.modMem f).cores = s.cores := rfl
@[simp] theorem State.modMem_xlat (s : State) (f : MemSys → MemSys) : (s.modMem f).xlat = s.xlat := rfl
@[simp] theorem State.modMem_cch (s : State) (f : MemSys → MemSys) : (s.modMem f).cch = s.cch := rfl
@[simp] theorem State.modMem_dl (s : State) (f : MemSys → MemSys) : (s.modMem f).dl = s.dl := rfl
@[simp] theorem State.modMem_fab (s : State) (f : MemSys → MemSys) : (s.modMem f).fab = s.fab := rfl
@[simp] theorem State.modMem_seqs (s : State) (f : MemSys → MemSys) : (s.modMem f).seqs = s.seqs := rfl
@[simp] theorem State.modMem_twin (s : State) (f : MemSys → MemSys) : (s.modMem f).twin = s.twin := rfl
@[simp] theorem State.modMem_out (s : State) (f : MemSys → MemSys) : (s.modMem f).out = s.out := rfl
@[simp] theorem State.modMem_freeCtr (s : State) (f : MemSys → MemSys) : (s.modMem f).freeCtr = s.freeCtr := rfl
@[simp] theorem State.modMem_pending (s : State) (f : MemSys → MemSys) : (s.modMem f).pending = s.pending := rfl
@[simp] theorem State.modMem_get (s : State) (f : MemSys → MemSys) (g : Fld) (j : Nat) : (s.modMem f).get g j = s.get g j := rfl
@[simp] theorem State.modMem_flag (s : State) (f : MemSys → MemSys) (g : Fld) (j : Nat) : (s.modMem f).flag g j = s.flag g j := rfl

@[simp] theorem State.modTwin_fields (s : State) (f : Twin → Twin) : (s.modTwin f).fields = s.fields := rfl
@[simp] theorem State.modTwin_fuses (s : State) (f : Twin → Twin) : (s.modTwin f).fuses = s.fuses := rfl
@[simp] theorem State.modTwin_pins (s : State) (f : Twin → Twin) : (s.modTwin f).pins = s.pins := rfl
@[simp] theorem State.modTwin_pilot (s : State) (f : Twin → Twin) : (s.modTwin f).pilot = s.pilot := rfl
@[simp] theorem State.modTwin_kim (s : State) (f : Twin → Twin) : (s.modTwin f).kim = s.kim := rfl
@[simp] theorem State.modTwin_parts (s : State) (f : Twin → Twin) : (s.modTwin f).parts = s.parts := rfl
@[simp] theorem State.modTwin_fwu (s : State) (f : Twin → Twin) : (s.modTwin f).fwu = s.fwu := rfl
@[simp] theorem State.modTwin_host (s : State) (f : Twin → Twin) : (s.modTwin f).host = s.host := rfl
@[simp] theorem State.modTwin_faultQ (s : State) (f : Twin → Twin) : (s.modTwin f).faultQ = s.faultQ := rfl
@[simp] theorem State.modTwin_rings (s : State) (f : Twin → Twin) : (s.modTwin f).rings = s.rings := rfl
@[simp] theorem State.modTwin_ember (s : State) (f : Twin → Twin) : (s.modTwin f).ember = s.ember := rfl
@[simp] theorem State.modTwin_mem (s : State) (f : Twin → Twin) : (s.modTwin f).mem = s.mem := rfl
@[simp] theorem State.modTwin_tiles (s : State) (f : Twin → Twin) : (s.modTwin f).tiles = s.tiles := rfl
@[simp] theorem State.modTwin_cores (s : State) (f : Twin → Twin) : (s.modTwin f).cores = s.cores := rfl
@[simp] theorem State.modTwin_xlat (s : State) (f : Twin → Twin) : (s.modTwin f).xlat = s.xlat := rfl
@[simp] theorem State.modTwin_cch (s : State) (f : Twin → Twin) : (s.modTwin f).cch = s.cch := rfl
@[simp] theorem State.modTwin_dl (s : State) (f : Twin → Twin) : (s.modTwin f).dl = s.dl := rfl
@[simp] theorem State.modTwin_fab (s : State) (f : Twin → Twin) : (s.modTwin f).fab = s.fab := rfl
@[simp] theorem State.modTwin_seqs (s : State) (f : Twin → Twin) : (s.modTwin f).seqs = s.seqs := rfl
@[simp] theorem State.modTwin_twin (s : State) (f : Twin → Twin) : (s.modTwin f).twin = f s.twin := rfl
@[simp] theorem State.modTwin_out (s : State) (f : Twin → Twin) : (s.modTwin f).out = s.out := rfl
@[simp] theorem State.modTwin_freeCtr (s : State) (f : Twin → Twin) : (s.modTwin f).freeCtr = s.freeCtr := rfl
@[simp] theorem State.modTwin_pending (s : State) (f : Twin → Twin) : (s.modTwin f).pending = s.pending := rfl
@[simp] theorem State.modTwin_get (s : State) (f : Twin → Twin) (g : Fld) (j : Nat) : (s.modTwin f).get g j = s.get g j := rfl
@[simp] theorem State.modTwin_flag (s : State) (f : Twin → Twin) (g : Fld) (j : Nat) : (s.modTwin f).flag g j = s.flag g j := rfl

@[simp] theorem State.modCch_fields (s : State) (f : Cch → Cch) : (s.modCch f).fields = s.fields := rfl
@[simp] theorem State.modCch_fuses (s : State) (f : Cch → Cch) : (s.modCch f).fuses = s.fuses := rfl
@[simp] theorem State.modCch_pins (s : State) (f : Cch → Cch) : (s.modCch f).pins = s.pins := rfl
@[simp] theorem State.modCch_pilot (s : State) (f : Cch → Cch) : (s.modCch f).pilot = s.pilot := rfl
@[simp] theorem State.modCch_kim (s : State) (f : Cch → Cch) : (s.modCch f).kim = s.kim := rfl
@[simp] theorem State.modCch_parts (s : State) (f : Cch → Cch) : (s.modCch f).parts = s.parts := rfl
@[simp] theorem State.modCch_fwu (s : State) (f : Cch → Cch) : (s.modCch f).fwu = s.fwu := rfl
@[simp] theorem State.modCch_host (s : State) (f : Cch → Cch) : (s.modCch f).host = s.host := rfl
@[simp] theorem State.modCch_faultQ (s : State) (f : Cch → Cch) : (s.modCch f).faultQ = s.faultQ := rfl
@[simp] theorem State.modCch_rings (s : State) (f : Cch → Cch) : (s.modCch f).rings = s.rings := rfl
@[simp] theorem State.modCch_ember (s : State) (f : Cch → Cch) : (s.modCch f).ember = s.ember := rfl
@[simp] theorem State.modCch_mem (s : State) (f : Cch → Cch) : (s.modCch f).mem = s.mem := rfl
@[simp] theorem State.modCch_tiles (s : State) (f : Cch → Cch) : (s.modCch f).tiles = s.tiles := rfl
@[simp] theorem State.modCch_cores (s : State) (f : Cch → Cch) : (s.modCch f).cores = s.cores := rfl
@[simp] theorem State.modCch_xlat (s : State) (f : Cch → Cch) : (s.modCch f).xlat = s.xlat := rfl
@[simp] theorem State.modCch_cch (s : State) (f : Cch → Cch) : (s.modCch f).cch = f s.cch := rfl
@[simp] theorem State.modCch_dl (s : State) (f : Cch → Cch) : (s.modCch f).dl = s.dl := rfl
@[simp] theorem State.modCch_fab (s : State) (f : Cch → Cch) : (s.modCch f).fab = s.fab := rfl
@[simp] theorem State.modCch_seqs (s : State) (f : Cch → Cch) : (s.modCch f).seqs = s.seqs := rfl
@[simp] theorem State.modCch_twin (s : State) (f : Cch → Cch) : (s.modCch f).twin = s.twin := rfl
@[simp] theorem State.modCch_out (s : State) (f : Cch → Cch) : (s.modCch f).out = s.out := rfl
@[simp] theorem State.modCch_freeCtr (s : State) (f : Cch → Cch) : (s.modCch f).freeCtr = s.freeCtr := rfl
@[simp] theorem State.modCch_pending (s : State) (f : Cch → Cch) : (s.modCch f).pending = s.pending := rfl
@[simp] theorem State.modCch_get (s : State) (f : Cch → Cch) (g : Fld) (j : Nat) : (s.modCch f).get g j = s.get g j := rfl
@[simp] theorem State.modCch_flag (s : State) (f : Cch → Cch) (g : Fld) (j : Nat) : (s.modCch f).flag g j = s.flag g j := rfl

@[simp] theorem State.modDl_fields (s : State) (f : Downlink → Downlink) : (s.modDl f).fields = s.fields := rfl
@[simp] theorem State.modDl_fuses (s : State) (f : Downlink → Downlink) : (s.modDl f).fuses = s.fuses := rfl
@[simp] theorem State.modDl_pins (s : State) (f : Downlink → Downlink) : (s.modDl f).pins = s.pins := rfl
@[simp] theorem State.modDl_pilot (s : State) (f : Downlink → Downlink) : (s.modDl f).pilot = s.pilot := rfl
@[simp] theorem State.modDl_kim (s : State) (f : Downlink → Downlink) : (s.modDl f).kim = s.kim := rfl
@[simp] theorem State.modDl_parts (s : State) (f : Downlink → Downlink) : (s.modDl f).parts = s.parts := rfl
@[simp] theorem State.modDl_fwu (s : State) (f : Downlink → Downlink) : (s.modDl f).fwu = s.fwu := rfl
@[simp] theorem State.modDl_host (s : State) (f : Downlink → Downlink) : (s.modDl f).host = s.host := rfl
@[simp] theorem State.modDl_faultQ (s : State) (f : Downlink → Downlink) : (s.modDl f).faultQ = s.faultQ := rfl
@[simp] theorem State.modDl_rings (s : State) (f : Downlink → Downlink) : (s.modDl f).rings = s.rings := rfl
@[simp] theorem State.modDl_ember (s : State) (f : Downlink → Downlink) : (s.modDl f).ember = s.ember := rfl
@[simp] theorem State.modDl_mem (s : State) (f : Downlink → Downlink) : (s.modDl f).mem = s.mem := rfl
@[simp] theorem State.modDl_tiles (s : State) (f : Downlink → Downlink) : (s.modDl f).tiles = s.tiles := rfl
@[simp] theorem State.modDl_cores (s : State) (f : Downlink → Downlink) : (s.modDl f).cores = s.cores := rfl
@[simp] theorem State.modDl_xlat (s : State) (f : Downlink → Downlink) : (s.modDl f).xlat = s.xlat := rfl
@[simp] theorem State.modDl_cch (s : State) (f : Downlink → Downlink) : (s.modDl f).cch = s.cch := rfl
@[simp] theorem State.modDl_dl (s : State) (f : Downlink → Downlink) : (s.modDl f).dl = f s.dl := rfl
@[simp] theorem State.modDl_fab (s : State) (f : Downlink → Downlink) : (s.modDl f).fab = s.fab := rfl
@[simp] theorem State.modDl_seqs (s : State) (f : Downlink → Downlink) : (s.modDl f).seqs = s.seqs := rfl
@[simp] theorem State.modDl_twin (s : State) (f : Downlink → Downlink) : (s.modDl f).twin = s.twin := rfl
@[simp] theorem State.modDl_out (s : State) (f : Downlink → Downlink) : (s.modDl f).out = s.out := rfl
@[simp] theorem State.modDl_freeCtr (s : State) (f : Downlink → Downlink) : (s.modDl f).freeCtr = s.freeCtr := rfl
@[simp] theorem State.modDl_pending (s : State) (f : Downlink → Downlink) : (s.modDl f).pending = s.pending := rfl
@[simp] theorem State.modDl_get (s : State) (f : Downlink → Downlink) (g : Fld) (j : Nat) : (s.modDl f).get g j = s.get g j := rfl
@[simp] theorem State.modDl_flag (s : State) (f : Downlink → Downlink) (g : Fld) (j : Nat) : (s.modDl f).flag g j = s.flag g j := rfl

@[simp] theorem State.modFab_fields (s : State) (f : Fab → Fab) : (s.modFab f).fields = s.fields := rfl
@[simp] theorem State.modFab_fuses (s : State) (f : Fab → Fab) : (s.modFab f).fuses = s.fuses := rfl
@[simp] theorem State.modFab_pins (s : State) (f : Fab → Fab) : (s.modFab f).pins = s.pins := rfl
@[simp] theorem State.modFab_pilot (s : State) (f : Fab → Fab) : (s.modFab f).pilot = s.pilot := rfl
@[simp] theorem State.modFab_kim (s : State) (f : Fab → Fab) : (s.modFab f).kim = s.kim := rfl
@[simp] theorem State.modFab_parts (s : State) (f : Fab → Fab) : (s.modFab f).parts = s.parts := rfl
@[simp] theorem State.modFab_fwu (s : State) (f : Fab → Fab) : (s.modFab f).fwu = s.fwu := rfl
@[simp] theorem State.modFab_host (s : State) (f : Fab → Fab) : (s.modFab f).host = s.host := rfl
@[simp] theorem State.modFab_faultQ (s : State) (f : Fab → Fab) : (s.modFab f).faultQ = s.faultQ := rfl
@[simp] theorem State.modFab_rings (s : State) (f : Fab → Fab) : (s.modFab f).rings = s.rings := rfl
@[simp] theorem State.modFab_ember (s : State) (f : Fab → Fab) : (s.modFab f).ember = s.ember := rfl
@[simp] theorem State.modFab_mem (s : State) (f : Fab → Fab) : (s.modFab f).mem = s.mem := rfl
@[simp] theorem State.modFab_tiles (s : State) (f : Fab → Fab) : (s.modFab f).tiles = s.tiles := rfl
@[simp] theorem State.modFab_cores (s : State) (f : Fab → Fab) : (s.modFab f).cores = s.cores := rfl
@[simp] theorem State.modFab_xlat (s : State) (f : Fab → Fab) : (s.modFab f).xlat = s.xlat := rfl
@[simp] theorem State.modFab_cch (s : State) (f : Fab → Fab) : (s.modFab f).cch = s.cch := rfl
@[simp] theorem State.modFab_dl (s : State) (f : Fab → Fab) : (s.modFab f).dl = s.dl := rfl
@[simp] theorem State.modFab_fab (s : State) (f : Fab → Fab) : (s.modFab f).fab = f s.fab := rfl
@[simp] theorem State.modFab_seqs (s : State) (f : Fab → Fab) : (s.modFab f).seqs = s.seqs := rfl
@[simp] theorem State.modFab_twin (s : State) (f : Fab → Fab) : (s.modFab f).twin = s.twin := rfl
@[simp] theorem State.modFab_out (s : State) (f : Fab → Fab) : (s.modFab f).out = s.out := rfl
@[simp] theorem State.modFab_freeCtr (s : State) (f : Fab → Fab) : (s.modFab f).freeCtr = s.freeCtr := rfl
@[simp] theorem State.modFab_pending (s : State) (f : Fab → Fab) : (s.modFab f).pending = s.pending := rfl
@[simp] theorem State.modFab_get (s : State) (f : Fab → Fab) (g : Fld) (j : Nat) : (s.modFab f).get g j = s.get g j := rfl
@[simp] theorem State.modFab_flag (s : State) (f : Fab → Fab) (g : Fld) (j : Nat) : (s.modFab f).flag g j = s.flag g j := rfl

@[simp] theorem State.modXlat_fields (s : State) (f : Xlat → Xlat) : (s.modXlat f).fields = s.fields := rfl
@[simp] theorem State.modXlat_fuses (s : State) (f : Xlat → Xlat) : (s.modXlat f).fuses = s.fuses := rfl
@[simp] theorem State.modXlat_pins (s : State) (f : Xlat → Xlat) : (s.modXlat f).pins = s.pins := rfl
@[simp] theorem State.modXlat_pilot (s : State) (f : Xlat → Xlat) : (s.modXlat f).pilot = s.pilot := rfl
@[simp] theorem State.modXlat_kim (s : State) (f : Xlat → Xlat) : (s.modXlat f).kim = s.kim := rfl
@[simp] theorem State.modXlat_parts (s : State) (f : Xlat → Xlat) : (s.modXlat f).parts = s.parts := rfl
@[simp] theorem State.modXlat_fwu (s : State) (f : Xlat → Xlat) : (s.modXlat f).fwu = s.fwu := rfl
@[simp] theorem State.modXlat_host (s : State) (f : Xlat → Xlat) : (s.modXlat f).host = s.host := rfl
@[simp] theorem State.modXlat_faultQ (s : State) (f : Xlat → Xlat) : (s.modXlat f).faultQ = s.faultQ := rfl
@[simp] theorem State.modXlat_rings (s : State) (f : Xlat → Xlat) : (s.modXlat f).rings = s.rings := rfl
@[simp] theorem State.modXlat_ember (s : State) (f : Xlat → Xlat) : (s.modXlat f).ember = s.ember := rfl
@[simp] theorem State.modXlat_mem (s : State) (f : Xlat → Xlat) : (s.modXlat f).mem = s.mem := rfl
@[simp] theorem State.modXlat_tiles (s : State) (f : Xlat → Xlat) : (s.modXlat f).tiles = s.tiles := rfl
@[simp] theorem State.modXlat_cores (s : State) (f : Xlat → Xlat) : (s.modXlat f).cores = s.cores := rfl
@[simp] theorem State.modXlat_xlat (s : State) (f : Xlat → Xlat) : (s.modXlat f).xlat = f s.xlat := rfl
@[simp] theorem State.modXlat_cch (s : State) (f : Xlat → Xlat) : (s.modXlat f).cch = s.cch := rfl
@[simp] theorem State.modXlat_dl (s : State) (f : Xlat → Xlat) : (s.modXlat f).dl = s.dl := rfl
@[simp] theorem State.modXlat_fab (s : State) (f : Xlat → Xlat) : (s.modXlat f).fab = s.fab := rfl
@[simp] theorem State.modXlat_seqs (s : State) (f : Xlat → Xlat) : (s.modXlat f).seqs = s.seqs := rfl
@[simp] theorem State.modXlat_twin (s : State) (f : Xlat → Xlat) : (s.modXlat f).twin = s.twin := rfl
@[simp] theorem State.modXlat_out (s : State) (f : Xlat → Xlat) : (s.modXlat f).out = s.out := rfl
@[simp] theorem State.modXlat_freeCtr (s : State) (f : Xlat → Xlat) : (s.modXlat f).freeCtr = s.freeCtr := rfl
@[simp] theorem State.modXlat_pending (s : State) (f : Xlat → Xlat) : (s.modXlat f).pending = s.pending := rfl
@[simp] theorem State.modXlat_get (s : State) (f : Xlat → Xlat) (g : Fld) (j : Nat) : (s.modXlat f).get g j = s.get g j := rfl
@[simp] theorem State.modXlat_flag (s : State) (f : Xlat → Xlat) (g : Fld) (j : Nat) : (s.modXlat f).flag g j = s.flag g j := rfl

@[simp] theorem State.modFwu_fields (s : State) (f : Fwu → Fwu) : (s.modFwu f).fields = s.fields := rfl
@[simp] theorem State.modFwu_fuses (s : State) (f : Fwu → Fwu) : (s.modFwu f).fuses = s.fuses := rfl
@[simp] theorem State.modFwu_pins (s : State) (f : Fwu → Fwu) : (s.modFwu f).pins = s.pins := rfl
@[simp] theorem State.modFwu_pilot (s : State) (f : Fwu → Fwu) : (s.modFwu f).pilot = s.pilot := rfl
@[simp] theorem State.modFwu_kim (s : State) (f : Fwu → Fwu) : (s.modFwu f).kim = s.kim := rfl
@[simp] theorem State.modFwu_parts (s : State) (f : Fwu → Fwu) : (s.modFwu f).parts = s.parts := rfl
@[simp] theorem State.modFwu_fwu (s : State) (f : Fwu → Fwu) : (s.modFwu f).fwu = f s.fwu := rfl
@[simp] theorem State.modFwu_host (s : State) (f : Fwu → Fwu) : (s.modFwu f).host = s.host := rfl
@[simp] theorem State.modFwu_faultQ (s : State) (f : Fwu → Fwu) : (s.modFwu f).faultQ = s.faultQ := rfl
@[simp] theorem State.modFwu_rings (s : State) (f : Fwu → Fwu) : (s.modFwu f).rings = s.rings := rfl
@[simp] theorem State.modFwu_ember (s : State) (f : Fwu → Fwu) : (s.modFwu f).ember = s.ember := rfl
@[simp] theorem State.modFwu_mem (s : State) (f : Fwu → Fwu) : (s.modFwu f).mem = s.mem := rfl
@[simp] theorem State.modFwu_tiles (s : State) (f : Fwu → Fwu) : (s.modFwu f).tiles = s.tiles := rfl
@[simp] theorem State.modFwu_cores (s : State) (f : Fwu → Fwu) : (s.modFwu f).cores = s.cores := rfl
@[simp] theorem State.modFwu_xlat (s : State) (f : Fwu → Fwu) : (s.modFwu f).xlat = s.xlat := rfl
@[simp] theorem State.modFwu_cch (s : State) (f : Fwu → Fwu) : (s.modFwu f).cch = s.cch := rfl
@[simp] theorem State.modFwu_dl (s : State) (f : Fwu → Fwu) : (s.modFwu f).dl = s.dl := rfl
@[simp] theorem State.modFwu_fab (s : State) (f : Fwu → Fwu) : (s.modFwu f).fab = s.fab := rfl
@[simp] theorem State.modFwu_seqs (s : State) (f : Fwu → Fwu) : (s.modFwu f).seqs = s.seqs := rfl
@[simp] theorem State.modFwu_twin (s : State) (f : Fwu → Fwu) : (s.modFwu f).twin = s.twin := rfl
@[simp] theorem State.modFwu_out (s : State) (f : Fwu → Fwu) : (s.modFwu f).out = s.out := rfl
@[simp] theorem State.modFwu_freeCtr (s : State) (f : Fwu → Fwu) : (s.modFwu f).freeCtr = s.freeCtr := rfl
@[simp] theorem State.modFwu_pending (s : State) (f : Fwu → Fwu) : (s.modFwu f).pending = s.pending := rfl
@[simp] theorem State.modFwu_get (s : State) (f : Fwu → Fwu) (g : Fld) (j : Nat) : (s.modFwu f).get g j = s.get g j := rfl
@[simp] theorem State.modFwu_flag (s : State) (f : Fwu → Fwu) (g : Fld) (j : Nat) : (s.modFwu f).flag g j = s.flag g j := rfl

@[simp] theorem State.modRing_fields (s : State) (r : Nat) (f : Ring → Ring) : (s.modRing r f).fields = s.fields := rfl
@[simp] theorem State.modRing_fuses (s : State) (r : Nat) (f : Ring → Ring) : (s.modRing r f).fuses = s.fuses := rfl
@[simp] theorem State.modRing_pins (s : State) (r : Nat) (f : Ring → Ring) : (s.modRing r f).pins = s.pins := rfl
@[simp] theorem State.modRing_pilot (s : State) (r : Nat) (f : Ring → Ring) : (s.modRing r f).pilot = s.pilot := rfl
@[simp] theorem State.modRing_kim (s : State) (r : Nat) (f : Ring → Ring) : (s.modRing r f).kim = s.kim := rfl
@[simp] theorem State.modRing_parts (s : State) (r : Nat) (f : Ring → Ring) : (s.modRing r f).parts = s.parts := rfl
@[simp] theorem State.modRing_fwu (s : State) (r : Nat) (f : Ring → Ring) : (s.modRing r f).fwu = s.fwu := rfl
@[simp] theorem State.modRing_host (s : State) (r : Nat) (f : Ring → Ring) : (s.modRing r f).host = s.host := rfl
@[simp] theorem State.modRing_faultQ (s : State) (r : Nat) (f : Ring → Ring) : (s.modRing r f).faultQ = s.faultQ := rfl
@[simp] theorem State.modRing_rings (s : State) (r : Nat) (f : Ring → Ring) : (s.modRing r f).rings = kmod s.rings r {} f := rfl
@[simp] theorem State.modRing_ember (s : State) (r : Nat) (f : Ring → Ring) : (s.modRing r f).ember = s.ember := rfl
@[simp] theorem State.modRing_mem (s : State) (r : Nat) (f : Ring → Ring) : (s.modRing r f).mem = s.mem := rfl
@[simp] theorem State.modRing_tiles (s : State) (r : Nat) (f : Ring → Ring) : (s.modRing r f).tiles = s.tiles := rfl
@[simp] theorem State.modRing_cores (s : State) (r : Nat) (f : Ring → Ring) : (s.modRing r f).cores = s.cores := rfl
@[simp] theorem State.modRing_xlat (s : State) (r : Nat) (f : Ring → Ring) : (s.modRing r f).xlat = s.xlat := rfl
@[simp] theorem State.modRing_cch (s : State) (r : Nat) (f : Ring → Ring) : (s.modRing r f).cch = s.cch := rfl
@[simp] theorem State.modRing_dl (s : State) (r : Nat) (f : Ring → Ring) : (s.modRing r f).dl = s.dl := rfl
@[simp] theorem State.modRing_fab (s : State) (r : Nat) (f : Ring → Ring) : (s.modRing r f).fab = s.fab := rfl
@[simp] theorem State.modRing_seqs (s : State) (r : Nat) (f : Ring → Ring) : (s.modRing r f).seqs = s.seqs := rfl
@[simp] theorem State.modRing_twin (s : State) (r : Nat) (f : Ring → Ring) : (s.modRing r f).twin = s.twin := rfl
@[simp] theorem State.modRing_out (s : State) (r : Nat) (f : Ring → Ring) : (s.modRing r f).out = s.out := rfl
@[simp] theorem State.modRing_freeCtr (s : State) (r : Nat) (f : Ring → Ring) : (s.modRing r f).freeCtr = s.freeCtr := rfl
@[simp] theorem State.modRing_pending (s : State) (r : Nat) (f : Ring → Ring) : (s.modRing r f).pending = s.pending := rfl
@[simp] theorem State.modRing_get (s : State) (r : Nat) (f : Ring → Ring) (g : Fld) (j : Nat) : (s.modRing r f).get g j = s.get g j := rfl
@[simp] theorem State.modRing_flag (s : State) (r : Nat) (f : Ring → Ring) (g : Fld) (j : Nat) : (s.modRing r f).flag g j = s.flag g j := rfl

@[simp] theorem State.modTile_fields (s : State) (n : Nat) (f : Tile → Tile) : (s.modTile n f).fields = s.fields := rfl
@[simp] theorem State.modTile_fuses (s : State) (n : Nat) (f : Tile → Tile) : (s.modTile n f).fuses = s.fuses := rfl
@[simp] theorem State.modTile_pins (s : State) (n : Nat) (f : Tile → Tile) : (s.modTile n f).pins = s.pins := rfl
@[simp] theorem State.modTile_pilot (s : State) (n : Nat) (f : Tile → Tile) : (s.modTile n f).pilot = s.pilot := rfl
@[simp] theorem State.modTile_kim (s : State) (n : Nat) (f : Tile → Tile) : (s.modTile n f).kim = s.kim := rfl
@[simp] theorem State.modTile_parts (s : State) (n : Nat) (f : Tile → Tile) : (s.modTile n f).parts = s.parts := rfl
@[simp] theorem State.modTile_fwu (s : State) (n : Nat) (f : Tile → Tile) : (s.modTile n f).fwu = s.fwu := rfl
@[simp] theorem State.modTile_host (s : State) (n : Nat) (f : Tile → Tile) : (s.modTile n f).host = s.host := rfl
@[simp] theorem State.modTile_faultQ (s : State) (n : Nat) (f : Tile → Tile) : (s.modTile n f).faultQ = s.faultQ := rfl
@[simp] theorem State.modTile_rings (s : State) (n : Nat) (f : Tile → Tile) : (s.modTile n f).rings = s.rings := rfl
@[simp] theorem State.modTile_ember (s : State) (n : Nat) (f : Tile → Tile) : (s.modTile n f).ember = s.ember := rfl
@[simp] theorem State.modTile_mem (s : State) (n : Nat) (f : Tile → Tile) : (s.modTile n f).mem = s.mem := rfl
@[simp] theorem State.modTile_tiles (s : State) (n : Nat) (f : Tile → Tile) : (s.modTile n f).tiles = kmod s.tiles n {} f := rfl
@[simp] theorem State.modTile_cores (s : State) (n : Nat) (f : Tile → Tile) : (s.modTile n f).cores = s.cores := rfl
@[simp] theorem State.modTile_xlat (s : State) (n : Nat) (f : Tile → Tile) : (s.modTile n f).xlat = s.xlat := rfl
@[simp] theorem State.modTile_cch (s : State) (n : Nat) (f : Tile → Tile) : (s.modTile n f).cch = s.cch := rfl
@[simp] theorem State.modTile_dl (s : State) (n : Nat) (f : Tile → Tile) : (s.modTile n f).dl = s.dl := rfl
@[simp] theorem State.modTile_fab (s : State) (n : Nat) (f : Tile → Tile) : (s.modTile n f).fab = s.fab := rfl
@[simp] theorem State.modTile_seqs (s : State) (n : Nat) (f : Tile → Tile) : (s.modTile n f).seqs = s.seqs := rfl
@[simp] theorem State.modTile_twin (s : State) (n : Nat) (f : Tile → Tile) : (s.modTile n f).twin = s.twin := rfl
@[simp] theorem State.modTile_out (s : State) (n : Nat) (f : Tile → Tile) : (s.modTile n f).out = s.out := rfl
@[simp] theorem State.modTile_freeCtr (s : State) (n : Nat) (f : Tile → Tile) : (s.modTile n f).freeCtr = s.freeCtr := rfl
@[simp] theorem State.modTile_pending (s : State) (n : Nat) (f : Tile → Tile) : (s.modTile n f).pending = s.pending := rfl
@[simp] theorem State.modTile_get (s : State) (n : Nat) (f : Tile → Tile) (g : Fld) (j : Nat) : (s.modTile n f).get g j = s.get g j := rfl
@[simp] theorem State.modTile_flag (s : State) (n : Nat) (f : Tile → Tile) (g : Fld) (j : Nat) : (s.modTile n f).flag g j = s.flag g j := rfl

@[simp] theorem State.modCore_fields (s : State) (c : Nat) (f : Core → Core) : (s.modCore c f).fields = s.fields := rfl
@[simp] theorem State.modCore_fuses (s : State) (c : Nat) (f : Core → Core) : (s.modCore c f).fuses = s.fuses := rfl
@[simp] theorem State.modCore_pins (s : State) (c : Nat) (f : Core → Core) : (s.modCore c f).pins = s.pins := rfl
@[simp] theorem State.modCore_pilot (s : State) (c : Nat) (f : Core → Core) : (s.modCore c f).pilot = s.pilot := rfl
@[simp] theorem State.modCore_kim (s : State) (c : Nat) (f : Core → Core) : (s.modCore c f).kim = s.kim := rfl
@[simp] theorem State.modCore_parts (s : State) (c : Nat) (f : Core → Core) : (s.modCore c f).parts = s.parts := rfl
@[simp] theorem State.modCore_fwu (s : State) (c : Nat) (f : Core → Core) : (s.modCore c f).fwu = s.fwu := rfl
@[simp] theorem State.modCore_host (s : State) (c : Nat) (f : Core → Core) : (s.modCore c f).host = s.host := rfl
@[simp] theorem State.modCore_faultQ (s : State) (c : Nat) (f : Core → Core) : (s.modCore c f).faultQ = s.faultQ := rfl
@[simp] theorem State.modCore_rings (s : State) (c : Nat) (f : Core → Core) : (s.modCore c f).rings = s.rings := rfl
@[simp] theorem State.modCore_ember (s : State) (c : Nat) (f : Core → Core) : (s.modCore c f).ember = s.ember := rfl
@[simp] theorem State.modCore_mem (s : State) (c : Nat) (f : Core → Core) : (s.modCore c f).mem = s.mem := rfl
@[simp] theorem State.modCore_tiles (s : State) (c : Nat) (f : Core → Core) : (s.modCore c f).tiles = s.tiles := rfl
@[simp] theorem State.modCore_cores (s : State) (c : Nat) (f : Core → Core) : (s.modCore c f).cores = kmod s.cores c {} f := rfl
@[simp] theorem State.modCore_xlat (s : State) (c : Nat) (f : Core → Core) : (s.modCore c f).xlat = s.xlat := rfl
@[simp] theorem State.modCore_cch (s : State) (c : Nat) (f : Core → Core) : (s.modCore c f).cch = s.cch := rfl
@[simp] theorem State.modCore_dl (s : State) (c : Nat) (f : Core → Core) : (s.modCore c f).dl = s.dl := rfl
@[simp] theorem State.modCore_fab (s : State) (c : Nat) (f : Core → Core) : (s.modCore c f).fab = s.fab := rfl
@[simp] theorem State.modCore_seqs (s : State) (c : Nat) (f : Core → Core) : (s.modCore c f).seqs = s.seqs := rfl
@[simp] theorem State.modCore_twin (s : State) (c : Nat) (f : Core → Core) : (s.modCore c f).twin = s.twin := rfl
@[simp] theorem State.modCore_out (s : State) (c : Nat) (f : Core → Core) : (s.modCore c f).out = s.out := rfl
@[simp] theorem State.modCore_freeCtr (s : State) (c : Nat) (f : Core → Core) : (s.modCore c f).freeCtr = s.freeCtr := rfl
@[simp] theorem State.modCore_pending (s : State) (c : Nat) (f : Core → Core) : (s.modCore c f).pending = s.pending := rfl
@[simp] theorem State.modCore_get (s : State) (c : Nat) (f : Core → Core) (g : Fld) (j : Nat) : (s.modCore c f).get g j = s.get g j := rfl
@[simp] theorem State.modCore_flag (s : State) (c : Nat) (f : Core → Core) (g : Fld) (j : Nat) : (s.modCore c f).flag g j = s.flag g j := rfl

@[simp] theorem State.modSeq_fields (s : State) (k : Nat) (f : SeqUnit → SeqUnit) : (s.modSeq k f).fields = s.fields := rfl
@[simp] theorem State.modSeq_fuses (s : State) (k : Nat) (f : SeqUnit → SeqUnit) : (s.modSeq k f).fuses = s.fuses := rfl
@[simp] theorem State.modSeq_pins (s : State) (k : Nat) (f : SeqUnit → SeqUnit) : (s.modSeq k f).pins = s.pins := rfl
@[simp] theorem State.modSeq_pilot (s : State) (k : Nat) (f : SeqUnit → SeqUnit) : (s.modSeq k f).pilot = s.pilot := rfl
@[simp] theorem State.modSeq_kim (s : State) (k : Nat) (f : SeqUnit → SeqUnit) : (s.modSeq k f).kim = s.kim := rfl
@[simp] theorem State.modSeq_parts (s : State) (k : Nat) (f : SeqUnit → SeqUnit) : (s.modSeq k f).parts = s.parts := rfl
@[simp] theorem State.modSeq_fwu (s : State) (k : Nat) (f : SeqUnit → SeqUnit) : (s.modSeq k f).fwu = s.fwu := rfl
@[simp] theorem State.modSeq_host (s : State) (k : Nat) (f : SeqUnit → SeqUnit) : (s.modSeq k f).host = s.host := rfl
@[simp] theorem State.modSeq_faultQ (s : State) (k : Nat) (f : SeqUnit → SeqUnit) : (s.modSeq k f).faultQ = s.faultQ := rfl
@[simp] theorem State.modSeq_rings (s : State) (k : Nat) (f : SeqUnit → SeqUnit) : (s.modSeq k f).rings = s.rings := rfl
@[simp] theorem State.modSeq_ember (s : State) (k : Nat) (f : SeqUnit → SeqUnit) : (s.modSeq k f).ember = s.ember := rfl
@[simp] theorem State.modSeq_mem (s : State) (k : Nat) (f : SeqUnit → SeqUnit) : (s.modSeq k f).mem = s.mem := rfl
@[simp] theorem State.modSeq_tiles (s : State) (k : Nat) (f : SeqUnit → SeqUnit) : (s.modSeq k f).tiles = s.tiles := rfl
@[simp] theorem State.modSeq_cores (s : State) (k : Nat) (f : SeqUnit → SeqUnit) : (s.modSeq k f).cores = s.cores := rfl
@[simp] theorem State.modSeq_xlat (s : State) (k : Nat) (f : SeqUnit → SeqUnit) : (s.modSeq k f).xlat = s.xlat := rfl
@[simp] theorem State.modSeq_cch (s : State) (k : Nat) (f : SeqUnit → SeqUnit) : (s.modSeq k f).cch = s.cch := rfl
@[simp] theorem State.modSeq_dl (s : State) (k : Nat) (f : SeqUnit → SeqUnit) : (s.modSeq k f).dl = s.dl := rfl
@[simp] theorem State.modSeq_fab (s : State) (k : Nat) (f : SeqUnit → SeqUnit) : (s.modSeq k f).fab = s.fab := rfl
@[simp] theorem State.modSeq_seqs (s : State) (k : Nat) (f : SeqUnit → SeqUnit) : (s.modSeq k f).seqs = kmod s.seqs k {} f := rfl
@[simp] theorem State.modSeq_twin (s : State) (k : Nat) (f : SeqUnit → SeqUnit) : (s.modSeq k f).twin = s.twin := rfl
@[simp] theorem State.modSeq_out (s : State) (k : Nat) (f : SeqUnit → SeqUnit) : (s.modSeq k f).out = s.out := rfl
@[simp] theorem State.modSeq_freeCtr (s : State) (k : Nat) (f : SeqUnit → SeqUnit) : (s.modSeq k f).freeCtr = s.freeCtr := rfl
@[simp] theorem State.modSeq_pending (s : State) (k : Nat) (f : SeqUnit → SeqUnit) : (s.modSeq k f).pending = s.pending := rfl
@[simp] theorem State.modSeq_get (s : State) (k : Nat) (f : SeqUnit → SeqUnit) (g : Fld) (j : Nat) : (s.modSeq k f).get g j = s.get g j := rfl
@[simp] theorem State.modSeq_flag (s : State) (k : Nat) (f : SeqUnit → SeqUnit) (g : Fld) (j : Nat) : (s.modSeq k f).flag g j = s.flag g j := rfl

@[simp] theorem State.raise_fields (s : State) (f : FaultRec) : (s.raise f).fields = s.fields := rfl
@[simp] theorem State.raise_fuses (s : State) (f : FaultRec) : (s.raise f).fuses = s.fuses := rfl
@[simp] theorem State.raise_pins (s : State) (f : FaultRec) : (s.raise f).pins = s.pins := rfl
@[simp] theorem State.raise_pilot (s : State) (f : FaultRec) : (s.raise f).pilot = s.pilot := rfl
@[simp] theorem State.raise_kim (s : State) (f : FaultRec) : (s.raise f).kim = s.kim := rfl
@[simp] theorem State.raise_parts (s : State) (f : FaultRec) : (s.raise f).parts = s.parts := rfl
@[simp] theorem State.raise_fwu (s : State) (f : FaultRec) : (s.raise f).fwu = s.fwu := rfl
@[simp] theorem State.raise_host (s : State) (f : FaultRec) : (s.raise f).host = s.host := rfl
@[simp] theorem State.raise_faultQ (s : State) (f : FaultRec) : (s.raise f).faultQ = s.faultQ ++ [f] := rfl
@[simp] theorem State.raise_rings (s : State) (f : FaultRec) : (s.raise f).rings = s.rings := rfl
@[simp] theorem State.raise_ember (s : State) (f : FaultRec) : (s.raise f).ember = s.ember := rfl
@[simp] theorem State.raise_mem (s : State) (f : FaultRec) : (s.raise f).mem = s.mem := rfl
@[simp] theorem State.raise_tiles (s : State) (f : FaultRec) : (s.raise f).tiles = s.tiles := rfl
@[simp] theorem State.raise_cores (s : State) (f : FaultRec) : (s.raise f).cores = s.cores := rfl
@[simp] theorem State.raise_xlat (s : State) (f : FaultRec) : (s.raise f).xlat = s.xlat := rfl
@[simp] theorem State.raise_cch (s : State) (f : FaultRec) : (s.raise f).cch = s.cch := rfl
@[simp] theorem State.raise_dl (s : State) (f : FaultRec) : (s.raise f).dl = s.dl := rfl
@[simp] theorem State.raise_fab (s : State) (f : FaultRec) : (s.raise f).fab = s.fab := rfl
@[simp] theorem State.raise_seqs (s : State) (f : FaultRec) : (s.raise f).seqs = s.seqs := rfl
@[simp] theorem State.raise_twin (s : State) (f : FaultRec) : (s.raise f).twin = s.twin := rfl
@[simp] theorem State.raise_out (s : State) (f : FaultRec) : (s.raise f).out = s.out := rfl
@[simp] theorem State.raise_freeCtr (s : State) (f : FaultRec) : (s.raise f).freeCtr = s.freeCtr := rfl
@[simp] theorem State.raise_pending (s : State) (f : FaultRec) : (s.raise f).pending = s.pending := rfl
@[simp] theorem State.raise_get (s : State) (f : FaultRec) (g : Fld) (j : Nat) : (s.raise f).get g j = s.get g j := rfl
@[simp] theorem State.raise_flag (s : State) (f : FaultRec) (g : Fld) (j : Nat) : (s.raise f).flag g j = s.flag g j := rfl

/-- A record update that leaves the register list leaves every register field. -/
@[simp] theorem State.get_mk (s : State) (fu pi pl ki pa fw ho fq ri em me ti co xl cc dl fa se tw ou fr pe) (f : Fld) (i : Nat) :
    State.get ⟨s.fields, fu, pi, pl, ki, pa, fw, ho, fq, ri, em, me, ti, co, xl, cc, dl, fa, se, tw, ou, fr, pe⟩ f i = s.get f i := rfl

@[simp] theorem State.flag_mk (s : State) (fu pi pl ki pa fw ho fq ri em me ti co xl cc dl fa se tw ou fr pe) (f : Fld) (i : Nat) :
    State.flag ⟨s.fields, fu, pi, pl, ki, pa, fw, ho, fq, ri, em, me, ti, co, xl, cc, dl, fa, se, tw, ou, fr, pe⟩ f i = s.flag f i := rfl

/-! ### The register list -/

theorem cellFind_del_same (f : Fld) (i : Nat) (l : List FCell) : cellFind f i (cellDel f i l) = none := by
  induction l with
  | nil => rfl
  | cons c rest ih =>
    unfold cellDel
    split
    · exact ih
    · rename_i h; simp [cellFind, h, ih]

theorem cellFind_del_ne {f g : Fld} {i j : Nat} (h : ¬(f = g ∧ i = j)) (l : List FCell) :
    cellFind g j (cellDel f i l) = cellFind g j l := by
  induction l with
  | nil => rfl
  | cons c rest ih =>
    unfold cellDel
    split
    · rename_i hc
      have : ¬(c.fld = g ∧ c.inst = j) := fun hg => h ⟨hc.1.symm.trans hg.1, hc.2.symm.trans hg.2⟩
      simp [cellFind, this, ih]
    · simp only [cellFind, ih]

theorem cellFind_put_same (f : Fld) (i v : Nat) (l : List FCell) : cellFind f i (cellPut f i v l) = some v := by
  induction l with
  | nil => simp [cellPut, cellFind]
  | cons c rest ih =>
    unfold cellPut
    split
    · simp [cellFind]
    · split
      · simp [cellFind]
      · rename_i h _; simp [cellFind, h, ih]

theorem cellFind_put_ne {f g : Fld} {i j : Nat} (v : Nat) (h : ¬(f = g ∧ i = j)) (l : List FCell) :
    cellFind g j (cellPut f i v l) = cellFind g j l := by
  induction l with
  | nil => simp [cellPut, cellFind, h]
  | cons c rest ih =>
    unfold cellPut
    split
    · rename_i hc
      have : ¬(c.fld = g ∧ c.inst = j) := fun hg => h ⟨hc.1.symm.trans hg.1, hc.2.symm.trans hg.2⟩
      simp [cellFind, h, this]
    · split
      · simp [cellFind, h]
      · simp only [cellFind, ih]

/-- A field reads as it was written, cut to its width. -/
theorem State.get_put_same (s : State) (f : Fld) (i v : Nat) : (s.put f i v).get f i = v % 2 ^ f.info.width := by
  simp only [State.get, State.put]
  split
  · rename_i h; simp [cellFind_del_same, h]
  · simp [cellFind_put_same]

/-- A write of one field instance leaves every other as it was. -/
theorem State.get_put_ne (s : State) {f g : Fld} {i j : Nat} (v : Nat) (h : ¬(f = g ∧ i = j)) :
    (s.put f i v).get g j = s.get g j := by
  simp only [State.get, State.put]
  split
  · rw [cellFind_del_ne h]
  · rw [cellFind_put_ne _ h]

/-- Both at once, for rewriting. -/
@[simp] theorem State.get_put (s : State) (f g : Fld) (i j v : Nat) :
    (s.put f i v).get g j = if f = g ∧ i = j then v % 2 ^ f.info.width else s.get g j := by
  split
  · rename_i h; obtain ⟨rfl, rfl⟩ := h; exact s.get_put_same f i v
  · rename_i h; exact s.get_put_ne v h

@[simp] theorem State.flag_put (s : State) (f g : Fld) (i j v : Nat) :
    (s.put f i v).flag g j = if f = g ∧ i = j then v % 2 ^ f.info.width != 0 else s.flag g j := by
  simp only [State.flag, State.get_put]; split <;> rfl

/-! ### Sparse maps -/

@[simp] theorem kfind_kput_same {α : Type} (k : Nat) (v : α) (m : KMap α) : kfind? k (kput k v m) = some v := by
  induction m with
  | nil => simp [kput, kfind?]
  | cons e rest ih =>
    obtain ⟨j, w⟩ := e
    unfold kput
    split
    · simp [kfind?]
    · split
      · simp [kfind?]
      · rename_i h; simp [kfind?, Ne.symm h, ih]

theorem kfind_kput_ne {α : Type} {k j : Nat} (h : j ≠ k) (v : α) (m : KMap α) : kfind? j (kput k v m) = kfind? j m := by
  induction m with
  | nil => simp [kput, kfind?, Ne.symm h]
  | cons e rest ih =>
    obtain ⟨x, w⟩ := e
    unfold kput
    split
    · simp [kfind?, Ne.symm h]
    · split
      · rename_i hk; subst hk; simp [kfind?, Ne.symm h]
      · simp only [kfind?, ih]

/-- An entry reads as it was put. -/
@[simp] theorem kgetD_kput_same {α : Type} (m : KMap α) (k : Nat) (v d : α) : kgetD (kput k v m) k d = v := by
  simp [kgetD]

/-- Putting an entry leaves the others. -/
theorem kgetD_kput_ne {α : Type} {k j : Nat} (h : j ≠ k) (m : KMap α) (v d : α) : kgetD (kput k v m) j d = kgetD m j d := by
  simp [kgetD, kfind_kput_ne h]

@[simp] theorem kgetD_kmod_same {α : Type} (m : KMap α) (k : Nat) (d : α) (f : α → α) : kgetD (kmod m k d f) k d = f (kgetD m k d) := by
  simp [kmod]

theorem kgetD_kmod_ne {α : Type} {k j : Nat} (h : j ≠ k) (m : KMap α) (d : α) (f : α → α) : kgetD (kmod m k d f) j d = kgetD m j d := by
  simp [kmod, kgetD_kput_ne h]

@[simp] theorem State.part_modPart (s : State) (p : Nat) (f : Part → Part) : (s.modPart p f).part p = f (s.part p) := by
  simp [State.part]

@[simp] theorem State.fn_modFn (s : State) (n : Nat) (f : FnCfg → FnCfg) : (s.modFn n f).fn n = f (s.fn n) := by
  simp [State.fn]

end Sys2Proof.Machine
end

