-- ==== Sys2Proof/Laws/Touch.lean ====
section
/-! SUPPORT. What an operation may change: Touch M s t says that t differs from s only in the parts whose bits M has, that
outputs are only added, the queue of commands is left alone, and canonical forms stay canonical. Bit k of M below 23 is
part k of the state in the order of its declaration, bit 23 the stored bytes of HBM, bit 24 + k register field k. -/
namespace Sys2Proof.Machine

/-! ### The canonical register list -/

theorem FCell.before_iff (f : Fld) (i : Nat) (c : FCell) :
    c.before f i = true ↔ f.ctorIdx < c.fld.ctorIdx ∨ (f.ctorIdx = c.fld.ctorIdx ∧ i < c.inst) := by
  simp [FCell.before]

theorem Fld.ctorIdx_inj {f g : Fld} (h : f.ctorIdx = g.ctorIdx) : f = g := by
  have hf : Fld.ofNat f.ctorIdx = f := by cases f <;> rfl
  have hg : Fld.ofNat g.ctorIdx = g := by cases g <;> rfl
  rw [← hf, ← hg, h]

theorem FCell.not_before {f : Fld} {i : Nat} {c : FCell} (h : c.before f i = false) (hne : ¬(c.fld = f ∧ c.inst = i)) :
    (⟨f, i, 0⟩ : FCell).before c.fld c.inst = true := by
  rw [FCell.before_iff]
  have h' : ¬ (c.before f i = true) := by simp [h]
  rw [FCell.before_iff] at h'
  by_cases hfi : f.ctorIdx = c.fld.ctorIdx
  · have hf := Fld.ctorIdx_inj hfi
    have : ¬ c.inst = i := fun hi => hne ⟨hf.symm, hi⟩
    simp only [not_or, not_and, not_lt] at h'
    exact Or.inr ⟨hfi.symm, by have := h'.2 hfi; simp only; omega⟩
  · simp only [not_or, not_lt] at h'
    have := h'.1
    left; simp only; omega

theorem cellsAbove_mono {lo : Option FCell} {b : FCell} {l : List FCell} (hlo : ∀ a, lo = some a → b.before a.fld a.inst = true)
    (h : cellsAbove (some b) l = true) : cellsAbove lo l = true := by
  cases l with
  | nil => rfl
  | cons c rest =>
    simp only [cellsAbove, Bool.and_eq_true] at h ⊢
    refine ⟨⟨?_, h.1.2⟩, h.2⟩
    cases lo with
    | none => rfl
    | some a =>
      have h1 := hlo a rfl
      have h2 := h.1.1
      simp only [FCell.before_iff] at h1 h2 ⊢
      omega

theorem cellsAbove_del {lo : Option FCell} {l : List FCell} (f : Fld) (i : Nat) (h : cellsAbove lo l = true) :
    cellsAbove lo (cellDel f i l) = true := by
  induction l generalizing lo with
  | nil => rfl
  | cons c rest ih =>
    simp only [cellsAbove, Bool.and_eq_true] at h
    unfold cellDel
    split
    · exact ih (cellsAbove_mono (fun a ha => by subst ha; exact h.1.1) h.2)
    · simp only [cellsAbove, Bool.and_eq_true]; exact ⟨h.1, ih h.2⟩

theorem cellsAbove_filter {lo : Option FCell} {l : List FCell} (p : FCell → Bool) (h : cellsAbove lo l = true) :
    cellsAbove lo (l.filter p) = true := by
  induction l generalizing lo with
  | nil => rfl
  | cons c rest ih =>
    simp only [cellsAbove, Bool.and_eq_true] at h
    rw [List.filter_cons]
    split
    · simp only [cellsAbove, Bool.and_eq_true]; exact ⟨h.1, ih h.2⟩
    · exact ih (cellsAbove_mono (fun a ha => by subst ha; exact h.1.1) h.2)

theorem cellsAbove_congr {a b : FCell} (hf : a.fld = b.fld) (hi : a.inst = b.inst) (l : List FCell) :
    cellsAbove (some a) l = cellsAbove (some b) l := by
  cases l with
  | nil => rfl
  | cons c rest => simp [cellsAbove, hf, hi]

theorem cellsAbove_put {lo : Option FCell} {l : List FCell} (f : Fld) (i v : Nat) (hok : (⟨f, i, v⟩ : FCell).ok = true)
    (hlo : ∀ a, lo = some a → (⟨f, i, v⟩ : FCell).before a.fld a.inst = true) (h : cellsAbove lo l = true) :
    cellsAbove lo (cellPut f i v l) = true := by
  induction l generalizing lo with
  | nil =>
    simp only [cellPut, cellsAbove, hok, Bool.and_true]
    cases lo with
    | none => rfl
    | some a => exact hlo a rfl
  | cons c rest ih =>
    simp only [cellsAbove, Bool.and_eq_true] at h
    unfold cellPut
    split
    · rename_i hc
      simp only [cellsAbove, Bool.and_eq_true]
      refine ⟨⟨?_, hok⟩, (cellsAbove_congr hc.1.symm hc.2.symm rest).trans h.2⟩
      cases lo with
      | none => rfl
      | some a => exact hlo a rfl
    · rename_i hne
      split
      · rename_i hb
        simp only [cellsAbove, Bool.and_eq_true]
        refine ⟨⟨?_, hok⟩, ⟨hb, h.1.2⟩, h.2⟩
        cases lo with
        | none => rfl
        | some a => exact hlo a rfl
      · rename_i hb
        simp only [cellsAbove, Bool.and_eq_true]
        refine ⟨h.1, ih (fun a ha => ?_) h.2⟩
        cases ha
        have := FCell.not_before (by simpa using hb) hne
        simpa [FCell.before] using this


/-- A write of a register field keeps the canonical form. -/
theorem State.put_fieldsOk (s : State) (f : Fld) (i v : Nat) (h : cellsAbove none s.fields = true) :
    cellsAbove none (s.put f i v).fields = true := by
  simp only [State.put]
  split
  · exact cellsAbove_del f i h
  · rename_i hne
    refine cellsAbove_put f i _ ?_ (fun a ha => by cases ha) h
    simp [FCell.ok, hne, Nat.mod_lt]

/-! ### The store of bytes -/

theorem Mem.above_mono {lo : Option Nat} {b : Nat} {m : Mem} (hlo : ∀ a, lo = some a → a < b) (h : Mem.above (some b) m = true) :
    Mem.above lo m = true := by
  cases m with
  | nil => rfl
  | cons c rest =>
    obtain ⟨j, x⟩ := c
    simp only [Mem.above, Bool.and_eq_true, decide_eq_true_eq] at h ⊢
    refine ⟨⟨?_, h.1.2⟩, h.2⟩
    cases lo with
    | none => rfl
    | some a => have := hlo a rfl; simp; omega

theorem Mem.above_write {lo : Option Nat} {m : Mem} (a : Nat) (b : Byte) (hlo : ∀ l, lo = some l → l < a)
    (h : Mem.above lo m = true) : Mem.above lo (m.write a b) = true := by
  induction m generalizing lo with
  | nil =>
    unfold Mem.write
    split
    · rfl
    · rename_i hb
      simp only [Mem.above, Bool.and_true, Bool.and_eq_true, bne_iff_ne, ne_eq, hb, not_false_eq_true, and_true]
      cases lo with
      | none => rfl
      | some l => simp [hlo l rfl]
  | cons c rest ih =>
    obtain ⟨j, x⟩ := c
    have h0 := h
    simp only [Mem.above, Bool.and_eq_true] at h
    have hla : ∀ (hb : ¬ b = 0) (r : Mem), Mem.above (some a) r = true → Mem.above lo ((a, b) :: r) = true := by
      intro hb r hr
      simp only [Mem.above, Bool.and_eq_true, bne_iff_ne, ne_eq, hb, not_false_eq_true, and_true, hr]
      cases lo with
      | none => rfl
      | some l => simp [hlo l rfl]
    unfold Mem.write
    split
    · rename_i haj
      split
      · exact h0
      · rename_i hb
        refine hla hb _ ?_
        simp only [Mem.above, Bool.and_eq_true, decide_eq_true_eq]
        exact ⟨⟨haj, h.1.2⟩, h.2⟩
    · split
      · rename_i hj
        subst hj
        split
        · exact Mem.above_mono hlo h.2
        · rename_i hb; exact hla hb _ h.2
      · rename_i h1 h2
        simp only [Mem.above, Bool.and_eq_true]
        exact ⟨h.1, ih (fun l hl => by cases hl; omega) h.2⟩

/-- Writing a byte keeps the canonical form of a store. -/
theorem Mem.write_wf {m : Mem} (a : Nat) (b : Byte) (h : m.wf = true) : (m.write a b).wf = true :=
  Mem.above_write a b (fun _ hl => by cases hl) h

/-- Writing bytes keeps the canonical form of a store. -/
theorem Mem.writeN_wf {m : Mem} (a : Nat) (bs : List Byte) (h : m.wf = true) : (Mem.writeN a bs m).wf = true := by
  induction bs generalizing a m with
  | nil => exact h
  | cons b bs ih => exact ih (a + 1) (Mem.write_wf a b h)

/-- A filtered store is in canonical form. -/
theorem Mem.filter_above {lo : Option Nat} {m : Mem} (p : Host.Cell → Bool) (h : Mem.above lo m = true) :
    Mem.above lo (m.filter p) = true := by
  induction m generalizing lo with
  | nil => rfl
  | cons c rest ih =>
    obtain ⟨j, x⟩ := c
    simp only [Mem.above, Bool.and_eq_true] at h
    rw [List.filter_cons]
    split
    · simp only [Mem.above, Bool.and_eq_true]; exact ⟨h.1, ih h.2⟩
    · refine ih (Mem.above_mono (fun a ha => ?_) h.2)
      subst ha; simpa using h.1.1

/-- A byte other than the one written reads as before. -/
theorem Mem.read_write_ne {a c : Nat} (b : Byte) (m : Mem) (h : c ≠ a) : (m.write a b).read c = m.read c := by
  induction m with
  | nil =>
    unfold Mem.write
    split
    · rfl
    · simp [Mem.read, Ne.symm h]
  | cons e rest ih =>
    obtain ⟨j, x⟩ := e
    unfold Mem.write
    split
    · split
      · rfl
      · simp [Mem.read, Ne.symm h]
    · split
      · rename_i hj; subst hj
        split
        · simp [Mem.read, Ne.symm h]
        · simp [Mem.read, Ne.symm h]
      · simp only [Mem.read, ih]

theorem Mem.read_above {m : Mem} {l a : Nat} (h : Mem.above (some l) m = true) (ha : a ≤ l) : m.read a = 0 := by
  induction m generalizing l with
  | nil => rfl
  | cons e rest ih =>
    obtain ⟨j, x⟩ := e
    simp only [Mem.above, Bool.and_eq_true, decide_eq_true_eq] at h
    have hne : ¬ j = a := by omega
    simp only [Mem.read, hne, if_false]
    exact ih h.2 (by omega)

/-- In a canonical store a byte reads as it was written. -/
theorem Mem.read_write_same {m : Mem} (a : Nat) (b : Byte) (h : m.wf = true) : (m.write a b).read a = b := by
  have key : ∀ lo, Mem.above lo m = true → (m.write a b).read a = b := by
    induction m with
    | nil => intro lo _; unfold Mem.write; split <;> simp_all [Mem.read]
    | cons e rest ih =>
      intro lo hm
      obtain ⟨j, x⟩ := e
      simp only [Mem.above, Bool.and_eq_true] at hm
      unfold Mem.write
      split
      · rename_i haj
        split
        · rename_i hb
          have hne : ¬ j = a := by omega
          simp only [Mem.read, hne, if_false, hb]
          exact Mem.read_above hm.2 (by omega)
        · simp [Mem.read]
      · split
        · rename_i hj; subst hj
          split
          · rename_i hb; rw [hb]; exact Mem.read_above hm.2 (Nat.le_refl _)
          · simp [Mem.read]
        · rename_i h1 h2
          have hne : ¬ j = a := fun hh => h2 hh.symm
          simp only [Mem.read, hne, if_false]
          exact ih (Mem.above_mono (lo := none) (fun _ hl => by cases hl) hm.2) _ hm.2
  exact key none h

/-! ### What an operation may change -/

/-- t differs from s only in the parts that M names; outputs are only added, free values only drawn, no command is taken or added
to the queue, and canonical forms stay canonical. -/
structure Touch (M : Nat) (s t : State) : Prop where
  get : ∀ f i, M.testBit (24 + f.ctorIdx) = false → t.get f i = s.get f i
  fuses : M.testBit 1 = false → t.fuses = s.fuses
  pins : M.testBit 2 = false → t.pins = s.pins
  pilot : M.testBit 3 = false → t.pilot = s.pilot
  kim : M.testBit 4 = false → t.kim = s.kim
  parts : M.testBit 5 = false → t.parts = s.parts
  fwu : M.testBit 6 = false → t.fwu = s.fwu
  host : M.testBit 7 = false → t.host = s.host
  faultQ : M.testBit 8 = false → t.faultQ = s.faultQ
  rings : M.testBit 9 = false → t.rings = s.rings
  ember : M.testBit 10 = false → t.ember = s.ember
  tiles : M.testBit 12 = false → t.tiles = s.tiles
  cores : M.testBit 13 = false → t.cores = s.cores
  xlat : M.testBit 14 = false → t.xlat = s.xlat
  cch : M.testBit 15 = false → t.cch = s.cch
  dl : M.testBit 16 = false → t.dl = s.dl
  fab : M.testBit 17 = false → t.fab = s.fab
  seqs : M.testBit 18 = false → t.seqs = s.seqs
  twin : M.testBit 19 = false → t.twin = s.twin
  mem : M.testBit 11 = false → t.mem = s.mem
  cells : M.testBit 23 = false → t.mem.cells = s.mem.cells
  sent : M.testBit 20 = false → t.out = s.out
  drawn : M.testBit 21 = false → t.freeCtr = s.freeCtr
  out : s.out <:+ t.out
  freeCtr : s.freeCtr ≤ t.freeCtr
  pending : t.pending = s.pending
  fieldsOk : cellsAbove none s.fields = true → cellsAbove none t.fields = true
  memOk : s.mem.cells.wf = true → t.mem.cells.wf = true

theorem Touch.refl (M : Nat) (s : State) : Touch M s s where
  get _ _ _ := rfl
  fuses _ := rfl
  pins _ := rfl
  pilot _ := rfl
  kim _ := rfl
  parts _ := rfl
  fwu _ := rfl
  host _ := rfl
  faultQ _ := rfl
  rings _ := rfl
  ember _ := rfl
  tiles _ := rfl
  cores _ := rfl
  xlat _ := rfl
  cch _ := rfl
  dl _ := rfl
  fab _ := rfl
  seqs _ := rfl
  twin _ := rfl
  mem _ := rfl
  cells _ := rfl
  sent _ := rfl
  drawn _ := rfl
  out := List.suffix_refl _
  freeCtr := Nat.le_refl _
  pending := rfl
  fieldsOk h := h
  memOk h := h

/-- An operation that changes less than M allows, after one that M allows. -/
theorem Touch.step {M F : Nat} {s u t : State} (h : Touch M s u) (hf : Touch F u t) (hm : F ||| M = M) : Touch M s t := by
  have hb : ∀ k, M.testBit k = false → F.testBit k = false := by
    intro k hk; rw [← hm] at hk; simp at hk; exact hk.1
  constructor
  · exact fun f i hk => (hf.get f i (hb _ hk)).trans (h.get f i hk)
  · exact fun hk => (hf.fuses (hb _ hk)).trans (h.fuses hk)
  · exact fun hk => (hf.pins (hb _ hk)).trans (h.pins hk)
  · exact fun hk => (hf.pilot (hb _ hk)).trans (h.pilot hk)
  · exact fun hk => (hf.kim (hb _ hk)).trans (h.kim hk)
  · exact fun hk => (hf.parts (hb _ hk)).trans (h.parts hk)
  · exact fun hk => (hf.fwu (hb _ hk)).trans (h.fwu hk)
  · exact fun hk => (hf.host (hb _ hk)).trans (h.host hk)
  · exact fun hk => (hf.faultQ (hb _ hk)).trans (h.faultQ hk)
  · exact fun hk => (hf.rings (hb _ hk)).trans (h.rings hk)
  · exact fun hk => (hf.ember (hb _ hk)).trans (h.ember hk)
  · exact fun hk => (hf.tiles (hb _ hk)).trans (h.tiles hk)
  · exact fun hk => (hf.cores (hb _ hk)).trans (h.cores hk)
  · exact fun hk => (hf.xlat (hb _ hk)).trans (h.xlat hk)
  · exact fun hk => (hf.cch (hb _ hk)).trans (h.cch hk)
  · exact fun hk => (hf.dl (hb _ hk)).trans (h.dl hk)
  · exact fun hk => (hf.fab (hb _ hk)).trans (h.fab hk)
  · exact fun hk => (hf.seqs (hb _ hk)).trans (h.seqs hk)
  · exact fun hk => (hf.twin (hb _ hk)).trans (h.twin hk)
  · exact fun hk => (hf.mem (hb _ hk)).trans (h.mem hk)
  · exact fun hk => (hf.cells (hb _ hk)).trans (h.cells hk)
  · exact fun hk => (hf.sent (hb _ hk)).trans (h.sent hk)
  · exact fun hk => (hf.drawn (hb _ hk)).trans (h.drawn hk)
  · exact h.out.trans hf.out
  · exact Nat.le_trans h.freeCtr hf.freeCtr
  · exact hf.pending.trans h.pending
  · exact fun hk => hf.fieldsOk (h.fieldsOk hk)
  · exact fun hk => hf.memOk (h.memOk hk)

theorem Touch.cut {M : Nat} {s t : State} (x : State) (h : Touch M s x) (hg : Touch M s x → Touch M s t) : Touch M s t := hg h

theorem Touch.weaken {M F : Nat} {s t : State} (hf : Touch F s t) (hm : F ||| M = M) : Touch M s t :=
  (Touch.refl M s).step hf hm

theorem Touch.ite {M : Nat} {s a b : State} {c : Prop} [Decidable c] (ha : Touch M s a) (hb : Touch M s b) :
    Touch M s (if c then a else b) := by split <;> assumption

theorem Touch.foldl {α : Type} {M : Nat} {s init : State} {f : State → α → State} {l : List α} (h : Touch M s init)
    (hf : ∀ u x, Touch M s u → Touch M s (f u x)) : Touch M s (l.foldl f init) := by
  induction l generalizing init with
  | nil => exact h
  | cons x xs ih => exact ih (hf _ _ h)

theorem Touch.foldlFst {α β : Type} {M : Nat} {s : State} {init : State × β} {f : State × β → α → State × β} {l : List α}
    (h : Touch M s init.1) (hf : ∀ u x, Touch M s u.1 → Touch M s (f u x).1) : Touch M s (l.foldl f init).1 := by
  induction l generalizing init with
  | nil => exact h
  | cons x xs ih => exact ih (hf _ _ h)

theorem Touch.foldlSnd {α β : Type} {M : Nat} {s : State} {init : β × State} {f : β × State → α → β × State} {l : List α}
    (h : Touch M s init.2) (hf : ∀ u x, Touch M s u.2 → Touch M s (f u x).2) : Touch M s (l.foldl f init).2 := by
  induction l generalizing init with
  | nil => exact h
  | cons x xs ih => exact ih (hf _ _ h)

/-! ### Elementary updates -/

theorem State.put_touch (s : State) (f : Fld) (i v : Nat) : Touch (2 ^ (24 + f.ctorIdx)) s (s.put f i v) where
  get g j hk := by
    have : ¬ (f = g ∧ i = j) := by rintro ⟨rfl, rfl⟩; simp at hk
    simp [this]
  fuses _ := rfl
  pins _ := rfl
  pilot _ := rfl
  kim _ := rfl
  parts _ := rfl
  fwu _ := rfl
  host _ := rfl
  faultQ _ := rfl
  rings _ := rfl
  ember _ := rfl
  tiles _ := rfl
  cores _ := rfl
  xlat _ := rfl
  cch _ := rfl
  dl _ := rfl
  fab _ := rfl
  seqs _ := rfl
  twin _ := rfl
  mem _ := rfl
  cells _ := rfl
  sent _ := rfl
  drawn _ := rfl
  out := List.suffix_refl _
  freeCtr := Nat.le_refl _
  pending := rfl
  fieldsOk h := s.put_fieldsOk f i v h
  memOk h := h

theorem Touch.fusesWith (s : State) (v) : Touch 2 s { s with fuses := v } where
  get _ _ _ := rfl
  fuses h := absurd h (by decide)
  pins _ := rfl
  pilot _ := rfl
  kim _ := rfl
  parts _ := rfl
  fwu _ := rfl
  host _ := rfl
  faultQ _ := rfl
  rings _ := rfl
  ember _ := rfl
  tiles _ := rfl
  cores _ := rfl
  xlat _ := rfl
  cch _ := rfl
  dl _ := rfl
  fab _ := rfl
  seqs _ := rfl
  twin _ := rfl
  mem _ := rfl
  cells _ := rfl
  sent _ := rfl
  drawn _ := rfl
  out := List.suffix_refl _
  freeCtr := Nat.le_refl _
  pending := rfl
  fieldsOk h := h
  memOk h := h

theorem Touch.pinsWith (s : State) (v) : Touch 4 s { s with pins := v } where
  get _ _ _ := rfl
  fuses _ := rfl
  pins h := absurd h (by decide)
  pilot _ := rfl
  kim _ := rfl
  parts _ := rfl
  fwu _ := rfl
  host _ := rfl
  faultQ _ := rfl
  rings _ := rfl
  ember _ := rfl
  tiles _ := rfl
  cores _ := rfl
  xlat _ := rfl
  cch _ := rfl
  dl _ := rfl
  fab _ := rfl
  seqs _ := rfl
  twin _ := rfl
  mem _ := rfl
  cells _ := rfl
  sent _ := rfl
  drawn _ := rfl
  out := List.suffix_refl _
  freeCtr := Nat.le_refl _
  pending := rfl
  fieldsOk h := h
  memOk h := h

theorem Touch.pilotWith (s : State) (v) : Touch 8 s { s with pilot := v } where
  get _ _ _ := rfl
  fuses _ := rfl
  pins _ := rfl
  pilot h := absurd h (by decide)
  kim _ := rfl
  parts _ := rfl
  fwu _ := rfl
  host _ := rfl
  faultQ _ := rfl
  rings _ := rfl
  ember _ := rfl
  tiles _ := rfl
  cores _ := rfl
  xlat _ := rfl
  cch _ := rfl
  dl _ := rfl
  fab _ := rfl
  seqs _ := rfl
  twin _ := rfl
  mem _ := rfl
  cells _ := rfl
  sent _ := rfl
  drawn _ := rfl
  out := List.suffix_refl _
  freeCtr := Nat.le_refl _
  pending := rfl
  fieldsOk h := h
  memOk h := h

theorem Touch.kimWith (s : State) (v) : Touch 16 s { s with kim := v } where
  get _ _ _ := rfl
  fuses _ := rfl
  pins _ := rfl
  pilot _ := rfl
  kim h := absurd h (by decide)
  parts _ := rfl
  fwu _ := rfl
  host _ := rfl
  faultQ _ := rfl
  rings _ := rfl
  ember _ := rfl
  tiles _ := rfl
  cores _ := rfl
  xlat _ := rfl
  cch _ := rfl
  dl _ := rfl
  fab _ := rfl
  seqs _ := rfl
  twin _ := rfl
  mem _ := rfl
  cells _ := rfl
  sent _ := rfl
  drawn _ := rfl
  out := List.suffix_refl _
  freeCtr := Nat.le_refl _
  pending := rfl
  fieldsOk h := h
  memOk h := h

theorem Touch.partsWith (s : State) (v) : Touch 32 s { s with parts := v } where
  get _ _ _ := rfl
  fuses _ := rfl
  pins _ := rfl
  pilot _ := rfl
  kim _ := rfl
  parts h := absurd h (by decide)
  fwu _ := rfl
  host _ := rfl
  faultQ _ := rfl
  rings _ := rfl
  ember _ := rfl
  tiles _ := rfl
  cores _ := rfl
  xlat _ := rfl
  cch _ := rfl
  dl _ := rfl
  fab _ := rfl
  seqs _ := rfl
  twin _ := rfl
  mem _ := rfl
  cells _ := rfl
  sent _ := rfl
  drawn _ := rfl
  out := List.suffix_refl _
  freeCtr := Nat.le_refl _
  pending := rfl
  fieldsOk h := h
  memOk h := h

theorem Touch.fwuWith (s : State) (v) : Touch 64 s { s with fwu := v } where
  get _ _ _ := rfl
  fuses _ := rfl
  pins _ := rfl
  pilot _ := rfl
  kim _ := rfl
  parts _ := rfl
  fwu h := absurd h (by decide)
  host _ := rfl
  faultQ _ := rfl
  rings _ := rfl
  ember _ := rfl
  tiles _ := rfl
  cores _ := rfl
  xlat _ := rfl
  cch _ := rfl
  dl _ := rfl
  fab _ := rfl
  seqs _ := rfl
  twin _ := rfl
  mem _ := rfl
  cells _ := rfl
  sent _ := rfl
  drawn _ := rfl
  out := List.suffix_refl _
  freeCtr := Nat.le_refl _
  pending := rfl
  fieldsOk h := h
  memOk h := h

theorem Touch.hostWith (s : State) (v) : Touch 128 s { s with host := v } where
  get _ _ _ := rfl
  fuses _ := rfl
  pins _ := rfl
  pilot _ := rfl
  kim _ := rfl
  parts _ := rfl
  fwu _ := rfl
  host h := absurd h (by decide)
  faultQ _ := rfl
  rings _ := rfl
  ember _ := rfl
  tiles _ := rfl
  cores _ := rfl
  xlat _ := rfl
  cch _ := rfl
  dl _ := rfl
  fab _ := rfl
  seqs _ := rfl
  twin _ := rfl
  mem _ := rfl
  cells _ := rfl
  sent _ := rfl
  drawn _ := rfl
  out := List.suffix_refl _
  freeCtr := Nat.le_refl _
  pending := rfl
  fieldsOk h := h
  memOk h := h

theorem Touch.faultQWith (s : State) (v) : Touch 256 s { s with faultQ := v } where
  get _ _ _ := rfl
  fuses _ := rfl
  pins _ := rfl
  pilot _ := rfl
  kim _ := rfl
  parts _ := rfl
  fwu _ := rfl
  host _ := rfl
  faultQ h := absurd h (by decide)
  rings _ := rfl
  ember _ := rfl
  tiles _ := rfl
  cores _ := rfl
  xlat _ := rfl
  cch _ := rfl
  dl _ := rfl
  fab _ := rfl
  seqs _ := rfl
  twin _ := rfl
  mem _ := rfl
  cells _ := rfl
  sent _ := rfl
  drawn _ := rfl
  out := List.suffix_refl _
  freeCtr := Nat.le_refl _
  pending := rfl
  fieldsOk h := h
  memOk h := h

theorem Touch.ringsWith (s : State) (v) : Touch 512 s { s with rings := v } where
  get _ _ _ := rfl
  fuses _ := rfl
  pins _ := rfl
  pilot _ := rfl
  kim _ := rfl
  parts _ := rfl
  fwu _ := rfl
  host _ := rfl
  faultQ _ := rfl
  rings h := absurd h (by decide)
  ember _ := rfl
  tiles _ := rfl
  cores _ := rfl
  xlat _ := rfl
  cch _ := rfl
  dl _ := rfl
  fab _ := rfl
  seqs _ := rfl
  twin _ := rfl
  mem _ := rfl
  cells _ := rfl
  sent _ := rfl
  drawn _ := rfl
  out := List.suffix_refl _
  freeCtr := Nat.le_refl _
  pending := rfl
  fieldsOk h := h
  memOk h := h

theorem Touch.emberWith (s : State) (v) : Touch 1024 s { s with ember := v } where
  get _ _ _ := rfl
  fuses _ := rfl
  pins _ := rfl
  pilot _ := rfl
  kim _ := rfl
  parts _ := rfl
  fwu _ := rfl
  host _ := rfl
  faultQ _ := rfl
  rings _ := rfl
  ember h := absurd h (by decide)
  tiles _ := rfl
  cores _ := rfl
  xlat _ := rfl
  cch _ := rfl
  dl _ := rfl
  fab _ := rfl
  seqs _ := rfl
  twin _ := rfl
  mem _ := rfl
  cells _ := rfl
  sent _ := rfl
  drawn _ := rfl
  out := List.suffix_refl _
  freeCtr := Nat.le_refl _
  pending := rfl
  fieldsOk h := h
  memOk h := h

theorem Touch.tilesWith (s : State) (v) : Touch 4096 s { s with tiles := v } where
  get _ _ _ := rfl
  fuses _ := rfl
  pins _ := rfl
  pilot _ := rfl
  kim _ := rfl
  parts _ := rfl
  fwu _ := rfl
  host _ := rfl
  faultQ _ := rfl
  rings _ := rfl
  ember _ := rfl
  tiles h := absurd h (by decide)
  cores _ := rfl
  xlat _ := rfl
  cch _ := rfl
  dl _ := rfl
  fab _ := rfl
  seqs _ := rfl
  twin _ := rfl
  mem _ := rfl
  cells _ := rfl
  sent _ := rfl
  drawn _ := rfl
  out := List.suffix_refl _
  freeCtr := Nat.le_refl _
  pending := rfl
  fieldsOk h := h
  memOk h := h

theorem Touch.coresWith (s : State) (v) : Touch 8192 s { s with cores := v } where
  get _ _ _ := rfl
  fuses _ := rfl
  pins _ := rfl
  pilot _ := rfl
  kim _ := rfl
  parts _ := rfl
  fwu _ := rfl
  host _ := rfl
  faultQ _ := rfl
  rings _ := rfl
  ember _ := rfl
  tiles _ := rfl
  cores h := absurd h (by decide)
  xlat _ := rfl
  cch _ := rfl
  dl _ := rfl
  fab _ := rfl
  seqs _ := rfl
  twin _ := rfl
  mem _ := rfl
  cells _ := rfl
  sent _ := rfl
  drawn _ := rfl
  out := List.suffix_refl _
  freeCtr := Nat.le_refl _
  pending := rfl
  fieldsOk h := h
  memOk h := h

theorem Touch.xlatWith (s : State) (v) : Touch 16384 s { s with xlat := v } where
  get _ _ _ := rfl
  fuses _ := rfl
  pins _ := rfl
  pilot _ := rfl
  kim _ := rfl
  parts _ := rfl
  fwu _ := rfl
  host _ := rfl
  faultQ _ := rfl
  rings _ := rfl
  ember _ := rfl
  tiles _ := rfl
  cores _ := rfl
  xlat h := absurd h (by decide)
  cch _ := rfl
  dl _ := rfl
  fab _ := rfl
  seqs _ := rfl
  twin _ := rfl
  mem _ := rfl
  cells _ := rfl
  sent _ := rfl
  drawn _ := rfl
  out := List.suffix_refl _
  freeCtr := Nat.le_refl _
  pending := rfl
  fieldsOk h := h
  memOk h := h

theorem Touch.cchWith (s : State) (v) : Touch 32768 s { s with cch := v } where
  get _ _ _ := rfl
  fuses _ := rfl
  pins _ := rfl
  pilot _ := rfl
  kim _ := rfl
  parts _ := rfl
  fwu _ := rfl
  host _ := rfl
  faultQ _ := rfl
  rings _ := rfl
  ember _ := rfl
  tiles _ := rfl
  cores _ := rfl
  xlat _ := rfl
  cch h := absurd h (by decide)
  dl _ := rfl
  fab _ := rfl
  seqs _ := rfl
  twin _ := rfl
  mem _ := rfl
  cells _ := rfl
  sent _ := rfl
  drawn _ := rfl
  out := List.suffix_refl _
  freeCtr := Nat.le_refl _
  pending := rfl
  fieldsOk h := h
  memOk h := h

theorem Touch.dlWith (s : State) (v) : Touch 65536 s { s with dl := v } where
  get _ _ _ := rfl
  fuses _ := rfl
  pins _ := rfl
  pilot _ := rfl
  kim _ := rfl
  parts _ := rfl
  fwu _ := rfl
  host _ := rfl
  faultQ _ := rfl
  rings _ := rfl
  ember _ := rfl
  tiles _ := rfl
  cores _ := rfl
  xlat _ := rfl
  cch _ := rfl
  dl h := absurd h (by decide)
  fab _ := rfl
  seqs _ := rfl
  twin _ := rfl
  mem _ := rfl
  cells _ := rfl
  sent _ := rfl
  drawn _ := rfl
  out := List.suffix_refl _
  freeCtr := Nat.le_refl _
  pending := rfl
  fieldsOk h := h
  memOk h := h

theorem Touch.fabWith (s : State) (v) : Touch 131072 s { s with fab := v } where
  get _ _ _ := rfl
  fuses _ := rfl
  pins _ := rfl
  pilot _ := rfl
  kim _ := rfl
  parts _ := rfl
  fwu _ := rfl
  host _ := rfl
  faultQ _ := rfl
  rings _ := rfl
  ember _ := rfl
  tiles _ := rfl
  cores _ := rfl
  xlat _ := rfl
  cch _ := rfl
  dl _ := rfl
  fab h := absurd h (by decide)
  seqs _ := rfl
  twin _ := rfl
  mem _ := rfl
  cells _ := rfl
  sent _ := rfl
  drawn _ := rfl
  out := List.suffix_refl _
  freeCtr := Nat.le_refl _
  pending := rfl
  fieldsOk h := h
  memOk h := h

theorem Touch.seqsWith (s : State) (v) : Touch 262144 s { s with seqs := v } where
  get _ _ _ := rfl
  fuses _ := rfl
  pins _ := rfl
  pilot _ := rfl
  kim _ := rfl
  parts _ := rfl
  fwu _ := rfl
  host _ := rfl
  faultQ _ := rfl
  rings _ := rfl
  ember _ := rfl
  tiles _ := rfl
  cores _ := rfl
  xlat _ := rfl
  cch _ := rfl
  dl _ := rfl
  fab _ := rfl
  seqs h := absurd h (by decide)
  twin _ := rfl
  mem _ := rfl
  cells _ := rfl
  sent _ := rfl
  drawn _ := rfl
  out := List.suffix_refl _
  freeCtr := Nat.le_refl _
  pending := rfl
  fieldsOk h := h
  memOk h := h

theorem Touch.twinWith (s : State) (v) : Touch 524288 s { s with twin := v } where
  get _ _ _ := rfl
  fuses _ := rfl
  pins _ := rfl
  pilot _ := rfl
  kim _ := rfl
  parts _ := rfl
  fwu _ := rfl
  host _ := rfl
  faultQ _ := rfl
  rings _ := rfl
  ember _ := rfl
  tiles _ := rfl
  cores _ := rfl
  xlat _ := rfl
  cch _ := rfl
  dl _ := rfl
  fab _ := rfl
  seqs _ := rfl
  twin h := absurd h (by decide)
  mem _ := rfl
  cells _ := rfl
  sent _ := rfl
  drawn _ := rfl
  out := List.suffix_refl _
  freeCtr := Nat.le_refl _
  pending := rfl
  fieldsOk h := h
  memOk h := h

theorem Touch.memSame (s : State) (v : MemSys) (hv : v.cells = s.mem.cells) : Touch 2048 s { s with mem := v } where
  get _ _ _ := rfl
  fuses _ := rfl
  pins _ := rfl
  pilot _ := rfl
  kim _ := rfl
  parts _ := rfl
  fwu _ := rfl
  host _ := rfl
  faultQ _ := rfl
  rings _ := rfl
  ember _ := rfl
  tiles _ := rfl
  cores _ := rfl
  xlat _ := rfl
  cch _ := rfl
  dl _ := rfl
  fab _ := rfl
  seqs _ := rfl
  twin _ := rfl
  mem h := absurd h (by decide)
  cells _ := hv
  sent _ := rfl
  drawn _ := rfl
  out := List.suffix_refl _
  freeCtr := Nat.le_refl _
  pending := rfl
  fieldsOk h := h
  memOk h := by simp only [hv]; exact h

theorem Touch.memWith (s : State) (v : MemSys) (hv : s.mem.cells.wf = true → v.cells.wf = true) : Touch 8390656 s { s with mem := v } where
  get _ _ _ := rfl
  fuses _ := rfl
  pins _ := rfl
  pilot _ := rfl
  kim _ := rfl
  parts _ := rfl
  fwu _ := rfl
  host _ := rfl
  faultQ _ := rfl
  rings _ := rfl
  ember _ := rfl
  tiles _ := rfl
  cores _ := rfl
  xlat _ := rfl
  cch _ := rfl
  dl _ := rfl
  fab _ := rfl
  seqs _ := rfl
  twin _ := rfl
  mem h := absurd h (by decide)
  cells h := absurd h (by decide)
  sent _ := rfl
  drawn _ := rfl
  out := List.suffix_refl _
  freeCtr := Nat.le_refl _
  pending := rfl
  fieldsOk h := h
  memOk h := hv h

theorem State.modMem_touch (s : State) (f : MemSys → MemSys) (hv : ∀ m, (f m).cells = m.cells) : Touch 2048 s (s.modMem f) where
  get _ _ _ := rfl
  fuses _ := rfl
  pins _ := rfl
  pilot _ := rfl
  kim _ := rfl
  parts _ := rfl
  fwu _ := rfl
  host _ := rfl
  faultQ _ := rfl
  rings _ := rfl
  ember _ := rfl
  tiles _ := rfl
  cores _ := rfl
  xlat _ := rfl
  cch _ := rfl
  dl _ := rfl
  fab _ := rfl
  seqs _ := rfl
  twin _ := rfl
  mem h := absurd h (by decide)
  cells _ := hv _
  sent _ := rfl
  drawn _ := rfl
  out := List.suffix_refl _
  freeCtr := Nat.le_refl _
  pending := rfl
  fieldsOk h := h
  memOk h := by simp only [State.modMem, hv]; exact h

theorem State.modMem_touchCells (s : State) (f : MemSys → MemSys) (hv : ∀ m : MemSys, m.cells.wf = true → (f m).cells.wf = true) : Touch 8390656 s (s.modMem f) where
  get _ _ _ := rfl
  fuses _ := rfl
  pins _ := rfl
  pilot _ := rfl
  kim _ := rfl
  parts _ := rfl
  fwu _ := rfl
  host _ := rfl
  faultQ _ := rfl
  rings _ := rfl
  ember _ := rfl
  tiles _ := rfl
  cores _ := rfl
  xlat _ := rfl
  cch _ := rfl
  dl _ := rfl
  fab _ := rfl
  seqs _ := rfl
  twin _ := rfl
  mem h := absurd h (by decide)
  cells h := absurd h (by decide)
  sent _ := rfl
  drawn _ := rfl
  out := List.suffix_refl _
  freeCtr := Nat.le_refl _
  pending := rfl
  fieldsOk h := h
  memOk h := hv _ h

theorem State.emit_touch (s : State) (o : Output) : Touch 1048576 s (s.emit o) where
  get _ _ _ := rfl
  fuses _ := rfl
  pins _ := rfl
  pilot _ := rfl
  kim _ := rfl
  parts _ := rfl
  fwu _ := rfl
  host _ := rfl
  faultQ _ := rfl
  rings _ := rfl
  ember _ := rfl
  tiles _ := rfl
  cores _ := rfl
  xlat _ := rfl
  cch _ := rfl
  dl _ := rfl
  fab _ := rfl
  seqs _ := rfl
  twin _ := rfl
  mem _ := rfl
  cells _ := rfl
  sent h := absurd h (by decide)
  drawn _ := rfl
  out := List.suffix_cons _ _
  freeCtr := Nat.le_refl _
  pending := rfl
  fieldsOk h := h
  memOk h := h

theorem Touch.freeCtrNext (s : State) : Touch 2097152 s { s with freeCtr := s.freeCtr + 1 } where
  get _ _ _ := rfl
  fuses _ := rfl
  pins _ := rfl
  pilot _ := rfl
  kim _ := rfl
  parts _ := rfl
  fwu _ := rfl
  host _ := rfl
  faultQ _ := rfl
  rings _ := rfl
  ember _ := rfl
  tiles _ := rfl
  cores _ := rfl
  xlat _ := rfl
  cch _ := rfl
  dl _ := rfl
  fab _ := rfl
  seqs _ := rfl
  twin _ := rfl
  mem _ := rfl
  cells _ := rfl
  sent _ := rfl
  drawn h := absurd h (by decide)
  out := List.suffix_refl _
  freeCtr := Nat.le_succ _
  pending := rfl
  fieldsOk h := h
  memOk h := h

theorem State.draw_touch (s : State) (w : Nat) : Touch 2097152 s (s.draw w).2 where
  get _ _ _ := rfl
  fuses _ := rfl
  pins _ := rfl
  pilot _ := rfl
  kim _ := rfl
  parts _ := rfl
  fwu _ := rfl
  host _ := rfl
  faultQ _ := rfl
  rings _ := rfl
  ember _ := rfl
  tiles _ := rfl
  cores _ := rfl
  xlat _ := rfl
  cch _ := rfl
  dl _ := rfl
  fab _ := rfl
  seqs _ := rfl
  twin _ := rfl
  mem _ := rfl
  cells _ := rfl
  sent _ := rfl
  drawn h := absurd h (by decide)
  out := List.suffix_refl _
  freeCtr := Nat.le_succ _
  pending := rfl
  fieldsOk h := h
  memOk h := h

theorem Touch.freeCtrWith (s : State) (n : Nat) (hn : s.freeCtr ≤ n) : Touch 2097152 s { s with freeCtr := n } where
  get _ _ _ := rfl
  fuses _ := rfl
  pins _ := rfl
  pilot _ := rfl
  kim _ := rfl
  parts _ := rfl
  fwu _ := rfl
  host _ := rfl
  faultQ _ := rfl
  rings _ := rfl
  ember _ := rfl
  tiles _ := rfl
  cores _ := rfl
  xlat _ := rfl
  cch _ := rfl
  dl _ := rfl
  fab _ := rfl
  seqs _ := rfl
  twin _ := rfl
  mem _ := rfl
  cells _ := rfl
  sent _ := rfl
  drawn h := absurd h (by decide)
  out := List.suffix_refl _
  freeCtr := hn
  pending := rfl
  fieldsOk h := h
  memOk h := h

theorem Touch.faultQ_rings (s : State) (v) (w) : Touch 768 s { s with faultQ := v, rings := w } :=
  ((Touch.faultQWith s v).weaken (by decide)).step (Touch.ringsWith { s with faultQ := v } w) (by decide)

theorem Touch.rings_tiles (s : State) (v) (w) : Touch 4608 s { s with rings := v, tiles := w } :=
  ((Touch.ringsWith s v).weaken (by decide)).step (Touch.tilesWith { s with rings := v } w) (by decide)

theorem Touch.tiles_freeCtr (s : State) (v) (w) (hw : s.freeCtr ≤ w := by exact Nat.le_add_right _ _) : Touch 2101248 s { s with tiles := v, freeCtr := w } :=
  ((Touch.tilesWith s v).weaken (by decide)).step (Touch.freeCtrWith { s with tiles := v } w hw) (by decide)

theorem Touch.stepSelf {M : Nat} {s u t : State} (h : Touch M s u) (hf : Touch M u t) : Touch M s t := h.step hf (Nat.or_self _)

theorem mask_trans {G F M : Nat} (h : G ||| F = F) (hm : F ||| M = M) : G ||| M = M := by
  rw [← hm, ← Nat.or_assoc, h]

/-- Every register field. -/
def allFields : Nat := 2 ^ 666 - 2 ^ 24

theorem Fld.ctorIdx_lt (f : Fld) : f.ctorIdx < 642 := by cases f <;> decide

theorem allFields_bit (f : Fld) : allFields.testBit (24 + f.ctorIdx) = true := by
  have h : ∀ k : Fin 642, allFields.testBit (24 + k.val) = true := by decide +kernel
  exact h ⟨f.ctorIdx, f.ctorIdx_lt⟩

theorem allFields_or (f : Fld) : 2 ^ (24 + f.ctorIdx) ||| allFields = allFields := by
  have h : ∀ k : Fin 642, 2 ^ (24 + k.val) ||| allFields = allFields := by decide +kernel
  exact h ⟨f.ctorIdx, f.ctorIdx_lt⟩

/-- A write of some register field. -/
theorem State.put_touchAny (s : State) (f : Fld) (i v : Nat) : Touch allFields s (s.put f i v) :=
  (s.put_touch f i v).step (F := 0) (Touch.refl _ _) (by simp) |>.weaken (allFields_or f)

theorem Touch.fieldsFilter (s : State) (p : FCell → Bool) : Touch allFields s { s with fields := s.fields.filter p } where
  get f i h := absurd h (by simp [allFields_bit])
  fuses _ := rfl
  pins _ := rfl
  pilot _ := rfl
  kim _ := rfl
  parts _ := rfl
  fwu _ := rfl
  host _ := rfl
  faultQ _ := rfl
  rings _ := rfl
  ember _ := rfl
  tiles _ := rfl
  cores _ := rfl
  xlat _ := rfl
  cch _ := rfl
  dl _ := rfl
  fab _ := rfl
  seqs _ := rfl
  twin _ := rfl
  mem _ := rfl
  cells _ := rfl
  sent _ := rfl
  drawn _ := rfl
  out := List.suffix_refl _
  freeCtr := Nat.le_refl _
  pending := rfl
  fieldsOk h := cellsAbove_filter p h
  memOk h := h

theorem Touch.dite {M : Nat} {s : State} {c : Prop} [Decidable c] {a : c → State} {b : ¬c → State} (ha : ∀ h, Touch M s (a h))
    (hb : ∀ h, Touch M s (b h)) : Touch M s (dite c a b) := by split <;> simp_all

theorem Touch.iteFst {α : Type} {M : Nat} {s : State} {a b : State × α} {c : Prop} [Decidable c] (ha : Touch M s a.1)
    (hb : Touch M s b.1) : Touch M s (if c then a else b).1 := by split <;> assumption

theorem Touch.iteSnd {α : Type} {M : Nat} {s : State} {a b : α × State} {c : Prop} [Decidable c] (ha : Touch M s a.2)
    (hb : Touch M s b.2) : Touch M s (if c then a else b).2 := by split <;> assumption

theorem Touch.mkFst {α : Type} {M : Nat} {s b : State} {a : α} (h : Touch M s b) : Touch M s (b, a).1 := h

theorem Touch.mkSnd {α : Type} {M : Nat} {s b : State} {a : α} (h : Touch M s b) : Touch M s (a, b).2 := h

theorem Touch.ofFst {α : Type} {M : Nat} {s t : State} {p : State × α} {a : α} (e : p = (t, a)) (h : Touch M s p.1) : Touch M s t := by
  rw [e] at h; exact h

theorem Touch.ofSnd {α : Type} {M : Nat} {s t : State} {p : α × State} {a : α} (e : p = (a, t)) (h : Touch M s p.2) : Touch M s t := by
  rw [e] at h; exact h

/-- Touch for the end of an instruction. -/
def TouchE (M : Nat) (s : State) : Ex → Prop
  | .next t => Touch M s t
  | .jump _ t => Touch M s t
  | .fault _ _ _ t => Touch M s t
  | .stall t => Touch M s t
  | .done t => Touch M s t
  | .late _ t => Touch M s t

theorem TouchE.next {M : Nat} {s t : State} (h : Touch M s t) : TouchE M s (.next t : Ex) := h
theorem TouchE.jump {M : Nat} {s t : State} (pc : Nat) (h : Touch M s t) : TouchE M s (.jump pc t : Ex) := h
theorem TouchE.fault {M : Nat} {s t : State} (code addr info : Nat) (h : Touch M s t) : TouchE M s (.fault code addr info t : Ex) := h
theorem TouchE.stall {M : Nat} {s t : State} (h : Touch M s t) : TouchE M s (.stall t : Ex) := h
theorem TouchE.done {M : Nat} {s t : State} (h : Touch M s t) : TouchE M s (.done t : Ex) := h
theorem TouchE.late {M : Nat} {s t : State} (l : Late) (h : Touch M s t) : TouchE M s (.late l t : Ex) := h

theorem TouchE.cut {M : Nat} {s : State} {e : Ex} (x : State) (h : Touch M s x) (hg : Touch M s x → TouchE M s e) : TouchE M s e := hg h

theorem TouchE.ite {M : Nat} {s : State} {a b : Ex} {c : Prop} [Decidable c] (ha : TouchE M s a) (hb : TouchE M s b) :
    TouchE M s (if c then a else b) := by split <;> assumption

theorem TouchE.step {M F : Nat} {s u : State} {e : Ex} (h : Touch M s u) (hf : TouchE F u e) (hm : F ||| M = M) : TouchE M s e := by
  cases e <;> exact h.step hf hm

theorem TouchE.stepSelf {M : Nat} {s u : State} {e : Ex} (h : Touch M s u) (hf : TouchE M u e) : TouchE M s e := TouchE.step h hf (Nat.or_self _)

theorem TouchE.ofNext {M : Nat} {s t : State} {e : Ex} (e1 : e = .next t) (h : TouchE M s e) : Touch M s t := by
  subst e1; exact h
theorem TouchE.ofJump {M : Nat} {s t : State} {e : Ex} {pc : Nat} (e1 : e = .jump pc t) (h : TouchE M s e) : Touch M s t := by
  subst e1; exact h
theorem TouchE.ofFault {M : Nat} {s t : State} {e : Ex} {code addr info : Nat} (e1 : e = .fault code addr info t) (h : TouchE M s e) : Touch M s t := by
  subst e1; exact h
theorem TouchE.ofStall {M : Nat} {s t : State} {e : Ex} (e1 : e = .stall t) (h : TouchE M s e) : Touch M s t := by
  subst e1; exact h
theorem TouchE.ofDone {M : Nat} {s t : State} {e : Ex} (e1 : e = .done t) (h : TouchE M s e) : Touch M s t := by
  subst e1; exact h
theorem TouchE.ofLate {M : Nat} {s t : State} {e : Ex} {l : Late} (e1 : e = .late l t) (h : TouchE M s e) : Touch M s t := by
  subst e1; exact h

/-- Touch for a part of a LANTERN instruction. -/
def TouchR {α : Type} (M : Nat) (s : State) : Res α → Prop
  | .ok _ t => Touch M s t
  | .exc _ _ t => Touch M s t
  | .wait t => Touch M s t

theorem TouchR.ok {α : Type} {M : Nat} {s t : State} (v : α) (h : Touch M s t) : TouchR M s (.ok v t : Res α) := h
theorem TouchR.exc {α : Type} {M : Nat} {s t : State} (code addr : Nat) (h : Touch M s t) : TouchR M s (.exc code addr t : Res α) := h
theorem TouchR.wait {α : Type} {M : Nat} {s t : State} (h : Touch M s t) : TouchR M s (.wait t : Res α) := h

theorem TouchR.cut {α : Type} {M : Nat} {s : State} {e : Res α} (x : State) (h : Touch M s x) (hg : Touch M s x → TouchR M s e) : TouchR M s e := hg h

theorem TouchR.ite {α : Type} {M : Nat} {s : State} {a b : Res α} {c : Prop} [Decidable c] (ha : TouchR M s a) (hb : TouchR M s b) :
    TouchR M s (if c then a else b) := by split <;> assumption

theorem TouchR.step {α : Type} {M F : Nat} {s u : State} {e : Res α} (h : Touch M s u) (hf : TouchR F u e) (hm : F ||| M = M) : TouchR M s e := by
  cases e <;> exact h.step hf hm

theorem TouchR.stepSelf {α : Type} {M : Nat} {s u : State} {e : Res α} (h : Touch M s u) (hf : TouchR M u e) : TouchR M s e := TouchR.step h hf (Nat.or_self _)

theorem TouchR.ofOk {α : Type} {M : Nat} {s t : State} {e : Res α} {v : α} (e1 : e = .ok v t) (h : TouchR M s e) : Touch M s t := by
  subst e1; exact h
theorem TouchR.ofExc {α : Type} {M : Nat} {s t : State} {e : Res α} {code addr : Nat} (e1 : e = .exc code addr t) (h : TouchR M s e) : Touch M s t := by
  subst e1; exact h
theorem TouchR.ofWait {α : Type} {M : Nat} {s t : State} {e : Res α} (e1 : e = .wait t) (h : TouchR M s e) : Touch M s t := by
  subst e1; exact h

/-- Touch for an answer that may be absent. -/
def TouchO (M : Nat) (s : State) : Option State → Prop
  | none => True
  | some t => Touch M s t

theorem TouchO.none {M : Nat} {s : State} : TouchO M s (.none : Option State) := trivial
theorem TouchO.some {M : Nat} {s t : State} (h : Touch M s t) : TouchO M s (.some t : Option State) := h

theorem TouchO.cut {M : Nat} {s : State} {e : Option State} (x : State) (h : Touch M s x) (hg : Touch M s x → TouchO M s e) : TouchO M s e := hg h

theorem TouchO.ite {M : Nat} {s : State} {a b : Option State} {c : Prop} [Decidable c] (ha : TouchO M s a) (hb : TouchO M s b) :
    TouchO M s (if c then a else b) := by split <;> assumption

theorem TouchO.step {M F : Nat} {s u : State} {e : Option State} (h : Touch M s u) (hf : TouchO F u e) (hm : F ||| M = M) : TouchO M s e := by
  cases e with
  | none => trivial
  | some t => exact h.step (t := t) hf hm

theorem TouchO.stepSelf {M : Nat} {s u : State} {e : Option State} (h : Touch M s u) (hf : TouchO M u e) : TouchO M s e := TouchO.step h hf (Nat.or_self _)

theorem TouchO.ofSome {M : Nat} {s t : State} {e : Option State} (e1 : e = .some t) (h : TouchO M s e) : Touch M s t := by
  subst e1; exact h

/-- Touch for an answer with a value that may be absent. -/
def TouchOF {α : Type} (M : Nat) (s : State) : Option (State × α) → Prop
  | none => True
  | some (t, _) => Touch M s t

theorem TouchOF.none {α : Type} {M : Nat} {s : State} : TouchOF M s (.none : Option (State × α)) := trivial
theorem TouchOF.some {α : Type} {M : Nat} {s t : State} (v : α) (h : Touch M s t) : TouchOF M s (.some (t, v) : Option (State × α)) := h

theorem TouchOF.cut {α : Type} {M : Nat} {s : State} {e : Option (State × α)} (x : State) (h : Touch M s x) (hg : Touch M s x → TouchOF M s e) : TouchOF M s e := hg h

theorem TouchOF.ite {α : Type} {M : Nat} {s : State} {a b : Option (State × α)} {c : Prop} [Decidable c] (ha : TouchOF M s a) (hb : TouchOF M s b) :
    TouchOF M s (if c then a else b) := by split <;> assumption

theorem TouchOF.step {α : Type} {M F : Nat} {s u : State} {e : Option (State × α)} (h : Touch M s u) (hf : TouchOF F u e) (hm : F ||| M = M) : TouchOF M s e := by
  cases e with
  | none => trivial
  | some t => exact h.step (t := t.1) hf hm

theorem TouchOF.stepSelf {α : Type} {M : Nat} {s u : State} {e : Option (State × α)} (h : Touch M s u) (hf : TouchOF M u e) : TouchOF M s e := TouchOF.step h hf (Nat.or_self _)

theorem TouchOF.ofSome {α : Type} {M : Nat} {s t : State} {e : Option (State × α)} {v : α} (e1 : e = .some (t, v)) (h : TouchOF M s e) : Touch M s t := by
  subst e1; exact h

/-- Touch for a value with an answer that may be absent. -/
def TouchOS {α : Type} (M : Nat) (s : State) : Option (α × State) → Prop
  | none => True
  | some (_, t) => Touch M s t

theorem TouchOS.none {α : Type} {M : Nat} {s : State} : TouchOS M s (.none : Option (α × State)) := trivial
theorem TouchOS.some {α : Type} {M : Nat} {s t : State} (v : α) (h : Touch M s t) : TouchOS M s (.some (v, t) : Option (α × State)) := h

theorem TouchOS.cut {α : Type} {M : Nat} {s : State} {e : Option (α × State)} (x : State) (h : Touch M s x) (hg : Touch M s x → TouchOS M s e) : TouchOS M s e := hg h

theorem TouchOS.ite {α : Type} {M : Nat} {s : State} {a b : Option (α × State)} {c : Prop} [Decidable c] (ha : TouchOS M s a) (hb : TouchOS M s b) :
    TouchOS M s (if c then a else b) := by split <;> assumption

theorem TouchOS.step {α : Type} {M F : Nat} {s u : State} {e : Option (α × State)} (h : Touch M s u) (hf : TouchOS F u e) (hm : F ||| M = M) : TouchOS M s e := by
  cases e with
  | none => trivial
  | some t => exact h.step (t := t.2) hf hm

theorem TouchOS.stepSelf {α : Type} {M : Nat} {s u : State} {e : Option (α × State)} (h : Touch M s u) (hf : TouchOS M u e) : TouchOS M s e := TouchOS.step h hf (Nat.or_self _)

theorem TouchOS.ofSome {α : Type} {M : Nat} {s t : State} {e : Option (α × State)} {v : α} (e1 : e = .some (v, t)) (h : TouchOS M s e) : Touch M s t := by
  subst e1; exact h

/-- Touch for an answer or an error. -/
def TouchX {ε : Type} (M : Nat) (s : State) : Except ε State → Prop
  | .error _ => True
  | .ok t => Touch M s t

theorem TouchX.error {ε : Type} {M : Nat} {s : State} (v : ε) : TouchX M s (.error v : Except ε State) := trivial
theorem TouchX.ok {ε : Type} {M : Nat} {s t : State} (h : Touch M s t) : TouchX M s (.ok t : Except ε State) := h

theorem TouchX.cut {ε : Type} {M : Nat} {s : State} {e : Except ε State} (x : State) (h : Touch M s x) (hg : Touch M s x → TouchX M s e) : TouchX M s e := hg h

theorem TouchX.ite {ε : Type} {M : Nat} {s : State} {a b : Except ε State} {c : Prop} [Decidable c] (ha : TouchX M s a) (hb : TouchX M s b) :
    TouchX M s (if c then a else b) := by split <;> assumption

theorem TouchX.step {ε : Type} {M F : Nat} {s u : State} {e : Except ε State} (h : Touch M s u) (hf : TouchX F u e) (hm : F ||| M = M) : TouchX M s e := by
  cases e with
  | error _ => trivial
  | ok t => exact h.step (t := t) hf hm

theorem TouchX.stepSelf {ε : Type} {M : Nat} {s u : State} {e : Except ε State} (h : Touch M s u) (hf : TouchX M u e) : TouchX M s e := TouchX.step h hf (Nat.or_self _)

theorem TouchX.ofOk {ε : Type} {M : Nat} {s t : State} {e : Except ε State} (e1 : e = .ok t) (h : TouchX M s e) : Touch M s t := by
  subst e1; exact h

/-- Touch for the place of a cache line. -/
def TouchPl (M : Nat) (s : State) : WayFor → Prop
  | .wait => True
  | .bypass => True
  | .room t => Touch M s t

theorem TouchPl.wait {M : Nat} {s : State} : TouchPl M s (.wait : WayFor) := trivial
theorem TouchPl.bypass {M : Nat} {s : State} : TouchPl M s (.bypass : WayFor) := trivial
theorem TouchPl.room {M : Nat} {s t : State} (h : Touch M s t) : TouchPl M s (.room t : WayFor) := h

theorem TouchPl.cut {M : Nat} {s : State} {e : WayFor} (x : State) (h : Touch M s x) (hg : Touch M s x → TouchPl M s e) : TouchPl M s e := hg h

theorem TouchPl.ite {M : Nat} {s : State} {a b : WayFor} {c : Prop} [Decidable c] (ha : TouchPl M s a) (hb : TouchPl M s b) :
    TouchPl M s (if c then a else b) := by split <;> assumption

theorem TouchPl.step {M F : Nat} {s u : State} {e : WayFor} (h : Touch M s u) (hf : TouchPl F u e) (hm : F ||| M = M) : TouchPl M s e := by
  cases e with
  | wait => trivial
  | bypass => trivial
  | room t => exact h.step (t := t) hf hm

theorem TouchPl.stepSelf {M : Nat} {s u : State} {e : WayFor} (h : Touch M s u) (hf : TouchPl M u e) : TouchPl M s e := TouchPl.step h hf (Nat.or_self _)

theorem TouchPl.ofRoom {M : Nat} {s t : State} {e : WayFor} (e1 : e = .room t) (h : TouchPl M s e) : Touch M s t := by
  subst e1; exact h

theorem TouchO.bind {α : Type} {M : Nat} {s : State} {o : Option α} {f : α → Option State} (hf : ∀ x, TouchO M s (f x)) :
    TouchO M s (o.bind f) := by
  cases o with
  | none => trivial
  | some x => exact hf x

theorem Touch.getD {M : Nat} {s d : State} {o : Option State} (h : TouchO M s o) (hd : Touch M s d) : Touch M s (o.getD d) := by
  cases o with
  | none => exact hd
  | some t => exact h

theorem Touch.ofId {M : Nat} {s u : State} (h : Touch M s u) : Touch M s (id u) := h

theorem TouchR.bind {α β : Type} {M : Nat} {s : State} {r : Res α} {f : α → State → Res β} (hr : TouchR M s r)
    (hf : ∀ v u, Touch M s u → TouchR M s (f v u)) : TouchR M s (r.bind f) := by
  cases r with
  | ok v t => exact hf v t hr
  | exc c a t => exact hr
  | wait t => exact hr

theorem TouchE.ofRes {α : Type} {M : Nat} {s : State} {r : Res α} {f : α → State → Ex} (hr : TouchR M s r)
    (hf : ∀ v u, Touch M s u → TouchE M s (f v u)) : TouchE M s (r.ex f) := by
  cases r with
  | ok v t => exact hf v t hr
  | exc c a t => exact hr
  | wait t => exact hr

theorem TouchO.map {M : Nat} {s : State} {o : Option State} {f : State → State} (h : TouchO M s o)
    (hf : ∀ u, Touch M s u → Touch M s (f u)) : TouchO M s (o.map f) := by
  cases o with
  | none => trivial
  | some t => exact hf t h

theorem TouchO.mapSnd {α : Type} {M : Nat} {s : State} {o : Option (α × State)} {f : α × State → State} (h : TouchOS M s o)
    (hf : ∀ v u, Touch M s u → Touch M s (f (v, u))) : TouchO M s (o.map f) := by
  cases o with
  | none => trivial
  | some t => exact hf t.1 t.2 h

end Sys2Proof.Machine
end

