-- ==== Sys2Proof/Laws/Only.lean ====
section
/-! SUPPORT. From what an operation may touch to the frame that a statement names. -/
namespace Sys2Proof.Machine

/-- The bit of a Touch mask that stands for a part of the state. -/
def Comp.bit : Comp → Nat
  | .fuses => 1 | .pins => 2 | .pilot => 3 | .kim => 4 | .parts => 5 | .fwu => 6 | .host => 7 | .faultQ => 8 | .rings => 9
  | .ember => 10 | .mem => 11 | .tiles => 12 | .cores => 13 | .xlat => 14 | .cch => 15 | .dl => 16 | .fab => 17 | .seqs => 18
  | .twin => 19 | .sent => 20 | .drawn => 21 | .hbm => 23

/-- Every field that a mask names is in the list. -/
def fldsIn (M : Nat) (fs : List Fld) : Bool := (List.range 642).all (fun k => !M.testBit (24 + k) || fs.any (fun f => f.ctorIdx == k))

/-- Every part that a mask names is in the list. -/
def compsIn (M : Nat) (cs : List Comp) : Bool :=
  [Comp.fuses, .pins, .pilot, .kim, .parts, .fwu, .host, .faultQ, .rings, .ember, .mem, .hbm, .tiles, .cores, .xlat, .cch, .dl, .fab,
    .seqs, .twin, .sent, .drawn].all (fun c => !M.testBit c.bit || cs.contains c)

theorem compsIn_bit {M : Nat} {cs : List Comp} (h : compsIn M cs = true) {c : Comp} (hc : c ∉ cs) : M.testBit c.bit = false := by
  have h' := List.all_eq_true.mp h c (by cases c <;> decide)
  simp only [Bool.or_eq_true, Bool.not_eq_true', List.contains_eq_mem, decide_eq_true_eq] at h'
  exact h'.resolve_right hc

theorem Touch.same {M : Nat} {s t : State} (h : Touch M s t) {c : Comp} (hb : M.testBit c.bit = false) : c.Same s t := by
  cases c with
  | fuses => exact h.fuses hb | pins => exact h.pins hb | pilot => exact h.pilot hb | kim => exact h.kim hb
  | parts => exact h.parts hb | fwu => exact h.fwu hb | host => exact h.host hb | faultQ => exact h.faultQ hb
  | rings => exact h.rings hb | ember => exact h.ember hb | mem => exact h.mem hb
  | hbm => intro a; rw [h.cells hb] | tiles => exact h.tiles hb | cores => exact h.cores hb | xlat => exact h.xlat hb
  | cch => exact h.cch hb | dl => exact h.dl hb | fab => exact h.fab hb | seqs => exact h.seqs hb | twin => exact h.twin hb
  | sent => exact h.sent hb | drawn => exact h.drawn hb

/-- What touches only the parts of a mask leaves all but the fields and parts that the mask names. -/
theorem Touch.only {M : Nat} {s t : State} (h : Touch M s t) (fs : List Fld) (cs : List Comp) (hf : fldsIn M fs = true)
    (hc : compsIn M cs = true) : Only fs cs s t where
  fields f hn i := by
    refine h.get f i ?_
    have h' := List.all_eq_true.mp hf f.ctorIdx (List.mem_range.mpr f.ctorIdx_lt)
    simp only [Bool.or_eq_true, Bool.not_eq_true', List.any_eq_true, beq_iff_eq] at h'
    refine h'.resolve_right fun ⟨g, hg, e⟩ => hn ?_
    rw [← Fld.ctorIdx_inj e]; exact hg
  comps c hn := h.same (compsIn_bit hc hn)
  sent := h.out
  drawn := h.freeCtr
  queue := h.pending

/-- Nothing changed at all. -/
theorem Only.refl (fs : List Fld) (cs : List Comp) (s : State) : Only fs cs s s where
  fields _ _ _ := rfl
  comps c _ := (Touch.refl 0 s).same (Nat.zero_testBit _)
  sent := List.suffix_rfl
  drawn := Nat.le_refl _
  queue := rfl

end Sys2Proof.Machine
end

