-- ==== Sys2Proof/Laws/TouchOps.lean ====
section
/-! SUPPORT. What the operations of Machine/Ops.lean may change. -/
namespace Sys2Proof.Machine

set_option Elab.async false

theorem State.setBit_touch (s : State) (f : Fld) (i b : Nat) : Touch (2 ^ (24 + f.ctorIdx)) s (s.setBit f i b) :=
  s.put_touch f i _

theorem State.clrBit_touch (s : State) (f : Fld) (i b : Nat) : Touch (2 ^ (24 + f.ctorIdx)) s (s.clrBit f i b) :=
  Touch.ite (s.put_touch f i _) (Touch.refl _ _)

theorem State.modPart_touch (s : State) (a1 : ℕ) (a2 : Part → Part) :
    Touch 0x20 s (State.modPart s a1 a2) := by
  unfold State.modPart
  refine Touch.step ?_ (Touch.partsWith _ _) (by decide +kernel)
  exact Touch.refl _ _

theorem State.modFn_touch (s : State) (a1 : ℕ) (a2 : FnCfg → FnCfg) :
    Touch 0x80 s (State.modFn s a1 a2) := by
  unfold State.modFn
  refine Touch.step ?_ (Touch.hostWith _ _) (by decide +kernel)
  exact Touch.refl _ _

theorem State.modHost_touch (s : State) (a1 : HostLink → HostLink) :
    Touch 0x80 s (State.modHost s a1) := by
  unfold State.modHost
  refine Touch.step ?_ (Touch.hostWith _ _) (by decide +kernel)
  exact Touch.refl _ _

theorem State.modPilot_touch (s : State) (a1 : Pilot → Pilot) :
    Touch 0x8 s (State.modPilot s a1) := by
  unfold State.modPilot
  refine Touch.step ?_ (Touch.pilotWith _ _) (by decide +kernel)
  exact Touch.refl _ _

theorem State.modKim_touch (s : State) (a1 : Kim → Kim) :
    Touch 0x10 s (State.modKim s a1) := by
  unfold State.modKim
  refine Touch.step ?_ (Touch.kimWith _ _) (by decide +kernel)
  exact Touch.refl _ _

theorem State.updFaultOut_touch (s : State) :
    Touch 0x40000000000000000000000000000000000000000000000000000000000000000000000000000000000000000000000000000000000000000000000000000000000000000000000000000000000100000 s (State.updFaultOut s) := by
  unfold State.updFaultOut
  refine Touch.ite ?_ ?_
  · exact Touch.refl _ _
  · refine Touch.step ?_ (State.emit_touch ..) (by decide +kernel)
    refine Touch.step ?_ (State.put_touch ..) (by decide +kernel)
    exact Touch.refl _ _

theorem State.latchOut_touch (s : State) (a1 : ℕ) :
    Touch 0x48000000000000000000000000000000000000000000000000000000000000000000000000000000000000000000000000000000000000000000000000000000000000000000000000000000000100000 s (State.latchOut s a1) := by
  unfold State.latchOut
  refine Touch.step ?_ (State.updFaultOut_touch ..) (by decide +kernel)
  refine Touch.step ?_ (State.setBit_touch ..) (by decide +kernel)
  exact Touch.refl _ _

theorem State.raise_touch (s : State) (a1 : FaultRec) :
    Touch 0x100 s (State.raise s a1) := by
  unfold State.raise
  refine Touch.step ?_ (Touch.faultQWith _ _) (by decide +kernel)
  exact Touch.refl _ _

theorem State.setSat_touch (s : State) (f : Fld) (i : Nat) : Touch (2 ^ (24 + f.ctorIdx) ||| 0x100) s (s.setSat f i) := by
  have hp : Touch (2 ^ (24 + f.ctorIdx) ||| 0x100) s (s.put f i 1) :=
    (s.put_touch f i 1).weaken (by rw [← Nat.or_assoc, Nat.or_self])
  have hr : ∀ r, Touch (2 ^ (24 + f.ctorIdx) ||| 0x100) s ((s.put f i 1).raise r) := fun r =>
    hp.step (State.raise_touch _ r) (by rw [Nat.or_left_comm, Nat.or_self])
  unfold State.setSat
  refine Touch.ite (Touch.refl _ _) ?_
  dsimp only
  split
  · exact hp
  · exact Touch.ite (hr _) hp

/-- The parts that a counter's SAT flag and its event may change. -/
def Fld.satMask (f : Fld) : Nat := match f.satFlag with | some g => 2 ^ (24 + g.ctorIdx) ||| 0x100 | none => 0

theorem State.bump_touch (s : State) (f : Fld) (i n : Nat) : Touch (2 ^ (24 + f.ctorIdx) ||| f.satMask) s (s.bump f i n) := by
  have hp : ∀ v, Touch (2 ^ (24 + f.ctorIdx) ||| f.satMask) s (s.put f i v) := fun v =>
    (s.put_touch f i v).weaken (by rw [← Nat.or_assoc, Nat.or_self])
  unfold State.bump
  split
  · refine Touch.ite ?_ (hp _)
    dsimp only
    split
    · rename_i g hg
      exact (hp _).step (State.setSat_touch _ g i) (by simp only [Fld.satMask, hg]; rw [Nat.or_left_comm, Nat.or_self])
    · exact hp _
  · exact hp _

theorem State.modMsix_touch (s : State) (a1 : ℕ) (a2 : ℕ) (a3 : MsixEnt → MsixEnt) :
    Touch 0x80 s (State.modMsix s a1 a2 a3) := by
  unfold State.modMsix
  refine Touch.step ?_ (State.modHost_touch ..) (by decide +kernel)
  exact Touch.refl _ _

theorem State.pmeEvent_touch (s : State) (a1 : ℕ) :
    Touch 0x100080 s (State.pmeEvent s a1) := by
  unfold State.pmeEvent
  refine Touch.ite ?_ ?_
  · extract_lets -merge -useContext +onlyGivenNames v0
    refine Touch.cut v0 ?_ (fun h1 => ?_)
    · unfold v0
      refine Touch.step ?_ (State.modFn_touch ..) (by decide +kernel)
      exact Touch.refl _ _
    clear_value v0
    refine Touch.ite ?_ ?_
    · refine Touch.step ?_ (State.emit_touch ..) (by decide +kernel)
      exact h1
    · exact h1
  · exact Touch.refl _ _

theorem State.msixEvent_touch (s : State) (a1 : ℕ) (a2 : ℕ) :
    Touch 0x100080 s (State.msixEvent s a1 a2) := by
  unfold State.msixEvent
  extract_lets -merge -useContext +onlyGivenNames v0
  clear_value v0
  refine Touch.ite ?_ ?_
  · exact Touch.refl _ _
  · refine Touch.ite ?_ ?_
    · refine Touch.step ?_ (State.pmeEvent_touch ..) (by decide +kernel)
      refine Touch.step ?_ (State.modMsix_touch ..) (by decide +kernel)
      exact Touch.refl _ _
    · refine Touch.step ?_ (State.emit_touch ..) (by decide +kernel)
      refine Touch.step ?_ (State.modMsix_touch ..) (by decide +kernel)
      exact Touch.refl _ _

theorem State.updIntx_touch (s : State) :
    Touch 0x2000000000000000000000000000000000000000000000000000000000000000000000000000000000000000000000000000100000 s (State.updIntx s) := by
  unfold State.updIntx
  extract_lets -merge -useContext +onlyGivenNames v0
  clear_value v0
  extract_lets -merge -useContext +onlyGivenNames v1
  refine Touch.cut v1 ?_ (fun h2 => ?_)
  · unfold v1
    refine Touch.step ?_ (State.put_touch ..) (by decide +kernel)
    exact Touch.refl _ _
  clear_value v1
  extract_lets -merge -useContext +onlyGivenNames v3
  clear_value v3
  refine Touch.ite ?_ ?_
  · exact h2
  · refine Touch.ite ?_ ?_
    · refine Touch.step ?_ (State.emit_touch ..) (by decide +kernel)
      exact h2
    · refine Touch.ite ?_ ?_
      · refine Touch.step ?_ (State.emit_touch ..) (by decide +kernel)
        exact h2
      · exact h2

theorem State.partVector_touch (s : State) (a1 : ℕ) (a2 : ℕ) :
    Touch 0x2800000000000000000000000000000000000000000000000000000000000000000000000000000000000000000000000000100080 s (State.partVector s a1 a2) := by
  unfold State.partVector
  split
  · exact Touch.refl _ _
  · refine Touch.ite ?_ ?_
    · refine Touch.step ?_ (State.msixEvent_touch ..) (by decide +kernel)
      exact Touch.refl _ _
    · refine Touch.ite ?_ ?_
      · exact Touch.refl _ _
      · refine Touch.step ?_ (State.pmeEvent_touch ..) (by decide +kernel)
        refine Touch.step ?_ (State.updIntx_touch ..) (by decide +kernel)
        refine Touch.step ?_ (State.setBit_touch ..) (by decide +kernel)
        exact Touch.refl _ _
  · refine Touch.ite ?_ ?_
    · refine Touch.step ?_ (State.msixEvent_touch ..) (by decide +kernel)
      exact Touch.refl _ _
    · exact Touch.refl _ _

theorem State.globalEvent_touch (s : State) (a1 : ℕ) :
    Touch 0x3000000000000000000000000000000000000000000000000000000000000000000000000000000000000000000000000000100080 s (State.globalEvent s a1) := by
  unfold State.globalEvent
  split
  · refine Touch.ite ?_ ?_
    · exact Touch.refl _ _
    · refine Touch.ite ?_ ?_
      · refine Touch.step ?_ (State.msixEvent_touch ..) (by decide +kernel)
        exact Touch.refl _ _
      · refine Touch.ite ?_ ?_
        · exact Touch.refl _ _
        · refine Touch.step ?_ (State.pmeEvent_touch ..) (by decide +kernel)
          refine Touch.step ?_ (State.updIntx_touch ..) (by decide +kernel)
          refine Touch.step ?_ (State.setBit_touch ..) (by decide +kernel)
          exact Touch.refl _ _

theorem State.modEmber_touch (s : State) (a1 : Ember → Ember) :
    Touch 0x400 s (State.modEmber s a1) := by
  unfold State.modEmber
  refine Touch.step ?_ (Touch.emberWith _ _) (by decide +kernel)
  exact Touch.refl _ _

theorem State.emberFreeze_touch (s : State) :
    Touch 0x480f8000000000000000000000000000000000000000000000000003000000000000000000000000000000000000000000000000000000000000000000000000000000000000000000000000000100480 s (State.emberFreeze s) := by
  unfold State.emberFreeze
  extract_lets -merge -useContext +onlyGivenNames v0
  refine Touch.cut v0 ?_ (fun h1 => ?_)
  · unfold v0
    refine Touch.step ?_ (State.put_touch ..) (by decide +kernel)
    exact Touch.refl _ _
  clear_value v0
  extract_lets -merge -useContext +onlyGivenNames v2
  refine Touch.cut v2 ?_ (fun h3 => ?_)
  · unfold v2
    refine Touch.step ?_ (State.modEmber_touch ..) (by decide +kernel)
    exact h1
  clear_value v2
  extract_lets -merge -useContext +onlyGivenNames v4
  clear_value v4
  extract_lets -merge -useContext +onlyGivenNames v5
  clear_value v5
  extract_lets -merge -useContext +onlyGivenNames v6
  refine Touch.cut v6 ?_ (fun h7 => ?_)
  · unfold v6
    split
    · refine Touch.step ?_ (State.put_touch ..) (by decide +kernel)
      exact h3
    · refine Touch.step ?_ (State.put_touch ..) (by decide +kernel)
      refine Touch.step ?_ (State.put_touch ..) (by decide +kernel)
      refine Touch.step ?_ (State.put_touch ..) (by decide +kernel)
      refine Touch.step ?_ (State.modEmber_touch ..) (by decide +kernel)
      exact h3
  clear_value v6
  refine Touch.step ?_ (State.globalEvent_touch ..) (by decide +kernel)
  refine Touch.step ?_ (State.latchOut_touch ..) (by decide +kernel)
  exact h7

theorem State.embAppend_touch (s : State) (a1 : EmbRec) :
    Touch 0x1000000000000000000000000000000000000000000000000000000000000000000000000000000000000000000000000000000000000000000000000000000000000000000000000000000000000400 s (State.embAppend s a1) := by
  unfold State.embAppend
  extract_lets -merge -useContext +onlyGivenNames v0
  clear_value v0
  extract_lets -merge -useContext +onlyGivenNames v1
  refine Touch.cut v1 ?_ (fun h2 => ?_)
  · unfold v1
    refine Touch.step ?_ (State.modEmber_touch ..) (by decide +kernel)
    exact Touch.refl _ _
  clear_value v1
  refine Touch.step ?_ (State.put_touch ..) (by decide +kernel)
  exact h2

theorem State.embWrite_touch (s : State) (a1 : EmbRec) :
    Touch 0x49ff8000000000000000000000000000000000000000000000000003000000000000000000000000000000000000000000000000000000000000000000000000000000000000000000000000000100580 s (State.embWrite s a1) := by
  unfold State.embWrite
  refine Touch.ite ?_ ?_
  · exact Touch.refl _ _
  · refine Touch.ite ?_ ?_
    · refine Touch.ite ?_ ?_
      · refine Touch.ite ?_ ?_
        · refine Touch.step ?_ (State.modEmber_touch ..) (by decide +kernel)
          exact Touch.refl _ _
        · refine Touch.step ?_ (State.bump_touch ..) (by decide +kernel)
          refine Touch.step ?_ (State.modEmber_touch ..) (by decide +kernel)
          exact Touch.refl _ _
      · refine Touch.step ?_ (State.bump_touch ..) (by decide +kernel)
        refine Touch.step ?_ (State.modEmber_touch ..) (by decide +kernel)
        exact Touch.refl _ _
    · extract_lets -merge -useContext +onlyGivenNames v0
      refine Touch.cut v0 ?_ (fun h1 => ?_)
      · unfold v0
        refine Touch.step ?_ (State.embAppend_touch ..) (by decide +kernel)
        exact Touch.refl _ _
      clear_value v0
      refine Touch.ite ?_ ?_
      · refine Touch.step ?_ (State.emberFreeze_touch ..) (by decide +kernel)
        exact h1
      · exact h1

theorem State.ember'_touch (s : State) (a1 : ℕ) (a2 : ℕ) (a3 : ℕ) (a4 : Option ℕ) (a5 : ℕ) (a6 : ℕ) (a7 : ℕ) (a8 : ℕ) :
    Touch 0x49ff8000000000000000000000000000000000000000000000000003000000000000000000000000000000000000000000000000000000000000000000000000000000000000000000000000000100580 s (State.ember' s a1 a2 a3 a4 a5 a6 a7 a8) := by
  unfold State.ember'
  refine Touch.step ?_ (State.embWrite_touch ..) (by decide +kernel)
  exact Touch.refl _ _

theorem State.emberTrigger_touch (s : State) (a1 : ℕ) :
    Touch 0x49ff8000000000000000000000000000000000000000000000000003000000000000000000000000000000000000000000000000000000000000000000000000000000000000000000000000000100580 s (State.emberTrigger s a1) := by
  unfold State.emberTrigger
  extract_lets -merge -useContext +onlyGivenNames v0
  refine Touch.ite ?_ ?_
  · exact Touch.refl _ _
  · refine Touch.ite ?_ ?_
    · split
      · refine Touch.step ?_ (State.modEmber_touch ..) (by decide +kernel)
        exact Touch.refl _ _
      · refine Touch.step ?_ (State.modEmber_touch ..) (by decide +kernel)
        exact Touch.refl _ _
    · refine Touch.ite ?_ ?_
      · extract_lets -merge -useContext +onlyGivenNames v1
        refine Touch.cut v1 ?_ (fun h2 => ?_)
        · unfold v1
          refine Touch.step ?_ (State.ember'_touch ..) (by decide +kernel)
          refine Touch.step ?_ (State.modEmber_touch ..) (by decide +kernel)
          exact Touch.refl _ _
        clear_value v1
        refine Touch.ite ?_ ?_
        · refine Touch.step ?_ (State.emberFreeze_touch ..) (by decide +kernel)
          exact h2
        · exact h2
      · extract_lets -merge -useContext +onlyGivenNames v3
        refine Touch.cut v3 ?_ (fun h4 => ?_)
        · unfold v3
          refine Touch.step ?_ (State.modEmber_touch ..) (by decide +kernel)
          exact Touch.refl _ _
        clear_value v3
        extract_lets -merge -useContext +onlyGivenNames v5
        refine Touch.cut v5 ?_ (fun h6 => ?_)
        · unfold v5
          refine Touch.step ?_ (State.ember'_touch ..) (by decide +kernel)
          exact h4
        clear_value v5
        refine Touch.ite ?_ ?_
        · refine Touch.step ?_ (State.emberFreeze_touch ..) (by decide +kernel)
          exact h6
        · refine Touch.step ?_ (State.put_touch ..) (by decide +kernel)
          exact h6

theorem State.emberResume_touch (s : State) :
    Touch 0x49ff8000000000000000000000000000000000000000000000000003000000000000000000000000000000000000000000000000000000000000000000000000000000000000000000000000000100580 s (State.emberResume s) := by
  unfold State.emberResume
  extract_lets -merge -useContext +onlyGivenNames v0
  clear_value v0
  extract_lets -merge -useContext +onlyGivenNames v1
  refine Touch.cut v1 ?_ (fun h2 => ?_)
  · unfold v1
    refine Touch.step ?_ (State.put_touch ..) (by decide +kernel)
    exact Touch.refl _ _
  clear_value v1
  extract_lets -merge -useContext +onlyGivenNames v3
  refine Touch.cut v3 ?_ (fun h4 => ?_)
  · unfold v3
    refine Touch.step ?_ (State.modEmber_touch ..) (by decide +kernel)
    exact h2
  clear_value v3
  extract_lets -merge -useContext +onlyGivenNames v5
  refine Touch.cut v5 ?_ (fun h6 => ?_)
  · unfold v5
    refine Touch.ite ?_ ?_
    · exact h4
    · refine Touch.step ?_ (State.ember'_touch ..) (by decide +kernel)
      exact h4
  clear_value v5
  extract_lets -merge -useContext +onlyGivenNames v7
  refine Touch.cut v7 ?_ (fun h8 => ?_)
  · unfold v7
    refine Touch.foldl ?_ (fun y9 y10 h11 => ?_)
    · exact h6
    · refine Touch.step ?_ (State.embWrite_touch ..) (by decide +kernel)
      exact h11
  clear_value v7
  split
  · refine Touch.step ?_ (State.emberTrigger_touch ..) (by decide +kernel)
    exact h8
  · exact h8

theorem State.breach_touch (s : State) (a1 : ℕ) :
    Touch 0x49ff8000000000000000000000000000000000000000000000000003000000000000000000000000000000000000000000000000000000000000000000000000000000000000000000000000000100580 s (State.breach s a1) := by
  unfold State.breach
  refine Touch.step ?_ (State.ember'_touch ..) (by decide +kernel)
  exact Touch.refl _ _

/-- The state fields of the 24 domains. -/
def domMask : Nat := (Reg.PWR_DOM_STATE.fields.map (fun f => 2 ^ (24 + f.ctorIdx))).foldl (· ||| ·) 0

theorem State.setDom_touch (s : State) (d st : Nat) : Touch domMask s (s.setDom d st) := by
  have hl : ∀ g ∈ Fld.PWR_DOM_STATE_STATE_0 :: Reg.PWR_DOM_STATE.fields, 2 ^ (24 + g.ctorIdx) ||| domMask = domMask := by decide +kernel
  refine (s.put_touch (domFld d) 0 st).weaken (hl _ ?_)
  unfold domFld nthD
  cases h : Reg.PWR_DOM_STATE.fields[d]? with
  | none => exact List.mem_cons_self
  | some g => exact List.mem_cons_of_mem _ (List.mem_of_getElem? h)

theorem State.wake_touch (s : State) (a1 : ℕ) :
    Touch 0xc001fffffe00000000100 s (State.wake s a1) := by
  unfold State.wake
  refine Touch.ite ?_ ?_
  · refine Touch.step ?_ (State.bump_touch ..) (by decide +kernel)
    refine Touch.step ?_ (State.setDom_touch ..) (by decide +kernel)
    exact Touch.refl _ _
  · exact Touch.refl _ _

theorem State.coreLine_touch (s : State) (a1 : ℕ) (a2 : ℕ) :
    Touch 0xc001fffffe00000002100 s (State.coreLine s a1 a2) := by
  unfold State.coreLine
  extract_lets -merge -useContext +onlyGivenNames v0
  clear_value v0
  extract_lets -merge -useContext +onlyGivenNames v1
  refine Touch.cut v1 ?_ (fun h2 => ?_)
  · unfold v1
    refine Touch.step ?_ (Touch.coresWith _ _) (by decide +kernel)
    exact Touch.refl _ _
  clear_value v1
  refine Touch.ite ?_ ?_
  · refine Touch.step ?_ (State.wake_touch ..) (by decide +kernel)
    exact h2
  · exact h2

theorem State.coreLines_touch (s : State) (a1 : ℕ → Bool) (a2 : ℕ) :
    Touch 0xc001fffffe00000002100 s (State.coreLines s a1 a2) := by
  unfold State.coreLines
  refine Touch.foldl ?_ (fun y0 y1 h2 => ?_)
  · exact Touch.refl _ _
  · refine Touch.step ?_ (State.coreLine_touch ..) (by decide +kernel)
    exact h2

theorem State.powerRec_touch (s : State) (a1 : ℕ) (a2 : ℕ) :
    Touch 0x49ff8000000000000000000000000000000000000000000000000003000000000000000000000000000000000000000000000000000000000000000000000000000000000000000000000000000100580 s (State.powerRec s a1 a2) := by
  unfold State.powerRec
  refine Touch.step ?_ (State.ember'_touch ..) (by decide +kernel)
  exact Touch.refl _ _

theorem State.fenceSettle_touch (s : State) :
    Touch 0xe000000000000000000000000000000000000000000000000000000000000000000000000000000000000000000000000000000000000000000000000000000100 s (State.fenceSettle s) := by
  unfold State.fenceSettle
  extract_lets -merge -useContext +onlyGivenNames v0
  clear_value v0
  extract_lets -merge -useContext +onlyGivenNames v1
  refine Touch.cut v1 ?_ (fun h2 => ?_)
  · unfold v1
    refine Touch.step ?_ (State.put_touch ..) (by decide +kernel)
    exact Touch.refl _ _
  clear_value v1
  refine Touch.ite ?_ ?_
  · refine Touch.step ?_ (State.raise_touch ..) (by decide +kernel)
    refine Touch.step ?_ (State.bump_touch ..) (by decide +kernel)
    exact h2
  · exact h2

theorem State.setKimState_touch (s : State) (a1 : ℕ) :
    Touch 0x49ff800000000000000000000000000e000000000000000000000003000000000000000000000000000000000000000000000000000000000000000000000000000040000000c001fffffe00000102580 s (State.setKimState s a1) := by
  unfold State.setKimState
  extract_lets -merge -useContext +onlyGivenNames v0
  refine Touch.cut v0 ?_ (fun h1 => ?_)
  · unfold v0
    refine Touch.step ?_ (State.fenceSettle_touch ..) (by decide +kernel)
    refine Touch.step ?_ (State.put_touch ..) (by decide +kernel)
    exact Touch.refl _ _
  clear_value v0
  refine Touch.step ?_ (State.coreLines_touch ..) (by decide +kernel)
  refine Touch.step ?_ (State.globalEvent_touch ..) (by decide +kernel)
  refine Touch.step ?_ (State.ember'_touch ..) (by decide +kernel)
  exact h1

theorem State.setPartState_touch (s : State) (a1 : ℕ) (a2 : ℕ) :
    Touch 0x2800000000000000000000000000000000000000000000000000000000000000000000008000000000000c001fffffe00000102180 s (State.setPartState s a1 a2) := by
  unfold State.setPartState
  refine Touch.step ?_ (State.coreLines_touch ..) (by decide +kernel)
  refine Touch.step ?_ (State.partVector_touch ..) (by decide +kernel)
  refine Touch.step ?_ (State.put_touch ..) (by decide +kernel)
  exact Touch.refl _ _

theorem State.raiseGlb_touch (s : State) (a1 : ℕ) (a2 : Option ℕ) (a3 : ℕ) :
    Touch 0x100 s (State.raiseGlb s a1 a2 a3) := by
  unfold State.raiseGlb
  refine Touch.step ?_ (State.raise_touch ..) (by decide +kernel)
  exact Touch.refl _ _

theorem State.lockedWrite_touch (s : State) (a1 : ℕ) (a2 : ℕ) :
    Touch 0x100 s (State.lockedWrite s a1 a2) := by
  unfold State.lockedWrite
  refine Touch.step ?_ (State.raiseGlb_touch ..) (by decide +kernel)
  exact Touch.refl _ _

end Sys2Proof.Machine
end

