-- ==== Sys2Proof/Laws/TouchCapture.lean ====
section
/-! SUPPORT. What the operations of Machine/Capture.lean may change. -/
namespace Sys2Proof.Machine

set_option Elab.async false

theorem State.undefine_touch (s : State) (a1 : ℕ) (a2 : ℕ) :
    Touch 0x200800 s (State.undefine s a1 a2) := by
  unfold State.undefine
  extract_lets -merge -useContext +onlyGivenNames v0
  refine Touch.cut v0 ?_ (fun h1 => ?_)
  · unfold v0
    refine Touch.step ?_ (State.modMem_touch _ _ (fun _ => rfl)) (by decide +kernel)
    exact Touch.refl _ _
  clear_value v0
  refine Touch.step ?_ (Touch.freeCtrWith _ _ (Nat.le_add_right _ _)) (by decide +kernel)
  exact h1

theorem State.modTwin_touch (s : State) (a1 : Twin → Twin) :
    Touch 0x80000 s (State.modTwin s a1) := by
  unfold State.modTwin
  refine Touch.step ?_ (Touch.twinWith _ _) (by decide +kernel)
  exact Touch.refl _ _

theorem State.modSrc_touch (s : State) (a1 : ℕ) (a2 : MirSrc → MirSrc) :
    Touch 0x80000 s (State.modSrc s a1 a2) := by
  unfold State.modSrc
  refine Touch.step ?_ (State.modTwin_touch ..) (by decide +kernel)
  exact Touch.refl _ _

theorem State.modRx_touch (s : State) (a1 : ℕ) (a2 : MirRx → MirRx) :
    Touch 0x80000 s (State.modRx s a1 a2) := by
  unfold State.modRx
  refine Touch.step ?_ (State.modTwin_touch ..) (by decide +kernel)
  exact Touch.refl _ _

theorem State.startCatchup_touch (s : State) (a1 : ℕ) :
    Touch 0x80000000000000000000000000000000000000000000000000000000000000000000000000000000000000000000000000000000000000000000000000000000000000000080000 s (State.startCatchup s a1) := by
  unfold State.startCatchup
  refine Touch.step ?_ (State.modSrc_touch ..) (by decide +kernel)
  refine Touch.step ?_ (State.put_touch ..) (by decide +kernel)
  exact Touch.refl _ _

theorem State.lagging_touch (s : State) (a1 : ℕ) (a2 : ℕ) :
    Touch 0x180000000000000000000000000000000000000000000000000000000000000000000000000000000000000000000000000000000000000000000000000000000000000000080100 s (State.lagging s a1 a2) := by
  unfold State.lagging
  refine Touch.ite ?_ ?_
  · refine Touch.step ?_ (State.modSrc_touch ..) (by decide +kernel)
    exact Touch.refl _ _
  · refine Touch.step ?_ (State.raise_touch ..) (by decide +kernel)
    refine Touch.step ?_ (State.put_touch ..) (by decide +kernel)
    refine Touch.step ?_ (State.startCatchup_touch ..) (by decide +kernel)
    exact Touch.refl _ _

theorem State.capture_touch (s : State) (a1 : ℕ) (a2 : List Byte) (a3 : Bool) :
    Touch 0x180000000000000000000000000000000000000000000000000000000000000000000000000000000000000000000000000000000000000000000000000000000000000000280900 s (State.capture s a1 a2 a3) := by
  unfold State.capture
  refine Touch.ite ?_ ?_
  · exact Touch.refl _ _
  · split
    · exact Touch.refl _ _
    · refine Touch.ite ?_ ?_
      · refine Touch.step ?_ (State.undefine_touch ..) (by decide +kernel)
        exact Touch.refl _ _
      · extract_lets -merge -useContext +onlyGivenNames v0
        clear_value v0
        extract_lets -merge -useContext +onlyGivenNames v1
        refine Touch.cut v1 ?_ (fun h2 => ?_)
        · unfold v1
          refine Touch.step ?_ (State.modSrc_touch ..) (by decide +kernel)
          exact Touch.refl _ _
        clear_value v1
        refine Touch.ite ?_ ?_
        · exact h2
        · refine Touch.ite ?_ ?_
          · refine Touch.step ?_ (State.modSrc_touch ..) (by decide +kernel)
            exact h2
          · refine Touch.step ?_ (State.lagging_touch ..) (by decide +kernel)
            exact h2

end Sys2Proof.Machine
end

