-- ==== Sys2Proof/Laws/TouchMemory.lean ====
section
/-! SUPPORT. What the operations of Machine/Memory.lean may change. -/
namespace Sys2Proof.Machine

set_option Elab.async false

theorem State.define_touch (s : State) (a1 : ℕ) (a2 : ℕ) :
    Touch 0x800 s (State.define s a1 a2) := by
  unfold State.define
  refine Touch.ite ?_ ?_
  · exact Touch.refl _ _
  · refine Touch.step ?_ (State.modMem_touch _ _ (fun _ => rfl)) (by decide +kernel)
    exact Touch.refl _ _

theorem State.setPoison_touch (s : State) (a1 : ℕ) (a2 : Bool) :
    Touch 0x800 s (State.setPoison s a1 a2) := by
  unfold State.setPoison
  refine Touch.ite ?_ ?_
  · exact Touch.refl _ _
  · refine Touch.ite ?_ ?_
    · refine Touch.step ?_ (State.modMem_touch _ _ (fun _ => rfl)) (by decide +kernel)
      exact Touch.refl _ _
    · refine Touch.step ?_ (State.modMem_touch _ _ (fun _ => rfl)) (by decide +kernel)
      exact Touch.refl _ _

theorem State.storeBlocks_wf (s : State) (b n : Nat) (bs : List Byte) (m : Mem) (h : m.wf = true) : (s.storeBlocks b bs n m).wf = true := by
  induction n generalizing b bs m with
  | zero => exact h
  | succ n ih => exact ih _ _ _ (Mem.writeN_wf _ _ h)

theorem State.writeLine_touch (s : State) (line off : Nat) (bs : List Byte) (poison : Bool) :
    Touch 0x180000000000000000000000000000000000000000000000000000000000000000000000000000000000000000000000000000000000000000000000000000000000000000a80900 s (s.writeLine line off bs poison) := by
  unfold State.writeLine
  extract_lets full old new s1
  refine Touch.ite (Touch.refl _ _) ?_
  refine Touch.cut s1 ?_ (fun h1 => ?_)
  · exact (State.modMem_touchCells s _ (fun _ h => s.storeBlocks_wf _ _ _ _ h)).weaken (by decide +kernel)
  refine Touch.step ?_ (State.capture_touch ..) (by decide +kernel)
  refine Touch.step ?_ (State.setPoison_touch ..) (by decide +kernel)
  refine Touch.step ?_ (State.define_touch ..) (by decide +kernel)
  exact h1

theorem State.plainWriteF_touch (poison : Bool) (f a : Nat) (bs : List Byte) (s : State) :
    Touch 0x180000000000000000000000000000000000000000000000000000000000000000000000000000000000000000000000000000000000000000000000000000000000000000a80900 s (State.plainWriteF poison f a bs s) := by
  induction f generalizing a bs s with
  | zero => exact Touch.refl _ _
  | succ f ih =>
    unfold State.plainWriteF
    exact Touch.ite (Touch.refl _ _) ((State.writeLine_touch s _ _ _ _).step (ih _ _ _) (by decide +kernel))

theorem State.plainWrite_touch (s : State) (a1 : ℕ) (a2 : List Byte) (a3 : Bool) :
    Touch 0x180000000000000000000000000000000000000000000000000000000000000000000000000000000000000000000000000000000000000000000000000000000000000000a80900 s (State.plainWrite s a1 a2 a3) := by
  unfold State.plainWrite
  refine Touch.step ?_ (State.plainWriteF_touch ..) (by decide +kernel)
  exact Touch.refl _ _

theorem State.rawLine_touch (s : State) (a1 : ℕ) (a2 : ℕ) (a3 : List Byte) :
    Touch 0x180000000000000000000000000000000000000000000000000000000000000000000000000000000000000000000000000000000000000000000000000000000000000000a80900 s (State.rawLine s a1 a2 a3) := by
  unfold State.rawLine
  extract_lets -merge -useContext +onlyGivenNames v0
  refine Touch.ite ?_ ?_
  · exact Touch.refl _ _
  · extract_lets -merge -useContext +onlyGivenNames v1
    refine Touch.cut v1 ?_ (fun h2 => ?_)
    · unfold v1
      refine Touch.step ?_ (State.modMem_touchCells _ _ (fun _ h => Mem.writeN_wf _ _ h)) (by decide +kernel)
      exact Touch.refl _ _
    clear_value v1
    extract_lets -merge -useContext +onlyGivenNames v3
    refine Touch.cut v3 ?_ (fun h4 => ?_)
    · unfold v3
      refine Touch.step ?_ (State.setPoison_touch ..) (by decide +kernel)
      refine Touch.ite ?_ ?_
      · refine Touch.step ?_ (State.define_touch ..) (by decide +kernel)
        exact h2
      · exact h2
    clear_value v3
    refine Touch.step ?_ (State.capture_touch ..) (by decide +kernel)
    exact h4

theorem State.rawWriteF_touch (f a : Nat) (bs : List Byte) (s : State) :
    Touch 0x180000000000000000000000000000000000000000000000000000000000000000000000000000000000000000000000000000000000000000000000000000000000000000a80900 s (State.rawWriteF f a bs s) := by
  induction f generalizing a bs s with
  | zero => exact Touch.refl _ _
  | succ f ih =>
    unfold State.rawWriteF
    exact Touch.ite (Touch.refl _ _) ((State.rawLine_touch s _ _ _).step (ih _ _ _) (by decide +kernel))

theorem State.rawWrite_touch (s : State) (a1 : ℕ) (a2 : List Byte) :
    Touch 0x180000000000000000000000000000000000000000000000000000000000000000000000000000000000000000000000000000000000000000000000000000000000000000a80900 s (State.rawWrite s a1 a2) := by
  unfold State.rawWrite
  refine Touch.step ?_ (State.rawWriteF_touch ..) (by decide +kernel)
  exact Touch.refl _ _

theorem State.eccEvent_touch (a0 : Bool) (s : State) (a2 : EccEvent) :
    Touch 0xf1e000000000000000000000000000000000000000000000000000000000000000000000000000000000a00900 s (State.eccEvent a0 s a2) := by
  unfold State.eccEvent
  extract_lets -merge -useContext +onlyGivenNames v0
  clear_value v0
  extract_lets -merge -useContext +onlyGivenNames v1
  clear_value v1
  refine Touch.ite ?_ ?_
  · exact Touch.refl _ _
  · split
    · refine Touch.step ?_ (State.bump_touch ..) (by decide +kernel)
      exact Touch.refl _ _
    · refine Touch.ite ?_ ?_
      · exact Touch.refl _ _
      · extract_lets -merge -useContext +onlyGivenNames v2
        refine Touch.cut v2 ?_ (fun h3 => ?_)
        · unfold v2
          refine Touch.step ?_ (State.bump_touch ..) (by decide +kernel)
          refine Touch.step ?_ (State.setPoison_touch ..) (by decide +kernel)
          exact Touch.refl _ _
        clear_value v2
        extract_lets -merge -useContext +onlyGivenNames v4
        refine Touch.cut v4 ?_ (fun h5 => ?_)
        · unfold v4
          refine Touch.step ?_ (State.put_touch ..) (by decide +kernel)
          refine Touch.step ?_ (State.put_touch ..) (by decide +kernel)
          refine Touch.step ?_ (State.put_touch ..) (by decide +kernel)
          refine Touch.step ?_ (State.put_touch ..) (by decide +kernel)
          exact h3
        clear_value v4
        refine Touch.step ?_ (State.raise_touch ..) (by decide +kernel)
        exact h5
    · split
      · rename_i y6 y7 y8 y9 y10 y11 y12
        refine Touch.step ?_ (State.modMem_touchCells _ _ (fun _ h => Mem.writeN_wf _ _ h)) (by decide +kernel)
        refine Touch.ofSnd y12 ?_
        refine Touch.step ?_ (State.draw_touch ..) (by decide +kernel)
        exact Touch.refl _ _

theorem State.eccRead_touch (s : State) (a1 : List EccEvent) (a2 : Bool) :
    Touch 0xf1e000000000000000000000000000000000000000000000000000000000000000000000000000000000a00900 s (State.eccRead s a1 a2) := by
  unfold State.eccRead
  refine Touch.foldl ?_ (fun y0 y1 h2 => ?_)
  · exact Touch.refl _ _
  · refine Touch.step ?_ (State.eccEvent_touch ..) (by decide +kernel)
    exact h2

theorem execScrubRead_touch (a0 : ℕ) (a1 : Option LineErr) (s : State) :
    ∃ t, execScrubRead a0 a1 s = .next t ∧ Touch 0xf1e000000000000000000000000000000000000000000000000000000000000000000000000000000000a00900 s t := by
  refine ⟨_, rfl, ?_⟩
  refine Touch.ite ?_ ?_
  · exact Touch.refl _ _
  · split
    · exact Touch.refl _ _
    · refine Touch.step ?_ (State.eccEvent_touch ..) (by decide +kernel)
      exact Touch.refl _ _

end Sys2Proof.Machine
end

