-- ==== Sys2Proof/Laws/TouchDomains.lean ====
section
/-! SUPPORT. What the operations of Machine/Domains.lean may change. -/
namespace Sys2Proof.Machine

set_option Elab.async false

theorem State.needs_touch {M : Nat} {s0 s : State} {d : Nat} {f : State → State} (h : Touch M s0 s) (hf : ∀ u, Touch M s0 u → Touch M s0 (f u))
    (hm : 0xc001fffffe00000000100 ||| M = M) : Touch M s0 (s.needs d f) :=
  Touch.ite (hf _ h) (h.step (State.wake_touch ..) hm)

end Sys2Proof.Machine
end

