-- ==== Sys2Proof/Laws/TouchHostIo.lean ====
section
/-! SUPPORT. What the operations of Machine/HostIo.lean may change. -/
namespace Sys2Proof.Machine

set_option Elab.async false

theorem State.aerReport_touch (s : State) (a1 : ℕ) (a2 : Bool) (a3 : List Byte) :
    Touch 0x3000000000000000000000000000000000000000000000000000000000000000000000000000000000000000000000000000100080 s (State.aerReport s a1 a2 a3) := by
  unfold State.aerReport
  extract_lets -merge -useContext +onlyGivenNames v0
  clear_value v0
  extract_lets -merge -useContext +onlyGivenNames v1
  clear_value v1
  extract_lets -merge -useContext +onlyGivenNames v2
  clear_value v2
  extract_lets -merge -useContext +onlyGivenNames v3
  refine Touch.cut v3 ?_ (fun h4 => ?_)
  · unfold v3
    refine Touch.step ?_ (State.modFn_touch ..) (by decide +kernel)
    exact Touch.refl _ _
  clear_value v3
  refine Touch.ite ?_ ?_
  · extract_lets -merge -useContext +onlyGivenNames v5
    refine Touch.cut v5 ?_ (fun h6 => ?_)
    · unfold v5
      refine Touch.step ?_ (State.modFn_touch ..) (by decide +kernel)
      exact h4
    clear_value v5
    refine Touch.ite ?_ ?_
    · exact h6
    · refine Touch.step ?_ (State.globalEvent_touch ..) (by decide +kernel)
      refine Touch.ite ?_ ?_
      · refine Touch.step ?_ (State.emit_touch ..) (by decide +kernel)
        exact h6
      · exact h6
  · refine Touch.ite ?_ ?_
    · exact h4
    · extract_lets -merge -useContext +onlyGivenNames v7
      refine Touch.cut v7 ?_ (fun h8 => ?_)
      · unfold v7
        refine Touch.step ?_ (State.globalEvent_touch ..) (by decide +kernel)
        exact h4
      clear_value v7
      extract_lets -merge -useContext +onlyGivenNames v9
      refine Touch.cut v9 ?_ (fun h10 => ?_)
      · unfold v9
        refine Touch.ite ?_ ?_
        · refine Touch.step ?_ (State.modFn_touch ..) (by decide +kernel)
          exact h8
        · exact h8
      clear_value v9
      refine Touch.ite ?_ ?_
      · refine Touch.ite ?_ ?_
        · refine Touch.step ?_ (State.emit_touch ..) (by decide +kernel)
          exact h10
        · exact h10
      · refine Touch.ite ?_ ?_
        · refine Touch.step ?_ (State.emit_touch ..) (by decide +kernel)
          exact h10
        · exact h10

theorem State.enterQuarantine_touch (s : State) :
    Touch 0x49ff800000000000000000000000000000000000000000000000000300000c100000000000000000000000000000000000000000000000000000000000000000000000000000000000000000000100580 s (State.enterQuarantine s) := by
  unfold State.enterQuarantine
  extract_lets -merge -useContext +onlyGivenNames v0
  refine Touch.cut v0 ?_ (fun h1 => ?_)
  · unfold v0
    refine Touch.step ?_ (State.bump_touch ..) (by decide +kernel)
    refine Touch.step ?_ (State.put_touch ..) (by decide +kernel)
    exact Touch.refl _ _
  clear_value v0
  extract_lets -merge -useContext +onlyGivenNames v2
  refine Touch.cut v2 ?_ (fun h3 => ?_)
  · unfold v2
    refine Touch.step ?_ (State.globalEvent_touch ..) (by decide +kernel)
    refine Touch.step ?_ (State.aerReport_touch ..) (by decide +kernel)
    exact h1
  clear_value v2
  refine Touch.ite ?_ ?_
  · refine Touch.step ?_ (State.emberTrigger_touch ..) (by decide +kernel)
    exact h3
  · exact h3

theorem State.violation_touch (s : State) (a1 : ℕ) (a2 : ℕ) (a3 : List Byte) (a4 : Bool) (a5 : Bool) :
    Touch 0x49ff80000000000000000000000000000000000000000000000000030001fe100000000000000000000000000000000000000000000000000000000000000000000000000000000000000000000100580 s (State.violation s a1 a2 a3 a4 a5) := by
  unfold State.violation
  extract_lets -merge -useContext +onlyGivenNames v0
  refine Touch.cut v0 ?_ (fun h1 => ?_)
  · unfold v0
    refine Touch.step ?_ (State.ember'_touch ..) (by decide +kernel)
    exact Touch.refl _ _
  clear_value v0
  extract_lets -merge -useContext +onlyGivenNames v2
  refine Touch.cut v2 ?_ (fun h3 => ?_)
  · unfold v2
    refine Touch.step ?_ (State.bump_touch ..) (by decide +kernel)
    exact h1
  clear_value v2
  extract_lets -merge -useContext +onlyGivenNames v4
  refine Touch.cut v4 ?_ (fun h5 => ?_)
  · unfold v4
    refine Touch.step ?_ (State.put_touch ..) (by decide +kernel)
    refine Touch.step ?_ (State.put_touch ..) (by decide +kernel)
    refine Touch.step ?_ (State.put_touch ..) (by decide +kernel)
    exact h3
  clear_value v4
  extract_lets -merge -useContext +onlyGivenNames v6
  refine Touch.cut v6 ?_ (fun h7 => ?_)
  · unfold v6
    refine Touch.step ?_ (State.put_touch ..) (by decide +kernel)
    exact h5
  clear_value v6
  extract_lets -merge -useContext +onlyGivenNames v8
  refine Touch.cut v8 ?_ (fun h9 => ?_)
  · unfold v8
    split
    · refine Touch.step ?_ (State.aerReport_touch ..) (by decide +kernel)
      exact h7
    · exact h7
  clear_value v8
  refine Touch.ite ?_ ?_
  · extract_lets -merge -useContext +onlyGivenNames v10
    clear_value v10
    extract_lets -merge -useContext +onlyGivenNames v11
    clear_value v11
    extract_lets -merge -useContext +onlyGivenNames v12
    refine Touch.cut v12 ?_ (fun h13 => ?_)
    · unfold v12
      refine Touch.step ?_ (State.modHost_touch ..) (by decide +kernel)
      exact h9
    clear_value v12
    refine Touch.ite ?_ ?_
    · refine Touch.step ?_ (State.enterQuarantine_touch ..) (by decide +kernel)
      exact h13
    · exact h13
  · exact h9

theorem State.hostErr_touch (s : State) (a1 : Option ℕ) :
    Touch 0x6000000000000000000000000000000000000000000000000000000000000000000000000000000000000000000000000000000000100 s (State.hostErr s a1) := by
  unfold State.hostErr
  split
  · refine Touch.step ?_ (State.bump_touch ..) (by decide +kernel)
    exact Touch.refl _ _
  · exact Touch.refl _ _

theorem State.emitWrite_touch (s : State) (a1 : ℕ) (a2 : ℕ) (a3 : ℕ) (a4 : List Byte) :
    Touch 0x100000 s (State.emitWrite s a1 a2 a3 a4) := by
  induction a2 generalizing s a1 a3 a4
  · unfold State.emitWrite
    exact Touch.refl _ _
  · rename_i n_ ih
    unfold State.emitWrite
    refine Touch.ite ?_ ?_
    · exact Touch.refl _ _
    · extract_lets -merge -useContext +onlyGivenNames v0
      clear_value v0
      refine Touch.stepSelf ?_ (ih ..)
      refine Touch.step ?_ (State.emit_touch ..) (by decide +kernel)
      exact Touch.refl _ _

theorem State.ioReq_touch (s : State) (a1 : HostReq) :
    Touch 0x100080 s (State.ioReq s a1) := by
  unfold State.ioReq
  refine Touch.ite ?_ ?_
  · refine Touch.step ?_ (State.modHost_touch ..) (by decide +kernel)
    exact Touch.refl _ _
  · refine Touch.ite ?_ ?_
    · refine Touch.step ?_ (State.emitWrite_touch ..) (by decide +kernel)
      exact Touch.refl _ _
    · split
      · refine Touch.step ?_ (State.modHost_touch ..) (by decide +kernel)
        exact Touch.refl _ _
      · extract_lets -merge -useContext +onlyGivenNames v0
        refine Touch.cut v0 ?_ (fun h1 => ?_)
        · unfold v0
          refine Touch.step ?_ (State.modHost_touch ..) (by decide +kernel)
          exact Touch.refl _ _
        clear_value v0
        split
        · refine Touch.step ?_ (State.emit_touch ..) (by decide +kernel)
          exact h1
        · refine Touch.step ?_ (State.emit_touch ..) (by decide +kernel)
          exact h1

theorem State.ioRead_touch (s : State) (a1 : Requester) (a2 : ℕ) (a3 : Option ℕ) (a4 : ℕ) (a5 : ℕ) (a6 : ℕ) (a7 : Option ℕ) :
    Touch 0x100080 s (State.ioRead s a1 a2 a3 a4 a5 a6 a7) := by
  unfold State.ioRead
  refine Touch.step ?_ (State.ioReq_touch ..) (by decide +kernel)
  exact Touch.refl _ _

theorem State.ioWrite_touch (s : State) (a1 : ℕ) (a2 : Option ℕ) (a3 : ℕ) (a4 : List Byte) :
    Touch 0x100080 s (State.ioWrite s a1 a2 a3 a4) := by
  unfold State.ioWrite
  refine Touch.step ?_ (State.ioReq_touch ..) (by decide +kernel)
  exact Touch.refl _ _

theorem State.pumpHost_touch (s : State) :
    Touch 0x100080 s (State.pumpHost s) := by
  unfold State.pumpHost
  refine Touch.foldl ?_ (fun y0 y1 h2 => ?_)
  · refine Touch.step ?_ (State.modHost_touch ..) (by decide +kernel)
    exact Touch.refl _ _
  · refine Touch.ite ?_ ?_
    · refine Touch.step ?_ (State.modHost_touch ..) (by decide +kernel)
      exact h2
    · refine Touch.step ?_ (State.ioReq_touch ..) (by decide +kernel)
      exact h2

theorem State.dropReqs_touch (s : State) (a1 : HostReq → Bool) (a2 : Requester) :
    Touch 0x80 s (State.dropReqs s a1 a2) := by
  unfold State.dropReqs
  refine Touch.step ?_ (State.modHost_touch ..) (by decide +kernel)
  exact Touch.refl _ _

theorem State.strayCpl_touch (s : State) (a1 : ℕ) (a2 : List Byte) :
    Touch 0x49ff80000000000000000000000000000000000000000000000000030019fe100000000000000000000000000000000000000000000000000000000000000000000000000000000000000000000100580 s (State.strayCpl s a1 a2) := by
  unfold State.strayCpl
  refine Touch.ite ?_ ?_
  · refine Touch.step ?_ (State.bump_touch ..) (by decide +kernel)
    refine Touch.step ?_ (State.modHost_touch ..) (by decide +kernel)
    exact Touch.refl _ _
  · refine Touch.step ?_ (State.violation_touch ..) (by decide +kernel)
    exact Touch.refl _ _

theorem State.delReq_touch (s : State) (a1 : ℕ) :
    Touch 0x80 s (State.delReq s a1) := by
  unfold State.delReq
  refine Touch.step ?_ (State.modHost_touch ..) (by decide +kernel)
  exact Touch.refl _ _

theorem State.sendPending_touch (s : State) (a1 : ℕ) :
    Touch 0x100080 s (State.sendPending s a1) := by
  unfold State.sendPending
  refine Touch.foldl ?_ (fun y0 y1 h2 => ?_)
  · exact Touch.refl _ _
  · refine Touch.ite ?_ ?_
    · refine Touch.step ?_ (State.msixEvent_touch ..) (by decide +kernel)
      exact h2
    · exact h2

end Sys2Proof.Machine
end

