-- ==== Sys2Proof/Laws/TouchQueue.lean ====
section
/-! SUPPORT. What the operations of Machine/Queue.lean may change. -/
namespace Sys2Proof.Machine

set_option Elab.async false

theorem State.dbError_touch (s : State) (a1 : ℕ) (a2 : ℕ) (a3 : ℕ) :
    Touch 0x6400000000000000000000000000000000000000100 s (State.dbError s a1 a2 a3) := by
  unfold State.dbError
  extract_lets -merge -useContext +onlyGivenNames v0
  refine Touch.cut v0 ?_ (fun h1 => ?_)
  · unfold v0
    refine Touch.step ?_ (State.bump_touch ..) (by decide +kernel)
    refine Touch.step ?_ (State.put_touch ..) (by decide +kernel)
    exact Touch.refl _ _
  clear_value v0
  refine Touch.step ?_ (State.raise_touch ..) (by decide +kernel)
  exact h1

theorem State.dbRefused_touch (s : State) (a1 : ℕ) (a2 : ℕ) (a3 : ℕ) :
    Touch 0x49ff8000000000000000000000000000000000000000000000000003000000000000000000000000000000000000000000000000000000000000000000000000000000000000000000000000000100580 s (State.dbRefused s a1 a2 a3) := by
  unfold State.dbRefused
  refine Touch.step ?_ (State.ember'_touch ..) (by decide +kernel)
  exact Touch.refl _ _

theorem State.sqDoorbell_touch (s : State) (a1 : ℕ) (a2 : ℕ) (a3 : ℕ) :
    Touch 0x49ff800000000000000000000000000000000000000000000000000300000000000000000000000000000000000000000000000000000000000000e400000000000000000000000000000000000100580 s (State.sqDoorbell s a1 a2 a3) := by
  unfold State.sqDoorbell
  extract_lets -merge -useContext +onlyGivenNames v0
  clear_value v0
  extract_lets -merge -useContext +onlyGivenNames v1
  clear_value v1
  refine Touch.ite ?_ ?_
  · refine Touch.step ?_ (State.dbRefused_touch ..) (by decide +kernel)
    exact Touch.refl _ _
  · refine Touch.ite ?_ ?_
    · exact Touch.refl _ _
    · extract_lets -merge -useContext +onlyGivenNames v2
      clear_value v2
      extract_lets -merge -useContext +onlyGivenNames v3
      clear_value v3
      refine Touch.ite ?_ ?_
      · refine Touch.step ?_ (State.dbError_touch ..) (by decide +kernel)
        exact Touch.refl _ _
      · refine Touch.step ?_ (State.put_touch ..) (by decide +kernel)
        exact Touch.refl _ _

theorem execSqDoorbell_touch (a0 : ℕ) (a1 : ℕ) (a2 : ℕ) (s : State) :
    ∃ t, execSqDoorbell a0 a1 a2 s = .next t ∧ Touch 0x49ff800000000000000000000000000000000000000000000000000300000000000000000000000000000000000000000000000000000000000000e400000000000000000000000000000000000100580 s t := by
  refine ⟨_, rfl, ?_⟩
  refine Touch.step ?_ (State.sqDoorbell_touch ..) (by decide +kernel)
  exact Touch.refl _ _

theorem State.cqDoorbell_touch (s : State) (a1 : ℕ) (a2 : ℕ) (a3 : ℕ) :
    Touch 0x49ff8000000000000000000000000000000000000000000000000003000000000000000000000000000000000000000000000000000000000000016400000000000000000000000000000000000100580 s (State.cqDoorbell s a1 a2 a3) := by
  unfold State.cqDoorbell
  refine Touch.ite ?_ ?_
  · refine Touch.step ?_ (State.dbRefused_touch ..) (by decide +kernel)
    exact Touch.refl _ _
  · refine Touch.ite ?_ ?_
    · exact Touch.refl _ _
    · refine Touch.ite ?_ ?_
      · refine Touch.step ?_ (State.dbError_touch ..) (by decide +kernel)
        exact Touch.refl _ _
      · refine Touch.step ?_ (State.put_touch ..) (by decide +kernel)
        exact Touch.refl _ _

theorem execCqDoorbell_touch (a0 : ℕ) (a1 : ℕ) (a2 : ℕ) (s : State) :
    ∃ t, execCqDoorbell a0 a1 a2 s = .next t ∧ Touch 0x49ff8000000000000000000000000000000000000000000000000003000000000000000000000000000000000000000000000000000000000000016400000000000000000000000000000000000100580 s t := by
  refine ⟨_, rfl, ?_⟩
  refine Touch.step ?_ (State.cqDoorbell_touch ..) (by decide +kernel)
  exact Touch.refl _ _

theorem State.modCmd_touch (s : State) (a1 : ℕ) (a2 : ℕ) (a3 : ActiveCmd → ActiveCmd) :
    Touch 0x20 s (State.modCmd s a1 a2 a3) := by
  unfold State.modCmd
  refine Touch.step ?_ (State.modPart_touch ..) (by decide +kernel)
  exact Touch.refl _ _

theorem State.finish_touch (s : State) (a1 : ℕ) (a2 : ℕ) (a3 : ℕ) (a4 : ℕ) :
    Touch 0x20 s (State.finish s a1 a2 a3 a4) := by
  unfold State.finish
  split
  · exact Touch.refl _ _
  · split
    · exact Touch.refl _ _
    · refine Touch.step ?_ (State.modPart_touch ..) (by decide +kernel)
      refine Touch.step ?_ (State.modCmd_touch ..) (by decide +kernel)
      exact Touch.refl _ _

theorem State.acceptCommand_touch (s : State) (a1 : ℕ) (a2 : ℕ) (a3 : List Byte) :
    Touch 0x2000000000000000000000000000000000000020 s (State.acceptCommand s a1 a2 a3) := by
  unfold State.acceptCommand
  extract_lets -merge -useContext +onlyGivenNames v0
  clear_value v0
  extract_lets -merge -useContext +onlyGivenNames v1
  clear_value v1
  extract_lets -merge -useContext +onlyGivenNames v2
  clear_value v2
  extract_lets -merge -useContext +onlyGivenNames v3
  clear_value v3
  extract_lets -merge -useContext +onlyGivenNames v4
  clear_value v4
  extract_lets -merge -useContext +onlyGivenNames v5
  refine Touch.cut v5 ?_ (fun h6 => ?_)
  · unfold v5
    refine Touch.step ?_ (State.modPart_touch ..) (by decide +kernel)
    refine Touch.step ?_ (State.put_touch ..) (by decide +kernel)
    exact Touch.refl _ _
  clear_value v5
  refine Touch.ite ?_ ?_
  · refine Touch.step ?_ (State.finish_touch ..) (by decide +kernel)
    exact h6
  · refine Touch.ite ?_ ?_
    · refine Touch.step ?_ (State.finish_touch ..) (by decide +kernel)
      exact h6
    · refine Touch.ite ?_ ?_
      · refine Touch.step ?_ (State.finish_touch ..) (by decide +kernel)
        exact h6
      · exact h6

theorem State.stopPair_touch (s : State) (a1 : ℕ) (a2 : ℕ) (a3 : ℕ) :
    Touch 0x6000000000000000000000000000000000000000000000000000000000000000001800000000000000000000000000000000000000120 s (State.stopPair s a1 a2 a3) := by
  unfold State.stopPair
  extract_lets -merge -useContext +onlyGivenNames v0
  clear_value v0
  extract_lets -merge -useContext +onlyGivenNames v1
  refine Touch.cut v1 ?_ (fun h2 => ?_)
  · unfold v1
    refine Touch.step ?_ (State.modPart_touch ..) (by decide +kernel)
    refine Touch.step ?_ (State.put_touch ..) (by decide +kernel)
    refine Touch.step ?_ (State.put_touch ..) (by decide +kernel)
    exact Touch.refl _ _
  clear_value v1
  refine Touch.step ?_ (State.hostErr_touch ..) (by decide +kernel)
  refine Touch.step ?_ (State.raise_touch ..) (by decide +kernel)
  exact h2

theorem State.commandFetch_touch (s : State) (a1 : ℕ) (a2 : Option (List Byte)) :
    Touch 0x60000000000000000000000000000000000000000000000000000000000000000018020000000000000000000000000000000001001a0 s (State.commandFetch s a1 a2) := by
  unfold State.commandFetch
  refine Touch.ite ?_ ?_
  · exact Touch.refl _ _
  · split
    · refine Touch.ite ?_ ?_
      · refine Touch.step ?_ (State.stopPair_touch ..) (by decide +kernel)
        exact Touch.refl _ _
      · split
        · refine Touch.ite ?_ ?_
          · exact Touch.refl _ _
          · refine Touch.step ?_ (State.acceptCommand_touch ..) (by decide +kernel)
            exact Touch.refl _ _
        · refine Touch.step ?_ (State.ioRead_touch ..) (by decide +kernel)
          refine Touch.step ?_ (State.modPart_touch ..) (by decide +kernel)
          exact Touch.refl _ _
    · exact Touch.refl _ _

theorem execCommandFetch_touch (a0 : ℕ) (a1 : Option (List Byte)) (s : State) :
    ∃ t, execCommandFetch a0 a1 s = .next t ∧ Touch 0x60000000000000000000000000000000000000000000000000000000000000000018020000000000000000000000000000000001001a0 s t := by
  refine ⟨_, rfl, ?_⟩
  refine Touch.step ?_ (State.commandFetch_touch ..) (by decide +kernel)
  exact Touch.refl _ _

theorem State.start_touch {M : Nat} {s0 s : State} {p n opcode : Nat} {f : ActiveCmd → State → State} (h : Touch M s0 s)
    (hf : ∀ c u, Touch M s0 u → Touch M s0 (f c u)) (hm : 0x20 ||| M = M) : Touch M s0 (s.start p n opcode f) := by
  unfold State.start
  split
  · exact h
  · exact Touch.ite h (Touch.ite (h.step (State.finish_touch ..) hm) (hf _ _ h))

theorem State.loseRecord_touch (s : State) (a1 : ℕ) (a2 : ActiveCmd) :
    Touch 0x49ff8000000000000000000000000000000000000000000000000003000000000000000000000000000000000000000000000000000000000000000000000000000000000000000000000000000100580 s (State.loseRecord s a1 a2) := by
  unfold State.loseRecord
  refine Touch.step ?_ (State.ember'_touch ..) (by decide +kernel)
  exact Touch.refl _ _

theorem State.retire_touch (s : State) (a1 : ℕ) (a2 : ℕ) :
    Touch 0x20 s (State.retire s a1 a2) := by
  unfold State.retire
  refine Touch.step ?_ (State.modPart_touch ..) (by decide +kernel)
  exact Touch.refl _ _

theorem State.cqVector_touch (s : State) (a1 : ℕ) (a2 : ℕ) :
    Touch 0x28000000000000000000000000000000000000000000000000000000000000000000000000000000000000000000000000001000a0 s (State.cqVector s a1 a2) := by
  unfold State.cqVector
  refine Touch.step ?_ (State.partVector_touch ..) (by decide +kernel)
  refine Touch.step ?_ (State.modPart_touch ..) (by decide +kernel)
  exact Touch.refl _ _

theorem State.writeRecord_touch (s : State) (a1 : ℕ) (a2 : ℕ) (a3 : ActiveCmd) (a4 : ℕ) (a5 : ℕ) :
    Touch 0x28000000000000000000000000000000000000000000000000000000000000003000000000000000000000000000000000001000a0 s (State.writeRecord s a1 a2 a3 a4 a5) := by
  unfold State.writeRecord
  extract_lets -merge -useContext +onlyGivenNames v0
  clear_value v0
  extract_lets -merge -useContext +onlyGivenNames v1
  clear_value v1
  extract_lets -merge -useContext +onlyGivenNames v2
  clear_value v2
  extract_lets -merge -useContext +onlyGivenNames v3
  clear_value v3
  extract_lets -merge -useContext +onlyGivenNames v4
  refine Touch.cut v4 ?_ (fun h5 => ?_)
  · unfold v4
    refine Touch.step ?_ (State.ioWrite_touch ..) (by decide +kernel)
    exact Touch.refl _ _
  clear_value v4
  extract_lets -merge -useContext +onlyGivenNames v6
  clear_value v6
  extract_lets -merge -useContext +onlyGivenNames v7
  refine Touch.cut v7 ?_ (fun h8 => ?_)
  · unfold v7
    refine Touch.step ?_ (State.put_touch ..) (by decide +kernel)
    exact h5
  clear_value v7
  extract_lets -merge -useContext +onlyGivenNames v9
  refine Touch.cut v9 ?_ (fun h10 => ?_)
  · unfold v9
    refine Touch.ite ?_ ?_
    · refine Touch.step ?_ (State.put_touch ..) (by decide +kernel)
      exact h8
    · exact h8
  clear_value v9
  extract_lets -merge -useContext +onlyGivenNames v11
  clear_value v11
  extract_lets -merge -useContext +onlyGivenNames v12
  refine Touch.cut v12 ?_ (fun h13 => ?_)
  · unfold v12
    refine Touch.step ?_ (State.modPart_touch ..) (by decide +kernel)
    exact h10
  clear_value v12
  refine Touch.ite ?_ ?_
  · refine Touch.step ?_ (State.cqVector_touch ..) (by decide +kernel)
    exact h13
  · exact h13

theorem State.complete_touch (s : State) (a1 : ℕ) (a2 : ℕ) :
    Touch 0x49ff8000000000000000000000000000000000000000000000006003800000000000000000000000000000000000000000000000000000000000001b001800000000000000000000000000000001005a0 s (State.complete s a1 a2) := by
  unfold State.complete
  split
  · exact Touch.refl _ _
  · split
    · extract_lets -merge -useContext +onlyGivenNames v0
      clear_value v0
      extract_lets -merge -useContext +onlyGivenNames v1
      clear_value v1
      refine Touch.ite ?_ ?_
      · exact Touch.refl _ _
      · refine Touch.ite ?_ ?_
        · refine Touch.step ?_ (State.bump_touch ..) (by decide +kernel)
          refine Touch.step ?_ (State.retire_touch ..) (by decide +kernel)
          exact Touch.refl _ _
        · refine Touch.ite ?_ ?_
          · refine Touch.step ?_ (State.retire_touch ..) (by decide +kernel)
            refine Touch.step ?_ (State.loseRecord_touch ..) (by decide +kernel)
            exact Touch.refl _ _
          · refine Touch.ite ?_ ?_
            · exact Touch.refl _ _
            · refine Touch.ite ?_ ?_
              · refine Touch.step ?_ (State.retire_touch ..) (by decide +kernel)
                refine Touch.step ?_ (State.stopPair_touch ..) (by decide +kernel)
                refine Touch.step ?_ (State.loseRecord_touch ..) (by decide +kernel)
                exact Touch.refl _ _
              · refine Touch.ite ?_ ?_
                · exact Touch.refl _ _
                · refine Touch.step ?_ (State.bump_touch ..) (by decide +kernel)
                  refine Touch.step ?_ (State.retire_touch ..) (by decide +kernel)
                  refine Touch.step ?_ (State.writeRecord_touch ..) (by decide +kernel)
                  exact Touch.refl _ _
    · exact Touch.refl _ _

theorem execCompletionRecordWrite_touch (a0 : ℕ) (a1 : ℕ) (s : State) :
    ∃ t, execCompletionRecordWrite a0 a1 s = .next t ∧ Touch 0x49ff8000000000000000000000000000000000000000000000006003800000000000000000000000000000000000000000000000000000000000001b001800000000000000000000000000000001005a0 s t := by
  refine ⟨_, rfl, ?_⟩
  refine Touch.step ?_ (State.complete_touch ..) (by decide +kernel)
  exact Touch.refl _ _

theorem execCqIrqTimeout_touch (a0 : ℕ) (a1 : ℕ) (s : State) :
    ∃ t, execCqIrqTimeout a0 a1 s = .next t ∧ Touch 0x28000000000000000000000000000000000000000000000000000000000000000000000000000000000000000000000000001000a0 s t := by
  refine ⟨_, rfl, ?_⟩
  refine Touch.ite ?_ ?_
  · refine Touch.step ?_ (State.cqVector_touch ..) (by decide +kernel)
    exact Touch.refl _ _
  · exact Touch.refl _ _

theorem execNopCommand_touch (a0 : ℕ) (a1 : ℕ) (s : State) :
    ∃ t, execNopCommand a0 a1 s = .next t ∧ Touch 0x20 s t := by
  refine ⟨_, rfl, ?_⟩
  refine State.start_touch ?_ (fun y0 y1 h2 => ?_) (by decide +kernel)
  · exact Touch.refl _ _
  · refine Touch.step ?_ (State.finish_touch ..) (by decide +kernel)
    exact h2

end Sys2Proof.Machine
end

