-- ==== Sys2Proof/Laws/TouchTile.lean ====
section
/-! SUPPORT. What the operations of Machine/Tile.lean may change. -/
namespace Sys2Proof.Machine

set_option Elab.async false

theorem State.modTile_touch (s : State) (a1 : ℕ) (a2 : Tile → Tile) :
    Touch 0x1000 s (State.modTile s a1 a2) := by
  unfold State.modTile
  refine Touch.step ?_ (Touch.tilesWith _ _) (by decide +kernel)
  exact Touch.refl _ _

theorem State.modCore_touch (s : State) (a1 : ℕ) (a2 : Core → Core) :
    Touch 0x2000 s (State.modCore s a1 a2) := by
  unfold State.modCore
  refine Touch.step ?_ (Touch.coresWith _ _) (by decide +kernel)
  exact Touch.refl _ _

theorem State.modSeq_touch (s : State) (a1 : ℕ) (a2 : SeqUnit → SeqUnit) :
    Touch 0x40000 s (State.modSeq s a1 a2) := by
  unfold State.modSeq
  refine Touch.step ?_ (Touch.seqsWith _ _) (by decide +kernel)
  exact Touch.refl _ _

theorem State.modMsg_touch (s : State) (a1 : ℕ) (a2 : NodeMsg → NodeMsg) :
    Touch 0x43000 s (State.modMsg s a1 a2) := by
  unfold State.modMsg
  refine Touch.ite ?_ ?_
  · refine Touch.step ?_ (State.modSeq_touch ..) (by decide +kernel)
    exact Touch.refl _ _
  · refine Touch.ite ?_ ?_
    · refine Touch.step ?_ (State.modCore_touch ..) (by decide +kernel)
      exact Touch.refl _ _
    · refine Touch.step ?_ (State.modTile_touch ..) (by decide +kernel)
      exact Touch.refl _ _

theorem State.tileRead_touch (s : State) (a1 : ℕ) (a2 : ℕ) (a3 : ℕ) :
    Touch 0x200000 s (State.tileRead s a1 a2 a3).2 := by
  unfold State.tileRead
  extract_lets -merge -useContext +onlyGivenNames v0
  clear_value v0
  refine Touch.iteSnd ?_ ?_
  · refine Touch.mkSnd ?_
    exact Touch.refl _ _
  · refine Touch.mkSnd ?_
    refine Touch.step ?_ (Touch.freeCtrWith _ _ (Nat.le_add_right _ _)) (by decide +kernel)
    exact Touch.refl _ _

theorem State.nodeRead_touch (s : State) (a1 : ℕ) (a2 : ℕ) (a3 : ℕ) :
    Touch 0x200000 s (State.nodeRead s a1 a2 a3).2 := by
  unfold State.nodeRead
  refine Touch.iteSnd ?_ ?_
  · split
    · refine Touch.mkSnd ?_
      exact Touch.refl _ _
    · refine Touch.mkSnd ?_
      refine Touch.step ?_ (Touch.freeCtrWith _ _ (Nat.le_add_right _ _)) (by decide +kernel)
      exact Touch.refl _ _
  · extract_lets -merge -useContext +onlyGivenNames v0
    refine Touch.cut v0.2 ?_ (fun h1 => ?_)
    · unfold v0
      refine Touch.step ?_ (State.tileRead_touch ..) (by decide +kernel)
      exact Touch.refl _ _
    clear_value v0
    refine Touch.mkSnd ?_
    exact h1

theorem State.nodeLand_touch (s : State) (a1 : ℕ) (a2 : ℕ) (a3 : List Byte) (a4 : Bool) :
    Touch 0x180000000000000000000000000000000000000000000000000000000000000000000000000000000000000000000000000000000000000000000000000000000000000000a81900 s (State.nodeLand s a1 a2 a3 a4) := by
  unfold State.nodeLand
  refine Touch.ite ?_ ?_
  · split
    · refine Touch.step ?_ (State.plainWrite_touch ..) (by decide +kernel)
      exact Touch.refl _ _
    · exact Touch.refl _ _
  · refine Touch.step ?_ (State.modTile_touch ..) (by decide +kernel)
    exact Touch.refl _ _

theorem State.settleNode_touch (s : State) (a1 : ℕ) :
    Touch 0x3000 s (State.settleNode s a1) := by
  unfold State.settleNode
  refine Touch.ite ?_ ?_
  · refine Touch.step ?_ (State.modCore_touch ..) (by decide +kernel)
    exact Touch.refl _ _
  · refine Touch.ite ?_ ?_
    · exact Touch.refl _ _
    · refine Touch.step ?_ (State.modTile_touch ..) (by decide +kernel)
      exact Touch.refl _ _

theorem State.advance_touch (s : State) (a1 : ℕ) (a2 : ℕ) (a3 : ℕ) :
    Touch 0x43000 s (State.advance s a1 a2 a3) := by
  unfold State.advance
  refine Touch.step ?_ (State.settleNode_touch ..) (by decide +kernel)
  refine Touch.step ?_ (State.modMsg_touch ..) (by decide +kernel)
  exact Touch.refl _ _

theorem State.modRegion_touch (s : State) (a1 : ℕ) (a2 : ℕ) (a3 : ℕ) (a4 : Region → Region) :
    Touch 0x3000 s (State.modRegion s a1 a2 a3 a4) := by
  unfold State.modRegion
  refine Touch.ite ?_ ?_
  · refine Touch.step ?_ (State.modCore_touch ..) (by decide +kernel)
    exact Touch.refl _ _
  · refine Touch.ite ?_ ?_
    · exact Touch.refl _ _
    · refine Touch.step ?_ (State.modTile_touch ..) (by decide +kernel)
      exact Touch.refl _ _

theorem State.modSend_touch (s : State) (a1 : ℕ) (a2 : ℕ) (a3 : SendEnt → SendEnt) :
    Touch 0x43000 s (State.modSend s a1 a2 a3) := by
  unfold State.modSend
  refine Touch.step ?_ (State.modMsg_touch ..) (by decide +kernel)
  exact Touch.refl _ _

theorem State.delSend_touch (s : State) (a1 : ℕ) (a2 : ℕ) :
    Touch 0x43000 s (State.delSend s a1 a2) := by
  unfold State.delSend
  refine Touch.step ?_ (State.modMsg_touch ..) (by decide +kernel)
  exact Touch.refl _ _

theorem State.countSend_touch (s : State) (a1 : ℕ) (a2 : SendEnt) :
    Touch 0x43000 s (State.countSend s a1 a2) := by
  unfold State.countSend
  extract_lets -merge -useContext +onlyGivenNames v0
  refine Touch.cut v0 ?_ (fun h1 => ?_)
  · unfold v0
    refine Touch.step ?_ (State.modSend_touch ..) (by decide +kernel)
    exact Touch.refl _ _
  clear_value v0
  refine Touch.ite ?_ ?_
  · exact h1
  · refine Touch.step ?_ (State.advance_touch ..) (by decide +kernel)
    exact h1

theorem State.dropSend_touch (s : State) (a1 : ℕ) (a2 : ℕ) :
    Touch 0x240000000000000000000000000000000000000000000000000043100 s (State.dropSend s a1 a2) := by
  unfold State.dropSend
  split
  · exact Touch.refl _ _
  · refine Touch.step ?_ (State.delSend_touch ..) (by decide +kernel)
    refine Touch.step ?_ (State.bump_touch ..) (by decide +kernel)
    refine Touch.step ?_ (State.countSend_touch ..) (by decide +kernel)
    exact Touch.refl _ _

theorem State.failSend_touch (s : State) (a1 : ℕ) (a2 : ℕ) (a3 : ℕ) :
    Touch 0x240000000000000000000000000000000000000000000000000043100 s (State.failSend s a1 a2 a3) := by
  unfold State.failSend
  split
  · exact Touch.refl _ _
  · extract_lets -merge -useContext +onlyGivenNames v0
    clear_value v0
    extract_lets -merge -useContext +onlyGivenNames v1
    clear_value v1
    refine Touch.step ?_ (State.dropSend_touch ..) (by decide +kernel)
    refine Touch.step ?_ (State.raise_touch ..) (by decide +kernel)
    exact Touch.refl _ _

theorem State.failSendFab_touch (s : State) (a1 : ℕ) (a2 : ℕ) (a3 : ℕ) (a4 : ℕ) (a5 : Pkt) :
    Touch 0x240000000000000000000000000000000000000000000000000043100 s (State.failSendFab s a1 a2 a3 a4 a5) := by
  unfold State.failSendFab
  split
  · exact Touch.refl _ _
  · refine Touch.step ?_ (State.dropSend_touch ..) (by decide +kernel)
    refine Touch.step ?_ (State.raise_touch ..) (by decide +kernel)
    exact Touch.refl _ _

theorem State.noRouteAt_touch (s : State) (a1 : Pkt) :
    Touch 0x240000000000000000000000000000000000000000000000000043100 s (State.noRouteAt s a1) := by
  unfold State.noRouteAt
  refine Touch.ite ?_ ?_
  · exact Touch.refl _ _
  · refine Touch.ite ?_ ?_
    · refine Touch.step ?_ (State.raise_touch ..) (by decide +kernel)
      exact Touch.refl _ _
    · refine Touch.step ?_ (State.failSendFab_touch ..) (by decide +kernel)
      exact Touch.refl _ _

theorem State.sendPkt_touch (s : State) (a1 : Pkt) :
    Touch 0x240000000000000000000000000000000000000000000000000163100 s (State.sendPkt s a1) := by
  unfold State.sendPkt
  refine Touch.ite ?_ ?_
  · refine Touch.step ?_ (State.emit_touch ..) (by decide +kernel)
    exact Touch.refl _ _
  · refine Touch.ite ?_ ?_
    · refine Touch.step ?_ (State.noRouteAt_touch ..) (by decide +kernel)
      exact Touch.refl _ _
    · refine Touch.step ?_ (Touch.fabWith _ _) (by decide +kernel)
      exact Touch.refl _ _

theorem State.grant_touch (s : State) (a1 : ℕ) (a2 : Pkt) (a3 : ℕ) (a4 : ℕ) :
    Touch 0x240000000000000000000000000000000000000000000000000163100 s (State.grant s a1 a2 a3 a4) := by
  unfold State.grant
  extract_lets -merge -useContext +onlyGivenNames v0
  clear_value v0
  extract_lets -merge -useContext +onlyGivenNames v1
  refine Touch.cut v1 ?_ (fun h2 => ?_)
  · unfold v1
    refine Touch.step ?_ (State.modMsg_touch ..) (by decide +kernel)
    exact Touch.refl _ _
  clear_value v1
  refine Touch.step ?_ (State.sendPkt_touch ..) (by decide +kernel)
  refine Touch.step ?_ (State.modRegion_touch ..) (by decide +kernel)
  exact h2

theorem State.examineL_touch (a0 : ℕ) (a1 : List Pkt) (s : State) :
    Touch 0x240000000000000000000000000000000000000000000000000163100 s (State.examineL a0 a1 s) := by
  induction a1 generalizing a0 s
  · unfold State.examineL
    exact Touch.refl _ _
  · rename_i x_ xs_ ih
    unfold State.examineL
    split
    · rename_i y0 y1 y2 y3
      refine Touch.stepSelf ?_ (ih ..)
      refine Touch.step ?_ (State.grant_touch ..) (by decide +kernel)
      refine Touch.step ?_ (State.modMsg_touch ..) (by decide +kernel)
      exact Touch.refl _ _
    · rename_i y4 y5
      refine Touch.stepSelf ?_ (ih ..)
      exact Touch.refl _ _

theorem State.examine_touch (s : State) (a1 : ℕ) :
    Touch 0x240000000000000000000000000000000000000000000000000163100 s (State.examine s a1) := by
  unfold State.examine
  refine Touch.step ?_ (State.examineL_touch ..) (by decide +kernel)
  exact Touch.refl _ _

theorem State.nackPending_touch (s : State) (a1 : ℕ) (a2 : List Region) :
    Touch 0x240000000000000000000000000000000000000000000000000163100 s (State.nackPending s a1 a2) := by
  unfold State.nackPending
  extract_lets -merge -useContext +onlyGivenNames v0
  clear_value v0
  refine Touch.foldl ?_ (fun y1 y2 h3 => ?_)
  · exact Touch.refl _ _
  · refine Touch.ite ?_ ?_
    · refine Touch.step ?_ (State.sendPkt_touch ..) (by decide +kernel)
      refine Touch.step ?_ (State.modMsg_touch ..) (by decide +kernel)
      exact h3
    · exact h3

theorem State.cancelEnded_touch (s : State) (a1 : ℕ) (a2 : ℕ) (a3 : ℕ) (a4 : Bool) :
    Touch 0x20 s (State.cancelEnded s a1 a2 a3 a4) := by
  unfold State.cancelEnded
  refine Touch.ite ?_ ?_
  · exact Touch.refl _ _
  · extract_lets -merge -useContext +onlyGivenNames v0
    refine Touch.cut v0 ?_ (fun h1 => ?_)
    · unfold v0
      refine Touch.step ?_ (State.modPart_touch ..) (by decide +kernel)
      exact Touch.refl _ _
    clear_value v0
    refine Touch.foldl ?_ (fun y2 y3 h4 => ?_)
    · exact h1
    · refine Touch.step ?_ (State.finish_touch ..) (by decide +kernel)
      exact h4

theorem State.endTask_touch (s : State) (a1 : ℕ) (a2 : ℕ) (a3 : TaskEnd) :
    Touch 0x27f800000000000000000000000000000000000000000000000163120 s (State.endTask s a1 a2 a3) := by
  unfold State.endTask
  split
  · exact Touch.refl _ _
  · extract_lets -merge -useContext +onlyGivenNames v0
    clear_value v0
    extract_lets -merge -useContext +onlyGivenNames v1
    refine Touch.cut v1 ?_ (fun h2 => ?_)
    · unfold v1
      refine Touch.ite ?_ ?_
      · refine Touch.step ?_ (State.modTile_touch ..) (by decide +kernel)
        exact Touch.refl _ _
      · exact Touch.refl _ _
    clear_value v1
    extract_lets -merge -useContext +onlyGivenNames v3
    refine Touch.cut v3 ?_ (fun h4 => ?_)
    · unfold v3
      refine Touch.step ?_ (State.modTile_touch ..) (by decide +kernel)
      exact h2
    clear_value v3
    extract_lets -merge -useContext +onlyGivenNames v5
    refine Touch.cut v5 ?_ (fun h6 => ?_)
    · unfold v5
      refine Touch.ite ?_ ?_
      · refine Touch.step ?_ (State.advance_touch ..) (by decide +kernel)
        exact h4
      · exact h4
    clear_value v5
    extract_lets -merge -useContext +onlyGivenNames v7
    refine Touch.cut v7 ?_ (fun h8 => ?_)
    · unfold v7
      refine Touch.step ?_ (State.settleNode_touch ..) (by decide +kernel)
      exact h6
    clear_value v7
    extract_lets -merge -useContext +onlyGivenNames v9
    refine Touch.cut v9 ?_ (fun h10 => ?_)
    · unfold v9
      split
      · refine Touch.step ?_ (State.bump_touch ..) (by decide +kernel)
        exact h8
      · refine Touch.step ?_ (State.bump_touch ..) (by decide +kernel)
        exact h8
      · refine Touch.step ?_ (State.bump_touch ..) (by decide +kernel)
        exact h8
    clear_value v9
    extract_lets -merge -useContext +onlyGivenNames v11
    refine Touch.cut v11 ?_ (fun h12 => ?_)
    · unfold v11
      refine Touch.ite ?_ ?_
      · refine Touch.step ?_ (State.put_touch ..) (by decide +kernel)
        exact h10
      · exact h10
    clear_value v11
    refine Touch.step ?_ (State.cancelEnded_touch ..) (by decide +kernel)
    refine Touch.step ?_ (State.nackPending_touch ..) (by decide +kernel)
    exact h12

theorem State.tileExc_touch (s : State) (a1 : ℕ) (a2 : ℕ) (a3 : ℕ) (a4 : ℕ) (a5 : ℕ) (a6 : Bool) :
    Touch 0xff8000000000000000000000000000000000000000000000100 s (State.tileExc s a1 a2 a3 a4 a5 a6) := by
  unfold State.tileExc
  extract_lets -merge -useContext +onlyGivenNames v0
  clear_value v0
  extract_lets -merge -useContext +onlyGivenNames v1
  refine Touch.cut v1 ?_ (fun h2 => ?_)
  · unfold v1
    refine Touch.step ?_ (State.put_touch ..) (by decide +kernel)
    refine Touch.step ?_ (State.put_touch ..) (by decide +kernel)
    refine Touch.step ?_ (State.put_touch ..) (by decide +kernel)
    exact Touch.refl _ _
  clear_value v1
  extract_lets -merge -useContext +onlyGivenNames v3
  refine Touch.cut v3 ?_ (fun h4 => ?_)
  · unfold v3
    refine Touch.step ?_ (State.bump_touch ..) (by decide +kernel)
    refine Touch.step ?_ (State.put_touch ..) (by decide +kernel)
    refine Touch.step ?_ (State.put_touch ..) (by decide +kernel)
    exact h2
  clear_value v3
  extract_lets -merge -useContext +onlyGivenNames v5
  refine Touch.cut v5 ?_ (fun h6 => ?_)
  · unfold v5
    refine Touch.step ?_ (State.put_touch ..) (by decide +kernel)
    refine Touch.step ?_ (State.put_touch ..) (by decide +kernel)
    exact h4
  clear_value v5
  refine Touch.step ?_ (State.raise_touch ..) (by decide +kernel)
  exact h6

theorem State.tileFatal_touch (s : State) (a1 : ℕ) (a2 : ℕ) (a3 : ℕ) (a4 : ℕ) (a5 : Bool) :
    Touch 0xff8400000000000000000000000000000000000000000000100 s (State.tileFatal s a1 a2 a3 a4 a5) := by
  unfold State.tileFatal
  refine Touch.step ?_ (State.put_touch ..) (by decide +kernel)
  refine Touch.step ?_ (State.tileExc_touch ..) (by decide +kernel)
  exact Touch.refl _ _

theorem State.taskFault_touch (s : State) (a1 : ℕ) (a2 : ℕ) (a3 : ℕ) (a4 : ℕ) (a5 : ℕ) (a6 : ℕ) (a7 : Bool) :
    Touch 0x27f800ff8000000000000000000000000000000000000000000363120 s (State.taskFault s a1 a2 a3 a4 a5 a6 a7) := by
  unfold State.taskFault
  extract_lets -merge -useContext +onlyGivenNames v0
  refine Touch.cut v0 ?_ (fun h1 => ?_)
  · unfold v0
    refine Touch.step ?_ (State.tileExc_touch ..) (by decide +kernel)
    exact Touch.refl _ _
  clear_value v0
  extract_lets -merge -useContext +onlyGivenNames v2
  refine Touch.cut v2 ?_ (fun h3 => ?_)
  · unfold v2
    refine Touch.step ?_ (State.modTile_touch ..) (by decide +kernel)
    exact h1
  clear_value v2
  refine Touch.step ?_ (State.endTask_touch ..) (by decide +kernel)
  refine Touch.step ?_ (Touch.freeCtrWith _ _ (Nat.le_add_right _ _)) (by decide +kernel)
  exact h3

theorem State.cancelTask_touch (s : State) (a1 : ℕ) (a2 : ℕ) (a3 : Bool) :
    Touch 0x27f800000000000000000000000000000000000000000000000163120 s (State.cancelTask s a1 a2 a3) := by
  unfold State.cancelTask
  split
  · exact Touch.refl _ _
  · split
    · exact Touch.refl _ _
    · refine Touch.step ?_ (State.modTile_touch ..) (by decide +kernel)
      exact Touch.refl _ _
    · refine Touch.step ?_ (State.endTask_touch ..) (by decide +kernel)
      exact Touch.refl _ _

end Sys2Proof.Machine
end

