-- ==== Sys2Proof/Laws/TouchMsg.lean ====
section
/-! SUPPORT. What the operations of Machine/Msg.lean may change. -/
namespace Sys2Proof.Machine

set_option Elab.async false

theorem State.landedSeq_touch (s : State) (a1 : Pkt) :
    Touch 0x20000 s (State.landedSeq s a1) := by
  unfold State.landedSeq
  refine Touch.ite ?_ ?_
  · exact Touch.refl _ _
  · refine Touch.step ?_ (Touch.fabWith _ _) (by decide +kernel)
    exact Touch.refl _ _

theorem State.dropPkt_touch (s : State) (a1 : ℕ) (a2 : Pkt) :
    Touch 0x480000000000000000000000000000000000000000000000000000100 s (State.dropPkt s a1 a2) := by
  unfold State.dropPkt
  refine Touch.step ?_ (State.bump_touch ..) (by decide +kernel)
  refine Touch.step ?_ (State.raise_touch ..) (by decide +kernel)
  exact Touch.refl _ _

theorem State.dropStale_touch (s : State) (a1 : Pkt) :
    Touch 0x6c0000000000000000000000000000000000000000000000000163100 s (State.dropStale s a1) := by
  unfold State.dropStale
  extract_lets -merge -useContext +onlyGivenNames v0
  refine Touch.cut v0 ?_ (fun h1 => ?_)
  · unfold v0
    refine Touch.step ?_ (State.dropPkt_touch ..) (by decide +kernel)
    exact Touch.refl _ _
  clear_value v0
  refine Touch.ite ?_ ?_
  · refine Touch.step ?_ (State.sendPkt_touch ..) (by decide +kernel)
    exact h1
  · exact h1

theorem State.arrive_touch {M : Nat} {s0 s : State} {p : Pkt} {op : Nat} {f : State → State} (h : Touch M s0 s)
    (hf : ∀ u, Touch M s0 u → Touch M s0 (f u)) (hm : 0x6c0000000000000000000000000000000000c001fffffe00000163100 ||| M = M) :
    Touch M s0 (s.arrive p op f) := by
  unfold State.arrive
  extract_lets n go
  have hgo : ∀ u, Touch M s0 u → Touch M s0 (go u) := by
    intro u hu
    have hl : Touch M s0 (u.landedSeq p) := hu.step (State.landedSeq_touch ..) (mask_trans (by decide +kernel) hm)
    exact Touch.ite (hf _ hl) (hl.step (State.dropStale_touch ..) (mask_trans (by decide +kernel) hm))
  clear_value go
  refine Touch.ite h (Touch.ite h (Touch.ite ?_ (Touch.ite ?_ (Touch.ite ?_ (hgo _ h))))) <;>
    exact State.needs_touch h hgo (mask_trans (by decide +kernel) hm)

theorem State.refuse_touch (s : State) (a1 : ℕ) (a2 : Pkt) :
    Touch 0x240000000000000000000000000000000000000000000000000163100 s (State.refuse s a1 a2) := by
  unfold State.refuse
  refine Touch.ite ?_ ?_
  · refine Touch.step ?_ (State.failSend_touch ..) (by decide +kernel)
    exact Touch.refl _ _
  · extract_lets -merge -useContext +onlyGivenNames v0
    refine Touch.cut v0 ?_ (fun h1 => ?_)
    · unfold v0
      refine Touch.step ?_ (State.landedSeq_touch ..) (by decide +kernel)
      exact Touch.refl _ _
    clear_value v0
    extract_lets -merge -useContext +onlyGivenNames v2
    refine Touch.cut v2 ?_ (fun h3 => ?_)
    · unfold v2
      refine Touch.ite ?_ ?_
      · refine Touch.step ?_ (State.sendPkt_touch ..) (by decide +kernel)
        exact h1
      · exact h1
    clear_value v2
    refine Touch.step ?_ (State.raise_touch ..) (by decide +kernel)
    exact h3

theorem State.reserve_touch (s : State) (a1 : Pkt) :
    Touch 0x240000000000000000000000000000000000000000000000000163100 s (State.reserve s a1) := by
  unfold State.reserve
  extract_lets -merge -useContext +onlyGivenNames v0
  clear_value v0
  refine Touch.ite ?_ ?_
  · refine Touch.step ?_ (State.sendPkt_touch ..) (by decide +kernel)
    exact Touch.refl _ _
  · refine Touch.ite ?_ ?_
    · refine Touch.step ?_ (State.grant_touch ..) (by decide +kernel)
      exact Touch.refl _ _
    · split
      · refine Touch.step ?_ (State.grant_touch ..) (by decide +kernel)
        exact Touch.refl _ _
      · refine Touch.ite ?_ ?_
        · refine Touch.step ?_ (State.modMsg_touch ..) (by decide +kernel)
          exact Touch.refl _ _
        · refine Touch.step ?_ (State.sendPkt_touch ..) (by decide +kernel)
          exact Touch.refl _ _

theorem State.rsv_touch (s : State) (a1 : Pkt) :
    Touch 0x6c0000000000000000000000000000000000c001fffffe00000163100 s (State.rsv s a1) := by
  unfold State.rsv
  extract_lets -merge -useContext +onlyGivenNames v0
  clear_value v0
  refine Touch.ite ?_ ?_
  · exact Touch.refl _ _
  · refine Touch.ite ?_ ?_
    · refine Touch.step ?_ (State.sendPkt_touch ..) (by decide +kernel)
      exact Touch.refl _ _
    · extract_lets -merge -useContext +onlyGivenNames v1
      clear_value v1
      refine Touch.ite ?_ ?_
      · refine Touch.step ?_ (State.refuse_touch ..) (by decide +kernel)
        exact Touch.refl _ _
      · refine State.arrive_touch ?_ (fun y2 h3 => ?_) (by decide +kernel)
        · exact Touch.refl _ _
        · refine Touch.step ?_ (State.reserve_touch ..) (by decide +kernel)
          exact h3

theorem execMeshRsv_touch (a0 : Pkt) (s : State) :
    ∃ t, execMeshRsv a0 s = .next t ∧ Touch 0x6c0000000000000000000000000000000000c001fffffe00000163100 s t := by
  refine ⟨_, rfl, ?_⟩
  refine Touch.step ?_ (State.rsv_touch ..) (by decide +kernel)
  exact Touch.refl _ _

theorem State.granted_touch (s : State) (a1 : Pkt) :
    Touch 0x240000000000000000000000000000000000000000000000000163100 s (State.granted s a1) := by
  unfold State.granted
  split
  · refine Touch.step ?_ (State.sendPkt_touch ..) (by decide +kernel)
    exact Touch.refl _ _
  · refine Touch.ite ?_ ?_
    · refine Touch.step ?_ (State.modSend_touch ..) (by decide +kernel)
      exact Touch.refl _ _
    · exact Touch.refl _ _

theorem execMeshGrant_touch (a0 : Pkt) (s : State) :
    ∃ t, execMeshGrant a0 s = .next t ∧ Touch 0x6c0000000000000000000000000000000000c001fffffe00000163100 s t := by
  refine ⟨_, rfl, ?_⟩
  refine State.arrive_touch ?_ (fun y0 h1 => ?_) (by decide +kernel)
  · exact Touch.refl _ _
  · refine Touch.step ?_ (State.granted_touch ..) (by decide +kernel)
    exact h1

theorem execMeshRetry_touch (a0 : Pkt) (s : State) :
    ∃ t, execMeshRetry a0 s = .next t ∧ Touch 0x6c0000000000000000000000000000000000c001fffffe00000163100 s t := by
  refine ⟨_, rfl, ?_⟩
  refine State.arrive_touch ?_ (fun y0 h1 => ?_) (by decide +kernel)
  · exact Touch.refl _ _
  · refine Touch.step ?_ (State.modSend_touch ..) (by decide +kernel)
    exact h1

theorem execRsvResend_touch (a0 : ℕ) (a1 : ℕ) (s : State) :
    ∃ t, execRsvResend a0 a1 s = .next t ∧ Touch 0xb40000000000000000000000000000000000000000000000000163100 s t := by
  refine ⟨_, rfl, ?_⟩
  split
  · refine Touch.ite ?_ ?_
    · refine Touch.step ?_ (State.sendPkt_touch ..) (by decide +kernel)
      refine Touch.step ?_ (State.bump_touch ..) (by decide +kernel)
      refine Touch.step ?_ (State.modSend_touch ..) (by decide +kernel)
      exact Touch.refl _ _
    · exact Touch.refl _ _
  · exact Touch.refl _ _

theorem execRsvWaitExpire_touch (a0 : ℕ) (a1 : ℕ) (s : State) :
    ∃ t, execRsvWaitExpire a0 a1 s = .next t ∧ Touch 0x240000000000000000000000000000000000000000000000000043100 s t := by
  refine ⟨_, rfl, ?_⟩
  split
  · refine Touch.ite ?_ ?_
    · refine Touch.step ?_ (State.failSend_touch ..) (by decide +kernel)
      exact Touch.refl _ _
    · exact Touch.refl _ _
  · exact Touch.refl _ _

theorem execPendingRsvTimeout_touch (a0 : ℕ) (a1 : ℕ) (s : State) :
    ∃ t, execPendingRsvTimeout a0 a1 s = .next t ∧ Touch 0x240000000000000000000000000000000000000000000000000163100 s t := by
  refine ⟨_, rfl, ?_⟩
  split
  · extract_lets -merge -useContext +onlyGivenNames v0
    clear_value v0
    refine Touch.ite ?_ ?_
    · exact Touch.refl _ _
    · refine Touch.step ?_ (State.sendPkt_touch ..) (by decide +kernel)
      refine Touch.step ?_ (State.modMsg_touch ..) (by decide +kernel)
      exact Touch.refl _ _
  · exact Touch.refl _ _

theorem State.useGrant_touch (s : State) (a1 : ℕ) (a2 : Grant) (a3 : ℕ) (a4 : Bool) (a5 : Bool) :
    Touch 0x240000000000000000000000000000000000000000000000000163100 s (State.useGrant s a1 a2 a3 a4 a5) := by
  unfold State.useGrant
  extract_lets -merge -useContext +onlyGivenNames v0
  refine Touch.cut v0 ?_ (fun h1 => ?_)
  · unfold v0
    refine Touch.step ?_ (State.modMsg_touch ..) (by decide +kernel)
    exact Touch.refl _ _
  clear_value v0
  extract_lets -merge -useContext +onlyGivenNames v2
  refine Touch.cut v2 ?_ (fun h3 => ?_)
  · unfold v2
    refine Touch.step ?_ (State.modRegion_touch ..) (by decide +kernel)
    exact h1
  clear_value v2
  extract_lets -merge -useContext +onlyGivenNames v4
  refine Touch.cut v4 ?_ (fun h5 => ?_)
  · unfold v4
    refine Touch.step ?_ (State.settleNode_touch ..) (by decide +kernel)
    exact h3
  clear_value v4
  refine Touch.ite ?_ ?_
  · refine Touch.step ?_ (State.examine_touch ..) (by decide +kernel)
    exact h5
  · exact h5

theorem State.countData_touch (s : State) (a1 : Pkt) (a2 : Grant) :
    Touch 0x240000000000000000000000000000000000000000000000000163100 s (State.countData s a1 a2) := by
  unfold State.countData
  extract_lets -merge -useContext +onlyGivenNames v0
  clear_value v0
  extract_lets -merge -useContext +onlyGivenNames v1
  refine Touch.cut v1 ?_ (fun h2 => ?_)
  · unfold v1
    refine Touch.step ?_ (State.useGrant_touch ..) (by decide +kernel)
    exact Touch.refl _ _
  clear_value v1
  extract_lets -merge -useContext +onlyGivenNames v3
  refine Touch.cut v3 ?_ (fun h4 => ?_)
  · unfold v3
    refine Touch.ite ?_ ?_
    · exact h2
    · refine Touch.step ?_ (State.advance_touch ..) (by decide +kernel)
      exact h2
  clear_value v3
  refine Touch.ite ?_ ?_
  · split
    · refine Touch.ite ?_ ?_
      · refine Touch.step ?_ (State.delSend_touch ..) (by decide +kernel)
        exact h4
      · refine Touch.step ?_ (State.modSend_touch ..) (by decide +kernel)
        exact h4
    · exact h4
  · exact h4

theorem State.releaseFences_touch (a0 : ℕ) (a1 : ℕ) (s : State) :
    Touch 0x240000000000000000000000000000000000000000000000000163100 s (State.releaseFences a0 a1 s) := by
  induction a1 generalizing a0 s
  · unfold State.releaseFences
    exact Touch.refl _ _
  · rename_i n_ ih
    unfold State.releaseFences
    split
    · rename_i y0 y1 y2
      split
      · rename_i y3 y4 y5
        refine Touch.stepSelf ?_ (ih ..)
        refine Touch.step ?_ (State.countData_touch ..) (by decide +kernel)
        exact Touch.refl _ _
      · rename_i y6 y7
        exact Touch.refl _ _
    · rename_i y8 y9
      exact Touch.refl _ _

theorem State.landData_touch (s : State) (a1 : Pkt) (a2 : Grant) :
    Touch 0x180000000000000000000000000000000000000000000000000000000000000000000000000000000000000240000000000000000000000000000000000000000000000000be3900 s (State.landData s a1 a2) := by
  unfold State.landData
  extract_lets -merge -useContext +onlyGivenNames v0
  clear_value v0
  extract_lets -merge -useContext +onlyGivenNames v1
  refine Touch.cut v1 ?_ (fun h2 => ?_)
  · unfold v1
    refine Touch.step ?_ (State.nodeLand_touch ..) (by decide +kernel)
    exact Touch.refl _ _
  clear_value v1
  refine Touch.ite ?_ ?_
  · refine Touch.step ?_ (State.modMsg_touch ..) (by decide +kernel)
    exact h2
  · refine Touch.step ?_ (State.releaseFences_touch ..) (by decide +kernel)
    refine Touch.step ?_ (State.countData_touch ..) (by decide +kernel)
    exact h2

theorem State.dataAt_touch (s : State) (a1 : Pkt) :
    Touch 0x1800000000000000000000000000000000000000000000000000000000000000000000000000000000000006c0000000000000000000000000000000000000000000000000be3900 s (State.dataAt s a1) := by
  unfold State.dataAt
  split
  · refine Touch.ite ?_ ?_
    · refine Touch.step ?_ (State.landData_touch ..) (by decide +kernel)
      exact Touch.refl _ _
    · refine Touch.step ?_ (State.dropPkt_touch ..) (by decide +kernel)
      exact Touch.refl _ _
  · refine Touch.step ?_ (State.dropPkt_touch ..) (by decide +kernel)
    exact Touch.refl _ _

theorem execMeshData_touch (a0 : Pkt) (s : State) :
    ∃ t, execMeshData a0 s = .next t ∧ Touch 0x1800000000000000000000000000000000000000000000000000000000000000000000000000000000000006c0000000000000000000000000000000000c001fffffe00000be3900 s t := by
  refine ⟨_, rfl, ?_⟩
  refine Touch.ite ?_ ?_
  · exact Touch.refl _ _
  · refine State.arrive_touch ?_ (fun y0 h1 => ?_) (by decide +kernel)
    · exact Touch.refl _ _
    · refine Touch.step ?_ (State.dataAt_touch ..) (by decide +kernel)
      exact h1

theorem State.release_touch (s : State) (a1 : Pkt) :
    Touch 0x240000000000000000000000000000000000000000000000000163100 s (State.release s a1) := by
  unfold State.release
  split
  · extract_lets -merge -useContext +onlyGivenNames v0
    clear_value v0
    refine Touch.step ?_ (State.raise_touch ..) (by decide +kernel)
    refine Touch.step ?_ (State.useGrant_touch ..) (by decide +kernel)
    exact Touch.refl _ _
  · exact Touch.refl _ _

theorem execMeshRelease_touch (a0 : Pkt) (s : State) :
    ∃ t, execMeshRelease a0 s = .next t ∧ Touch 0x6c0000000000000000000000000000000000c001fffffe00000163100 s t := by
  refine ⟨_, rfl, ?_⟩
  refine State.arrive_touch ?_ (fun y0 h1 => ?_) (by decide +kernel)
  · exact Touch.refl _ _
  · refine Touch.step ?_ (State.release_touch ..) (by decide +kernel)
    exact h1

theorem State.sourceBytes_touch (s : State) (a1 : ℕ) (a2 : SendEnt) (a3 : ℕ) (a4 : ℕ) :
    Touch 0x200000 s (State.sourceBytes s a1 a2 a3 a4).2 := by
  unfold State.sourceBytes
  refine Touch.iteSnd ?_ ?_
  · refine Touch.mkSnd ?_
    exact Touch.refl _ _
  · extract_lets -merge -useContext +onlyGivenNames v0
    refine Touch.cut v0.2 ?_ (fun h1 => ?_)
    · unfold v0
      refine Touch.step ?_ (State.nodeRead_touch ..) (by decide +kernel)
      exact Touch.refl _ _
    clear_value v0
    extract_lets -merge -useContext +onlyGivenNames v2
    refine Touch.cut v2 ?_ (fun h3 => ?_)
    · unfold v2
      exact h1
    extract_lets -merge -useContext +onlyGivenNames v4
    refine Touch.cut v4 ?_ (fun h5 => ?_)
    · unfold v4
      refine Touch.ite ?_ ?_
      · exact h1
      · refine Touch.step ?_ (Touch.freeCtrWith _ _ (Nat.le_add_right _ _)) (by decide +kernel)
        exact h3
    clear_value v4
    refine Touch.mkSnd ?_
    exact h5

theorem State.sendCuts_touch (a0 : ℕ) (a1 : SendEnt) (a2 : Pkt) (a3 : ℕ) (a4 : ℕ) (s : State) :
    Touch 0x240000000000000000000000000000000000000000000000000363100 s (State.sendCuts a0 a1 a2 a3 a4 s) := by
  unfold State.sendCuts
  refine Touch.foldl ?_ (fun y0 y1 h2 => ?_)
  · exact Touch.refl _ _
  · extract_lets -merge -useContext +onlyGivenNames v3
    refine Touch.cut v3.2 ?_ (fun h4 => ?_)
    · unfold v3
      refine Touch.step ?_ (State.sourceBytes_touch ..) (by decide +kernel)
      exact h2
    clear_value v3
    extract_lets -merge -useContext +onlyGivenNames v5
    refine Touch.step ?_ (State.sendPkt_touch ..) (by decide +kernel)
    exact h4

theorem State.storeEcc_touch {M : Nat} {s0 s : State} {n addr : Nat} {ecc : Ecc} {f : State → State} (h : Touch M s0 s)
    (hf : ∀ u, Touch M s0 u → Touch M s0 (f u)) (hm : 0x300ff8400000000000000000000000000000000000000000000100 ||| M = M) :
    Touch M s0 (s.storeEcc n ecc addr f) := by
  unfold State.storeEcc
  refine Touch.ite (hf _ h) ?_
  split
  · exact hf _ h
  · have hb : Touch M s0 (s.bump .TILE_ECC_CORRECTED) := h.step (State.bump_touch ..) (mask_trans (by decide +kernel) hm)
    exact hf _ hb
  · exact h.step (State.tileFatal_touch ..) (mask_trans (by decide +kernel) hm)

theorem execSendSourceRead_touch (a0 : ℕ) (a1 : ℕ) (a2 : Ecc) (s : State) :
    ∃ t, execSendSourceRead a0 a1 a2 s = .next t ∧ Touch 0x240300ff8400000000000000000000000000000000000000000363100 s t := by
  refine ⟨_, rfl, ?_⟩
  split
  · refine Touch.ite ?_ ?_
    · refine State.storeEcc_touch ?_ (fun y0 h1 => ?_) (by decide +kernel)
      · exact Touch.refl _ _
      · extract_lets -merge -useContext +onlyGivenNames v2
        clear_value v2
        extract_lets -merge -useContext +onlyGivenNames v3
        clear_value v3
        extract_lets -merge -useContext +onlyGivenNames v4
        refine Touch.cut v4 ?_ (fun h5 => ?_)
        · unfold v4
          refine Touch.step ?_ (State.countSend_touch ..) (by decide +kernel)
          refine Touch.step ?_ (State.sendCuts_touch ..) (by decide +kernel)
          exact h1
        clear_value v4
        refine Touch.ite ?_ ?_
        · exact h5
        · refine Touch.step ?_ (State.delSend_touch ..) (by decide +kernel)
          exact h5
    · exact Touch.refl _ _
  · exact Touch.refl _ _

theorem State.getData_touch (s : State) (a1 : Pkt) :
    Touch 0x180000000000000000000000000000000000000000000000000000000000000000000000000000000000000000000000000000000000000000000000000000000000000000ac3900 s (State.getData s a1) := by
  unfold State.getData
  split
  · extract_lets -merge -useContext +onlyGivenNames v0
    clear_value v0
    refine Touch.ite ?_ ?_
    · extract_lets -merge -useContext +onlyGivenNames v1
      refine Touch.cut v1 ?_ (fun h2 => ?_)
      · unfold v1
        refine Touch.step ?_ (State.nodeLand_touch ..) (by decide +kernel)
        exact Touch.refl _ _
      clear_value v1
      extract_lets -merge -useContext +onlyGivenNames v3
      refine Touch.cut v3 ?_ (fun h4 => ?_)
      · unfold v3
        refine Touch.ite ?_ ?_
        · refine Touch.step ?_ (State.delSend_touch ..) (by decide +kernel)
          exact h2
        · refine Touch.step ?_ (State.modSend_touch ..) (by decide +kernel)
          exact h2
      clear_value v3
      refine Touch.step ?_ (State.advance_touch ..) (by decide +kernel)
      exact h4
    · exact Touch.refl _ _
  · exact Touch.refl _ _

theorem execGetData_touch (a0 : Pkt) (s : State) :
    ∃ t, execGetData a0 s = .next t ∧ Touch 0x1800000000000000000000000000000000000000000000000000000000000000000000000000000000000006c0000000000000000000000000000000000c001fffffe00000be3900 s t := by
  refine ⟨_, rfl, ?_⟩
  refine State.arrive_touch ?_ (fun y0 h1 => ?_) (by decide +kernel)
  · exact Touch.refl _ _
  · refine Touch.step ?_ (State.getData_touch ..) (by decide +kernel)
    exact h1

theorem State.putGo_touch (s : State) (a1 : Pkt) (a2 : Ecc) :
    Touch 0x240300ff8400000000000000000000000000000000000000000363100 s (State.putGo s a1 a2) := by
  unfold State.putGo
  split
  · extract_lets -merge -useContext +onlyGivenNames v0
    clear_value v0
    refine Touch.ite ?_ ?_
    · refine State.storeEcc_touch ?_ (fun y1 h2 => ?_) (by decide +kernel)
      · exact Touch.refl _ _
      · extract_lets -merge -useContext +onlyGivenNames v3
        clear_value v3
        extract_lets -merge -useContext +onlyGivenNames v4
        clear_value v4
        extract_lets -merge -useContext +onlyGivenNames v5
        refine Touch.cut v5 ?_ (fun h6 => ?_)
        · unfold v5
          refine Touch.step ?_ (State.sendCuts_touch ..) (by decide +kernel)
          exact h2
        clear_value v5
        extract_lets -merge -useContext +onlyGivenNames v7
        refine Touch.cut v7 ?_ (fun h8 => ?_)
        · unfold v7
          refine Touch.step ?_ (State.modSend_touch ..) (by decide +kernel)
          exact h6
        clear_value v7
        refine Touch.ite ?_ ?_
        · refine Touch.step ?_ (State.countSend_touch ..) (by decide +kernel)
          exact h8
        · exact h8
    · exact Touch.refl _ _
  · exact Touch.refl _ _

theorem execPutGo_touch (a0 : Pkt) (a1 : Ecc) (s : State) :
    ∃ t, execPutGo a0 a1 s = .next t ∧ Touch 0x6c0300ff8400000000000000000000000000c001fffffe00000363100 s t := by
  refine ⟨_, rfl, ?_⟩
  refine State.arrive_touch ?_ (fun y0 h1 => ?_) (by decide +kernel)
  · exact Touch.refl _ _
  · refine Touch.step ?_ (State.putGo_touch ..) (by decide +kernel)
    exact h1

theorem State.putAck_touch (s : State) (a1 : Pkt) :
    Touch 0x43000 s (State.putAck s a1) := by
  unfold State.putAck
  split
  · extract_lets -merge -useContext +onlyGivenNames v0
    clear_value v0
    refine Touch.ite ?_ ?_
    · extract_lets -merge -useContext +onlyGivenNames v1
      refine Touch.cut v1 ?_ (fun h2 => ?_)
      · unfold v1
        refine Touch.ite ?_ ?_
        · refine Touch.step ?_ (State.delSend_touch ..) (by decide +kernel)
          exact Touch.refl _ _
        · refine Touch.step ?_ (State.modSend_touch ..) (by decide +kernel)
          exact Touch.refl _ _
      clear_value v1
      refine Touch.step ?_ (State.advance_touch ..) (by decide +kernel)
      exact h2
    · exact Touch.refl _ _
  · exact Touch.refl _ _

theorem execPutAck_touch (a0 : Pkt) (s : State) :
    ∃ t, execPutAck a0 s = .next t ∧ Touch 0x6c0000000000000000000000000000000000c001fffffe00000163100 s t := by
  refine ⟨_, rfl, ?_⟩
  refine State.arrive_touch ?_ (fun y0 h1 => ?_) (by decide +kernel)
  · exact Touch.refl _ _
  · refine Touch.step ?_ (State.putAck_touch ..) (by decide +kernel)
    exact h1

theorem execStreamRetryResend_touch (a0 : ℕ) (a1 : ℕ) (s : State) :
    ∃ t, execStreamRetryResend a0 a1 s = .next t ∧ Touch 0x240000000000000000000000000000000000000000000000000163100 s t := by
  refine ⟨_, rfl, ?_⟩
  split
  · refine Touch.ite ?_ ?_
    · refine Touch.step ?_ (State.sendPkt_touch ..) (by decide +kernel)
      refine Touch.step ?_ (State.modSend_touch ..) (by decide +kernel)
      exact Touch.refl _ _
    · exact Touch.refl _ _
  · exact Touch.refl _ _

end Sys2Proof.Machine
end

