-- ==== Sys2Proof/Laws/TouchDlOps.lean ====
section
/-! SUPPORT. What the operations of Machine/DlOps.lean may change. -/
namespace Sys2Proof.Machine

set_option Elab.async false

theorem State.modDl_touch (s : State) (a1 : Downlink → Downlink) :
    Touch 0x10000 s (State.modDl s a1) := by
  unfold State.modDl
  refine Touch.step ?_ (Touch.dlWith _ _) (by decide +kernel)
  exact Touch.refl _ _

theorem State.modDlPort_touch (s : State) (a1 : ℕ) (a2 : DlPort → DlPort) :
    Touch 0x10000 s (State.modDlPort s a1 a2) := by
  unfold State.modDlPort
  refine Touch.step ?_ (State.modDl_touch ..) (by decide +kernel)
  exact Touch.refl _ _

theorem State.dlCount_touch (s : State) :
    Touch 0x800000000000000000000000000000000000000000000000000000000000000000000000000000000000000000000000000100000000000 s (State.dlCount s) := by
  unfold State.dlCount
  extract_lets -merge -useContext +onlyGivenNames v0
  clear_value v0
  refine Touch.step ?_ (State.put_touch ..) (by decide +kernel)
  refine Touch.step ?_ (State.put_touch ..) (by decide +kernel)
  exact Touch.refl _ _

theorem State.setDlState_touch (s : State) (a1 : ℕ) (a2 : ℕ) :
    Touch 0x49ff8000000000000000000000000000000000000000000010800003000000000000000000000000000000000000000000000000000000000000000000000000000000000000000000000100000100580 s (State.setDlState s a1 a2) := by
  unfold State.setDlState
  refine Touch.ite ?_ ?_
  · exact Touch.refl _ _
  · extract_lets -merge -useContext +onlyGivenNames v0
    refine Touch.cut v0 ?_ (fun h1 => ?_)
    · unfold v0
      refine Touch.step ?_ (State.dlCount_touch ..) (by decide +kernel)
      refine Touch.step ?_ (State.put_touch ..) (by decide +kernel)
      exact Touch.refl _ _
    clear_value v0
    refine Touch.step ?_ (State.ember'_touch ..) (by decide +kernel)
    exact h1

theorem State.dlRecord_touch (s : State) (a1 : ℕ) (a2 : Option ℕ) (a3 : ℕ) (a4 : ℕ) (a5 : ℕ) :
    Touch 0x100 s (State.dlRecord s a1 a2 a3 a4 a5) := by
  unfold State.dlRecord
  refine Touch.step ?_ (State.raise_touch ..) (by decide +kernel)
  exact Touch.refl _ _

theorem State.dlViolation_touch (s : State) (a1 : ℕ) (a2 : ℕ) (a3 : List Byte) :
    Touch 0x49ff800000000000000000000000000000000000000000e010800003000000000000000000000000000000000000000000000000000000000000000000000000000000000000000000000100000110580 s (State.dlViolation s a1 a2 a3) := by
  unfold State.dlViolation
  extract_lets -merge -useContext +onlyGivenNames v0
  refine Touch.cut v0 ?_ (fun h1 => ?_)
  · unfold v0
    refine Touch.step ?_ (State.ember'_touch ..) (by decide +kernel)
    exact Touch.refl _ _
  clear_value v0
  extract_lets -merge -useContext +onlyGivenNames v2
  refine Touch.cut v2 ?_ (fun h3 => ?_)
  · unfold v2
    refine Touch.step ?_ (State.bump_touch ..) (by decide +kernel)
    refine Touch.step ?_ (State.put_touch ..) (by decide +kernel)
    exact h1
  clear_value v2
  refine Touch.ite ?_ ?_
  · extract_lets -merge -useContext +onlyGivenNames v4
    clear_value v4
    extract_lets -merge -useContext +onlyGivenNames v5
    clear_value v5
    extract_lets -merge -useContext +onlyGivenNames v6
    refine Touch.cut v6 ?_ (fun h7 => ?_)
    · unfold v6
      refine Touch.step ?_ (State.modDlPort_touch ..) (by decide +kernel)
      exact h3
    clear_value v6
    refine Touch.ite ?_ ?_
    · extract_lets -merge -useContext +onlyGivenNames v8
      refine Touch.cut v8 ?_ (fun h9 => ?_)
      · unfold v8
        refine Touch.step ?_ (State.dlRecord_touch ..) (by decide +kernel)
        refine Touch.step ?_ (State.setDlState_touch ..) (by decide +kernel)
        exact h7
      clear_value v8
      refine Touch.ite ?_ ?_
      · refine Touch.step ?_ (State.emberTrigger_touch ..) (by decide +kernel)
        exact h9
      · exact h9
    · exact h7
  · exact h3

theorem State.coreDrop_touch (s : State) (a1 : ℕ) :
    Touch 0x12000 s (State.coreDrop s a1) := by
  unfold State.coreDrop
  extract_lets -merge -useContext +onlyGivenNames v0
  refine Touch.cut v0 ?_ (fun h1 => ?_)
  · unfold v0
    refine Touch.step ?_ (Touch.coresWith _ _) (by decide +kernel)
    exact Touch.refl _ _
  clear_value v0
  refine Touch.step ?_ (State.modDl_touch ..) (by decide +kernel)
  exact h1

theorem State.dlIssue?_touch (s : State) (a1 : DlReq) (a2 : Option (List Byte)) :
    TouchO 0x112000 s (State.dlIssue? s a1 a2) := by
  unfold State.dlIssue?
  split
  · refine TouchO.none
  · extract_lets -merge -useContext +onlyGivenNames v0
    refine TouchO.cut v0 ?_ (fun h1 => ?_)
    · unfold v0
      refine Touch.ite ?_ ?_
      · refine Touch.step ?_ (State.coreDrop_touch ..) (by decide +kernel)
        exact Touch.refl _ _
      · exact Touch.refl _ _
    clear_value v0
    refine TouchO.some ?_
    refine Touch.step ?_ (State.emit_touch ..) (by decide +kernel)
    refine Touch.step ?_ (State.modDl_touch ..) (by decide +kernel)
    exact h1

theorem State.dlMerge_touch (s : State) (a1 : DlReq) (a2 : List Byte) :
    Touch 0x112800 s (State.dlMerge s a1 a2) := by
  unfold State.dlMerge
  extract_lets -merge -useContext +onlyGivenNames v0
  clear_value v0
  extract_lets -merge -useContext +onlyGivenNames v1
  refine Touch.cut v1 ?_ (fun h2 => ?_)
  · unfold v1
    refine Touch.step ?_ (State.coreDrop_touch ..) (by decide +kernel)
    refine Touch.ite ?_ ?_
    · exact Touch.refl _ _
    · refine Touch.step ?_ (State.define_touch ..) (by decide +kernel)
      exact Touch.refl _ _
  clear_value v1
  refine Touch.step ?_ (State.emit_touch ..) (by decide +kernel)
  refine Touch.step ?_ (State.modDl_touch ..) (by decide +kernel)
  exact h2

theorem State.dlAccess?_touch (s : State) (a1 : ℕ) (a2 : ℕ) (a3 : DlWho) (a4 : Option ℕ) (a5 : ℕ) (a6 : Option (List Byte)) (a7 : Bool) :
    TouchO 0x112800 s (State.dlAccess? s a1 a2 a3 a4 a5 a6 a7) := by
  unfold State.dlAccess?
  extract_lets -merge -useContext +onlyGivenNames v0
  clear_value v0
  split
  · refine TouchO.step ?_ (State.dlIssue?_touch ..) (by decide +kernel)
    exact Touch.refl _ _
  · refine TouchO.ite ?_ ?_
    · refine TouchO.map ?_ (fun y1 y2 => ?_)
      · refine TouchO.step ?_ (State.dlIssue?_touch ..) (by decide +kernel)
        exact Touch.refl _ _
      · refine Touch.step ?_ (State.define_touch ..) (by decide +kernel)
        exact y2
    · refine TouchO.step ?_ (State.dlIssue?_touch ..) (by decide +kernel)
      exact Touch.refl _ _

end Sys2Proof.Machine
end

