-- ==== Sys2Proof/Laws/TouchXlatOps.lean ====
section
/-! SUPPORT. What the operations of Machine/XlatOps.lean may change. -/
namespace Sys2Proof.Machine

set_option Elab.async false

theorem State.modXlat_touch (s : State) (a1 : Xlat → Xlat) :
    Touch 0x4000 s (State.modXlat s a1) := by
  unfold State.modXlat
  refine Touch.step ?_ (Touch.xlatWith _ _) (by decide +kernel)
  exact Touch.refl _ _

theorem State.modAcc_touch (s : State) (a1 : ℕ) (a2 : Acc → Acc) :
    Touch 0x4000 s (State.modAcc s a1 a2) := by
  unfold State.modAcc
  refine Touch.step ?_ (State.modXlat_touch ..) (by decide +kernel)
  exact Touch.refl _ _

theorem State.waitAcc_touch (s : State) (a1 : ℕ) (a2 : AccWait) :
    Touch 0x4000 s (State.waitAcc s a1 a2) := by
  unfold State.waitAcc
  refine Touch.step ?_ (State.modAcc_touch ..) (by decide +kernel)
  exact Touch.refl _ _

theorem State.modStream_touch (s : State) (a1 : Acc) (a2 : StreamRec → StreamRec) :
    Touch 0x4000 s (State.modStream s a1 a2) := by
  unfold State.modStream
  refine Touch.step ?_ (State.modXlat_touch ..) (by decide +kernel)
  exact Touch.refl _ _

theorem State.xlatFail_touch (s : State) (a1 : Acc) (a2 : ℕ) :
    Touch 0x1c00000000000000000000000000000000000000000000000000000000000000004100 s (State.xlatFail s a1 a2) := by
  unfold State.xlatFail
  extract_lets -merge -useContext +onlyGivenNames v0
  refine Touch.cut v0 ?_ (fun h1 => ?_)
  · unfold v0
    refine Touch.step ?_ (State.put_touch ..) (by decide +kernel)
    refine Touch.step ?_ (State.bump_touch ..) (by decide +kernel)
    exact Touch.refl _ _
  clear_value v0
  split
  · refine Touch.step ?_ (State.raise_touch ..) (by decide +kernel)
    refine Touch.step ?_ (State.waitAcc_touch ..) (by decide +kernel)
    exact h1

theorem State.parkSettle_touch (s : State) :
    Touch 0x200002000000000000000000000000000000000000000000000000000000000000000000000000000000000000000000000000000000000000000000000000000000000000000000000004000 s (State.parkSettle s) := by
  unfold State.parkSettle
  extract_lets -merge -useContext +onlyGivenNames v0
  clear_value v0
  extract_lets -merge -useContext +onlyGivenNames v1
  refine Touch.cut v1 ?_ (fun h2 => ?_)
  · unfold v1
    refine Touch.step ?_ (State.modXlat_touch ..) (by decide +kernel)
    exact Touch.refl _ _
  clear_value v1
  refine Touch.foldl ?_ (fun y3 y4 h5 => ?_)
  · exact h2
  · extract_lets -merge -useContext +onlyGivenNames v6
    clear_value v6
    refine Touch.ite ?_ ?_
    · refine Touch.step ?_ (State.put_touch ..) (by decide +kernel)
      exact h5
    · refine Touch.step ?_ (State.put_touch ..) (by decide +kernel)
      exact h5

theorem State.tlbLook_touch (s : State) (a1 : Acc) (a2 : ℕ) :
    Touch 0x4000 s (State.tlbLook s a1 a2).2 := by
  unfold State.tlbLook
  extract_lets -merge -useContext +onlyGivenNames v0
  clear_value v0
  split
  · refine Touch.iteSnd ?_ ?_
    · refine Touch.mkSnd ?_
      refine Touch.step ?_ (State.modXlat_touch ..) (by decide +kernel)
      exact Touch.refl _ _
    · refine Touch.mkSnd ?_
      exact Touch.refl _ _
  · split
    · refine Touch.mkSnd ?_
      exact Touch.refl _ _
    · extract_lets -merge -useContext +onlyGivenNames v1
      clear_value v1
      extract_lets -merge -useContext +onlyGivenNames v2
      clear_value v2
      refine Touch.mkSnd ?_
      refine Touch.step ?_ (State.modXlat_touch ..) (by decide +kernel)
      exact Touch.refl _ _

theorem State.l2Put_touch (s : State) (a1 : L2Ent) :
    Touch 0x2400000000000000000000000000000000000000000000000000000000000000000004100 s (State.l2Put s a1) := by
  unfold State.l2Put
  extract_lets -merge -useContext +onlyGivenNames v0
  clear_value v0
  extract_lets -merge -useContext +onlyGivenNames v1
  clear_value v1
  refine Touch.ite ?_ ?_
  · split
    · refine Touch.step ?_ (State.bump_touch ..) (by decide +kernel)
      refine Touch.step ?_ (State.modXlat_touch ..) (by decide +kernel)
      exact Touch.refl _ _
    · refine Touch.step ?_ (State.modXlat_touch ..) (by decide +kernel)
      exact Touch.refl _ _
  · refine Touch.step ?_ (State.modXlat_touch ..) (by decide +kernel)
    exact Touch.refl _ _

theorem State.l2Fill_touch (s : State) (a1 : ℕ) (a2 : Option ℕ) (a3 : ℕ) (a4 : AtsTrans) :
    Touch 0x2400000000000000000000000000000000000000000000000000000000000000000004100 s (State.l2Fill s a1 a2 a3 a4) := by
  unfold State.l2Fill
  refine Touch.ite ?_ ?_
  · exact Touch.refl _ _
  · extract_lets -merge -useContext +onlyGivenNames v0
    clear_value v0
    extract_lets -merge -useContext +onlyGivenNames v1
    clear_value v1
    extract_lets -merge -useContext +onlyGivenNames v2
    clear_value v2
    refine Touch.ite ?_ ?_
    · refine Touch.step ?_ (State.l2Put_touch ..) (by decide +kernel)
      exact Touch.refl _ _
    · refine Touch.ite ?_ ?_
      · extract_lets -merge -useContext +onlyGivenNames v3
        clear_value v3
        extract_lets -merge -useContext +onlyGivenNames v4
        clear_value v4
        extract_lets -merge -useContext +onlyGivenNames v5
        clear_value v5
        refine Touch.step ?_ (State.l2Put_touch ..) (by decide +kernel)
        exact Touch.refl _ _
      · extract_lets -merge -useContext +onlyGivenNames v6
        clear_value v6
        extract_lets -merge -useContext +onlyGivenNames v7
        clear_value v7
        refine Touch.step ?_ (State.l2Put_touch ..) (by decide +kernel)
        exact Touch.refl _ _

theorem State.tlbDrop_touch (s : State) (a1 : L2Ent → Bool) :
    Touch 0x4000 s (State.tlbDrop s a1) := by
  unfold State.tlbDrop
  refine Touch.step ?_ (State.modXlat_touch ..) (by decide +kernel)
  exact Touch.refl _ _

theorem State.microDrop_touch (s : State) (a1 : ℕ) (a2 : List ℕ) :
    Touch 0x4000 s (State.microDrop s a1 a2) := by
  unfold State.microDrop
  refine Touch.step ?_ (State.modXlat_touch ..) (by decide +kernel)
  exact Touch.refl _ _

theorem State.atsSend_touch (s : State) (a1 : AtsReq) (a2 : Option ℕ) :
    Touch 0x300000000000000000000000000000000000000000000000000000000000000100180 s (State.atsSend s a1 a2) := by
  unfold State.atsSend
  refine Touch.step ?_ (State.bump_touch ..) (by decide +kernel)
  refine Touch.step ?_ (State.ioReq_touch ..) (by decide +kernel)
  exact Touch.refl _ _

theorem State.atsNew_touch (s : State) (a1 : Acc) (a2 : ℕ) (a3 : Bool) :
    Touch 0x300000000000000000000000000000000000000000000000000000000000000104180 s (State.atsNew s a1 a2 a3).2 := by
  unfold State.atsNew
  extract_lets -merge -useContext +onlyGivenNames v0
  clear_value v0
  extract_lets -merge -useContext +onlyGivenNames v1
  clear_value v1
  extract_lets -merge -useContext +onlyGivenNames v2
  clear_value v2
  refine Touch.mkSnd ?_
  refine Touch.step ?_ (State.atsSend_touch ..) (by decide +kernel)
  refine Touch.step ?_ (State.modXlat_touch ..) (by decide +kernel)
  exact Touch.refl _ _

theorem State.atsDemand_touch (s : State) (a1 : Acc) (a2 : ℕ) :
    Touch 0x1f00000000000000000000000000000000000000000000000000000000000000104180 s (State.atsDemand s a1 a2) := by
  unfold State.atsDemand
  split
  · refine Touch.step ?_ (State.waitAcc_touch ..) (by decide +kernel)
    exact Touch.refl _ _
  · refine Touch.ite ?_ ?_
    · refine Touch.step ?_ (State.xlatFail_touch ..) (by decide +kernel)
      exact Touch.refl _ _
    · refine Touch.ite ?_ ?_
      · refine Touch.step ?_ (State.waitAcc_touch ..) (by decide +kernel)
        exact Touch.refl _ _
      · extract_lets -merge -useContext +onlyGivenNames v0
        refine Touch.cut v0.2 ?_ (fun h1 => ?_)
        · unfold v0
          refine Touch.step ?_ (State.atsNew_touch ..) (by decide +kernel)
          exact Touch.refl _ _
        clear_value v0
        refine Touch.step ?_ (State.waitAcc_touch ..) (by decide +kernel)
        exact h1

theorem State.prefetchGroup_touch (s : State) (a1 : Acc) (a2 : ℕ) (a3 : ℕ) (a4 : ℕ) :
    Touch 0x300000000000000000000000000000000000000000000000000000000000000104180 s (State.prefetchGroup s a1 a2 a3 a4) := by
  unfold State.prefetchGroup
  extract_lets -merge -useContext +onlyGivenNames v0
  clear_value v0
  extract_lets -merge -useContext +onlyGivenNames v1
  clear_value v1
  extract_lets -merge -useContext +onlyGivenNames v2
  clear_value v2
  extract_lets -merge -useContext +onlyGivenNames v3
  clear_value v3
  extract_lets -merge -useContext +onlyGivenNames v4
  clear_value v4
  refine Touch.ite ?_ ?_
  · refine Touch.step ?_ (State.atsNew_touch ..) (by decide +kernel)
    exact Touch.refl _ _
  · exact Touch.refl _ _

theorem State.prefetch_touch (s : State) (a1 : Acc) :
    Touch 0x300000000000000000000000000000000000000000000000000000000000000104180 s (State.prefetch s a1) := by
  unfold State.prefetch
  refine Touch.ite ?_ ?_
  · exact Touch.refl _ _
  · extract_lets -merge -useContext +onlyGivenNames v0
    refine Touch.cut v0 ?_ (fun h1 => ?_)
    · unfold v0
      refine Touch.step ?_ (State.modStream_touch ..) (by decide +kernel)
      exact Touch.refl _ _
    clear_value v0
    extract_lets -merge -useContext +onlyGivenNames v2
    clear_value v2
    extract_lets -merge -useContext +onlyGivenNames v3
    clear_value v3
    refine Touch.ite ?_ ?_
    · exact h1
    · refine Touch.foldl ?_ (fun y4 y5 h6 => ?_)
      · exact h1
      · refine Touch.step ?_ (State.prefetchGroup_touch ..) (by decide +kernel)
        exact h6

theorem State.prgCount_touch (s : State) (a1 : ℕ) (a2 : ℕ) :
    Touch 0x20000200000000000000000000000000000000000000000000000000000000000000000 s (State.prgCount s a1 a2) := by
  unfold State.prgCount
  extract_lets -merge -useContext +onlyGivenNames v0
  clear_value v0
  extract_lets -merge -useContext +onlyGivenNames v1
  clear_value v1
  refine Touch.step ?_ (State.put_touch ..) (by decide +kernel)
  refine Touch.step ?_ (State.put_touch ..) (by decide +kernel)
  exact Touch.refl _ _

theorem State.pageFault_touch (s : State) (a1 : Acc) (a2 : ℕ) :
    Touch 0x21c00200000000000000000000000000000000000000000000000000000000000004100 s (State.pageFault s a1 a2) := by
  unfold State.pageFault
  extract_lets -merge -useContext +onlyGivenNames v0
  clear_value v0
  refine Touch.ite ?_ ?_
  · refine Touch.step ?_ (State.xlatFail_touch ..) (by decide +kernel)
    exact Touch.refl _ _
  · refine Touch.ite ?_ ?_
    · refine Touch.step ?_ (State.xlatFail_touch ..) (by decide +kernel)
      exact Touch.refl _ _
    · refine Touch.ite ?_ ?_
      · refine Touch.step ?_ (State.xlatFail_touch ..) (by decide +kernel)
        exact Touch.refl _ _
      · extract_lets -merge -useContext +onlyGivenNames v1
        clear_value v1
        extract_lets -merge -useContext +onlyGivenNames v2
        clear_value v2
        split
        · refine Touch.step ?_ (State.waitAcc_touch ..) (by decide +kernel)
          exact Touch.refl _ _
        · split
          · refine Touch.step ?_ (State.prgCount_touch ..) (by decide +kernel)
            refine Touch.step ?_ (State.waitAcc_touch ..) (by decide +kernel)
            refine Touch.step ?_ (State.modXlat_touch ..) (by decide +kernel)
            exact Touch.refl _ _
          · extract_lets -merge -useContext +onlyGivenNames v3
            clear_value v3
            extract_lets -merge -useContext +onlyGivenNames v4
            clear_value v4
            extract_lets -merge -useContext +onlyGivenNames v5
            clear_value v5
            refine Touch.step ?_ (State.prgCount_touch ..) (by decide +kernel)
            refine Touch.step ?_ (State.waitAcc_touch ..) (by decide +kernel)
            refine Touch.step ?_ (State.modXlat_touch ..) (by decide +kernel)
            exact Touch.refl _ _

theorem State.hostPage_touch (s : State) (a1 : Acc) :
    Touch 0x21f00200000000000000000000000000000000000000000000000000000000000104180 s (State.hostPage s a1).2 := by
  unfold State.hostPage
  extract_lets -merge -useContext +onlyGivenNames v0
  clear_value v0
  refine Touch.iteSnd ?_ ?_
  · refine Touch.mkSnd ?_
    exact Touch.refl _ _
  · extract_lets -merge -useContext +onlyGivenNames v1
    refine Touch.cut v1.2 ?_ (fun h2 => ?_)
    · unfold v1
      refine Touch.step ?_ (State.tlbLook_touch ..) (by decide +kernel)
      exact Touch.refl _ _
    clear_value v1
    split
    · refine Touch.iteSnd ?_ ?_
      · refine Touch.mkSnd ?_
        exact h2
      · refine Touch.iteSnd ?_ ?_
        · refine Touch.mkSnd ?_
          exact h2
        · refine Touch.iteSnd ?_ ?_
          · refine Touch.mkSnd ?_
            refine Touch.step ?_ (State.xlatFail_touch ..) (by decide +kernel)
            exact h2
          · refine Touch.mkSnd ?_
            exact h2
    · extract_lets -merge -useContext +onlyGivenNames v3
      clear_value v3
      refine Touch.iteSnd ?_ ?_
      · refine Touch.mkSnd ?_
        refine Touch.step ?_ (State.pageFault_touch ..) (by decide +kernel)
        exact Touch.refl _ _
      · refine Touch.mkSnd ?_
        refine Touch.step ?_ (State.atsDemand_touch ..) (by decide +kernel)
        exact Touch.refl _ _

end Sys2Proof.Machine
end

