-- ==== Sys2Proof/Laws/TouchCacheOps.lean ====
section
/-! SUPPORT. What the operations of Machine/CacheOps.lean may change. -/
namespace Sys2Proof.Machine

set_option Elab.async false

theorem State.modCch_touch (s : State) (a1 : Cch → Cch) :
    Touch 0x8000 s (State.modCch s a1) := by
  unfold State.modCch
  refine Touch.step ?_ (Touch.cchWith _ _) (by decide +kernel)
  exact Touch.refl _ _

theorem State.delLine_touch (s : State) (a1 : ℕ) :
    Touch 0x8000 s (State.delLine s a1) := by
  unfold State.delLine
  refine Touch.step ?_ (State.modCch_touch ..) (by decide +kernel)
  exact Touch.refl _ _

theorem State.putLine_touch (s : State) (a1 : CLine) :
    Touch 0x8000 s (State.putLine s a1) := by
  unfold State.putLine
  refine Touch.step ?_ (State.modCch_touch ..) (by decide +kernel)
  exact Touch.refl _ _

theorem State.staleSettle_touch (s : State) :
    Touch 0x10000000000200000000000000000000000000000000000000000000000000000000000000000000000000 s (State.staleSettle s) := by
  unfold State.staleSettle
  extract_lets -merge -useContext +onlyGivenNames v0
  refine Touch.cut v0 ?_ (fun h1 => ?_)
  · unfold v0
    refine Touch.ite ?_ ?_
    · refine Touch.step ?_ (State.put_touch ..) (by decide +kernel)
      exact Touch.refl _ _
    · exact Touch.refl _ _
  clear_value v0
  refine Touch.foldl ?_ (fun y2 y3 h4 => ?_)
  · exact h1
  · refine Touch.ite ?_ ?_
    · refine Touch.step ?_ (State.put_touch ..) (by decide +kernel)
      exact h4
    · exact h4

theorem State.cacheFault_touch (s : State) (a1 : ℕ) (a2 : Option ℕ) (a3 : Option ℕ) (a4 : ℕ) :
    Touch 0x100 s (State.cacheFault s a1 a2 a3 a4) := by
  unfold State.cacheFault
  refine Touch.step ?_ (State.raise_touch ..) (by decide +kernel)
  exact Touch.refl _ _

theorem State.d2hSend_touch (s : State) (a1 : D2H) :
    Touch 0x108000 s (State.d2hSend s a1) := by
  unfold State.d2hSend
  extract_lets -merge -useContext +onlyGivenNames v0
  clear_value v0
  refine Touch.step ?_ (State.emit_touch ..) (by decide +kernel)
  refine Touch.step ?_ (State.modCch_touch ..) (by decide +kernel)
  exact Touch.refl _ _

theorem State.sendEvict_touch (s : State) (a1 : ℕ) (a2 : ℕ) :
    Touch 0xc0000000000000000000000000000000000000000000000000000000000000000000000000108100 s (State.sendEvict s a1 a2) := by
  unfold State.sendEvict
  refine Touch.step ?_ (State.d2hSend_touch ..) (by decide +kernel)
  refine Touch.step ?_ (State.bump_touch ..) (by decide +kernel)
  exact Touch.refl _ _

theorem State.dirtyEvict_touch (s : State) (a1 : ℕ) (a2 : ℕ) (a3 : List Byte) (a4 : Bool) :
    Touch 0xc0000000000000000000000000000000000000000000000000000000000000000000000000108100 s (State.dirtyEvict s a1 a2 a3 a4) := by
  unfold State.dirtyEvict
  extract_lets -merge -useContext +onlyGivenNames v0
  clear_value v0
  extract_lets -merge -useContext +onlyGivenNames v1
  refine Touch.cut v1 ?_ (fun h2 => ?_)
  · unfold v1
    refine Touch.step ?_ (State.modCch_touch ..) (by decide +kernel)
    exact Touch.refl _ _
  clear_value v1
  refine Touch.ite ?_ ?_
  · refine Touch.step ?_ (State.sendEvict_touch ..) (by decide +kernel)
    exact h2
  · exact h2

theorem State.evict_touch (s : State) (a1 : CLine) :
    Touch 0x100003c0000200000000000000000000000000000000000000000000000000000000000000000000108100 s (State.evict s a1) := by
  unfold State.evict
  extract_lets -merge -useContext +onlyGivenNames v0
  refine Touch.cut v0 ?_ (fun h1 => ?_)
  · unfold v0
    refine Touch.step ?_ (State.delLine_touch ..) (by decide +kernel)
    exact Touch.refl _ _
  clear_value v0
  extract_lets -merge -useContext +onlyGivenNames v2
  refine Touch.cut v2 ?_ (fun h3 => ?_)
  · unfold v2
    refine Touch.ite ?_ ?_
    · refine Touch.step ?_ (State.dirtyEvict_touch ..) (by decide +kernel)
      exact h1
    · refine Touch.ite ?_ ?_
      · refine Touch.step ?_ (State.d2hSend_touch ..) (by decide +kernel)
        refine Touch.step ?_ (State.bump_touch ..) (by decide +kernel)
        exact h1
      · exact h1
  clear_value v2
  refine Touch.step ?_ (State.staleSettle_touch ..) (by decide +kernel)
  exact h3

theorem State.victim_touch (s : State) (a1 : CLine) :
    TouchPl 0x100003c0000200000000000000000000000000000000000000000000000000000000000000000000108100 s (State.victim s a1) := by
  unfold State.victim
  refine TouchPl.ite ?_ ?_
  · refine TouchPl.wait
  · refine TouchPl.room ?_
    refine Touch.step ?_ (State.evict_touch ..) (by decide +kernel)
    exact Touch.refl _ _

theorem State.place_touch (s : State) (a1 : ℕ) (a2 : ℕ) :
    TouchPl 0x100003c0000200000000000000000000000000000000000000000000000000000000000000000000108100 s (State.place s a1 a2) := by
  unfold State.place
  extract_lets -merge -useContext +onlyGivenNames v0
  clear_value v0
  extract_lets -merge -useContext +onlyGivenNames v1
  clear_value v1
  extract_lets -merge -useContext +onlyGivenNames v2
  clear_value v2
  extract_lets -merge -useContext +onlyGivenNames v3
  clear_value v3
  refine TouchPl.ite ?_ ?_
  · refine TouchPl.room ?_
    exact Touch.refl _ _
  · split
    · refine TouchPl.step ?_ (State.victim_touch ..) (by decide +kernel)
      exact Touch.refl _ _
    · refine TouchPl.ite ?_ ?_
      · split
        · refine TouchPl.step ?_ (State.victim_touch ..) (by decide +kernel)
          exact Touch.refl _ _
        · refine TouchPl.bypass
      · split
        · refine TouchPl.step ?_ (State.victim_touch ..) (by decide +kernel)
          exact Touch.refl _ _
        · refine TouchPl.bypass

theorem State.gotLine_touch (s : State) (a1 : ℕ) (a2 : ℕ) (a3 : List Byte) (a4 : Bool) :
    Touch 0x4000 s (State.gotLine s a1 a2 a3 a4) := by
  unfold State.gotLine
  refine Touch.step ?_ (State.modAcc_touch ..) (by decide +kernel)
  exact Touch.refl _ _

theorem State.cacheLine_touch (s : State) (a1 : Acc) (a2 : ℕ) (a3 : ℕ) (a4 : ℕ) (a5 : List Byte) :
    TouchOF 0x100003f000020000000000000000000000000000000000000000000000000000000000000000000010c100 s (State.cacheLine s a1 a2 a3 a4 a5) := by
  unfold State.cacheLine
  extract_lets -merge -useContext +onlyGivenNames v0
  clear_value v0
  extract_lets -merge -useContext +onlyGivenNames v1
  extract_lets -merge -useContext +onlyGivenNames v2
  refine TouchOF.cut v2 ?_ (fun h3 => ?_)
  · unfold v2
    refine Touch.step ?_ (State.modStream_touch ..) (by decide +kernel)
    exact Touch.refl _ _
  clear_value v2
  extract_lets -merge -useContext +onlyGivenNames v4
  clear_value v4
  extract_lets -merge -useContext +onlyGivenNames v5
  refine TouchOF.ite ?_ ?_
  · refine TouchOF.none
  · refine TouchOF.ite ?_ ?_
    · split
      · refine TouchOF.some _ ?_
        refine Touch.step ?_ (State.d2hSend_touch ..) (by decide +kernel)
        exact h3
      · refine TouchOF.ite ?_ ?_
        · unfold v5
          refine TouchOF.some _ ?_
          refine Touch.step ?_ (State.d2hSend_touch ..) (by decide +kernel)
          exact h3
        · refine TouchOF.some _ ?_
          refine Touch.step ?_ (State.d2hSend_touch ..) (by decide +kernel)
          exact h3
      · refine TouchOF.ite ?_ ?_
        · refine TouchOF.none
        · refine TouchOF.some _ ?_
          refine Touch.step ?_ (State.d2hSend_touch ..) (by decide +kernel)
          exact h3
    · split
      · extract_lets -merge -useContext +onlyGivenNames v6
        clear_value v6
        refine TouchOF.ite ?_ ?_
        · refine TouchOF.some _ ?_
          refine Touch.step ?_ (State.gotLine_touch ..) (by decide +kernel)
          refine Touch.step ?_ (State.putLine_touch ..) (by decide +kernel)
          exact h3
        · refine TouchOF.ite ?_ ?_
          · unfold v5
            refine TouchOF.some _ ?_
            refine Touch.step ?_ (State.d2hSend_touch ..) (by decide +kernel)
            refine Touch.step ?_ (State.staleSettle_touch ..) (by decide +kernel)
            refine Touch.step ?_ (State.bump_touch ..) (by decide +kernel)
            refine Touch.step ?_ (State.delLine_touch ..) (by decide +kernel)
            exact h3
          · refine TouchOF.ite ?_ ?_
            · refine TouchOF.some _ ?_
              refine Touch.step ?_ (State.d2hSend_touch ..) (by decide +kernel)
              refine Touch.step ?_ (State.putLine_touch ..) (by decide +kernel)
              exact h3
            · refine TouchOF.some _ ?_
              refine Touch.step ?_ (State.gotLine_touch ..) (by decide +kernel)
              refine Touch.step ?_ (State.putLine_touch ..) (by decide +kernel)
              exact h3
      · split
        · refine TouchOF.ite ?_ ?_
          · refine TouchOF.some _ ?_
            refine Touch.step ?_ (State.gotLine_touch ..) (by decide +kernel)
            exact h3
          · refine TouchOF.none
        · refine TouchOF.ite ?_ ?_
          · unfold v5
            refine TouchOF.some _ ?_
            refine Touch.step ?_ (State.d2hSend_touch ..) (by decide +kernel)
            refine Touch.step ?_ (State.bump_touch ..) (by decide +kernel)
            exact h3
          · split
            · refine TouchOF.none
            · rename_i y7 y8 y9 y10 y11 y12 y13
              refine TouchOF.some _ ?_
              refine Touch.step ?_ (State.d2hSend_touch ..) (by decide +kernel)
              refine TouchPl.ofRoom y13 ?_
              refine TouchPl.step ?_ (State.place_touch ..) (by decide +kernel)
              exact h3
            · split
              · refine TouchOF.some _ ?_
                refine Touch.step ?_ (State.d2hSend_touch ..) (by decide +kernel)
                exact h3
              · refine TouchOF.ite ?_ ?_
                · unfold v5
                  refine TouchOF.some _ ?_
                  refine Touch.step ?_ (State.d2hSend_touch ..) (by decide +kernel)
                  exact h3
                · refine TouchOF.some _ ?_
                  refine Touch.step ?_ (State.d2hSend_touch ..) (by decide +kernel)
                  exact h3
              · refine TouchOF.ite ?_ ?_
                · refine TouchOF.none
                · refine TouchOF.some _ ?_
                  refine Touch.step ?_ (State.d2hSend_touch ..) (by decide +kernel)
                  exact h3

theorem State.cacheLines_touch (a0 : Acc) (a1 : List Byte) (a2 : List (ℕ × ℕ × ℕ × ℕ)) (s : State) (a4 : Bool) :
    TouchOF 0x100003f000020000000000000000000000000000000000000000000000000000000000000000000010c100 s (State.cacheLines a0 a1 a2 s a4) := by
  induction a2 generalizing a0 a1 s a4
  · unfold State.cacheLines
    refine TouchOF.some _ ?_
    exact Touch.refl _ _
  · rename_i x_ xs_ ih
    unfold State.cacheLines
    split
    · rename_i y0 y1
      refine TouchOF.none
    · rename_i y2 y3 y4 y5
      refine TouchOF.stepSelf ?_ (ih ..)
      refine TouchOF.ofSome y5 ?_
      refine TouchOF.step ?_ (State.cacheLine_touch ..) (by decide +kernel)
      exact Touch.refl _ _

theorem State.nextLines_touch (s : State) (a1 : Acc) (a2 : ℕ) :
    Touch 0x100003cc000200000000000000000000000000000000000000000000000000000000000000000000108100 s (State.nextLines s a1 a2) := by
  unfold State.nextLines
  refine Touch.ite ?_ ?_
  · exact Touch.refl _ _
  · refine Touch.foldl ?_ (fun y0 y1 h2 => ?_)
    · exact Touch.refl _ _
    · extract_lets -merge -useContext +onlyGivenNames v3
      clear_value v3
      refine Touch.ite ?_ ?_
      · exact h2
      · split
        · rename_i y4 y5 y6
          refine Touch.step ?_ (State.d2hSend_touch ..) (by decide +kernel)
          refine Touch.step ?_ (State.bump_touch ..) (by decide +kernel)
          refine TouchPl.ofRoom y6 ?_
          refine TouchPl.step ?_ (State.place_touch ..) (by decide +kernel)
          exact h2
        · exact h2

theorem State.bypassWrite_touch (s : State) (a1 : ℕ) :
    Touch 0x10000000000200000000000000000000000000000000000000000000000000000000000000000000000000 s (State.bypassWrite s a1) := by
  unfold State.bypassWrite
  refine Touch.ite ?_ ?_
  · refine Touch.ite ?_ ?_
    · exact Touch.refl _ _
    · refine Touch.step ?_ (State.put_touch ..) (by decide +kernel)
      exact Touch.refl _ _
  · refine Touch.ite ?_ ?_
    · refine Touch.ite ?_ ?_
      · exact Touch.refl _ _
      · refine Touch.step ?_ (State.put_touch ..) (by decide +kernel)
        exact Touch.refl _ _
    · exact Touch.refl _ _

theorem State.cacheReq_touch (s : State) (a1 : Acc) (a2 : ℕ) (a3 : ℕ) :
    Touch 0x6000000000000000000000f100003ffc0020000000000000000000000000000000000000000000000000000000000000000000010c100 s (State.cacheReq s a1 a2 a3) := by
  unfold State.cacheReq
  extract_lets -merge -useContext +onlyGivenNames v0
  clear_value v0
  extract_lets -merge -useContext +onlyGivenNames v1
  refine Touch.cut v1 ?_ (fun h2 => ?_)
  · unfold v1
    refine Touch.step ?_ (State.waitAcc_touch ..) (by decide +kernel)
    exact Touch.refl _ _
  clear_value v1
  extract_lets -merge -useContext +onlyGivenNames v3
  clear_value v3
  extract_lets -merge -useContext +onlyGivenNames v4
  clear_value v4
  refine Touch.ite ?_ ?_
  · exact h2
  · split
    · exact h2
    · rename_i y5 y6 y7 y8
      refine Touch.ite ?_ ?_
      · refine Touch.step ?_ (State.modAcc_touch ..) (by decide +kernel)
        refine Touch.step ?_ (State.hostErr_touch ..) (by decide +kernel)
        exact Touch.refl _ _
      · refine Touch.ite ?_ ?_
        · exact h2
        · extract_lets -merge -useContext +onlyGivenNames v9
          refine Touch.cut v9 ?_ (fun h10 => ?_)
          · unfold v9
            refine Touch.ite ?_ ?_
            · refine Touch.ite ?_ ?_
              · refine TouchOF.ofSome y8 ?_
                refine TouchOF.step ?_ (State.cacheLines_touch ..) (by decide +kernel)
                exact Touch.refl _ _
              · refine Touch.step ?_ (State.bypassWrite_touch ..) (by decide +kernel)
                refine TouchOF.ofSome y8 ?_
                refine TouchOF.step ?_ (State.cacheLines_touch ..) (by decide +kernel)
                exact Touch.refl _ _
            · refine Touch.ite ?_ ?_
              · refine Touch.step ?_ (State.bump_touch ..) (by decide +kernel)
                refine Touch.step ?_ (State.bump_touch ..) (by decide +kernel)
                refine TouchOF.ofSome y8 ?_
                refine TouchOF.step ?_ (State.cacheLines_touch ..) (by decide +kernel)
                exact Touch.refl _ _
              · refine Touch.step ?_ (State.bump_touch ..) (by decide +kernel)
                refine Touch.step ?_ (State.bump_touch ..) (by decide +kernel)
                refine TouchOF.ofSome y8 ?_
                refine TouchOF.step ?_ (State.cacheLines_touch ..) (by decide +kernel)
                exact Touch.refl _ _
          clear_value v9
          extract_lets -merge -useContext +onlyGivenNames v11
          refine Touch.cut v11 ?_ (fun h12 => ?_)
          · unfold v11
            refine Touch.ite ?_ ?_
            · refine Touch.step ?_ (State.nextLines_touch ..) (by decide +kernel)
              exact h10
            · exact h10
          clear_value v11
          extract_lets -merge -useContext +onlyGivenNames v13
          refine Touch.cut v13 ?_ (fun h14 => ?_)
          · unfold v13
            refine Touch.step ?_ (State.modAcc_touch ..) (by decide +kernel)
            exact h12
          clear_value v13
          refine Touch.ite ?_ ?_
          · refine Touch.step ?_ (State.waitAcc_touch ..) (by decide +kernel)
            exact h14
          · exact h14

theorem State.fillDone_touch (s : State) (a1 : Option ℕ) :
    Touch 0x4000 s (State.fillDone s a1) := by
  unfold State.fillDone
  split
  · exact Touch.refl _ _
  · refine Touch.ite ?_ ?_
    · exact Touch.refl _ _
    · refine Touch.step ?_ (State.modAcc_touch ..) (by decide +kernel)
      exact Touch.refl _ _

theorem State.d2hDel_touch (s : State) (a1 : ℕ) :
    Touch 0x8000 s (State.d2hDel s a1) := by
  unfold State.d2hDel
  refine Touch.step ?_ (State.modCch_touch ..) (by decide +kernel)
  exact Touch.refl _ _

theorem State.coreGot_touch (s : State) (a1 : D2H) (a2 : List Byte × Bool) :
    Touch 0x2000 s (State.coreGot s a1 a2) := by
  unfold State.coreGot
  split
  · refine Touch.ite ?_ ?_
    · exact Touch.refl _ _
    · refine Touch.step ?_ (State.modCore_touch ..) (by decide +kernel)
      exact Touch.refl _ _
  · exact Touch.refl _ _

theorem State.d2hFail_touch (s : State) (a1 : D2H) :
    Touch 0x600000000000000000000000000000000000000000000000000000000000000000000000000000000000000000000000000000000e100 s (State.d2hFail s a1) := by
  unfold State.d2hFail
  extract_lets -merge -useContext +onlyGivenNames v0
  refine Touch.cut v0 ?_ (fun h1 => ?_)
  · unfold v0
    refine Touch.step ?_ (State.coreGot_touch ..) (by decide +kernel)
    refine Touch.step ?_ (State.d2hDel_touch ..) (by decide +kernel)
    exact Touch.refl _ _
  clear_value v0
  split
  · exact h1
  · refine Touch.step ?_ (State.fillDone_touch ..) (by decide +kernel)
    refine Touch.step ?_ (State.modAcc_touch ..) (by decide +kernel)
    refine Touch.step ?_ (State.hostErr_touch ..) (by decide +kernel)
    exact h1

theorem State.fillRead_touch (s : State) (a1 : D2H) (a2 : List Byte) (a3 : Bool) :
    Touch 0x6000 s (State.fillRead s a1 a2 a3) := by
  unfold State.fillRead
  split
  · refine Touch.step ?_ (State.coreGot_touch ..) (by decide +kernel)
    exact Touch.refl _ _
  · refine Touch.step ?_ (State.gotLine_touch ..) (by decide +kernel)
    exact Touch.refl _ _

theorem State.d2hDone_touch (s : State) (a1 : D2H) :
    Touch 0xc00c000000000000000000000000000000000000000000000000000000000000000000000010e100 s (State.d2hDone s a1) := by
  unfold State.d2hDone
  extract_lets -merge -useContext +onlyGivenNames v0
  refine Touch.cut v0 ?_ (fun h1 => ?_)
  · unfold v0
    refine Touch.step ?_ (State.d2hDel_touch ..) (by decide +kernel)
    exact Touch.refl _ _
  clear_value v0
  extract_lets -merge -useContext +onlyGivenNames v2
  clear_value v2
  split
  · extract_lets -merge -useContext +onlyGivenNames v3
    clear_value v3
    extract_lets -merge -useContext +onlyGivenNames v4
    refine Touch.cut v4 ?_ (fun h5 => ?_)
    · unfold v4
      refine Touch.ite ?_ ?_
      · refine Touch.step ?_ (State.cacheFault_touch ..) (by decide +kernel)
        refine Touch.step ?_ (State.bump_touch ..) (by decide +kernel)
        exact h1
      · exact h1
    clear_value v4
    extract_lets -merge -useContext +onlyGivenNames v6
    clear_value v6
    extract_lets -merge -useContext +onlyGivenNames v7
    clear_value v7
    extract_lets -merge -useContext +onlyGivenNames v8
    refine Touch.cut v8 ?_ (fun h9 => ?_)
    · unfold v8
      refine Touch.ite ?_ ?_
      · exact h5
      · refine Touch.step ?_ (State.putLine_touch ..) (by decide +kernel)
        exact h5
    clear_value v8
    extract_lets -merge -useContext +onlyGivenNames v10
    refine Touch.cut v10 ?_ (fun h11 => ?_)
    · unfold v10
      split
      · refine Touch.step ?_ (State.fillRead_touch ..) (by decide +kernel)
        exact h9
      · refine Touch.step ?_ (State.fillRead_touch ..) (by decide +kernel)
        exact h5
      · split
        · refine Touch.ite ?_ ?_
          · refine Touch.step ?_ (State.putLine_touch ..) (by decide +kernel)
            exact h5
          · exact h5
        · extract_lets -merge -useContext +onlyGivenNames v12
          clear_value v12
          refine Touch.ite ?_ ?_
          · refine Touch.step ?_ (State.gotLine_touch ..) (by decide +kernel)
            refine Touch.step ?_ (State.putLine_touch ..) (by decide +kernel)
            exact h5
          · refine Touch.step ?_ (State.gotLine_touch ..) (by decide +kernel)
            refine Touch.step ?_ (State.dirtyEvict_touch ..) (by decide +kernel)
            exact h5
      · split
        · exact h5
        · refine Touch.ite ?_ ?_
          · refine Touch.step ?_ (State.gotLine_touch ..) (by decide +kernel)
            refine Touch.step ?_ (State.putLine_touch ..) (by decide +kernel)
            exact h5
          · split
            · refine Touch.step ?_ (State.gotLine_touch ..) (by decide +kernel)
              refine Touch.step ?_ (State.putLine_touch ..) (by decide +kernel)
              exact h5
            · refine Touch.step ?_ (State.d2hSend_touch ..) (by decide +kernel)
              exact h5
      · split
        · refine Touch.step ?_ (State.gotLine_touch ..) (by decide +kernel)
          exact h5
        · exact h5
      · split
        · refine Touch.step ?_ (State.gotLine_touch ..) (by decide +kernel)
          exact h5
        · exact h5
      · exact h5
    clear_value v10
    refine Touch.step ?_ (State.fillDone_touch ..) (by decide +kernel)
    exact h11

theorem State.h2dAnswer_touch (s : State) (a1 : ℕ) (a2 : Option ℕ) (a3 : Option (List Byte × Bool)) :
    Touch 0x60000000000000000000000000000c03c000000000000000000000000000000000000000000000000000000000000000000000010e100 s (State.h2dAnswer s a1 a2 a3) := by
  unfold State.h2dAnswer
  split
  · exact Touch.refl _ _
  · extract_lets -merge -useContext +onlyGivenNames v0
    refine Touch.ite ?_ ?_
    · refine Touch.step ?_ (State.d2hFail_touch ..) (by decide +kernel)
      refine Touch.step ?_ (State.cacheFault_touch ..) (by decide +kernel)
      refine Touch.step ?_ (State.bump_touch ..) (by decide +kernel)
      exact Touch.refl _ _
    · refine Touch.ite ?_ ?_
      · refine Touch.step ?_ (State.d2hDone_touch ..) (by decide +kernel)
        exact Touch.refl _ _
      · refine Touch.step ?_ (State.modCch_touch ..) (by decide +kernel)
        exact Touch.refl _ _

theorem State.delDir_touch (s : State) (a1 : ℕ) :
    Touch 0x8000 s (State.delDir s a1) := by
  unfold State.delDir
  refine Touch.step ?_ (State.modCch_touch ..) (by decide +kernel)
  exact Touch.refl _ _

theorem State.setDir_touch (s : State) (a1 : ℕ) (a2 : Bool) :
    Touch 0x8000 s (State.setDir s a1 a2) := by
  unfold State.setDir
  refine Touch.step ?_ (State.modCch_touch ..) (by decide +kernel)
  exact Touch.refl _ _

theorem State.biSend_touch (s : State) (a1 : BiReq) :
    Touch 0x180000000000000000000000000000000000000000000000000000000000000000000000000000108100 s (State.biSend s a1) := by
  unfold State.biSend
  refine Touch.step ?_ (State.emit_touch ..) (by decide +kernel)
  refine Touch.step ?_ (State.bump_touch ..) (by decide +kernel)
  refine Touch.step ?_ (State.modCch_touch ..) (by decide +kernel)
  exact Touch.refl _ _

theorem State.biAsk_touch (s : State) (a1 : Acc) (a2 : ℕ) (a3 : ℕ) :
    Touch 0x18000000000000000000000000000000000000000000000000000000000000000000000000000010c100 s (State.biAsk s a1 a2 a3) := by
  unfold State.biAsk
  refine Touch.ite ?_ ?_
  · refine Touch.step ?_ (State.waitAcc_touch ..) (by decide +kernel)
    exact Touch.refl _ _
  · extract_lets -merge -useContext +onlyGivenNames v0
    refine Touch.cut v0 ?_ (fun h1 => ?_)
    · unfold v0
      refine Touch.ite ?_ ?_
      · exact Touch.refl _ _
      · refine Touch.step ?_ (State.biSend_touch ..) (by decide +kernel)
        exact Touch.refl _ _
    clear_value v0
    refine Touch.step ?_ (State.waitAcc_touch ..) (by decide +kernel)
    exact h1

end Sys2Proof.Machine
end

