-- ==== Sys2Proof/Laws/TouchAccess.lean ====
section
/-! SUPPORT. What the operations of Machine/Access.lean may change. -/
namespace Sys2Proof.Machine

set_option Elab.async false

theorem State.detach_touch (s : State) (a1 : ℕ) :
    Touch 0x1c080 s (State.detach s a1) := by
  unfold State.detach
  extract_lets -merge -useContext +onlyGivenNames v0
  refine Touch.cut v0 ?_ (fun h1 => ?_)
  · unfold v0
    refine Touch.step ?_ (State.modXlat_touch ..) (by decide +kernel)
    exact Touch.refl _ _
  clear_value v0
  extract_lets -merge -useContext +onlyGivenNames v2
  refine Touch.cut v2 ?_ (fun h3 => ?_)
  · unfold v2
    refine Touch.step ?_ (State.modCch_touch ..) (by decide +kernel)
    exact h1
  clear_value v2
  extract_lets -merge -useContext +onlyGivenNames v4
  refine Touch.cut v4 ?_ (fun h5 => ?_)
  · unfold v4
    refine Touch.step ?_ (State.modDl_touch ..) (by decide +kernel)
    exact h3
  clear_value v4
  refine Touch.step ?_ (State.dropReqs_touch ..) (by decide +kernel)
  exact h5

theorem State.spoilDst_touch (s : State) (a1 : ℕ) (a2 : ℕ) :
    Touch 0x200800 s (State.spoilDst s a1 a2) := by
  unfold State.spoilDst
  split
  · refine Touch.ite ?_ ?_
    · exact Touch.refl _ _
    · refine Touch.step ?_ (State.undefine_touch ..) (by decide +kernel)
      exact Touch.refl _ _
  · exact Touch.refl _ _

theorem State.endCopy_touch (s : State) (a1 : ℕ) (a2 : ℕ) (a3 : ℕ) :
    Touch 0x21c8a0 s (State.endCopy s a1 a2 a3) := by
  unfold State.endCopy
  extract_lets -merge -useContext +onlyGivenNames v0
  clear_value v0
  extract_lets -merge -useContext +onlyGivenNames v1
  clear_value v1
  extract_lets -merge -useContext +onlyGivenNames v2
  refine Touch.cut v2 ?_ (fun h3 => ?_)
  · unfold v2
    refine Touch.ite ?_ ?_
    · exact Touch.refl _ _
    · refine Touch.step ?_ (State.spoilDst_touch ..) (by decide +kernel)
      exact Touch.refl _ _
  clear_value v2
  refine Touch.step ?_ (State.finish_touch ..) (by decide +kernel)
  refine Touch.foldl ?_ (fun y4 y5 h6 => ?_)
  · exact h3
  · refine Touch.step ?_ (State.detach_touch ..) (by decide +kernel)
    exact h6

theorem State.seqEvent_touch (s : State) (a1 : ℕ) (a2 : SeqEvt) :
    Touch 0x40000 s (State.seqEvent s a1 a2) := by
  unfold State.seqEvent
  refine Touch.step ?_ (State.modSeq_touch ..) (by decide +kernel)
  exact Touch.refl _ _

theorem State.failAcc_touch (s : State) (a1 : Acc) (a2 : ℕ) :
    Touch 0x24000000000000000000000000000000000000000000000000025f9a0 s (State.failAcc s a1 a2) := by
  unfold State.failAcc
  split
  · refine Touch.step ?_ (State.dropSend_touch ..) (by decide +kernel)
    refine Touch.step ?_ (State.detach_touch ..) (by decide +kernel)
    exact Touch.refl _ _
  · refine Touch.step ?_ (State.dropSend_touch ..) (by decide +kernel)
    refine Touch.step ?_ (State.detach_touch ..) (by decide +kernel)
    exact Touch.refl _ _
  · refine Touch.step ?_ (State.endCopy_touch ..) (by decide +kernel)
    exact Touch.refl _ _
  · refine Touch.step ?_ (State.endCopy_touch ..) (by decide +kernel)
    exact Touch.refl _ _
  · refine Touch.step ?_ (State.finish_touch ..) (by decide +kernel)
    refine Touch.step ?_ (State.detach_touch ..) (by decide +kernel)
    exact Touch.refl _ _
  · refine Touch.step ?_ (State.finish_touch ..) (by decide +kernel)
    refine Touch.step ?_ (State.detach_touch ..) (by decide +kernel)
    exact Touch.refl _ _
  · refine Touch.step ?_ (State.seqEvent_touch ..) (by decide +kernel)
    refine Touch.step ?_ (State.detach_touch ..) (by decide +kernel)
    exact Touch.refl _ _

theorem State.markFail_touch (s : State) (a1 : ℕ) (a2 : ℕ) :
    Touch 0x4000 s (State.markFail s a1 a2) := by
  unfold State.markFail
  refine Touch.step ?_ (State.modAcc_touch ..) (by decide +kernel)
  exact Touch.refl _ _

theorem State.getPackets_touch (a0 : Acc) (a1 : Pkt) (a2 : Bool) (a3 : ℕ) (a4 : List Byte) (s : State) :
    Touch 0x240000000000000000000000000000000000000000000000000163100 s (State.getPackets a0 a1 a2 a3 a4 s).2 := by
  induction a3 generalizing a0 a1 a2 a4 s
  · unfold State.getPackets
    refine Touch.mkSnd ?_
    exact Touch.refl _ _
  · rename_i n_ ih
    unfold State.getPackets
    refine Touch.iteSnd ?_ ?_
    · refine Touch.mkSnd ?_
      exact Touch.refl _ _
    · extract_lets -merge -useContext +onlyGivenNames v0
      clear_value v0
      extract_lets -merge -useContext +onlyGivenNames v1
      clear_value v1
      refine Touch.stepSelf ?_ (ih ..)
      refine Touch.step ?_ (State.sendPkt_touch ..) (by decide +kernel)
      exact Touch.refl _ _

theorem State.deliver_touch (s : State) (a1 : Acc) (a2 : List Byte) (a3 : Bool) :
    Touch 0x24000000000000000000000000000000000000000000000000017f1a0 s (State.deliver s a1 a2 a3) := by
  unfold State.deliver
  extract_lets -merge -useContext +onlyGivenNames v0
  clear_value v0
  extract_lets -merge -useContext +onlyGivenNames v1
  split
  · extract_lets -merge -useContext +onlyGivenNames v2
    extract_lets -merge -useContext +onlyGivenNames v3
    refine Touch.cut v3.2 ?_ (fun h4 => ?_)
    · unfold v3
      refine Touch.step ?_ (State.getPackets_touch ..) (by decide +kernel)
      exact Touch.refl _ _
    clear_value v3
    refine Touch.ite ?_ ?_
    · refine Touch.step ?_ (State.detach_touch ..) (by decide +kernel)
      exact h4
    · unfold v1
      refine Touch.step ?_ (State.modAcc_touch ..) (by decide +kernel)
      exact h4
  · refine Touch.ite ?_ ?_
    · refine Touch.step ?_ (State.markFail_touch ..) (by decide +kernel)
      unfold v1
      refine Touch.step ?_ (State.modAcc_touch ..) (by decide +kernel)
      exact Touch.refl _ _
    · extract_lets -merge -useContext +onlyGivenNames v5
      refine Touch.cut v5 ?_ (fun h6 => ?_)
      · unfold v5
        unfold v1
        refine Touch.step ?_ (State.modAcc_touch ..) (by decide +kernel)
        exact Touch.refl _ _
      clear_value v5
      refine Touch.step ?_ (State.modXlat_touch ..) (by decide +kernel)
      exact h6
  · refine Touch.ite ?_ ?_
    · refine Touch.step ?_ (State.markFail_touch ..) (by decide +kernel)
      unfold v1
      refine Touch.step ?_ (State.modAcc_touch ..) (by decide +kernel)
      exact Touch.refl _ _
    · refine Touch.ite ?_ ?_
      · extract_lets -merge -useContext +onlyGivenNames v7
        refine Touch.cut v7 ?_ (fun h8 => ?_)
        · unfold v7
          refine Touch.step ?_ (State.modCmd_touch ..) (by decide +kernel)
          exact Touch.refl _ _
        clear_value v7
        refine Touch.step ?_ (State.detach_touch ..) (by decide +kernel)
        exact h8
      · unfold v1
        refine Touch.step ?_ (State.modAcc_touch ..) (by decide +kernel)
        exact Touch.refl _ _
  · refine Touch.ite ?_ ?_
    · refine Touch.step ?_ (State.seqEvent_touch ..) (by decide +kernel)
      refine Touch.step ?_ (State.detach_touch ..) (by decide +kernel)
      exact Touch.refl _ _
    · unfold v1
      refine Touch.step ?_ (State.modAcc_touch ..) (by decide +kernel)
      exact Touch.refl _ _
  · unfold v1
    refine Touch.step ?_ (State.modAcc_touch ..) (by decide +kernel)
    exact Touch.refl _ _

theorem State.written_touch (s : State) (a1 : Acc) (a2 : ℕ) :
    Touch 0x24000000000000000000000000000000000000000000000000037f9a0 s (State.written s a1 a2) := by
  unfold State.written
  extract_lets -merge -useContext +onlyGivenNames v0
  clear_value v0
  extract_lets -merge -useContext +onlyGivenNames v1
  refine Touch.cut v1 ?_ (fun h2 => ?_)
  · unfold v1
    refine Touch.step ?_ (State.modAcc_touch ..) (by decide +kernel)
    exact Touch.refl _ _
  clear_value v1
  refine Touch.ite ?_ ?_
  · exact h2
  · split
    · extract_lets -merge -useContext +onlyGivenNames v3
      refine Touch.cut v3 ?_ (fun h4 => ?_)
      · unfold v3
        refine Touch.step ?_ (State.sendPkt_touch ..) (by decide +kernel)
        exact h2
      clear_value v3
      refine Touch.ite ?_ ?_
      · refine Touch.step ?_ (State.detach_touch ..) (by decide +kernel)
        exact h4
      · refine Touch.step ?_ (State.modAcc_touch ..) (by decide +kernel)
        exact h4
    · refine Touch.ite ?_ ?_
      · refine Touch.step ?_ (State.endCopy_touch ..) (by decide +kernel)
        exact h2
      · refine Touch.step ?_ (State.modXlat_touch ..) (by decide +kernel)
        refine Touch.step ?_ (State.waitAcc_touch ..) (by decide +kernel)
        exact h2
    · refine Touch.step ?_ (State.finish_touch ..) (by decide +kernel)
      refine Touch.step ?_ (State.detach_touch ..) (by decide +kernel)
      exact h2
    · refine Touch.ite ?_ ?_
      · refine Touch.step ?_ (State.seqEvent_touch ..) (by decide +kernel)
        refine Touch.step ?_ (State.detach_touch ..) (by decide +kernel)
        exact h2
      · exact h2
    · exact h2

theorem State.hostBias_touch (s : State) (a1 : Acc) (a2 : ℕ) (a3 : ℕ) (a4 : ℕ) :
    Touch 0x24000000000000000000000000000000000000000000000000037f9a0 s (State.hostBias s a1 a2 a3 a4) := by
  unfold State.hostBias
  split
  · refine Touch.ite ?_ ?_
    · refine Touch.step ?_ (State.deliver_touch ..) (by decide +kernel)
      exact Touch.refl _ _
    · refine Touch.step ?_ (State.written_touch ..) (by decide +kernel)
      exact Touch.refl _ _
  · extract_lets -merge -useContext +onlyGivenNames v0
    clear_value v0
    refine Touch.ite ?_ ?_
    · refine Touch.step ?_ (State.waitAcc_touch ..) (by decide +kernel)
      exact Touch.refl _ _
    · refine Touch.step ?_ (State.waitAcc_touch ..) (by decide +kernel)
      refine Touch.step ?_ (State.d2hSend_touch ..) (by decide +kernel)
      exact Touch.refl _ _

theorem State.hbmStep_touch (s : State) (a1 : Acc) (a2 : ℕ) :
    Touch 0x180000000000000000000000000000000000000000000000000000000000180000000000000000000000000240000000000000000000000000000000000c001fffffe00000bff9a0 s (State.hbmStep s a1 a2) := by
  unfold State.hbmStep
  extract_lets -merge -useContext +onlyGivenNames v0
  clear_value v0
  refine Touch.ite ?_ ?_
  · refine Touch.step ?_ (State.waitAcc_touch ..) (by decide +kernel)
    refine Touch.step ?_ (State.wake_touch ..) (by decide +kernel)
    exact Touch.refl _ _
  · refine Touch.ite ?_ ?_
    · refine Touch.step ?_ (State.hostBias_touch ..) (by decide +kernel)
      exact Touch.refl _ _
    · extract_lets -merge -useContext +onlyGivenNames v1
      clear_value v1
      split
      · refine Touch.ite ?_ ?_
        · split
          · refine Touch.step ?_ (State.biAsk_touch ..) (by decide +kernel)
            exact Touch.refl _ _
          · exact Touch.refl _ _
        · extract_lets -merge -useContext +onlyGivenNames v2
          clear_value v2
          split
          · refine Touch.step ?_ (State.deliver_touch ..) (by decide +kernel)
            exact Touch.refl _ _
          · refine Touch.step ?_ (State.written_touch ..) (by decide +kernel)
            refine Touch.ite ?_ ?_
            · refine Touch.step ?_ (State.rawWrite_touch ..) (by decide +kernel)
              exact Touch.refl _ _
            · refine Touch.step ?_ (State.plainWrite_touch ..) (by decide +kernel)
              exact Touch.refl _ _
          · refine Touch.step ?_ (State.written_touch ..) (by decide +kernel)
            refine Touch.step ?_ (State.plainWrite_touch ..) (by decide +kernel)
            exact Touch.refl _ _

theorem State.farFail_touch (s : State) (a1 : Acc) (a2 : ℕ) (a3 : ℕ) :
    Touch 0x24000000000000000000000000000000000000000000000000037f9a0 s (State.farFail s a1 a2 a3) := by
  unfold State.farFail
  extract_lets -merge -useContext +onlyGivenNames v0
  refine Touch.cut v0 ?_ (fun h1 => ?_)
  · unfold v0
    refine Touch.ite ?_ ?_
    · exact Touch.refl _ _
    · refine Touch.step ?_ (State.dlRecord_touch ..) (by decide +kernel)
      refine Touch.step ?_ (State.modAcc_touch ..) (by decide +kernel)
      exact Touch.refl _ _
  clear_value v0
  extract_lets -merge -useContext +onlyGivenNames v2
  clear_value v2
  split
  · extract_lets -merge -useContext +onlyGivenNames v3
    refine Touch.cut v3.2 ?_ (fun h4 => ?_)
    · unfold v3
      refine Touch.step ?_ (State.draw_touch ..) (by decide +kernel)
      exact h1
    clear_value v3
    refine Touch.step ?_ (State.deliver_touch ..) (by decide +kernel)
    exact h4
  · refine Touch.step ?_ (State.written_touch ..) (by decide +kernel)
    exact h1
  · refine Touch.step ?_ (State.markFail_touch ..) (by decide +kernel)
    exact h1

theorem State.farStep_touch (s : State) (a1 : Acc) (a2 : ℕ) :
    Touch 0x240000000000000000000000000000000000c001fffffe0000037f9a0 s (State.farStep s a1 a2) := by
  unfold State.farStep
  extract_lets -merge -useContext +onlyGivenNames v0
  clear_value v0
  extract_lets -merge -useContext +onlyGivenNames v1
  clear_value v1
  extract_lets -merge -useContext +onlyGivenNames v2
  clear_value v2
  extract_lets -merge -useContext +onlyGivenNames v3
  clear_value v3
  refine Touch.ite ?_ ?_
  · refine Touch.step ?_ (State.waitAcc_touch ..) (by decide +kernel)
    refine Touch.step ?_ (State.wake_touch ..) (by decide +kernel)
    exact Touch.refl _ _
  · split
    · refine Touch.ite ?_ ?_
      · refine Touch.step ?_ (State.farFail_touch ..) (by decide +kernel)
        exact Touch.refl _ _
      · refine Touch.ite ?_ ?_
        · split
          · refine Touch.step ?_ (State.deliver_touch ..) (by decide +kernel)
            exact Touch.refl _ _
          · refine Touch.step ?_ (State.deliver_touch ..) (by decide +kernel)
            exact Touch.refl _ _
          · refine Touch.ite ?_ ?_
            · refine Touch.step ?_ (State.markFail_touch ..) (by decide +kernel)
              exact Touch.refl _ _
            · refine Touch.step ?_ (State.deliver_touch ..) (by decide +kernel)
              exact Touch.refl _ _
        · refine Touch.ite ?_ ?_
          · extract_lets -merge -useContext +onlyGivenNames v4
            clear_value v4
            split
            · rename_i y5 y6 y7 y8 y9 y10 y11
              refine Touch.step ?_ (State.waitAcc_touch ..) (by decide +kernel)
              refine Touch.step ?_ (State.modAcc_touch ..) (by decide +kernel)
              refine TouchO.ofSome y11 ?_
              refine TouchO.bind (fun y12 => ?_)
              refine TouchO.step ?_ (State.dlAccess?_touch ..) (by decide +kernel)
              exact Touch.refl _ _
            · refine Touch.step ?_ (State.waitAcc_touch ..) (by decide +kernel)
              exact Touch.refl _ _
          · refine Touch.step ?_ (State.written_touch ..) (by decide +kernel)
            exact Touch.refl _ _
    · split
      · refine Touch.step ?_ (State.farFail_touch ..) (by decide +kernel)
        exact Touch.refl _ _
      · refine Touch.ite ?_ ?_
        · refine Touch.step ?_ (State.farFail_touch ..) (by decide +kernel)
          exact Touch.refl _ _
        · split
          · rename_i y13 y14 y15 y16 y17 y18 y19 y20
            refine Touch.step ?_ (State.waitAcc_touch ..) (by decide +kernel)
            refine Touch.step ?_ (State.modAcc_touch ..) (by decide +kernel)
            refine TouchO.ofSome y20 ?_
            refine TouchO.step ?_ (State.dlAccess?_touch ..) (by decide +kernel)
            exact Touch.refl _ _
          · refine Touch.step ?_ (State.waitAcc_touch ..) (by decide +kernel)
            exact Touch.refl _ _

theorem State.hostFail_touch (s : State) (a1 : Acc) :
    Touch 0x6000000000000000000000000000000000000001c00000000000000000000000000000000000000000000000000000000000000004100 s (State.hostFail s a1) := by
  unfold State.hostFail
  extract_lets -merge -useContext +onlyGivenNames v0
  refine Touch.cut v0 ?_ (fun h1 => ?_)
  · unfold v0
    refine Touch.step ?_ (State.hostErr_touch ..) (by decide +kernel)
    exact Touch.refl _ _
  clear_value v0
  refine Touch.ite ?_ ?_
  · refine Touch.step ?_ (State.xlatFail_touch ..) (by decide +kernel)
    exact h1
  · refine Touch.step ?_ (State.markFail_touch ..) (by decide +kernel)
    exact h1

theorem State.ioFail_touch (s : State) (a1 : Acc) :
    Touch 0x6000000000000000000000000000000000000001c00000000000000000000000000000000000000000000000000000000000000004100 s (State.ioFail s a1) := by
  unfold State.ioFail
  extract_lets -merge -useContext +onlyGivenNames v0
  clear_value v0
  extract_lets -merge -useContext +onlyGivenNames v1
  refine Touch.cut v1 ?_ (fun h2 => ?_)
  · unfold v1
    refine Touch.step ?_ (State.hostErr_touch ..) (by decide +kernel)
    exact Touch.refl _ _
  clear_value v1
  refine Touch.ite ?_ ?_
  · refine Touch.step ?_ (State.xlatFail_touch ..) (by decide +kernel)
    exact h2
  · refine Touch.step ?_ (State.markFail_touch ..) (by decide +kernel)
    exact h2

theorem State.ioStep_touch (s : State) (a1 : Acc) (a2 : ℕ) (a3 : ℕ) :
    Touch 0x6000000000000000000000000000000000000001c0000000000024000000000000000000000000000000000000000000000000037f9a0 s (State.ioStep s a1 a2 a3) := by
  unfold State.ioStep
  extract_lets -merge -useContext +onlyGivenNames v0
  clear_value v0
  extract_lets -merge -useContext +onlyGivenNames v1
  clear_value v1
  extract_lets -merge -useContext +onlyGivenNames v2
  clear_value v2
  refine Touch.ite ?_ ?_
  · refine Touch.step ?_ (State.hostFail_touch ..) (by decide +kernel)
    exact Touch.refl _ _
  · refine Touch.ite ?_ ?_
    · refine Touch.step ?_ (State.written_touch ..) (by decide +kernel)
      refine Touch.step ?_ (State.ioReq_touch ..) (by decide +kernel)
      exact Touch.refl _ _
    · extract_lets -merge -useContext +onlyGivenNames v3
      clear_value v3
      refine Touch.step ?_ (State.waitAcc_touch ..) (by decide +kernel)
      refine Touch.step ?_ (State.modAcc_touch ..) (by decide +kernel)
      refine Touch.step ?_ (State.ioRead_touch ..) (by decide +kernel)
      exact Touch.refl _ _

theorem State.pageDone_touch (s : State) (a1 : Acc) (a2 : ℕ) (a3 : ℕ) (a4 : Bool) :
    Touch 0x24000000000000000000000000000000000000000000000000037f9a0 s (State.pageDone s a1 a2 a3 a4) := by
  unfold State.pageDone
  refine Touch.ite ?_ ?_
  · split
    · refine Touch.step ?_ (State.waitAcc_touch ..) (by decide +kernel)
      exact Touch.refl _ _
    · extract_lets -merge -useContext +onlyGivenNames v0
      clear_value v0
      refine Touch.ite ?_ ?_
      · refine Touch.step ?_ (State.markFail_touch ..) (by decide +kernel)
        exact Touch.refl _ _
      · refine Touch.ite ?_ ?_
        · refine Touch.step ?_ (State.deliver_touch ..) (by decide +kernel)
          exact Touch.refl _ _
        · extract_lets -merge -useContext +onlyGivenNames v1
          clear_value v1
          refine Touch.step ?_ (State.written_touch ..) (by decide +kernel)
          refine Touch.step ?_ (State.ioReq_touch ..) (by decide +kernel)
          exact Touch.refl _ _
  · extract_lets -merge -useContext +onlyGivenNames v2
    clear_value v2
    refine Touch.ite ?_ ?_
    · refine Touch.step ?_ (State.modAcc_touch ..) (by decide +kernel)
      exact Touch.refl _ _
    · refine Touch.ite ?_ ?_
      · refine Touch.step ?_ (State.written_touch ..) (by decide +kernel)
        exact Touch.refl _ _
      · split
        · refine Touch.step ?_ (State.markFail_touch ..) (by decide +kernel)
          exact Touch.refl _ _
        · refine Touch.step ?_ (State.deliver_touch ..) (by decide +kernel)
          exact Touch.refl _ _

theorem State.hostStep_touch (s : State) (a1 : Acc) :
    Touch 0x6000000000000000000000f100003ffc00200021f00200000000240000000000000000000000000000000000c001fffffe0000037f9a0 s (State.hostStep s a1) := by
  unfold State.hostStep
  split
  · refine Touch.step ?_ (State.pageDone_touch ..) (by decide +kernel)
    exact Touch.refl _ _
  · extract_lets -merge -useContext +onlyGivenNames v0
    refine Touch.cut v0.2 ?_ (fun h1 => ?_)
    · unfold v0
      refine Touch.step ?_ (State.hostPage_touch ..) (by decide +kernel)
      exact Touch.refl _ _
    clear_value v0
    split
    · exact h1
    · refine Touch.step ?_ (State.ioStep_touch ..) (by decide +kernel)
      exact h1
    · refine Touch.ite ?_ ?_
      · refine Touch.step ?_ (State.waitAcc_touch ..) (by decide +kernel)
        refine Touch.step ?_ (State.wake_touch ..) (by decide +kernel)
        exact h1
      · extract_lets -merge -useContext +onlyGivenNames v2
        clear_value v2
        extract_lets -merge -useContext +onlyGivenNames v3
        refine Touch.cut v3 ?_ (fun h4 => ?_)
        · unfold v3
          refine Touch.step ?_ (State.cacheReq_touch ..) (by decide +kernel)
          exact h1
        clear_value v3
        refine Touch.step ?_ (State.modAcc_touch ..) (by decide +kernel)
        exact h4

theorem State.putNext_touch (s : State) (a1 : Acc) (a2 : Pkt) :
    Touch 0x21f0020000000024000000000000000000000000000000000000000000000000017f180 s (State.putNext s a1 a2) := by
  unfold State.putNext
  extract_lets -merge -useContext +onlyGivenNames v0
  clear_value v0
  extract_lets -merge -useContext +onlyGivenNames v1
  clear_value v1
  extract_lets -merge -useContext +onlyGivenNames v2
  clear_value v2
  extract_lets -merge -useContext +onlyGivenNames v3
  clear_value v3
  refine Touch.ite ?_ ?_
  · refine Touch.step ?_ (State.detach_touch ..) (by decide +kernel)
    exact Touch.refl _ _
  · refine Touch.ite ?_ ?_
    · refine Touch.step ?_ (State.dropSend_touch ..) (by decide +kernel)
      refine Touch.step ?_ (State.detach_touch ..) (by decide +kernel)
      refine Touch.step ?_ (State.dlRecord_touch ..) (by decide +kernel)
      exact Touch.refl _ _
    · split
      · refine Touch.step ?_ (State.hostPage_touch ..) (by decide +kernel)
        exact Touch.refl _ _
      · refine Touch.ite ?_ ?_
        · refine Touch.step ?_ (State.waitAcc_touch ..) (by decide +kernel)
          exact Touch.refl _ _
        · refine Touch.step ?_ (State.sendPkt_touch ..) (by decide +kernel)
          refine Touch.step ?_ (State.waitAcc_touch ..) (by decide +kernel)
          refine Touch.step ?_ (State.modAcc_touch ..) (by decide +kernel)
          exact Touch.refl _ _

theorem State.goOn_touch (s : State) (a1 : Acc) :
    Touch 0x180000000000000000000000000000000006000000000000000000000f101803ffc00200021f00200000000240000000000000000000000000000000000c001fffffe00000bff9a0 s (State.goOn s a1) := by
  unfold State.goOn
  split
  · refine Touch.step ?_ (State.failAcc_touch ..) (by decide +kernel)
    exact Touch.refl _ _
  · refine Touch.ite ?_ ?_
    · split
      · refine Touch.step ?_ (State.putNext_touch ..) (by decide +kernel)
        exact Touch.refl _ _
      · refine Touch.step ?_ (State.waitAcc_touch ..) (by decide +kernel)
        exact Touch.refl _ _
    · refine Touch.ite ?_ ?_
      · refine Touch.step ?_ (State.hostStep_touch ..) (by decide +kernel)
        exact Touch.refl _ _
      · extract_lets -merge -useContext +onlyGivenNames v0
        clear_value v0
        refine Touch.ite ?_ ?_
        · refine Touch.step ?_ (State.hbmStep_touch ..) (by decide +kernel)
          exact Touch.refl _ _
        · refine Touch.step ?_ (State.farStep_touch ..) (by decide +kernel)
          exact Touch.refl _ _

theorem State.runAccs_touch (a0 : ℕ) (s : State) :
    Touch 0x180000000000000000000000000000000006000000000000000000000f101803ffc00200021f00200000000240000000000000000000000000000000000c001fffffe00000bff9a0 s (State.runAccs a0 s) := by
  induction a0 generalizing s
  · unfold State.runAccs
    exact Touch.refl _ _
  · rename_i n_ ih
    unfold State.runAccs
    split
    · rename_i y0 y1
      exact Touch.refl _ _
    · rename_i y2 y3 y4
      refine Touch.stepSelf ?_ (ih ..)
      refine Touch.step ?_ (State.goOn_touch ..) (by decide +kernel)
      exact Touch.refl _ _

theorem State.invSettle_touch (s : State) :
    Touch 0x100000000000000000000000000000000000000000000000000000000000004020 s (State.invSettle s) := by
  unfold State.invSettle
  refine Touch.foldl ?_ (fun y0 y1 h2 => ?_)
  · exact Touch.refl _ _
  · refine Touch.ite ?_ ?_
    · exact h2
    · extract_lets -merge -useContext +onlyGivenNames v3
      refine Touch.cut v3 ?_ (fun h4 => ?_)
      · unfold v3
        refine Touch.foldl ?_ (fun y5 y6 h7 => ?_)
        · exact h2
        · refine Touch.step ?_ (State.put_touch ..) (by decide +kernel)
          exact h7
      clear_value v3
      refine Touch.step ?_ (State.finish_touch ..) (by decide +kernel)
      refine Touch.step ?_ (State.modXlat_touch ..) (by decide +kernel)
      exact h4

theorem State.runAll_touch (s : State) :
    Touch 0x180000000000000000000000000000000006000000000000000000000f101803ffc00200021f00300000000240000000000000000000000000000000000c001fffffe00000bff9a0 s (State.runAll s) := by
  unfold State.runAll
  extract_lets -merge -useContext +onlyGivenNames v0
  refine Touch.cut v0 ?_ (fun h1 => ?_)
  · unfold v0
    refine Touch.step ?_ (State.modXlat_touch ..) (by decide +kernel)
    exact Touch.refl _ _
  clear_value v0
  refine Touch.step ?_ (State.invSettle_touch ..) (by decide +kernel)
  refine Touch.step ?_ (State.runAccs_touch ..) (by decide +kernel)
  exact h1

theorem State.accept_touch (s : State) (a1 : Acc) :
    Touch 0x1f00000000000000000000000000000000000000000000000000000000000000104180 s (State.accept s a1) := by
  unfold State.accept
  extract_lets -merge -useContext +onlyGivenNames v0
  clear_value v0
  extract_lets -merge -useContext +onlyGivenNames v1
  split
  · refine Touch.step ?_ (State.xlatFail_touch ..) (by decide +kernel)
    unfold v1
    refine Touch.step ?_ (State.modXlat_touch ..) (by decide +kernel)
    exact Touch.refl _ _
  · refine Touch.step ?_ (State.prefetch_touch ..) (by decide +kernel)
    unfold v1
    refine Touch.step ?_ (State.modXlat_touch ..) (by decide +kernel)
    exact Touch.refl _ _

theorem State.acceptRaw_touch (s : State) (a1 : Acc) :
    Touch 0x4000 s (State.acceptRaw s a1) := by
  unfold State.acceptRaw
  refine Touch.step ?_ (State.modXlat_touch ..) (by decide +kernel)
  exact Touch.refl _ _

end Sys2Proof.Machine
end

