-- ==== Sys2Proof/Laws/TouchFabric.lean ====
section
/-! SUPPORT. What the operations of Machine/Fabric.lean may change. -/
namespace Sys2Proof.Machine

set_option Elab.async false

theorem State.modFab_touch (s : State) (a1 : Fab → Fab) :
    Touch 0x20000 s (State.modFab s a1) := by
  unfold State.modFab
  refine Touch.step ?_ (Touch.fabWith _ _) (by decide +kernel)
  exact Touch.refl _ _

theorem State.modPort_touch (s : State) (a1 : ℕ) (a2 : FabPort → FabPort) :
    Touch 0x20000 s (State.modPort s a1 a2) := by
  unfold State.modPort
  refine Touch.step ?_ (State.modFab_touch ..) (by decide +kernel)
  exact Touch.refl _ _

theorem State.setPortState_touch (s : State) (a1 : ℕ) (a2 : ℕ) :
    Touch 0x49ff8000000000000000000000000000000000000000100000000003000000000000000000000000000000000000000000000000000000000000000000000000000000000000000000000000000100580 s (State.setPortState s a1 a2) := by
  unfold State.setPortState
  refine Touch.ite ?_ ?_
  · exact Touch.refl _ _
  · extract_lets -merge -useContext +onlyGivenNames v0
    refine Touch.cut v0 ?_ (fun h1 => ?_)
    · unfold v0
      refine Touch.step ?_ (State.put_touch ..) (by decide +kernel)
      exact Touch.refl _ _
    clear_value v0
    refine Touch.step ?_ (State.ember'_touch ..) (by decide +kernel)
    exact h1

theorem State.enterPortQuarantine_touch (s : State) (a1 : ℕ) (a2 : ℕ) :
    Touch 0x49ff8000000000000000000000000000000003100000100000000003000000000000000000000000000000000000000000000000000000000000000000000000000000000000000000000000000100580 s (State.enterPortQuarantine s a1 a2) := by
  unfold State.enterPortQuarantine
  extract_lets -merge -useContext +onlyGivenNames v0
  clear_value v0
  extract_lets -merge -useContext +onlyGivenNames v1
  refine Touch.cut v1 ?_ (fun h2 => ?_)
  · unfold v1
    refine Touch.step ?_ (State.setBit_touch ..) (by decide +kernel)
    exact Touch.refl _ _
  clear_value v1
  refine Touch.ite ?_ ?_
  · extract_lets -merge -useContext +onlyGivenNames v3
    clear_value v3
    extract_lets -merge -useContext +onlyGivenNames v4
    refine Touch.cut v4 ?_ (fun h5 => ?_)
    · unfold v4
      refine Touch.step ?_ (State.raise_touch ..) (by decide +kernel)
      refine Touch.step ?_ (State.bump_touch ..) (by decide +kernel)
      refine Touch.step ?_ (State.setPortState_touch ..) (by decide +kernel)
      exact h2
    clear_value v4
    extract_lets -merge -useContext +onlyGivenNames v6
    refine Touch.cut v6 ?_ (fun h7 => ?_)
    · unfold v6
      refine Touch.step ?_ (State.globalEvent_touch ..) (by decide +kernel)
      exact h5
    clear_value v6
    refine Touch.ite ?_ ?_
    · refine Touch.step ?_ (State.emberTrigger_touch ..) (by decide +kernel)
      exact h7
    · exact h7
  · exact h2

theorem State.fabViolation_touch (s : State) (a1 : ℕ) (a2 : ℕ) (a3 : List Byte) :
    Touch 0x49ff8000000000000000000000000000000003f00000100000000003000000000000000000000000000000000000000000000000000000000000000000000000000000000000000000000000000120580 s (State.fabViolation s a1 a2 a3) := by
  unfold State.fabViolation
  extract_lets -merge -useContext +onlyGivenNames v0
  refine Touch.cut v0 ?_ (fun h1 => ?_)
  · unfold v0
    refine Touch.step ?_ (State.ember'_touch ..) (by decide +kernel)
    exact Touch.refl _ _
  clear_value v0
  extract_lets -merge -useContext +onlyGivenNames v2
  refine Touch.cut v2 ?_ (fun h3 => ?_)
  · unfold v2
    refine Touch.step ?_ (State.bump_touch ..) (by decide +kernel)
    refine Touch.step ?_ (State.put_touch ..) (by decide +kernel)
    exact h1
  clear_value v2
  refine Touch.ite ?_ ?_
  · extract_lets -merge -useContext +onlyGivenNames v4
    clear_value v4
    extract_lets -merge -useContext +onlyGivenNames v5
    clear_value v5
    extract_lets -merge -useContext +onlyGivenNames v6
    refine Touch.cut v6 ?_ (fun h7 => ?_)
    · unfold v6
      refine Touch.step ?_ (State.modPort_touch ..) (by decide +kernel)
      exact h3
    clear_value v6
    refine Touch.ite ?_ ?_
    · refine Touch.step ?_ (State.enterPortQuarantine_touch ..) (by decide +kernel)
      exact h7
    · exact h7
  · exact h3

theorem State.fabFault_touch (s : State) (a1 : ℕ) (a2 : Option ℕ) (a3 : ℕ) (a4 : Pkt) (a5 : ℕ) :
    Touch 0x100 s (State.fabFault s a1 a2 a3 a4 a5) := by
  unfold State.fabFault
  refine Touch.step ?_ (State.raise_touch ..) (by decide +kernel)
  exact Touch.refl _ _

theorem State.fabNack_touch (s : State) (a1 : Pkt) (a2 : ℕ) (a3 : ℕ) :
    Touch 0x240000000000000000000000000000000000000000000000000163100 s (State.fabNack s a1 a2 a3) := by
  unfold State.fabNack
  refine Touch.ite ?_ ?_
  · exact Touch.refl _ _
  · refine Touch.step ?_ (State.sendPkt_touch ..) (by decide +kernel)
    exact Touch.refl _ _

theorem State.retainSettle_touch (s : State) :
    Touch 0x100000000000000000000000000000000000000000000000000000000000000000000000000000000000000000000000000000000000000000000000000000000 s (State.retainSettle s) := by
  unfold State.retainSettle
  refine Touch.step ?_ (State.put_touch ..) (by decide +kernel)
  exact Touch.refl _ _

theorem State.exitAccept?_touch (s : State) (a1 : Pkt) :
    TouchOS 0x100000000000000000000000000000000000000000000000000000000000000000000000000000000000000000000000000000000000000000000000000020000 s (State.exitAccept? s a1) := by
  unfold State.exitAccept?
  extract_lets -merge -useContext +onlyGivenNames v0
  refine TouchOS.ite ?_ ?_
  · refine TouchOS.some _ ?_
    refine Touch.step ?_ (State.modFab_touch ..) (by decide +kernel)
    exact Touch.refl _ _
  · extract_lets -merge -useContext +onlyGivenNames v1
    clear_value v1
    refine TouchOS.ite ?_ ?_
    · refine TouchOS.none
    · extract_lets -merge -useContext +onlyGivenNames v2
      clear_value v2
      extract_lets -merge -useContext +onlyGivenNames v3
      clear_value v3
      extract_lets -merge -useContext +onlyGivenNames v4
      refine TouchOS.cut v4 ?_ (fun h5 => ?_)
      · unfold v4
        refine Touch.step ?_ (State.modFab_touch ..) (by decide +kernel)
        exact Touch.refl _ _
      clear_value v4
      refine TouchOS.some _ ?_
      refine Touch.step ?_ (State.retainSettle_touch ..) (by decide +kernel)
      exact h5

theorem State.exitL_touch (a0 : List Pkt) (s : State) :
    Touch 0x100000000000000000000000000000000000000000000000000000000000000000000000240000000000000000000000000000000000000000000000000063100 s (State.exitL a0 s) := by
  induction a0 generalizing s
  · unfold State.exitL
    exact Touch.refl _ _
  · rename_i x_ xs_ ih
    unfold State.exitL
    refine Touch.ite ?_ ?_
    · refine Touch.stepSelf ?_ (ih ..)
      refine Touch.step ?_ (State.modFab_touch ..) (by decide +kernel)
      exact Touch.refl _ _
    · refine Touch.ite ?_ ?_
      · refine Touch.stepSelf ?_ (ih ..)
        refine Touch.step ?_ (State.noRouteAt_touch ..) (by decide +kernel)
        exact Touch.refl _ _
      · split
        · rename_i y0 y1 y2 y3
          refine Touch.stepSelf ?_ (ih ..)
          refine TouchOS.ofSome y3 ?_
          refine TouchOS.step ?_ (State.exitAccept?_touch ..) (by decide +kernel)
          exact Touch.refl _ _
        · rename_i y4 y5
          refine Touch.stepSelf ?_ (ih ..)
          refine Touch.step ?_ (State.modFab_touch ..) (by decide +kernel)
          exact Touch.refl _ _

theorem State.pumpExit_touch (s : State) :
    Touch 0x100000000000000000000000000000000000000000000000000000000000000000000000240000000000000000000000000000000000000000000000000063100 s (State.pumpExit s) := by
  unfold State.pumpExit
  refine Touch.step ?_ (State.exitL_touch ..) (by decide +kernel)
  refine Touch.step ?_ (State.modFab_touch ..) (by decide +kernel)
  exact Touch.refl _ _

theorem State.oweCredits_touch (s : State) (a1 : ℕ) (a2 : ℕ) (a3 : ℕ) :
    Touch 0x20000 s (State.oweCredits s a1 a2 a3) := by
  unfold State.oweCredits
  refine Touch.step ?_ (State.modPort_touch ..) (by decide +kernel)
  exact Touch.refl _ _

theorem State.leave_touch (s : State) (a1 : ℕ) (a2 : HeldPkt) :
    Touch 0x20000 s (State.leave s a1 a2) := by
  unfold State.leave
  extract_lets -merge -useContext +onlyGivenNames v0
  refine Touch.cut v0 ?_ (fun h1 => ?_)
  · unfold v0
    split
    · refine Touch.step ?_ (State.oweCredits_touch ..) (by decide +kernel)
      exact Touch.refl _ _
    · exact Touch.refl _ _
  clear_value v0
  refine Touch.step ?_ (State.modFab_touch ..) (by decide +kernel)
  exact h1

theorem State.twinStamp_touch (s : State) (a1 : ℕ) (a2 : List Pkt) :
    Touch 0x80000 s (State.twinStamp s a1 a2).2 := by
  induction a2 generalizing s a1
  · unfold State.twinStamp
    refine Touch.mkSnd ?_
    exact Touch.refl _ _
  · rename_i x_ xs_ ih
    unfold State.twinStamp
    extract_lets -merge -useContext +onlyGivenNames v0
    clear_value v0
    extract_lets -merge -useContext +onlyGivenNames v1
    clear_value v1
    extract_lets -merge -useContext +onlyGivenNames v2
    refine Touch.cut v2.2 ?_ (fun h3 => ?_)
    · unfold v2
      refine Touch.stepSelf ?_ (ih ..)
      refine Touch.step ?_ (State.modTwin_touch ..) (by decide +kernel)
      exact Touch.refl _ _
    clear_value v2
    refine Touch.mkSnd ?_
    exact h3

theorem State.sample_touch (s : State) (a1 : ℕ) (a2 : Pkt) :
    Touch 0x180000000000000020000000000000000000000000000000000000000000000000000000000000000000000000000000000000000000000000000000000000000000000000aa0900 s (State.sample s a1 a2) := by
  unfold State.sample
  split
  · exact Touch.refl _ _
  · refine Touch.ite ?_ ?_
    · exact Touch.refl _ _
    · extract_lets -merge -useContext +onlyGivenNames v0
      clear_value v0
      extract_lets -merge -useContext +onlyGivenNames v1
      refine Touch.cut v1 ?_ (fun h2 => ?_)
      · unfold v1
        refine Touch.step ?_ (State.modFab_touch ..) (by decide +kernel)
        exact Touch.refl _ _
      clear_value v1
      refine Touch.ite ?_ ?_
      · exact h2
      · extract_lets -merge -useContext +onlyGivenNames v3
        clear_value v3
        extract_lets -merge -useContext +onlyGivenNames v4
        clear_value v4
        refine Touch.step ?_ (State.plainWrite_touch ..) (by decide +kernel)
        refine Touch.step ?_ (State.put_touch ..) (by decide +kernel)
        exact h2

theorem State.collDegraded_touch (s : State) (a1 : ℕ) (a2 : ℕ) (a3 : ℕ) :
    Touch 0x40000 s (State.collDegraded s a1 a2 a3) := by
  unfold State.collDegraded
  refine Touch.step ?_ (State.modSeq_touch ..) (by decide +kernel)
  exact Touch.refl _ _

theorem State.startGroup_touch (s : State) (a1 : ℕ) (a2 : Bool) (a3 : List HeldPkt) :
    Touch 0x18000000000c000020000000000000000000000000000000000000000000000000000000000000000000000000000000000000000000000000000000000000000000000000ae0900 s (State.startGroup s a1 a2 a3) := by
  unfold State.startGroup
  split
  · extract_lets -merge -useContext +onlyGivenNames v0
    clear_value v0
    split
    · rename_i y1 y2 y3 y4 y5 y6 y7 y8 y9 y10 y11
      extract_lets -merge -useContext +onlyGivenNames v12
      clear_value v12
      extract_lets -merge -useContext +onlyGivenNames v13
      clear_value v13
      extract_lets -merge -useContext +onlyGivenNames v14
      clear_value v14
      extract_lets -merge -useContext +onlyGivenNames v15
      refine Touch.cut v15 ?_ (fun h16 => ?_)
      · unfold v15
        refine Touch.step ?_ (State.modPort_touch ..) (by decide +kernel)
        refine Touch.ofSnd y11 ?_
        refine Touch.iteSnd ?_ ?_
        · refine Touch.step ?_ (State.twinStamp_touch ..) (by decide +kernel)
          exact Touch.refl _ _
        · refine Touch.mkSnd ?_
          exact Touch.refl _ _
      clear_value v15
      extract_lets -merge -useContext +onlyGivenNames v17
      refine Touch.cut v17 ?_ (fun h18 => ?_)
      · unfold v17
        refine Touch.foldl ?_ (fun y19 y20 h21 => ?_)
        · exact h16
        · refine Touch.step ?_ (State.leave_touch ..) (by decide +kernel)
          exact h21
      clear_value v17
      extract_lets -merge -useContext +onlyGivenNames v22
      refine Touch.cut v22 ?_ (fun h23 => ?_)
      · unfold v22
        refine Touch.foldl ?_ (fun y24 y25 h26 => ?_)
        · exact h18
        · refine Touch.ite ?_ ?_
          · refine Touch.step ?_ (State.collDegraded_touch ..) (by decide +kernel)
            exact h26
          · exact h26
      clear_value v22
      refine Touch.foldl ?_ (fun y27 y28 h29 => ?_)
      · exact h23
      · refine Touch.step ?_ (State.sample_touch ..) (by decide +kernel)
        refine Touch.ite ?_ ?_
        · exact h29
        · refine Touch.step ?_ (State.bump_touch ..) (by decide +kernel)
          exact h29
  · exact Touch.refl _ _

theorem State.fillStream_touch (a0 : ℕ) (a1 : Bool) (a2 : ℕ) (s : State) :
    Touch 0x18000000000c000020000000000000000000000000000000000000000000000000000000000000000000000000000000000000000000000000000000000000000000000000ae0900 s (State.fillStream a0 a1 a2 s) := by
  induction a2 generalizing a0 a1 s
  · unfold State.fillStream
    exact Touch.refl _ _
  · rename_i n_ ih
    unfold State.fillStream
    extract_lets -merge -useContext +onlyGivenNames v0
    clear_value v0
    extract_lets -merge -useContext +onlyGivenNames v1
    clear_value v1
    refine Touch.ite ?_ ?_
    · exact Touch.refl _ _
    · extract_lets -merge -useContext +onlyGivenNames v2
      clear_value v2
      split
      · rename_i y3 y4
        exact Touch.refl _ _
      · rename_i y5 y6 y7
        refine Touch.ite ?_ ?_
        · exact Touch.refl _ _
        · refine Touch.stepSelf ?_ (ih ..)
          refine Touch.step ?_ (State.startGroup_touch ..) (by decide +kernel)
          exact Touch.refl _ _

theorem State.putWin_touch (s : State) (a1 : RxWin) :
    Touch 0x20000 s (State.putWin s a1) := by
  unfold State.putWin
  refine Touch.step ?_ (State.modFab_touch ..) (by decide +kernel)
  exact Touch.refl _ _

theorem State.e2eAckSend_touch (s : State) (a1 : RxWin) (a2 : Pkt) :
    Touch 0x20000 s (State.e2eAckSend s a1 a2) := by
  unfold State.e2eAckSend
  extract_lets -merge -useContext +onlyGivenNames v0
  clear_value v0
  extract_lets -merge -useContext +onlyGivenNames v1
  clear_value v1
  extract_lets -merge -useContext +onlyGivenNames v2
  clear_value v2
  extract_lets -merge -useContext +onlyGivenNames v3
  refine Touch.cut v3 ?_ (fun h4 => ?_)
  · unfold v3
    refine Touch.step ?_ (State.modFab_touch ..) (by decide +kernel)
    exact Touch.refl _ _
  clear_value v3
  refine Touch.step ?_ (State.modFab_touch ..) (by decide +kernel)
  exact h4

theorem State.crcDrop_touch (s : State) (a1 : ℕ) (a2 : Bool) (a3 : Pkt) :
    Touch 0x240000000000000000000000000000000000000000000000000163100 s (State.crcDrop s a1 a2 a3) := by
  unfold State.crcDrop
  extract_lets -merge -useContext +onlyGivenNames v0
  refine Touch.cut v0 ?_ (fun h1 => ?_)
  · unfold v0
    refine Touch.step ?_ (State.fabFault_touch ..) (by decide +kernel)
    exact Touch.refl _ _
  clear_value v0
  refine Touch.ite ?_ ?_
  · refine Touch.step ?_ (State.fabNack_touch ..) (by decide +kernel)
    exact h1
  · exact h1

theorem State.deliverPkt_touch (s : State) (a1 : Bool) (a2 : Pkt) :
    Touch 0x12000000000000000000000000000000000000000000000000000000000000000000000000000000240000000000000000000000000000000000000000000000000163100 s (State.deliverPkt s a1 a2) := by
  unfold State.deliverPkt
  refine Touch.ite ?_ ?_
  · refine Touch.step ?_ (State.emit_touch ..) (by decide +kernel)
    exact Touch.refl _ _
  · extract_lets -merge -useContext +onlyGivenNames v0
    clear_value v0
    split
    · extract_lets -merge -useContext +onlyGivenNames v1
      refine Touch.cut v1 ?_ (fun h2 => ?_)
      · unfold v1
        refine Touch.step ?_ (State.bump_touch ..) (by decide +kernel)
        exact Touch.refl _ _
      clear_value v1
      refine Touch.ite ?_ ?_
      · refine Touch.step ?_ (State.e2eAckSend_touch ..) (by decide +kernel)
        exact h2
      · refine Touch.ite ?_ ?_
        · refine Touch.step ?_ (State.emit_touch ..) (by decide +kernel)
          exact h2
        · exact h2
    · extract_lets -merge -useContext +onlyGivenNames v3
      clear_value v3
      extract_lets -merge -useContext +onlyGivenNames v4
      clear_value v4
      extract_lets -merge -useContext +onlyGivenNames v5
      refine Touch.cut v5 ?_ (fun h6 => ?_)
      · unfold v5
        refine Touch.step ?_ (State.putWin_touch ..) (by decide +kernel)
        exact Touch.refl _ _
      clear_value v5
      extract_lets -merge -useContext +onlyGivenNames v7
      refine Touch.cut v7 ?_ (fun h8 => ?_)
      · unfold v7
        refine Touch.ite ?_ ?_
        · refine Touch.step ?_ (State.e2eAckSend_touch ..) (by decide +kernel)
          exact h6
        · exact h6
      clear_value v7
      refine Touch.ite ?_ ?_
      · refine Touch.step ?_ (State.emit_touch ..) (by decide +kernel)
        exact h8
      · refine Touch.step ?_ (State.raise_touch ..) (by decide +kernel)
        refine Touch.step ?_ (State.fabNack_touch ..) (by decide +kernel)
        exact h8

theorem State.rxPacket_touch (s : State) (a1 : ℕ) (a2 : Bool) (a3 : Option ℕ) (a4 : ℕ) (a5 : List Byte) (a6 : List Byte) :
    Touch 0x49ff8000000000000000000012000001400003f01800100000000003000000000000000000000000000000000000000000000000240000000000000000000000000000000000000000000000000163580 s (State.rxPacket s a1 a2 a3 a4 a5 a6) := by
  unfold State.rxPacket
  extract_lets -merge -useContext +onlyGivenNames v0
  clear_value v0
  extract_lets -merge -useContext +onlyGivenNames v1
  refine Touch.ite ?_ ?_
  · unfold v1
    refine Touch.step ?_ (State.oweCredits_touch ..) (by decide +kernel)
    refine Touch.step ?_ (State.crcDrop_touch ..) (by decide +kernel)
    exact Touch.refl _ _
  · refine Touch.ite ?_ ?_
    · unfold v1
      refine Touch.step ?_ (State.oweCredits_touch ..) (by decide +kernel)
      refine Touch.step ?_ (State.fabFault_touch ..) (by decide +kernel)
      refine Touch.step ?_ (State.fabViolation_touch ..) (by decide +kernel)
      exact Touch.refl _ _
    · extract_lets -merge -useContext +onlyGivenNames v2
      refine Touch.cut v2 ?_ (fun h3 => ?_)
      · unfold v2
        split
        · exact Touch.refl _ _
        · extract_lets -merge -useContext +onlyGivenNames v4
          clear_value v4
          extract_lets -merge -useContext +onlyGivenNames v5
          clear_value v5
          refine Touch.ite ?_ ?_
          · exact Touch.refl _ _
          · refine Touch.step ?_ (State.fabViolation_touch ..) (by decide +kernel)
            refine Touch.step ?_ (State.bump_touch ..) (by decide +kernel)
            exact Touch.refl _ _
      clear_value v2
      refine Touch.ite ?_ ?_
      · unfold v1
        refine Touch.step ?_ (State.oweCredits_touch ..) (by decide +kernel)
        refine Touch.step ?_ (State.bump_touch ..) (by decide +kernel)
        refine Touch.step ?_ (State.fabFault_touch ..) (by decide +kernel)
        refine Touch.step ?_ (State.fabNack_touch ..) (by decide +kernel)
        exact h3
      · refine Touch.ite ?_ ?_
        · unfold v1
          refine Touch.step ?_ (State.oweCredits_touch ..) (by decide +kernel)
          refine Touch.step ?_ (State.emit_touch ..) (by decide +kernel)
          exact h3
        · refine Touch.ite ?_ ?_
          · refine Touch.ite ?_ ?_
            · unfold v1
              refine Touch.step ?_ (State.oweCredits_touch ..) (by decide +kernel)
              refine Touch.step ?_ (State.fabFault_touch ..) (by decide +kernel)
              refine Touch.step ?_ (State.fabNack_touch ..) (by decide +kernel)
              exact h3
            · refine Touch.step ?_ (State.modFab_touch ..) (by decide +kernel)
              exact h3
          · unfold v1
            refine Touch.step ?_ (State.oweCredits_touch ..) (by decide +kernel)
            refine Touch.step ?_ (State.deliverPkt_touch ..) (by decide +kernel)
            exact h3

theorem State.rxGroup_touch (s : State) (a1 : ℕ) (a2 : Bool) (a3 : Option ℕ) (a4 : List Byte) (a5 : List (List Byte × List Byte)) (a6 : List Byte) :
    Touch 0x49ff8000000000000000000012000001400003f01800100000000003000000000000060000000000000000000000000000000000240000000000000000000000000000000000000000000000000163580 s (State.rxGroup s a1 a2 a3 a4 a5 a6) := by
  unfold State.rxGroup
  extract_lets -merge -useContext +onlyGivenNames v0
  clear_value v0
  extract_lets -merge -useContext +onlyGivenNames v1
  clear_value v1
  extract_lets -merge -useContext +onlyGivenNames v2
  clear_value v2
  extract_lets -merge -useContext +onlyGivenNames v3
  refine Touch.cut v3 ?_ (fun h4 => ?_)
  · unfold v3
    refine Touch.step ?_ (State.modPort_touch ..) (by decide +kernel)
    exact Touch.refl _ _
  clear_value v3
  extract_lets -merge -useContext +onlyGivenNames v5
  clear_value v5
  extract_lets -merge -useContext +onlyGivenNames v6
  clear_value v6
  extract_lets -merge -useContext +onlyGivenNames v7
  clear_value v7
  extract_lets -merge -useContext +onlyGivenNames v8
  clear_value v8
  extract_lets -merge -useContext +onlyGivenNames v9
  clear_value v9
  extract_lets -merge -useContext +onlyGivenNames v10
  clear_value v10
  extract_lets -merge -useContext +onlyGivenNames v11
  clear_value v11
  split
  · extract_lets -merge -useContext +onlyGivenNames v12
    refine Touch.cut v12 ?_ (fun h13 => ?_)
    · unfold v12
      refine Touch.step ?_ (State.fabViolation_touch ..) (by decide +kernel)
      refine Touch.step ?_ (State.bump_touch ..) (by decide +kernel)
      exact h4
    clear_value v12
    refine Touch.foldl ?_ (fun y14 y15 h16 => ?_)
    · exact h13
    · extract_lets -merge -useContext +onlyGivenNames v17
      clear_value v17
      refine Touch.step ?_ (State.oweCredits_touch ..) (by decide +kernel)
      refine Touch.step ?_ (State.crcDrop_touch ..) (by decide +kernel)
      exact h16
  · refine Touch.foldl ?_ (fun y18 y19 h20 => ?_)
    · exact h4
    · refine Touch.step ?_ (State.rxPacket_touch ..) (by decide +kernel)
      exact h20

theorem State.cutStream_touch (s : State) (a1 : ℕ) (a2 : Bool) :
    Touch 0x20000 s (State.cutStream s a1 a2) := by
  unfold State.cutStream
  refine Touch.step ?_ (State.modPort_touch ..) (by decide +kernel)
  exact Touch.refl _ _

theorem State.parseStream_touch (port : Nat) (e2e : Bool) (slot : Option Nat) (f : Nat) (s : State) :
    Touch 0x49ff8000000000000000000012000001400003f01800100000000003000000000000060000000000000000000000000000000000240000000000000000000000000000000000000000000000000163580 s (State.parseStream port e2e slot f s) := by
  induction f generalizing s with
  | zero => exact Touch.refl _ _
  | succ f ih =>
    unfold State.parseStream
    extract_lets r bs put
    have hput : ∀ u b, Touch 0x49ff8000000000000000000012000001400003f01800100000000003000000000000060000000000000000000000000000000000240000000000000000000000000000000000000000000000000163580 u (put u b) := fun u b =>
      (State.modPort_touch u _ _).weaken (by decide +kernel)
    clear_value put bs
    split
    · exact Touch.refl _ _
    · extract_lets count
      refine Touch.ite (hput _ _) (Touch.ite ?_ (Touch.ite (Touch.refl _ _) ?_))
      · refine Touch.step ?_ (State.cutStream_touch ..) (by decide +kernel)
        exact (State.fabViolation_touch ..).weaken (by decide +kernel)
      · split
        · exact Touch.refl _ _
        · refine Touch.ite (Touch.refl _ _) (Touch.step ?_ (ih _) (by decide +kernel))
          exact (hput _ _).step (State.rxGroup_touch ..) (by decide +kernel)

theorem State.routeLost_touch (s : State) (a1 : HeldPkt) :
    Touch 0x240000000000000000000000000000000000000000000000000163100 s (State.routeLost s a1) := by
  unfold State.routeLost
  split
  · refine Touch.step ?_ (State.noRouteAt_touch ..) (by decide +kernel)
    exact Touch.refl _ _
  · refine Touch.step ?_ (State.oweCredits_touch ..) (by decide +kernel)
    refine Touch.step ?_ (State.fabFault_touch ..) (by decide +kernel)
    refine Touch.step ?_ (State.fabNack_touch ..) (by decide +kernel)
    exact Touch.refl _ _

theorem State.dropUnroutable_touch (s : State) :
    Touch 0x240000000000000000000000000000000000000000000000000163100 s (State.dropUnroutable s) := by
  unfold State.dropUnroutable
  extract_lets -merge -useContext +onlyGivenNames v0
  clear_value v0
  extract_lets -merge -useContext +onlyGivenNames v1
  refine Touch.cut v1 ?_ (fun h2 => ?_)
  · unfold v1
    refine Touch.step ?_ (State.modFab_touch ..) (by decide +kernel)
    exact Touch.refl _ _
  clear_value v1
  refine Touch.foldl ?_ (fun y3 y4 h5 => ?_)
  · exact h2
  · refine Touch.ite ?_ ?_
    · exact h5
    · refine Touch.step ?_ (State.routeLost_touch ..) (by decide +kernel)
      exact h5

theorem State.failover_touch (s : State) (a1 : ℕ) :
    Touch 0x40000000000000000000000000000000000000000000000000000000000000000000000000000000240000000000000000000000000000000000000000000000000163100 s (State.failover s a1) := by
  unfold State.failover
  extract_lets -merge -useContext +onlyGivenNames v0
  clear_value v0
  extract_lets -merge -useContext +onlyGivenNames v1
  refine Touch.cut v1 ?_ (fun h2 => ?_)
  · unfold v1
    refine Touch.foldl ?_ (fun y3 y4 h5 => ?_)
    · exact Touch.refl _ _
    · refine Touch.foldl ?_ (fun y6 y7 h8 => ?_)
      · exact h5
      · split
        · exact h8
        · refine Touch.foldl ?_ (fun y9 y10 h11 => ?_)
          · exact h8
          · extract_lets -merge -useContext +onlyGivenNames v12
            clear_value v12
            refine Touch.ite ?_ ?_
            · extract_lets -merge -useContext +onlyGivenNames v13
              refine Touch.cut v13 ?_ (fun h14 => ?_)
              · unfold v13
                refine Touch.step ?_ (State.modFab_touch ..) (by decide +kernel)
                exact h11
              clear_value v13
              refine Touch.ite ?_ ?_
              · exact h14
              · refine Touch.step ?_ (State.raise_touch ..) (by decide +kernel)
                refine Touch.step ?_ (State.setBit_touch ..) (by decide +kernel)
                exact h14
            · exact h11
  clear_value v1
  refine Touch.step ?_ (State.dropUnroutable_touch ..) (by decide +kernel)
  exact h2

theorem State.failback_touch (s : State) (a1 : ℕ) :
    Touch 0x40000000000000000000000000000000000000000000000000000000000000000000000000000000000000000000000000000000000000000000000000000000000020000 s (State.failback s a1) := by
  unfold State.failback
  extract_lets -merge -useContext +onlyGivenNames v0
  clear_value v0
  extract_lets -merge -useContext +onlyGivenNames v1
  refine Touch.cut v1 ?_ (fun h2 => ?_)
  · unfold v1
    refine Touch.step ?_ (State.modFab_touch ..) (by decide +kernel)
    exact Touch.refl _ _
  clear_value v1
  refine Touch.step ?_ (State.put_touch ..) (by decide +kernel)
  exact h2

theorem State.clearPort_touch (s : State) (a1 : ℕ) :
    Touch 0x20000 s (State.clearPort s a1) := by
  unfold State.clearPort
  extract_lets -merge -useContext +onlyGivenNames v0
  refine Touch.cut v0 ?_ (fun h1 => ?_)
  · unfold v0
    refine Touch.step ?_ (State.modFab_touch ..) (by decide +kernel)
    exact Touch.refl _ _
  clear_value v0
  refine Touch.step ?_ (State.modPort_touch ..) (by decide +kernel)
  exact h1

theorem State.fabPortReset_touch (s : State) (a1 : ℕ) (a2 : ℕ) :
    Touch 0x49ff8000000000000000000000000000000000000000100000000003000000000000000000000000000000000000000000000000000000000000000000000000000000000000000000000000000120588 s (State.fabPortReset s a1 a2) := by
  unfold State.fabPortReset
  extract_lets -merge -useContext +onlyGivenNames v0
  refine Touch.cut v0 ?_ (fun h1 => ?_)
  · unfold v0
    refine Touch.step ?_ (State.clearPort_touch ..) (by decide +kernel)
    exact Touch.refl _ _
  clear_value v0
  extract_lets -merge -useContext +onlyGivenNames v2
  refine Touch.cut v2 ?_ (fun h3 => ?_)
  · unfold v2
    refine Touch.step ?_ (State.setPortState_touch ..) (by decide +kernel)
    exact h1
  clear_value v2
  refine Touch.step ?_ (State.modPilot_touch ..) (by decide +kernel)
  refine Touch.step ?_ (State.modPort_touch ..) (by decide +kernel)
  exact h3

theorem State.trainStart_touch (s : State) (a1 : ℕ) :
    Touch 0x49ff8000000000000000000000000000000000000000100000000003000000000000000000000000000000000000000000000000000000000000000000000000000000000000000000000000000100580 s (State.trainStart s a1) := by
  unfold State.trainStart
  refine Touch.ite ?_ ?_
  · exact Touch.refl _ _
  · refine Touch.ite ?_ ?_
    · refine Touch.step ?_ (State.setPortState_touch ..) (by decide +kernel)
      exact Touch.refl _ _
    · refine Touch.ite ?_ ?_
      · refine Touch.step ?_ (State.setPortState_touch ..) (by decide +kernel)
        exact Touch.refl _ _
      · exact Touch.refl _ _

end Sys2Proof.Machine
end

