-- ==== Sys2Proof/Laws/TouchCollective.lean ====
section
/-! SUPPORT. What the operations of Machine/Collective.lean may change. -/
namespace Sys2Proof.Machine

set_option Elab.async false

theorem State.modColl_touch (s : State) (a1 : ℕ) (a2 : ℕ) (a3 : Coll → Coll) :
    Touch 0x40000 s (State.modColl s a1 a2 a3) := by
  unfold State.modColl
  refine Touch.step ?_ (State.modSeq_touch ..) (by decide +kernel)
  exact Touch.refl _ _

theorem State.seqRegs_touch (s : State) (a1 : ℕ) :
    Touch 0x3f90000000000000000000000000000000000000000000000000000000000000000000000000000000000000000000000000000000000000000000000000000000000 s (State.seqRegs s a1) := by
  unfold State.seqRegs
  extract_lets -merge -useContext +onlyGivenNames v0
  clear_value v0
  extract_lets -merge -useContext +onlyGivenNames v1
  refine Touch.cut v1 ?_ (fun h2 => ?_)
  · unfold v1
    refine Touch.step ?_ (State.put_touch ..) (by decide +kernel)
    exact Touch.refl _ _
  clear_value v1
  refine Touch.foldl ?_ (fun y3 y4 h5 => ?_)
  · exact h2
  · extract_lets -merge -useContext +onlyGivenNames v6
    clear_value v6
    extract_lets -merge -useContext +onlyGivenNames v7
    clear_value v7
    refine Touch.step ?_ (State.put_touch ..) (by decide +kernel)
    refine Touch.step ?_ (State.put_touch ..) (by decide +kernel)
    refine Touch.step ?_ (State.put_touch ..) (by decide +kernel)
    refine Touch.step ?_ (State.put_touch ..) (by decide +kernel)
    refine Touch.step ?_ (State.put_touch ..) (by decide +kernel)
    refine Touch.step ?_ (State.put_touch ..) (by decide +kernel)
    refine Touch.step ?_ (State.put_touch ..) (by decide +kernel)
    exact h5

theorem State.collDetach_touch (s : State) (a1 : ℕ) (a2 : ℕ) :
    Touch 0x1c080 s (State.collDetach s a1 a2) := by
  unfold State.collDetach
  refine Touch.foldl ?_ (fun y0 y1 h2 => ?_)
  · exact Touch.refl _ _
  · refine Touch.step ?_ (State.detach_touch ..) (by decide +kernel)
    exact h2

theorem State.collStop_touch (s : State) (a1 : ℕ) (a2 : ℕ) (a3 : ℕ) (a4 : ℕ) (a5 : ℕ) (a6 : Coll → List ℕ) :
    Touch 0x24000000000000000000000000000000000000000000000000017f180 s (State.collStop s a1 a2 a3 a4 a5 a6) := by
  unfold State.collStop
  split
  · exact Touch.refl _ _
  · extract_lets -merge -useContext +onlyGivenNames v0
    clear_value v0
    extract_lets -merge -useContext +onlyGivenNames v1
    refine Touch.cut v1 ?_ (fun h2 => ?_)
    · unfold v1
      refine Touch.step ?_ (State.modColl_touch ..) (by decide +kernel)
      refine Touch.step ?_ (State.collDetach_touch ..) (by decide +kernel)
      exact Touch.refl _ _
    clear_value v1
    extract_lets -merge -useContext +onlyGivenNames v3
    refine Touch.cut v3 ?_ (fun h4 => ?_)
    · unfold v3
      refine Touch.step ?_ (State.modSeq_touch ..) (by decide +kernel)
      exact h2
    clear_value v3
    refine Touch.foldl ?_ (fun y5 y6 h7 => ?_)
    · exact h4
    · refine Touch.step ?_ (State.sendPkt_touch ..) (by decide +kernel)
      exact h7

theorem State.collAbort_touch (s : State) (a1 : ℕ) (a2 : ℕ) (a3 : ℕ) :
    Touch 0x24000000000000000000000000000000000000000000000000017f180 s (State.collAbort s a1 a2 a3) := by
  unfold State.collAbort
  split
  · exact Touch.refl _ _
  · refine Touch.ite ?_ ?_
    · exact Touch.refl _ _
    · refine Touch.step ?_ (State.collStop_touch ..) (by decide +kernel)
      exact Touch.refl _ _

theorem State.seqAccess?_touch (s : State) (a1 : ℕ) (a2 : ℕ) (a3 : Coll) (a4 : ℕ) (a5 : ℕ) (a6 : ℕ) (a7 : ℕ) (a8 : List Byte) (a9 : List ℕ) :
    TouchO 0x1f00000000000000000000000000000000000000000000000000000000000000104180 s (State.seqAccess? s a1 a2 a3 a4 a5 a6 a7 a8 a9) := by
  unfold State.seqAccess?
  extract_lets -merge -useContext +onlyGivenNames v0
  clear_value v0
  refine TouchO.ite ?_ ?_
  · refine TouchO.some ?_
    refine Touch.step ?_ (State.accept_touch ..) (by decide +kernel)
    exact Touch.refl _ _
  · refine TouchO.none

theorem State.modTx_touch (s : State) (a1 : ℕ) (a2 : ℕ) (a3 : ℕ) (a4 : ℕ) (a5 : TxChunk → TxChunk) :
    Touch 0x40000 s (State.modTx s a1 a2 a3 a4 a5) := by
  unfold State.modTx
  refine Touch.step ?_ (State.modColl_touch ..) (by decide +kernel)
  exact Touch.refl _ _

theorem State.acceptAll?_touch (a0 : List Pkt) (s : State) (a2 : List Pkt) :
    TouchOS 0x100000000000000000000000000000000000000000000000000000000000000000000000000000000000000000000000000000000000000000000000000020000 s (State.acceptAll? a0 s a2) := by
  induction a0 generalizing s a2
  · unfold State.acceptAll?
    refine TouchOS.some _ ?_
    exact Touch.refl _ _
  · rename_i x_ xs_ ih
    unfold State.acceptAll?
    split
    · rename_i y0 y1 y2 y3
      refine TouchOS.stepSelf ?_ (ih ..)
      refine TouchOS.ofSome y3 ?_
      refine TouchOS.step ?_ (State.exitAccept?_touch ..) (by decide +kernel)
      exact Touch.refl _ _
    · rename_i y4 y5
      refine TouchOS.none

theorem State.collStep?_touch (s : State) (a1 : ℕ) (a2 : ℕ) (a3 : Coll) :
    TouchO 0x100000000000000000000000000000000000000000000000000000000001f0000000000024000000000000000000000000000000000000000000000000017f180 s (State.collStep? s a1 a2 a3) := by
  unfold State.collStep?
  refine TouchO.ite ?_ ?_
  · refine TouchO.none
  · split
    · refine TouchO.ite ?_ ?_
      · refine TouchO.none
      · extract_lets -merge -useContext +onlyGivenNames v0
        clear_value v0
        extract_lets -merge -useContext +onlyGivenNames v1
        clear_value v1
        extract_lets -merge -useContext +onlyGivenNames v2
        clear_value v2
        extract_lets -merge -useContext +onlyGivenNames v3
        refine TouchO.cut v3 ?_ (fun h4 => ?_)
        · unfold v3
          refine Touch.step ?_ (State.modColl_touch ..) (by decide +kernel)
          exact Touch.refl _ _
        clear_value v3
        refine TouchO.some ?_
        refine Touch.step ?_ (State.sendPkt_touch ..) (by decide +kernel)
        exact h4
    · split
      · refine TouchO.some ?_
        refine Touch.step ?_ (State.modColl_touch ..) (by decide +kernel)
        exact Touch.refl _ _
      · split
        · refine TouchO.map ?_ (fun y5 y6 => ?_)
          · refine TouchO.step ?_ (State.seqAccess?_touch ..) (by decide +kernel)
            exact Touch.refl _ _
          · refine Touch.step ?_ (State.modTx_touch ..) (by decide +kernel)
            exact y6
        · split
          · refine TouchO.map ?_ (fun y7 y8 => ?_)
            · refine TouchO.step ?_ (State.seqAccess?_touch ..) (by decide +kernel)
              exact Touch.refl _ _
            · refine Touch.step ?_ (State.modTx_touch ..) (by decide +kernel)
              exact y8
          · split
            · refine TouchO.ite ?_ ?_
              · refine TouchO.some ?_
                refine Touch.step ?_ (State.collAbort_touch ..) (by decide +kernel)
                exact Touch.refl _ _
              · refine TouchO.mapSnd ?_ (fun y9 y10 h11 => ?_)
                · refine TouchOS.step ?_ (State.acceptAll?_touch ..) (by decide +kernel)
                  exact Touch.refl _ _
                · refine Touch.step ?_ (State.modTx_touch ..) (by decide +kernel)
                  refine Touch.step ?_ (State.modColl_touch ..) (by decide +kernel)
                  refine Touch.mkSnd ?_
                  exact h11
            · refine TouchO.ite ?_ ?_
              · refine TouchO.ite ?_ ?_
                · refine TouchO.some ?_
                  refine Touch.step ?_ (State.modColl_touch ..) (by decide +kernel)
                  exact Touch.refl _ _
                · refine TouchO.ite ?_ ?_
                  · refine TouchO.none
                  · refine TouchO.some ?_
                    refine Touch.step ?_ (State.modColl_touch ..) (by decide +kernel)
                    exact Touch.refl _ _
              · refine TouchO.ite ?_ ?_
                · refine TouchO.some ?_
                  refine Touch.step ?_ (State.modColl_touch ..) (by decide +kernel)
                  exact Touch.refl _ _
                · refine TouchO.none

theorem State.collRun_touch (a0 : ℕ) (a1 : ℕ) (a2 : ℕ) (s : State) :
    Touch 0x100000000000000000000000000000000000000000000000000000000001f0000000000024000000000000000000000000000000000000000000000000017f180 s (State.collRun a0 a1 a2 s) := by
  induction a2 generalizing a0 a1 s
  · unfold State.collRun
    exact Touch.refl _ _
  · rename_i n_ ih
    unfold State.collRun
    split
    · rename_i y0 y1
      exact Touch.refl _ _
    · rename_i y2 y3 y4
      refine Touch.stepSelf ?_ (ih ..)
      refine TouchO.ofSome y4 ?_
      refine TouchO.bind (fun y5 => ?_)
      refine TouchO.step ?_ (State.collStep?_touch ..) (by decide +kernel)
      exact Touch.refl _ _

theorem State.collEvent_touch (s : State) (a1 : ℕ) (a2 : SeqEvt) :
    Touch 0x24000000000000000000000000000000000000000000000000017f180 s (State.collEvent s a1 a2) := by
  unfold State.collEvent
  split
  · exact Touch.refl _ _
  · refine Touch.ite ?_ ?_
    · exact Touch.refl _ _
    · refine Touch.ite ?_ ?_
      · refine Touch.step ?_ (State.collAbort_touch ..) (by decide +kernel)
        exact Touch.refl _ _
      · extract_lets -merge -useContext +onlyGivenNames v0
        refine Touch.cut v0 ?_ (fun h1 => ?_)
        · unfold v0
          refine Touch.ite ?_ ?_
          · exact Touch.refl _ _
          · refine Touch.step ?_ (State.modColl_touch ..) (by decide +kernel)
            exact Touch.refl _ _
        clear_value v0
        split
        · refine Touch.step ?_ (State.modColl_touch ..) (by decide +kernel)
          exact h1
        · refine Touch.step ?_ (State.modColl_touch ..) (by decide +kernel)
          exact h1
        · refine Touch.step ?_ (State.modColl_touch ..) (by decide +kernel)
          refine Touch.step ?_ (State.modColl_touch ..) (by decide +kernel)
          exact h1

theorem State.seqRun_touch (s : State) (a1 : ℕ) :
    Touch 0x3f90100000000000000000000000000000000000000000000000000000000001f0000000000024000000000000000000000000000000000000000000000000017f180 s (State.seqRun s a1) := by
  unfold State.seqRun
  extract_lets -merge -useContext +onlyGivenNames v0
  clear_value v0
  extract_lets -merge -useContext +onlyGivenNames v1
  refine Touch.cut v1 ?_ (fun h2 => ?_)
  · unfold v1
    refine Touch.foldl ?_ (fun y3 y4 h5 => ?_)
    · refine Touch.step ?_ (State.modSeq_touch ..) (by decide +kernel)
      exact Touch.refl _ _
    · refine Touch.step ?_ (State.collEvent_touch ..) (by decide +kernel)
      exact h5
  clear_value v1
  extract_lets -merge -useContext +onlyGivenNames v6
  refine Touch.cut v6 ?_ (fun h7 => ?_)
  · unfold v6
    refine Touch.foldl ?_ (fun y8 y9 h10 => ?_)
    · exact h2
    · refine Touch.step ?_ (State.collRun_touch ..) (by decide +kernel)
      exact h10
  clear_value v6
  refine Touch.step ?_ (State.seqRegs_touch ..) (by decide +kernel)
  exact h7

theorem State.settleF_touch (a0 : ℕ) (s : State) :
    Touch 0x180000000003f90100000000000000000006000000000000000000000f101803ffc00200021f00300000000240000000000000000000000000000000000c001fffffe00000bff9a0 s (State.settleF a0 s) := by
  induction a0 generalizing s
  · unfold State.settleF
    exact Touch.refl _ _
  · rename_i n_ ih
    unfold State.settleF
    extract_lets -merge -useContext +onlyGivenNames v0
    refine Touch.cut v0 ?_ (fun h1 => ?_)
    · unfold v0
      refine Touch.foldl ?_ (fun y2 y3 h4 => ?_)
      · refine Touch.step ?_ (State.runAll_touch ..) (by decide +kernel)
        exact Touch.refl _ _
      · refine Touch.step ?_ (State.seqRun_touch ..) (by decide +kernel)
        exact h4
    clear_value v0
    refine Touch.ite ?_ ?_
    · refine Touch.stepSelf ?_ (ih ..)
      exact h1
    · exact h1

theorem State.settleAll_touch (s : State) :
    Touch 0x180000000003f90100000000000000000006000000000000000000000f101803ffc00200021f00300000000240000000000000000000000000000000000c001fffffe00000bff9a0 s (State.settleAll s) := by
  unfold State.settleAll
  refine Touch.ite ?_ ?_
  · refine Touch.step ?_ (State.runAll_touch ..) (by decide +kernel)
    exact Touch.refl _ _
  · refine Touch.step ?_ (State.settleF_touch ..) (by decide +kernel)
    exact Touch.refl _ _

theorem State.collStart_touch (s : State) (a1 : ℕ) (a2 : Pkt) :
    Touch 0x1f0000000000024000000000000000000000000000000000000000000000000017f180 s (State.collStart s a1 a2) := by
  unfold State.collStart
  extract_lets -merge -useContext +onlyGivenNames v0
  clear_value v0
  split
  · exact Touch.refl _ _
  · extract_lets -merge -useContext +onlyGivenNames v1
    clear_value v1
    extract_lets -merge -useContext +onlyGivenNames v2
    clear_value v2
    extract_lets -merge -useContext +onlyGivenNames v3
    clear_value v3
    extract_lets -merge -useContext +onlyGivenNames v4
    refine Touch.ite ?_ ?_
    · refine Touch.step ?_ (State.raise_touch ..) (by decide +kernel)
      unfold v4
      refine Touch.step ?_ (State.modSeq_touch ..) (by decide +kernel)
      exact Touch.refl _ _
    · split
      · unfold v4
        refine Touch.step ?_ (State.modSeq_touch ..) (by decide +kernel)
        exact Touch.refl _ _
      · extract_lets -merge -useContext +onlyGivenNames v5
        refine Touch.cut v5 ?_ (fun h6 => ?_)
        · unfold v5
          unfold v4
          refine Touch.step ?_ (State.modSeq_touch ..) (by decide +kernel)
          exact Touch.refl _ _
        clear_value v5
        split
        · rename_i y7 y8 y9 y10 y11 y12 y13 y14
          refine TouchO.ofSome y14 ?_
          refine TouchO.step ?_ (State.seqAccess?_touch ..) (by decide +kernel)
          exact h6
        · refine Touch.step ?_ (State.collAbort_touch ..) (by decide +kernel)
          exact h6

theorem State.collNotify_touch (s : State) (a1 : ℕ) (a2 : ℕ) (a3 : Coll) (a4 : ℕ) :
    Touch 0xfc0060000000000000000000000000000000000000000000000000000000000000000000000000240000000000000000000000000000000000000000000000000163100 s (State.collNotify s a1 a2 a3 a4) := by
  unfold State.collNotify
  extract_lets -merge -useContext +onlyGivenNames v0
  clear_value v0
  extract_lets -merge -useContext +onlyGivenNames v1
  refine Touch.cut v1 ?_ (fun h2 => ?_)
  · unfold v1
    split
    · refine Touch.step ?_ (State.bump_touch ..) (by decide +kernel)
      exact Touch.refl _ _
    · refine Touch.step ?_ (State.bump_touch ..) (by decide +kernel)
      refine Touch.step ?_ (State.bump_touch ..) (by decide +kernel)
      exact Touch.refl _ _
    · exact Touch.refl _ _
  clear_value v1
  extract_lets -merge -useContext +onlyGivenNames v3
  refine Touch.cut v3 ?_ (fun h4 => ?_)
  · unfold v3
    refine Touch.ite ?_ ?_
    · refine Touch.step ?_ (State.bump_touch ..) (by decide +kernel)
      exact h2
    · exact h2
  clear_value v3
  extract_lets -merge -useContext +onlyGivenNames v5
  clear_value v5
  extract_lets -merge -useContext +onlyGivenNames v6
  refine Touch.cut v6 ?_ (fun h7 => ?_)
  · unfold v6
    refine Touch.ite ?_ ?_
    · refine Touch.step ?_ (State.raise_touch ..) (by decide +kernel)
      exact h4
    · exact h4
  clear_value v6
  extract_lets -merge -useContext +onlyGivenNames v8
  clear_value v8
  extract_lets -merge -useContext +onlyGivenNames v9
  refine Touch.cut v9 ?_ (fun h10 => ?_)
  · unfold v9
    refine Touch.step ?_ (State.modMsg_touch ..) (by decide +kernel)
    exact h7
  clear_value v9
  refine Touch.step ?_ (State.sendPkt_touch ..) (by decide +kernel)
  refine Touch.step ?_ (State.modColl_touch ..) (by decide +kernel)
  exact h10

theorem State.seqExamine_touch (s : State) (a1 : ℕ) :
    Touch 0x240000000000000000000000000000000000000000000000000163100 s (State.seqExamine s a1) := by
  unfold State.seqExamine
  extract_lets -merge -useContext +onlyGivenNames v0
  clear_value v0
  refine Touch.foldl ?_ (fun y1 y2 h3 => ?_)
  · exact Touch.refl _ _
  · refine Touch.ite ?_ ?_
    · refine Touch.step ?_ (State.grant_touch ..) (by decide +kernel)
      refine Touch.step ?_ (State.modMsg_touch ..) (by decide +kernel)
      exact h3
    · exact h3

end Sys2Proof.Machine
end

