-- ==== Sys2Proof/Laws/TouchTwinOps.lean ====
section
/-! SUPPORT. What the operations of Machine/TwinOps.lean may change. -/
namespace Sys2Proof.Machine

set_option Elab.async false

theorem State.twinSend_touch (s : State) (a1 : Pkt) :
    Touch 0x20000 s (State.twinSend s a1) := by
  unfold State.twinSend
  refine Touch.step ?_ (State.modFab_touch ..) (by decide +kernel)
  exact Touch.refl _ _

theorem State.twinCtl_touch (s : State) (a1 : ℕ) (a2 : ℕ) (a3 : List Byte) :
    Touch 0x20000 s (State.twinCtl s a1 a2 a3) := by
  unfold State.twinCtl
  refine Touch.step ?_ (State.twinSend_touch ..) (by decide +kernel)
  exact Touch.refl _ _

theorem State.twnFault_touch (s : State) (a1 : ℕ) (a2 : Option ℕ) (a3 : ℕ) (a4 : ℕ) :
    Touch 0x100 s (State.twnFault s a1 a2 a3 a4) := by
  unfold State.twnFault
  refine Touch.step ?_ (State.raise_touch ..) (by decide +kernel)
  exact Touch.refl _ _

theorem State.putLines_touch (a0 : ℕ → Option ℕ) (a1 : Bool) (a2 : ℕ) (a3 : ℕ) (a4 : List Byte) (s : State) :
    Touch 0x180000000000000000000000000000000000000000000000000000000000000000000000000000000000000000000000000000000000000000000000000000000000000000a80900 s (State.putLines a0 a1 a2 a3 a4 s) := by
  induction a2 generalizing a0 a1 a3 a4 s
  · unfold State.putLines
    exact Touch.refl _ _
  · rename_i n_ ih
    unfold State.putLines
    refine Touch.ite ?_ ?_
    · exact Touch.refl _ _
    · extract_lets -merge -useContext +onlyGivenNames v0
      refine Touch.cut v0 ?_ (fun h1 => ?_)
      · unfold v0
        split
        · rename_i y2 y3 y4
          refine Touch.step ?_ (State.plainWrite_touch ..) (by decide +kernel)
          exact Touch.refl _ _
        · rename_i y5 y6
          exact Touch.refl _ _
      clear_value v0
      refine Touch.stepSelf ?_ (ih ..)
      exact h1

theorem State.applyEntry_touch (s : State) (a1 : ℕ) (a2 : MirEnt) :
    Touch 0x180000000000000000000000000000000000000000000000000000000000000000000000000000000000000000000000000000000000000000000000000000000000000000a80900 s (State.applyEntry s a1 a2) := by
  unfold State.applyEntry
  refine Touch.step ?_ (State.putLines_touch ..) (by decide +kernel)
  exact Touch.refl _ _

theorem State.feedCatchup_touch (s : State) (a1 : ℕ) :
    Touch 0x80000 s (State.feedCatchup s a1) := by
  unfold State.feedCatchup
  extract_lets -merge -useContext +onlyGivenNames v0
  clear_value v0
  split
  · exact Touch.refl _ _
  · extract_lets -merge -useContext +onlyGivenNames v1
    clear_value v1
    refine Touch.ite ?_ ?_
    · exact Touch.refl _ _
    · extract_lets -merge -useContext +onlyGivenNames v2
      clear_value v2
      refine Touch.step ?_ (State.modSrc_touch ..) (by decide +kernel)
      exact Touch.refl _ _

theorem State.feedOne_touch (s : State) (a1 : ℕ) :
    Touch 0x30000000000000000000000000000000000000000000000000000000000000000000000000000000000000000000000000000000000000000000000000000000000000000000a0100 s (State.feedOne s a1) := by
  unfold State.feedOne
  extract_lets -merge -useContext +onlyGivenNames v0
  clear_value v0
  split
  · exact Touch.refl _ _
  · refine Touch.ite ?_ ?_
    · exact Touch.refl _ _
    · extract_lets -merge -useContext +onlyGivenNames v1
      clear_value v1
      extract_lets -merge -useContext +onlyGivenNames v2
      clear_value v2
      extract_lets -merge -useContext +onlyGivenNames v3
      clear_value v3
      extract_lets -merge -useContext +onlyGivenNames v4
      clear_value v4
      refine Touch.step ?_ (State.bump_touch ..) (by decide +kernel)
      refine Touch.step ?_ (State.twinSend_touch ..) (by decide +kernel)
      refine Touch.step ?_ (State.modSrc_touch ..) (by decide +kernel)
      exact Touch.refl _ _

theorem State.feedData_touch (a0 : ℕ) (a1 : ℕ) (s : State) :
    Touch 0x30000000000000000000000000000000000000000000000000000000000000000000000000000000000000000000000000000000000000000000000000000000000000000000a0100 s (State.feedData a0 a1 s) := by
  induction a1 generalizing a0 s
  · unfold State.feedData
    exact Touch.refl _ _
  · rename_i n_ ih
    unfold State.feedData
    refine Touch.ite ?_ ?_
    · exact Touch.refl _ _
    · refine Touch.stepSelf ?_ (ih ..)
      refine Touch.step ?_ (State.feedOne_touch ..) (by decide +kernel)
      refine Touch.step ?_ (State.feedCatchup_touch ..) (by decide +kernel)
      exact Touch.refl _ _

theorem State.feedRestore_touch (s : State) (a1 : ℕ) :
    Touch 0xa0000 s (State.feedRestore s a1) := by
  unfold State.feedRestore
  split
  · exact Touch.refl _ _
  · extract_lets -merge -useContext +onlyGivenNames v0
    clear_value v0
    extract_lets -merge -useContext +onlyGivenNames v1
    clear_value v1
    refine Touch.ite ?_ ?_
    · exact Touch.refl _ _
    · refine Touch.ite ?_ ?_
      · refine Touch.ite ?_ ?_
        · exact Touch.refl _ _
        · extract_lets -merge -useContext +onlyGivenNames v2
          extract_lets -merge -useContext +onlyGivenNames v3
          clear_value v3
          extract_lets -merge -useContext +onlyGivenNames v4
          refine Touch.cut v4.1 ?_ (fun h5 => ?_)
          · unfold v4
            refine Touch.foldlFst ?_ (fun y6 y7 h8 => ?_)
            · refine Touch.mkFst ?_
              exact Touch.refl _ _
            · unfold v2
              extract_lets -merge -useContext +onlyGivenNames v9
              clear_value v9
              extract_lets -merge -useContext +onlyGivenNames v10
              clear_value v10
              refine Touch.mkFst ?_
              refine Touch.step ?_ (State.twinSend_touch ..) (by decide +kernel)
              exact h8
          clear_value v4
          refine Touch.step ?_ (State.modRx_touch ..) (by decide +kernel)
          exact h5
      · refine Touch.ite ?_ ?_
        · exact Touch.refl _ _
        · refine Touch.step ?_ (State.twinCtl_touch ..) (by decide +kernel)
          refine Touch.step ?_ (State.modRx_touch ..) (by decide +kernel)
          exact Touch.refl _ _

theorem State.twinFeed_touch (s : State) (a1 : ℕ) :
    Touch 0x30000000000000000000000000000000000000000000000000000000000000000000000000000000000000000000000000000000000000000000000000000000000000000000a0100 s (State.twinFeed s a1) := by
  unfold State.twinFeed
  extract_lets -merge -useContext +onlyGivenNames v0
  clear_value v0
  refine Touch.ite ?_ ?_
  · exact Touch.refl _ _
  · extract_lets -merge -useContext +onlyGivenNames v1
    refine Touch.cut v1 ?_ (fun h2 => ?_)
    · unfold v1
      refine Touch.ite ?_ ?_
      · refine Touch.step ?_ (State.feedData_touch ..) (by decide +kernel)
        exact Touch.refl _ _
      · exact Touch.refl _ _
    clear_value v1
    refine Touch.ite ?_ ?_
    · refine Touch.foldl ?_ (fun y3 y4 h5 => ?_)
      · exact h2
      · refine Touch.step ?_ (State.feedRestore_touch ..) (by decide +kernel)
        exact h5
    · exact h2

theorem State.srcFail_touch (s : State) (a1 : ℕ) (a2 : ℕ) (a3 : ℕ) :
    Touch 0x680000000000000000000000000000000000000000000000000000000000000000000000000000000000000000000000000000000000000000000000000000000000000000080100 s (State.srcFail s a1 a2 a3) := by
  unfold State.srcFail
  extract_lets -merge -useContext +onlyGivenNames v0
  clear_value v0
  extract_lets -merge -useContext +onlyGivenNames v1
  clear_value v1
  extract_lets -merge -useContext +onlyGivenNames v2
  refine Touch.cut v2 ?_ (fun h3 => ?_)
  · unfold v2
    refine Touch.step ?_ (State.twnFault_touch ..) (by decide +kernel)
    refine Touch.step ?_ (State.bump_touch ..) (by decide +kernel)
    refine Touch.step ?_ (State.modSrc_touch ..) (by decide +kernel)
    exact Touch.refl _ _
  clear_value v2
  refine Touch.ite ?_ ?_
  · exact h3
  · refine Touch.ite ?_ ?_
    · refine Touch.step ?_ (State.startCatchup_touch ..) (by decide +kernel)
      exact h3
    · exact h3

theorem State.verdict_touch (s : State) (a1 : ℕ) (a2 : ℕ) (a3 : ℕ) (a4 : ℕ) :
    Touch 0xf80000000000000000000000000000000000000000000000000000000000000000000000000000000000000000000000000000000000000000000000000000000000000000080100 s (State.verdict s a1 a2 a3 a4) := by
  unfold State.verdict
  extract_lets -merge -useContext +onlyGivenNames v0
  refine Touch.cut v0 ?_ (fun h1 => ?_)
  · unfold v0
    refine Touch.step ?_ (State.modSrc_touch ..) (by decide +kernel)
    exact Touch.refl _ _
  clear_value v0
  extract_lets -merge -useContext +onlyGivenNames v2
  clear_value v2
  split
  · extract_lets -merge -useContext +onlyGivenNames v3
    refine Touch.cut v3 ?_ (fun h4 => ?_)
    · unfold v3
      refine Touch.step ?_ (State.modSrc_touch ..) (by decide +kernel)
      refine Touch.step ?_ (State.put_touch ..) (by decide +kernel)
      exact h1
    clear_value v3
    refine Touch.ite ?_ ?_
    · refine Touch.step ?_ (State.modSrc_touch ..) (by decide +kernel)
      refine Touch.step ?_ (State.put_touch ..) (by decide +kernel)
      refine Touch.step ?_ (State.put_touch ..) (by decide +kernel)
      exact h4
    · exact h4
  · refine Touch.step ?_ (State.modSrc_touch ..) (by decide +kernel)
    exact h1
  · refine Touch.ite ?_ ?_
    · exact h1
    · refine Touch.step ?_ (State.srcFail_touch ..) (by decide +kernel)
      exact h1
  · exact h1

theorem State.sendVerdict_touch (s : State) (a1 : ℕ) (a2 : ℕ) (a3 : ℕ) :
    Touch 0x20000 s (State.sendVerdict s a1 a2 a3) := by
  unfold State.sendVerdict
  refine Touch.step ?_ (State.twinSend_touch ..) (by decide +kernel)
  exact Touch.refl _ _

theorem State.rxFail_touch (s : State) (a1 : ℕ) (a2 : ℕ) (a3 : ℕ) :
    Touch 0x180000000000000000000000000000000000000000000000000000000000000000000000000000000000000000000000000000000000000000000000000000000000000000a0100 s (State.rxFail s a1 a2 a3) := by
  unfold State.rxFail
  extract_lets -merge -useContext +onlyGivenNames v0
  clear_value v0
  extract_lets -merge -useContext +onlyGivenNames v1
  clear_value v1
  extract_lets -merge -useContext +onlyGivenNames v2
  clear_value v2
  extract_lets -merge -useContext +onlyGivenNames v3
  clear_value v3
  extract_lets -merge -useContext +onlyGivenNames v4
  refine Touch.cut v4 ?_ (fun h5 => ?_)
  · unfold v4
    refine Touch.step ?_ (State.modRx_touch ..) (by decide +kernel)
    exact Touch.refl _ _
  clear_value v4
  refine Touch.step ?_ (State.sendVerdict_touch ..) (by decide +kernel)
  refine Touch.step ?_ (State.twnFault_touch ..) (by decide +kernel)
  refine Touch.step ?_ (State.bump_touch ..) (by decide +kernel)
  exact h5

theorem State.rxJudged_touch (s : State) (a1 : ℕ) (a2 : MirDig) :
    Touch 0x64a000000000000000000000000000000000000000000000000000000000000000000000000000000000000000000000000000000000000000000000000000000000000000a0100 s (State.rxJudged s a1 a2) := by
  unfold State.rxJudged
  extract_lets -merge -useContext +onlyGivenNames v0
  clear_value v0
  extract_lets -merge -useContext +onlyGivenNames v1
  refine Touch.cut v1 ?_ (fun h2 => ?_)
  · unfold v1
    refine Touch.step ?_ (State.modRx_touch ..) (by decide +kernel)
    exact Touch.refl _ _
  clear_value v1
  extract_lets -merge -useContext +onlyGivenNames v3
  refine Touch.cut v3 ?_ (fun h4 => ?_)
  · unfold v3
    refine Touch.step ?_ (State.put_touch ..) (by decide +kernel)
    exact h2
  clear_value v3
  extract_lets -merge -useContext +onlyGivenNames v5
  refine Touch.cut v5 ?_ (fun h6 => ?_)
  · unfold v5
    refine Touch.ite ?_ ?_
    · refine Touch.step ?_ (State.put_touch ..) (by decide +kernel)
      exact h4
    · refine Touch.step ?_ (State.bump_touch ..) (by decide +kernel)
      exact h4
  clear_value v5
  extract_lets -merge -useContext +onlyGivenNames v7
  refine Touch.cut v7 ?_ (fun h8 => ?_)
  · unfold v7
    refine Touch.ite ?_ ?_
    · refine Touch.step ?_ (State.put_touch ..) (by decide +kernel)
      exact h6
    · exact h6
  clear_value v7
  refine Touch.step ?_ (State.sendVerdict_touch ..) (by decide +kernel)
  exact h8

theorem State.mirJudge_touch (a0 : ℕ) (a1 : ℕ) (s : State) :
    Touch 0x7ca000000000000000000000000000000000000000000000000000000000000000000000000000000000000000000000000000000000000000000000000000000000000000a0100 s (State.mirJudge a0 a1 s) := by
  induction a1 generalizing a0 s
  · unfold State.mirJudge
    exact Touch.refl _ _
  · rename_i n_ ih
    unfold State.mirJudge
    extract_lets -merge -useContext +onlyGivenNames v0
    clear_value v0
    split
    · rename_i y1 y2
      exact Touch.refl _ _
    · rename_i y3 y4 y5
      extract_lets -merge -useContext +onlyGivenNames v6
      clear_value v6
      extract_lets -merge -useContext +onlyGivenNames v7
      clear_value v7
      refine Touch.ite ?_ ?_
      · refine Touch.stepSelf ?_ (ih ..)
        refine Touch.step ?_ (State.rxFail_touch ..) (by decide +kernel)
        exact Touch.refl _ _
      · refine Touch.ite ?_ ?_
        · exact Touch.refl _ _
        · refine Touch.ite ?_ ?_
          · refine Touch.stepSelf ?_ (ih ..)
            refine Touch.step ?_ (State.rxFail_touch ..) (by decide +kernel)
            exact Touch.refl _ _
          · refine Touch.ite ?_ ?_
            · refine Touch.stepSelf ?_ (ih ..)
              refine Touch.step ?_ (State.rxJudged_touch ..) (by decide +kernel)
              exact Touch.refl _ _
            · exact Touch.refl _ _

theorem State.journalEntry_touch (s : State) (a1 : Pkt) :
    Touch 0x7ca000000000000000000000000000000000000000000000000000000000000000000000000000000000000000000000000000000000000000000000000000000000000002a0900 s (State.journalEntry s a1) := by
  unfold State.journalEntry
  extract_lets -merge -useContext +onlyGivenNames v0
  clear_value v0
  extract_lets -merge -useContext +onlyGivenNames v1
  clear_value v1
  extract_lets -merge -useContext +onlyGivenNames v2
  clear_value v2
  extract_lets -merge -useContext +onlyGivenNames v3
  clear_value v3
  refine Touch.ite ?_ ?_
  · exact Touch.refl _ _
  · extract_lets -merge -useContext +onlyGivenNames v4
    clear_value v4
    extract_lets -merge -useContext +onlyGivenNames v5
    refine Touch.cut v5 ?_ (fun h6 => ?_)
    · unfold v5
      refine Touch.step ?_ (State.modRx_touch ..) (by decide +kernel)
      exact Touch.refl _ _
    clear_value v5
    extract_lets -merge -useContext +onlyGivenNames v7
    refine Touch.cut v7 ?_ (fun h8 => ?_)
    · unfold v7
      refine Touch.ite ?_ ?_
      · refine Touch.step ?_ (State.put_touch ..) (by decide +kernel)
        exact h6
      · exact h6
    clear_value v7
    extract_lets -merge -useContext +onlyGivenNames v9
    clear_value v9
    refine Touch.step ?_ (State.mirJudge_touch ..) (by decide +kernel)
    refine Touch.step ?_ (State.undefine_touch ..) (by decide +kernel)
    exact h8

theorem State.digestIn_touch (s : State) (a1 : ℕ) (a2 : List Byte) :
    Touch 0x7ca000000000000000000000000000000000000000000000000000000000000000000000000000000000000000000000000000000000000000000000000000000000000000a0100 s (State.digestIn s a1 a2) := by
  unfold State.digestIn
  extract_lets -merge -useContext +onlyGivenNames v0
  clear_value v0
  extract_lets -merge -useContext +onlyGivenNames v1
  clear_value v1
  refine Touch.ite ?_ ?_
  · exact Touch.refl _ _
  · refine Touch.step ?_ (State.mirJudge_touch ..) (by decide +kernel)
    refine Touch.step ?_ (State.modRx_touch ..) (by decide +kernel)
    exact Touch.refl _ _

theorem State.applyUpTo_touch (s : State) (a1 : ℕ) (a2 : ℕ) :
    Touch 0x182000000000000000000000000000000000000000000000000000000000000000000000000000000000000000000000000000000000000000000000000000000000000000a80900 s (State.applyUpTo s a1 a2) := by
  unfold State.applyUpTo
  extract_lets -merge -useContext +onlyGivenNames v0
  clear_value v0
  extract_lets -merge -useContext +onlyGivenNames v1
  refine Touch.cut v1 ?_ (fun h2 => ?_)
  · unfold v1
    refine Touch.foldl ?_ (fun y3 y4 h5 => ?_)
    · exact Touch.refl _ _
    · refine Touch.step ?_ (State.applyEntry_touch ..) (by decide +kernel)
      exact h5
  clear_value v1
  refine Touch.step ?_ (State.put_touch ..) (by decide +kernel)
  refine Touch.step ?_ (State.modRx_touch ..) (by decide +kernel)
  exact h2

theorem State.mirApply_touch (s : State) (a1 : ℕ) :
    Touch 0x182200000000000000000000000000000000000000000000000000000000000000000000000000000000000000000000000000000000000000000000000000000000000000a80900 s (State.mirApply s a1) := by
  unfold State.mirApply
  split
  · exact Touch.refl _ _
  · refine Touch.ite ?_ ?_
    · exact Touch.refl _ _
    · refine Touch.ite ?_ ?_
      · refine Touch.ite ?_ ?_
        · refine Touch.step ?_ (State.applyUpTo_touch ..) (by decide +kernel)
          exact Touch.refl _ _
        · exact Touch.refl _ _
      · refine Touch.ite ?_ ?_
        · refine Touch.step ?_ (State.twnFault_touch ..) (by decide +kernel)
          refine Touch.step ?_ (State.put_touch ..) (by decide +kernel)
          refine Touch.step ?_ (State.applyUpTo_touch ..) (by decide +kernel)
          exact Touch.refl _ _
        · exact Touch.refl _ _

theorem State.twinEnd_touch (s : State) (a1 : TwinWho) (a2 : ℕ) (a3 : ℕ) :
    Touch 0xc0000000000000000000000000000000000000000000000000000000000000000000000000000000000000000000000000000000000000000000000000000000000000000020 s (State.twinEnd s a1 a2 a3) := by
  unfold State.twinEnd
  split
  · refine Touch.step ?_ (State.finish_touch ..) (by decide +kernel)
    exact Touch.refl _ _
  · refine Touch.step ?_ (State.put_touch ..) (by decide +kernel)
    refine Touch.step ?_ (State.put_touch ..) (by decide +kernel)
    exact Touch.refl _ _

theorem State.endRestore_touch (s : State) (a1 : ℕ) (a2 : ℕ) (a3 : ℕ) :
    Touch 0x10c0000000000000000000000000000000000000000000000000000000000000000000000000000000000000000000000000000000000000000000000000000000000000080020 s (State.endRestore s a1 a2 a3) := by
  unfold State.endRestore
  split
  · exact Touch.refl _ _
  · refine Touch.step ?_ (State.twinEnd_touch ..) (by decide +kernel)
    refine Touch.step ?_ (State.put_touch ..) (by decide +kernel)
    refine Touch.step ?_ (State.modRx_touch ..) (by decide +kernel)
    exact Touch.refl _ _

theorem State.holdCopies_touch (s : State) (a1 : Bool) (a2 : ℕ) (a3 : ℕ) :
    Touch 0x400000000000000000000000000000000000000000000000000000000000000000000000000000000000000000000000000000000000000000000000000000000000000000000 s (State.holdCopies s a1 a2 a3) := by
  unfold State.holdCopies
  refine Touch.foldl ?_ (fun y0 y1 h2 => ?_)
  · exact Touch.refl _ _
  · refine Touch.ite ?_ ?_
    · exact h2
    · refine Touch.step ?_ (State.put_touch ..) (by decide +kernel)
      exact h2

theorem State.applyTo_touch (s : State) (a1 : TwinWho) (a2 : ℕ) (a3 : ℕ) :
    Touch 0x1860c0000000000000000000000000000000000000000000000000000000000000000000000000000000000000000000000000000000000000000000000000000000000000a80920 s (State.applyTo s a1 a2 a3) := by
  unfold State.applyTo
  refine Touch.ite ?_ ?_
  · refine Touch.step ?_ (State.twinEnd_touch ..) (by decide +kernel)
    exact Touch.refl _ _
  · refine Touch.ite ?_ ?_
    · refine Touch.step ?_ (State.twinEnd_touch ..) (by decide +kernel)
      exact Touch.refl _ _
    · extract_lets -merge -useContext +onlyGivenNames v0
      clear_value v0
      extract_lets -merge -useContext +onlyGivenNames v1
      refine Touch.cut v1 ?_ (fun h2 => ?_)
      · unfold v1
        split
        · refine Touch.step ?_ (State.applyUpTo_touch ..) (by decide +kernel)
          exact Touch.refl _ _
        · exact Touch.refl _ _
      clear_value v1
      extract_lets -merge -useContext +onlyGivenNames v3
      refine Touch.cut v3 ?_ (fun h4 => ?_)
      · unfold v3
        refine Touch.step ?_ (State.put_touch ..) (by decide +kernel)
        refine Touch.step ?_ (State.modRx_touch ..) (by decide +kernel)
        exact h2
      clear_value v3
      refine Touch.step ?_ (State.twinEnd_touch ..) (by decide +kernel)
      refine Touch.step ?_ (State.put_touch ..) (by decide +kernel)
      exact h4

theorem State.mirRestore_touch (s : State) (a1 : TwinWho) (a2 : ℕ) :
    Touch 0x10c00000000000000000000000000000000000000000000000000000000000000000000000000000000000000000000000000000000000000000000000000000000000000a0020 s (State.mirRestore s a1 a2) := by
  unfold State.mirRestore
  extract_lets -merge -useContext +onlyGivenNames v0
  clear_value v0
  refine Touch.ite ?_ ?_
  · refine Touch.step ?_ (State.twinEnd_touch ..) (by decide +kernel)
    exact Touch.refl _ _
  · refine Touch.step ?_ (State.twinCtl_touch ..) (by decide +kernel)
    refine Touch.step ?_ (State.put_touch ..) (by decide +kernel)
    refine Touch.step ?_ (State.modRx_touch ..) (by decide +kernel)
    exact Touch.refl _ _

theorem State.allDirty_touch (s : State) (a1 : ℕ) :
    Touch 0x80000 s (State.allDirty s a1) := by
  unfold State.allDirty
  extract_lets -merge -useContext +onlyGivenNames v0
  clear_value v0
  refine Touch.step ?_ (State.modSrc_touch ..) (by decide +kernel)
  exact Touch.refl _ _

theorem State.mirResync_touch (s : State) (a1 : TwinWho) (a2 : ℕ) :
    Touch 0x800c0000000000000000000000000000000000000000000000000000000000000000000000000000000000000000000000000000000000000000000000000000000000000080020 s (State.mirResync s a1 a2) := by
  unfold State.mirResync
  extract_lets -merge -useContext +onlyGivenNames v0
  refine Touch.cut v0 ?_ (fun h1 => ?_)
  · unfold v0
    refine Touch.step ?_ (State.allDirty_touch ..) (by decide +kernel)
    exact Touch.refl _ _
  clear_value v0
  extract_lets -merge -useContext +onlyGivenNames v2
  refine Touch.cut v2 ?_ (fun h3 => ?_)
  · unfold v2
    refine Touch.ite ?_ ?_
    · refine Touch.step ?_ (State.startCatchup_touch ..) (by decide +kernel)
      exact h1
    · exact h1
  clear_value v2
  refine Touch.step ?_ (State.twinEnd_touch ..) (by decide +kernel)
  exact h3

theorem State.twinOp_touch (s : State) (a1 : TwinWho) (a2 : ℕ) (a3 : Bool) (a4 : ℕ) (a5 : ℕ) :
    Touch 0x1874c0000000000000000000000000000000000000000000000000000000000000000000000000000000000000000000000000000000000000000000000000000000000000aa0920 s (State.twinOp s a1 a2 a3 a4 a5) := by
  unfold State.twinOp
  split
  · refine Touch.step ?_ (State.twinEnd_touch ..) (by decide +kernel)
    refine Touch.step ?_ (State.holdCopies_touch ..) (by decide +kernel)
    exact Touch.refl _ _
  · refine Touch.step ?_ (State.twinEnd_touch ..) (by decide +kernel)
    refine Touch.step ?_ (State.holdCopies_touch ..) (by decide +kernel)
    exact Touch.refl _ _
  · refine Touch.step ?_ (State.applyTo_touch ..) (by decide +kernel)
    exact Touch.refl _ _
  · refine Touch.step ?_ (State.mirRestore_touch ..) (by decide +kernel)
    exact Touch.refl _ _
  · refine Touch.step ?_ (State.mirResync_touch ..) (by decide +kernel)
    exact Touch.refl _ _
  · refine Touch.step ?_ (State.twinEnd_touch ..) (by decide +kernel)
    exact Touch.refl _ _

theorem State.sendPair_touch (s : State) :
    Touch 0x20000 s (State.sendPair s) := by
  unfold State.sendPair
  extract_lets -merge -useContext +onlyGivenNames v0
  clear_value v0
  extract_lets -merge -useContext +onlyGivenNames v1
  clear_value v1
  refine Touch.step ?_ (State.twinCtl_touch ..) (by decide +kernel)
  refine Touch.step ?_ (State.modFab_touch ..) (by decide +kernel)
  exact Touch.refl _ _

theorem State.mirrorStops_touch (s : State) :
    Touch 0x1810c00000000000000000000000000000000000000000000000000000000000000000000000000000000000000000000000000000000000000000000000000000000000000a0020 s (State.mirrorStops s) := by
  unfold State.mirrorStops
  extract_lets -merge -useContext +onlyGivenNames v0
  refine Touch.cut v0 ?_ (fun h1 => ?_)
  · unfold v0
    refine Touch.foldl ?_ (fun y2 y3 h4 => ?_)
    · exact Touch.refl _ _
    · refine Touch.step ?_ (State.modSrc_touch ..) (by decide +kernel)
      refine Touch.step ?_ (State.put_touch ..) (by decide +kernel)
      refine Touch.step ?_ (State.put_touch ..) (by decide +kernel)
      exact h4
  clear_value v0
  extract_lets -merge -useContext +onlyGivenNames v5
  refine Touch.cut v5 ?_ (fun h6 => ?_)
  · unfold v5
    refine Touch.step ?_ (State.modFab_touch ..) (by decide +kernel)
    exact h1
  clear_value v5
  refine Touch.foldl ?_ (fun y7 y8 h9 => ?_)
  · exact h6
  · refine Touch.step ?_ (State.endRestore_touch ..) (by decide +kernel)
    exact h9

theorem State.pairing_touch (s : State) :
    Touch 0x800000000000000000000000000000000000000000000000000000000000000000000000000000000000000000000000000000000000000000000000000000000000a0000 s (State.pairing s) := by
  unfold State.pairing
  extract_lets -merge -useContext +onlyGivenNames v0
  refine Touch.cut v0 ?_ (fun h1 => ?_)
  · unfold v0
    refine Touch.step ?_ (State.modTwin_touch ..) (by decide +kernel)
    refine Touch.step ?_ (State.put_touch ..) (by decide +kernel)
    exact Touch.refl _ _
  clear_value v0
  refine Touch.ite ?_ ?_
  · refine Touch.step ?_ (State.sendPair_touch ..) (by decide +kernel)
    exact h1
  · exact h1

theorem State.mismatch_touch (s : State) :
    Touch 0x80000000000000000000000000000000000000000000000000000000000000000000000000000000000000000000000000000000000000000000000000000000000000100 s (State.mismatch s) := by
  unfold State.mismatch
  refine Touch.step ?_ (State.twnFault_touch ..) (by decide +kernel)
  refine Touch.step ?_ (State.put_touch ..) (by decide +kernel)
  exact Touch.refl _ _

theorem State.moveCopies_touch (s : State) (a1 : List (ℕ × ℕ)) (a2 : List (ℕ × ℕ)) (a3 : List ℕ) :
    Touch 0x180000000000000000000000000000000000000000000000000000000000000000000000000000000000000000000000000000000000000000000000000000000000000000a80900 s (State.moveCopies s a1 a2 a3) := by
  unfold State.moveCopies
  extract_lets -merge -useContext +onlyGivenNames v0
  clear_value v0
  extract_lets -merge -useContext +onlyGivenNames v1
  clear_value v1
  refine Touch.foldl ?_ (fun y2 y3 h4 => ?_)
  · exact Touch.refl _ _
  · refine Touch.step ?_ (State.plainWrite_touch ..) (by decide +kernel)
    exact h4

theorem State.rxPaired_touch (s : State) (a1 : List (ℕ × ℕ)) :
    Touch 0x187e00000000000000000000000000000000000000000000000000000000000000000000000000000000000000000000000000000000000000000000000000000000000000a80900 s (State.rxPaired s a1) := by
  unfold State.rxPaired
  extract_lets -merge -useContext +onlyGivenNames v0
  clear_value v0
  extract_lets -merge -useContext +onlyGivenNames v1
  clear_value v1
  extract_lets -merge -useContext +onlyGivenNames v2
  clear_value v2
  extract_lets -merge -useContext +onlyGivenNames v3
  refine Touch.cut v3 ?_ (fun h4 => ?_)
  · unfold v3
    refine Touch.step ?_ (State.moveCopies_touch ..) (by decide +kernel)
    exact Touch.refl _ _
  clear_value v3
  extract_lets -merge -useContext +onlyGivenNames v5
  refine Touch.cut v5 ?_ (fun h6 => ?_)
  · unfold v5
    refine Touch.foldl ?_ (fun y7 y8 h9 => ?_)
    · exact h4
    · refine Touch.ite ?_ ?_
      · refine Touch.step ?_ (State.modRx_touch ..) (by decide +kernel)
        exact h9
      · extract_lets -merge -useContext +onlyGivenNames v10
        refine Touch.cut v10 ?_ (fun h11 => ?_)
        · unfold v10
          simp only [List.foldl_cons, List.foldl_nil]
          refine Touch.step ?_ (State.put_touch ..) (by decide +kernel)
          refine Touch.step ?_ (State.put_touch ..) (by decide +kernel)
          refine Touch.step ?_ (State.put_touch ..) (by decide +kernel)
          refine Touch.step ?_ (State.put_touch ..) (by decide +kernel)
          refine Touch.step ?_ (State.put_touch ..) (by decide +kernel)
          exact h9
        clear_value v10
        refine Touch.step ?_ (State.modTwin_touch ..) (by decide +kernel)
        refine Touch.step ?_ (State.put_touch ..) (by decide +kernel)
        exact h11
  clear_value v5
  refine Touch.step ?_ (State.modTwin_touch ..) (by decide +kernel)
  exact h6

theorem State.restartStream_touch (s : State) (a1 : ℕ) :
    Touch 0x80000 s (State.restartStream s a1) := by
  unfold State.restartStream
  extract_lets -merge -useContext +onlyGivenNames v0
  clear_value v0
  extract_lets -merge -useContext +onlyGivenNames v1
  clear_value v1
  refine Touch.step ?_ (State.modSrc_touch ..) (by decide +kernel)
  exact Touch.refl _ _

theorem State.srcPaired_touch (s : State) (a1 : ℕ) :
    Touch 0x80000000000000000000000000000000000000000000000000000000000000000000000000000000000000000000000000000000000000000000000000000000000000000080000 s (State.srcPaired s a1) := by
  unfold State.srcPaired
  refine Touch.foldl ?_ (fun y0 y1 h2 => ?_)
  · exact Touch.refl _ _
  · extract_lets -merge -useContext +onlyGivenNames v3
    refine Touch.cut v3 ?_ (fun h4 => ?_)
    · unfold v3
      refine Touch.step ?_ (State.restartStream_touch ..) (by decide +kernel)
      exact h2
    clear_value v3
    split
    · refine Touch.step ?_ (State.put_touch ..) (by decide +kernel)
      exact h4
    · refine Touch.ite ?_ ?_
      · refine Touch.step ?_ (State.put_touch ..) (by decide +kernel)
        exact h4
      · refine Touch.step ?_ (State.startCatchup_touch ..) (by decide +kernel)
        exact h4
    · refine Touch.step ?_ (State.startCatchup_touch ..) (by decide +kernel)
      refine Touch.step ?_ (State.allDirty_touch ..) (by decide +kernel)
      exact h4

theorem State.tryPaired_touch (s : State) :
    Touch 0x187e00080000000000000000000000000000000000000000000000000000000000000000000000000000000000000000000000000000000000000000000000000000000000a80900 s (State.tryPaired s) := by
  unfold State.tryPaired
  split
  · refine Touch.ite ?_ ?_
    · refine Touch.step ?_ (State.srcPaired_touch ..) (by decide +kernel)
      refine Touch.step ?_ (State.rxPaired_touch ..) (by decide +kernel)
      refine Touch.step ?_ (State.put_touch ..) (by decide +kernel)
      exact Touch.refl _ _
    · exact Touch.refl _ _
  · exact Touch.refl _ _

theorem State.twinUp_touch (s : State) :
    Touch 0x800000000000000000000000000000000000000000000000000000000000000000000000000000000000000000000000000000000000000000000000000000000000a0000 s (State.twinUp s) := by
  unfold State.twinUp
  split
  · refine Touch.step ?_ (State.sendPair_touch ..) (by decide +kernel)
    exact Touch.refl _ _
  · refine Touch.step ?_ (State.pairing_touch ..) (by decide +kernel)
    exact Touch.refl _ _
  · refine Touch.ite ?_ ?_
    · refine Touch.step ?_ (State.pairing_touch ..) (by decide +kernel)
      exact Touch.refl _ _
    · exact Touch.refl _ _
  · exact Touch.refl _ _

theorem State.twinLost_touch (s : State) :
    Touch 0x49ff80000000000001814c18800000000000000000000000000000030000000000000000000000000000000000000000000000000000000000000000000000000000000000000000000000000001a05a0 s (State.twinLost s) := by
  unfold State.twinLost
  extract_lets -merge -useContext +onlyGivenNames v0
  refine Touch.cut v0 ?_ (fun h1 => ?_)
  · unfold v0
    refine Touch.step ?_ (State.emberTrigger_touch ..) (by decide +kernel)
    refine Touch.step ?_ (State.bump_touch ..) (by decide +kernel)
    refine Touch.step ?_ (State.put_touch ..) (by decide +kernel)
    exact Touch.refl _ _
  clear_value v0
  extract_lets -merge -useContext +onlyGivenNames v2
  refine Touch.cut v2 ?_ (fun h3 => ?_)
  · unfold v2
    refine Touch.step ?_ (State.mirrorStops_touch ..) (by decide +kernel)
    refine Touch.step ?_ (State.globalEvent_touch ..) (by decide +kernel)
    refine Touch.step ?_ (State.twnFault_touch ..) (by decide +kernel)
    exact h1
  clear_value v2
  refine Touch.ite ?_ ?_
  · refine Touch.step ?_ (State.holdCopies_touch ..) (by decide +kernel)
    exact h3
  · exact h3

theorem State.discardCopies_touch (s : State) :
    Touch 0x7ec0000000000000000000000000000000000000000000000000000000000000000000000000000000000000000000000000000000000000000000000000000000000000080020 s (State.discardCopies s) := by
  unfold State.discardCopies
  extract_lets -merge -useContext +onlyGivenNames v0
  refine Touch.cut v0 ?_ (fun h1 => ?_)
  · unfold v0
    refine Touch.foldl ?_ (fun y2 y3 h4 => ?_)
    · exact Touch.refl _ _
    · refine Touch.step ?_ (State.endRestore_touch ..) (by decide +kernel)
      exact h4
  clear_value v0
  extract_lets -merge -useContext +onlyGivenNames v5
  refine Touch.cut v5 ?_ (fun h6 => ?_)
  · unfold v5
    refine Touch.foldl ?_ (fun y7 y8 h9 => ?_)
    · exact h1
    · simp only [List.foldl_cons, List.foldl_nil]
      refine Touch.step ?_ (State.put_touch ..) (by decide +kernel)
      refine Touch.step ?_ (State.put_touch ..) (by decide +kernel)
      refine Touch.step ?_ (State.put_touch ..) (by decide +kernel)
      refine Touch.step ?_ (State.put_touch ..) (by decide +kernel)
      refine Touch.step ?_ (State.put_touch ..) (by decide +kernel)
      refine Touch.step ?_ (State.put_touch ..) (by decide +kernel)
      exact h9
  clear_value v5
  refine Touch.step ?_ (State.modTwin_touch ..) (by decide +kernel)
  exact h6

theorem State.twinCommit_touch (s : State) (a1 : Option TwinPlan) (a2 : Bool) :
    Touch 0x187ec04800000000000000000000000000000000000000000000000000000000000000000000000000000000000000000000000000000000000000000000000000000000000a0020 s (State.twinCommit s a1 a2) := by
  unfold State.twinCommit
  extract_lets -merge -useContext +onlyGivenNames v0
  refine Touch.cut v0 ?_ (fun h1 => ?_)
  · unfold v0
    refine Touch.step ?_ (State.put_touch ..) (by decide +kernel)
    exact Touch.refl _ _
  clear_value v0
  extract_lets -merge -useContext +onlyGivenNames v2
  clear_value v2
  extract_lets -merge -useContext +onlyGivenNames v3
  refine Touch.cut v3 ?_ (fun h4 => ?_)
  · unfold v3
    refine Touch.foldl ?_ (fun y5 y6 h7 => ?_)
    · exact h1
    · refine Touch.ite ?_ ?_
      · refine Touch.ite ?_ ?_
        · refine Touch.step ?_ (State.put_touch ..) (by decide +kernel)
          exact h7
        · exact h7
      · refine Touch.step ?_ (State.modTwin_touch ..) (by decide +kernel)
        refine Touch.step ?_ (State.put_touch ..) (by decide +kernel)
        refine Touch.step ?_ (State.put_touch ..) (by decide +kernel)
        exact h7
  clear_value v3
  split
  · refine Touch.step ?_ (State.put_touch ..) (by decide +kernel)
    refine Touch.step ?_ (State.mirrorStops_touch ..) (by decide +kernel)
    refine Touch.step ?_ (State.discardCopies_touch ..) (by decide +kernel)
    exact h4
  · extract_lets -merge -useContext +onlyGivenNames v8
    clear_value v8
    refine Touch.ite ?_ ?_
    · exact h4
    · refine Touch.step ?_ (State.pairing_touch ..) (by decide +kernel)
      refine Touch.step ?_ (State.mirrorStops_touch ..) (by decide +kernel)
      refine Touch.ite ?_ ?_
      · exact h4
      · refine Touch.step ?_ (State.discardCopies_touch ..) (by decide +kernel)
        exact h4

end Sys2Proof.Machine
end

