-- ==== Sys2Proof/Laws/TouchFabricRows.lean ====
section
/-! SUPPORT. What the operations of Machine/FabricRows.lean may change. -/
namespace Sys2Proof.Machine

set_option Elab.async false

theorem State.sendFlit_touch (s : State) (a1 : ℕ) (a2 : ℕ) (a3 : ℕ) (a4 : ℕ) (a5 : List Byte) :
    Touch 0x120000 s (State.sendFlit s a1 a2 a3 a4 a5) := by
  unfold State.sendFlit
  extract_lets -merge -useContext +onlyGivenNames v0
  clear_value v0
  split
  · extract_lets -merge -useContext +onlyGivenNames v1
    clear_value v1
    extract_lets -merge -useContext +onlyGivenNames v2
    clear_value v2
    extract_lets -merge -useContext +onlyGivenNames v3
    refine Touch.cut v3 ?_ (fun h4 => ?_)
    · unfold v3
      refine Touch.step ?_ (State.modPort_touch ..) (by decide +kernel)
      exact Touch.refl _ _
    clear_value v3
    extract_lets -merge -useContext +onlyGivenNames v5
    clear_value v5
    extract_lets -merge -useContext +onlyGivenNames v6
    refine Touch.cut v6 ?_ (fun h7 => ?_)
    · unfold v6
      refine Touch.step ?_ (State.modFab_touch ..) (by decide +kernel)
      exact h4
    clear_value v6
    refine Touch.step ?_ (State.emit_touch ..) (by decide +kernel)
    exact h7

theorem State.sendStream_touch (s : State) (a1 : ℕ) (a2 : ℕ) (a3 : Bool) :
    Touch 0x18000000000c000020000000000000000000000000000000000000000000000000000000000000000000000000000000000000000000000000000000000000000000000000be0900 s (State.sendStream s a1 a2 a3) := by
  unfold State.sendStream
  extract_lets -merge -useContext +onlyGivenNames v0
  refine Touch.cut v0 ?_ (fun h1 => ?_)
  · unfold v0
    refine Touch.step ?_ (State.fillStream_touch ..) (by decide +kernel)
    exact Touch.refl _ _
  clear_value v0
  extract_lets -merge -useContext +onlyGivenNames v2
  clear_value v2
  extract_lets -merge -useContext +onlyGivenNames v3
  clear_value v3
  refine Touch.ite ?_ ?_
  · refine Touch.step ?_ (State.sendFlit_touch ..) (by decide +kernel)
    exact h1
  · extract_lets -merge -useContext +onlyGivenNames v4
    clear_value v4
    extract_lets -merge -useContext +onlyGivenNames v5
    clear_value v5
    refine Touch.ite ?_ ?_
    · refine Touch.step ?_ (State.sendFlit_touch ..) (by decide +kernel)
      refine Touch.step ?_ (State.modPort_touch ..) (by decide +kernel)
      exact h1
    · refine Touch.step ?_ (State.sendFlit_touch ..) (by decide +kernel)
      refine Touch.step ?_ (State.modPort_touch ..) (by decide +kernel)
      exact h1

theorem State.sendTraffic_touch (s : State) (a1 : ℕ) (a2 : ℕ) :
    Touch 0x18000000000c000120000000000000000000000000000000000000000000000000000000000000000000000240000000000000000000000000000000000000000000000000be3900 s (State.sendTraffic s a1 a2) := by
  unfold State.sendTraffic
  extract_lets -merge -useContext +onlyGivenNames v0
  refine Touch.cut v0 ?_ (fun h1 => ?_)
  · unfold v0
    refine Touch.step ?_ (State.pumpExit_touch ..) (by decide +kernel)
    exact Touch.refl _ _
  clear_value v0
  extract_lets -merge -useContext +onlyGivenNames v2
  clear_value v2
  extract_lets -merge -useContext +onlyGivenNames v3
  refine Touch.cut v3 ?_ (fun h4 => ?_)
  · unfold v3
    refine Touch.step ?_ (State.sendFlit_touch ..) (by decide +kernel)
    exact h1
  clear_value v3
  refine Touch.ite ?_ ?_
  · exact h4
  · refine Touch.ite ?_ ?_
    · refine Touch.step ?_ (State.sendStream_touch ..) (by decide +kernel)
      exact h1
    · refine Touch.ite ?_ ?_
      · refine Touch.ite ?_ ?_
        · exact h4
        · refine Touch.step ?_ (State.sendStream_touch ..) (by decide +kernel)
          exact h1
      · split
        · exact h4
        · refine Touch.ite ?_ ?_
          · refine Touch.step ?_ (State.sendStream_touch ..) (by decide +kernel)
            exact h1
          · refine Touch.ite ?_ ?_
            · exact h4
            · refine Touch.step ?_ (State.sendStream_touch ..) (by decide +kernel)
              exact h1

theorem State.flitUp_touch (s : State) (a1 : ℕ) (a2 : ℕ) :
    Touch 0x18000000000c000120000000000000000000000000000000000000000000000000000000000000000000000240000000000000000000000000000000000000000000000000be3900 s (State.flitUp s a1 a2) := by
  unfold State.flitUp
  extract_lets -merge -useContext +onlyGivenNames v0
  clear_value v0
  extract_lets -merge -useContext +onlyGivenNames v1
  clear_value v1
  split
  · refine Touch.step ?_ (State.sendFlit_touch ..) (by decide +kernel)
    refine Touch.step ?_ (State.modPort_touch ..) (by decide +kernel)
    exact Touch.refl _ _
  · refine Touch.ite ?_ ?_
    · refine Touch.step ?_ (State.sendFlit_touch ..) (by decide +kernel)
      refine Touch.step ?_ (State.modPort_touch ..) (by decide +kernel)
      exact Touch.refl _ _
    · refine Touch.ite ?_ ?_
      · refine Touch.step ?_ (State.sendFlit_touch ..) (by decide +kernel)
        refine Touch.step ?_ (State.modPort_touch ..) (by decide +kernel)
        exact Touch.refl _ _
      · split
        · refine Touch.ite ?_ ?_
          · refine Touch.step ?_ (State.sendFlit_touch ..) (by decide +kernel)
            refine Touch.step ?_ (State.modPort_touch ..) (by decide +kernel)
            exact Touch.refl _ _
          · refine Touch.step ?_ (State.sendFlit_touch ..) (by decide +kernel)
            exact Touch.refl _ _
        · refine Touch.step ?_ (State.sendTraffic_touch ..) (by decide +kernel)
          exact Touch.refl _ _

theorem State.flitTransmit_touch (s : State) (a1 : ℕ) (a2 : ℕ) :
    Touch 0x318000000000c000120000000000000000000000000000000000000000000000000000000000000000000000240000000000000000000000000000000000c001fffffe00000be3900 s (State.flitTransmit s a1 a2) := by
  unfold State.flitTransmit
  refine Touch.ite ?_ ?_
  · exact Touch.refl _ _
  · refine Touch.ite ?_ ?_
    · refine Touch.step ?_ (State.wake_touch ..) (by decide +kernel)
      exact Touch.refl _ _
    · split
      · refine Touch.step ?_ (State.modPort_touch ..) (by decide +kernel)
        refine Touch.step ?_ (State.sendFlit_touch ..) (by decide +kernel)
        exact Touch.refl _ _
      · refine Touch.step ?_ (State.sendFlit_touch ..) (by decide +kernel)
        exact Touch.refl _ _
      · refine Touch.step ?_ (State.sendFlit_touch ..) (by decide +kernel)
        exact Touch.refl _ _
      · refine Touch.step ?_ (State.flitUp_touch ..) (by decide +kernel)
        refine Touch.step ?_ (State.twinFeed_touch ..) (by decide +kernel)
        exact Touch.refl _ _
      · refine Touch.step ?_ (State.flitUp_touch ..) (by decide +kernel)
        refine Touch.step ?_ (State.twinFeed_touch ..) (by decide +kernel)
        exact Touch.refl _ _
      · exact Touch.refl _ _

theorem execFlitTransmit_touch (a0 : ℕ) (a1 : ℕ) (s : State) :
    ∃ t, execFlitTransmit a0 a1 s = .next t ∧ Touch 0x318000000000c000120000000000000000000000000000000000000000000000000000000000000000000000240000000000000000000000000000000000c001fffffe00000be3900 s t := by
  refine ⟨_, rfl, ?_⟩
  refine Touch.step ?_ (State.flitTransmit_touch ..) (by decide +kernel)
  exact Touch.refl _ _

theorem State.discardFlit_touch (s : State) (a1 : ℕ) :
    Touch 0x20000 s (State.discardFlit s a1) := by
  unfold State.discardFlit
  refine Touch.ite ?_ ?_
  · exact Touch.refl _ _
  · refine Touch.step ?_ (State.modPort_touch ..) (by decide +kernel)
    exact Touch.refl _ _

theorem State.badFlit_touch (s : State) (a1 : ℕ) :
    Touch 0x49ff8000000000000000000000000000000003f00000100000000003000000000000000000000000000000000000000000000000000000000000000000000000000000000000000000000000000120580 s (State.badFlit s a1) := by
  unfold State.badFlit
  extract_lets -merge -useContext +onlyGivenNames v0
  refine Touch.cut v0 ?_ (fun h1 => ?_)
  · unfold v0
    refine Touch.step ?_ (State.modPort_touch ..) (by decide +kernel)
    exact Touch.refl _ _
  clear_value v0
  refine Touch.ite ?_ ?_
  · refine Touch.step ?_ (State.discardFlit_touch ..) (by decide +kernel)
    refine Touch.step ?_ (State.fabViolation_touch ..) (by decide +kernel)
    exact h1
  · exact h1

theorem State.takeAck_touch (s : State) (a1 : ℕ) (a2 : ℕ) :
    Touch 0x49ff8000000000000000000000000000000003f10000100000000003000000000000000000000000000000000000000000000000000000000000000000000000000000000000000000000000000120580 s (State.takeAck s a1 a2) := by
  unfold State.takeAck
  extract_lets -merge -useContext +onlyGivenNames v0
  clear_value v0
  refine Touch.ite ?_ ?_
  · exact Touch.refl _ _
  · refine Touch.ite ?_ ?_
    · extract_lets -merge -useContext +onlyGivenNames v1
      clear_value v1
      extract_lets -merge -useContext +onlyGivenNames v2
      clear_value v2
      refine Touch.step ?_ (State.put_touch ..) (by decide +kernel)
      refine Touch.step ?_ (State.modPort_touch ..) (by decide +kernel)
      exact Touch.refl _ _
    · refine Touch.ite ?_ ?_
      · exact Touch.refl _ _
      · refine Touch.step ?_ (State.fabViolation_touch ..) (by decide +kernel)
        exact Touch.refl _ _

theorem State.takeCredits_touch (s : State) (a1 : ℕ) (a2 : ℕ) (a3 : ℕ) :
    Touch 0x49ff8000000000000000000000000000000003f00000100000000003000000000000000000000000000000000000000000000000000000000000000000000000000000000000000000000000000120580 s (State.takeCredits s a1 a2 a3) := by
  unfold State.takeCredits
  refine Touch.ite ?_ ?_
  · exact Touch.refl _ _
  · extract_lets -merge -useContext +onlyGivenNames v0
    clear_value v0
    extract_lets -merge -useContext +onlyGivenNames v1
    clear_value v1
    extract_lets -merge -useContext +onlyGivenNames v2
    clear_value v2
    extract_lets -merge -useContext +onlyGivenNames v3
    refine Touch.cut v3 ?_ (fun h4 => ?_)
    · unfold v3
      refine Touch.step ?_ (State.modPort_touch ..) (by decide +kernel)
      exact Touch.refl _ _
    clear_value v3
    refine Touch.ite ?_ ?_
    · refine Touch.step ?_ (State.fabViolation_touch ..) (by decide +kernel)
      exact h4
    · exact h4

theorem State.takeBody_touch (s : State) (a1 : ℕ) (a2 : ℕ) (a3 : ℕ) (a4 : Bool) (a5 : List Byte) :
    Touch 0x49ff8000000000000000000012000001400003f01800100000000003000000000000060000000000000000000000000000000000240000000000000000000000000000000000000000000000000163580 s (State.takeBody s a1 a2 a3 a4 a5) := by
  unfold State.takeBody
  extract_lets -merge -useContext +onlyGivenNames v0
  clear_value v0
  extract_lets -merge -useContext +onlyGivenNames v1
  clear_value v1
  extract_lets -merge -useContext +onlyGivenNames v2
  refine Touch.cut v2 ?_ (fun h3 => ?_)
  · unfold v2
    refine Touch.ite ?_ ?_
    · exact Touch.refl _ _
    · refine Touch.step ?_ (State.modPort_touch ..) (by decide +kernel)
      exact Touch.refl _ _
  clear_value v2
  extract_lets -merge -useContext +onlyGivenNames v4
  clear_value v4
  refine Touch.ite ?_ ?_
  · exact h3
  · extract_lets -merge -useContext +onlyGivenNames v5
    refine Touch.cut v5 ?_ (fun h6 => ?_)
    · unfold v5
      refine Touch.step ?_ (State.modPort_touch ..) (by decide +kernel)
      exact h3
    clear_value v5
    refine Touch.step ?_ (State.parseStream_touch ..) (by decide +kernel)
    exact h6

theorem State.takeStream_touch (s : State) (a1 : ℕ) (a2 : List Byte) :
    Touch 0x49ff8000000000000000000012000001400003f01800100000000003000000000000060000000000000000000000000000000000240000000000000000000000000000000000000000000000000163580 s (State.takeStream s a1 a2) := by
  unfold State.takeStream
  extract_lets -merge -useContext +onlyGivenNames v0
  clear_value v0
  extract_lets -merge -useContext +onlyGivenNames v1
  clear_value v1
  extract_lets -merge -useContext +onlyGivenNames v2
  clear_value v2
  refine Touch.ite ?_ ?_
  · exact Touch.refl _ _
  · refine Touch.ite ?_ ?_
    · refine Touch.step ?_ (State.fabViolation_touch ..) (by decide +kernel)
      exact Touch.refl _ _
    · refine Touch.ite ?_ ?_
      · refine Touch.step ?_ (State.modPort_touch ..) (by decide +kernel)
        refine Touch.step ?_ (State.takeBody_touch ..) (by decide +kernel)
        exact Touch.refl _ _
      · refine Touch.ite ?_ ?_
        · refine Touch.step ?_ (State.discardFlit_touch ..) (by decide +kernel)
          exact Touch.refl _ _
        · refine Touch.step ?_ (State.takeBody_touch ..) (by decide +kernel)
          refine Touch.step ?_ (State.modPort_touch ..) (by decide +kernel)
          exact Touch.refl _ _

theorem State.flitReceive_touch (s : State) (a1 : ℕ) (a2 : Option ℕ) (a3 : List Byte) :
    Touch 0x49ff8000000000000000000012000001400003f119f8100000000003000000000000060000000000000000000000000000000000240000000000000000000000000000000000c001fffffe000001e3580 s (State.flitReceive s a1 a2 a3) := by
  unfold State.flitReceive
  extract_lets -merge -useContext +onlyGivenNames v0
  clear_value v0
  refine Touch.ite ?_ ?_
  · exact Touch.refl _ _
  · refine Touch.ite ?_ ?_
    · refine Touch.step ?_ (State.wake_touch ..) (by decide +kernel)
      exact Touch.refl _ _
    · split
      · extract_lets -merge -useContext +onlyGivenNames v1
        refine Touch.cut v1 ?_ (fun h2 => ?_)
        · unfold v1
          refine Touch.step ?_ (State.modPort_touch ..) (by decide +kernel)
          refine Touch.step ?_ (State.bump_touch ..) (by decide +kernel)
          exact Touch.refl _ _
        clear_value v1
        refine Touch.ite ?_ ?_
        · refine Touch.step ?_ (State.setPortState_touch ..) (by decide +kernel)
          refine Touch.step ?_ (State.modPort_touch ..) (by decide +kernel)
          exact h2
        · refine Touch.step ?_ (State.badFlit_touch ..) (by decide +kernel)
          exact h2
      · extract_lets -merge -useContext +onlyGivenNames v3
        refine Touch.cut v3 ?_ (fun h4 => ?_)
        · unfold v3
          refine Touch.step ?_ (State.modPort_touch ..) (by decide +kernel)
          refine Touch.ite ?_ ?_
          · exact Touch.refl _ _
          · refine Touch.step ?_ (State.bump_touch ..) (by decide +kernel)
            exact Touch.refl _ _
        clear_value v3
        extract_lets -merge -useContext +onlyGivenNames v5
        refine Touch.cut v5 ?_ (fun h6 => ?_)
        · unfold v5
          refine Touch.ite ?_ ?_
          · refine Touch.step ?_ (State.modTwin_touch ..) (by decide +kernel)
            exact h4
          · exact h4
        clear_value v5
        refine Touch.ite ?_ ?_
        · refine Touch.step ?_ (State.badFlit_touch ..) (by decide +kernel)
          refine Touch.step ?_ (State.bump_touch ..) (by decide +kernel)
          exact h6
        · refine Touch.ite ?_ ?_
          · exact h6
          · extract_lets -merge -useContext +onlyGivenNames v7
            clear_value v7
            extract_lets -merge -useContext +onlyGivenNames v8
            refine Touch.cut v8 ?_ (fun h9 => ?_)
            · unfold v8
              refine Touch.step ?_ (State.takeCredits_touch ..) (by decide +kernel)
              refine Touch.step ?_ (State.takeAck_touch ..) (by decide +kernel)
              exact h6
            clear_value v8
            split
            · refine Touch.step ?_ (State.takeStream_touch ..) (by decide +kernel)
              exact h9
            · refine Touch.step ?_ (State.takeStream_touch ..) (by decide +kernel)
              exact h9
            · exact h9

theorem execFlitReceive_touch (a0 : ℕ) (a1 : Option ℕ) (a2 : List Byte) (s : State) :
    ∃ t, execFlitReceive a0 a1 a2 s = .next t ∧ Touch 0x49ff8000000000000000000012000001400003f119f8100000000003000000000000060000000000000000000000000000000000240000000000000000000000000000000000c001fffffe000001e3580 s t := by
  refine ⟨_, rfl, ?_⟩
  refine Touch.step ?_ (State.flitReceive_touch ..) (by decide +kernel)
  exact Touch.refl _ _

theorem State.portComesUp_touch (s : State) (a1 : ℕ) :
    Touch 0x49ff80000000000000000000800000000000031000011000000000030000000000000800000000000000000000000000000000000000000000000000000000000000000000000000000000000001a0580 s (State.portComesUp s a1) := by
  unfold State.portComesUp
  refine Touch.ite ?_ ?_
  · refine Touch.step ?_ (State.enterPortQuarantine_touch ..) (by decide +kernel)
    refine Touch.step ?_ (State.put_touch ..) (by decide +kernel)
    exact Touch.refl _ _
  · extract_lets -merge -useContext +onlyGivenNames v0
    refine Touch.cut v0 ?_ (fun h1 => ?_)
    · unfold v0
      refine Touch.step ?_ (State.modPort_touch ..) (by decide +kernel)
      exact Touch.refl _ _
    clear_value v0
    extract_lets -merge -useContext +onlyGivenNames v2
    refine Touch.cut v2 ?_ (fun h3 => ?_)
    · unfold v2
      refine Touch.step ?_ (State.setPortState_touch ..) (by decide +kernel)
      refine Touch.step ?_ (State.put_touch ..) (by decide +kernel)
      exact h1
    clear_value v2
    refine Touch.ite ?_ ?_
    · refine Touch.step ?_ (State.twinUp_touch ..) (by decide +kernel)
      exact h3
    · exact h3

theorem State.trainAdvance_touch (s : State) (a1 : ℕ) (a2 : Bool) (a3 : ℕ) :
    Touch 0x49ff8000000000000000000080000000000003102001f00000000003000000000000080000000000000000000000000000000000000000000000000000000000000000000000c001fffffe000001a0580 s (State.trainAdvance s a1 a2 a3) := by
  unfold State.trainAdvance
  extract_lets -merge -useContext +onlyGivenNames v0
  clear_value v0
  refine Touch.ite ?_ ?_
  · exact Touch.refl _ _
  · refine Touch.ite ?_ ?_
    · refine Touch.step ?_ (State.wake_touch ..) (by decide +kernel)
      exact Touch.refl _ _
    · split
      · refine Touch.step ?_ (State.setPortState_touch ..) (by decide +kernel)
        exact Touch.refl _ _
      · refine Touch.step ?_ (State.setPortState_touch ..) (by decide +kernel)
        exact Touch.refl _ _
      · refine Touch.step ?_ (State.setPortState_touch ..) (by decide +kernel)
        refine Touch.step ?_ (State.modPort_touch ..) (by decide +kernel)
        refine Touch.step ?_ (State.put_touch ..) (by decide +kernel)
        refine Touch.step ?_ (State.put_touch ..) (by decide +kernel)
        refine Touch.step ?_ (State.put_touch ..) (by decide +kernel)
        exact Touch.refl _ _
      · refine Touch.ite ?_ ?_
        · exact Touch.refl _ _
        · refine Touch.step ?_ (State.setPortState_touch ..) (by decide +kernel)
          refine Touch.step ?_ (State.put_touch ..) (by decide +kernel)
          exact Touch.refl _ _
      · refine Touch.ite ?_ ?_
        · refine Touch.step ?_ (State.setPortState_touch ..) (by decide +kernel)
          exact Touch.refl _ _
        · exact Touch.refl _ _
      · refine Touch.ite ?_ ?_
        · refine Touch.step ?_ (State.portComesUp_touch ..) (by decide +kernel)
          exact Touch.refl _ _
        · exact Touch.refl _ _
      · exact Touch.refl _ _

theorem execFabTrainAdvance_touch (a0 : ℕ) (a1 : Bool) (a2 : ℕ) (s : State) :
    ∃ t, execFabTrainAdvance a0 a1 a2 s = .next t ∧ Touch 0x49ff8000000000000000000080000000000003102001f00000000003000000000000080000000000000000000000000000000000000000000000000000000000000000000000c001fffffe000001a0580 s t := by
  refine ⟨_, rfl, ?_⟩
  refine Touch.step ?_ (State.trainAdvance_touch ..) (by decide +kernel)
  exact Touch.refl _ _

theorem execFabTrainTimeout_touch (a0 : ℕ) (s : State) :
    ∃ t, execFabTrainTimeout a0 s = .next t ∧ Touch 0x49ff8000000000000000000000000000000000000000100000000003000000000000000000000000000000000000000000000000000000000000000000000000000000000000000000000000000120580 s t := by
  refine ⟨_, rfl, ?_⟩
  refine Touch.ite ?_ ?_
  · refine Touch.step ?_ (State.setPortState_touch ..) (by decide +kernel)
    refine Touch.step ?_ (State.modPort_touch ..) (by decide +kernel)
    exact Touch.refl _ _
  · exact Touch.refl _ _

theorem State.resendChunk_touch (s : State) (a1 : ℕ) (a2 : ℕ) (a3 : Coll) (a4 : TxChunk) (a5 : Bool) :
    Touch 0x900000000000000000000000000000000000000000000000000000000000000000000000000000024000000000000000000000000000000000000000000000000017f180 s (State.resendChunk s a1 a2 a3 a4 a5) := by
  unfold State.resendChunk
  refine Touch.ite ?_ ?_
  · refine Touch.step ?_ (State.collAbort_touch ..) (by decide +kernel)
    exact Touch.refl _ _
  · extract_lets -merge -useContext +onlyGivenNames v0
    clear_value v0
    extract_lets -merge -useContext +onlyGivenNames v1
    refine Touch.cut v1 ?_ (fun h2 => ?_)
    · unfold v1
      refine Touch.step ?_ (State.modFab_touch ..) (by decide +kernel)
      exact Touch.refl _ _
    clear_value v1
    refine Touch.step ?_ (State.bump_touch ..) (by decide +kernel)
    refine Touch.step ?_ (State.modTx_touch ..) (by decide +kernel)
    exact h2

theorem State.collPortLost_touch (s : State) (a1 : ℕ) :
    Touch 0x900000000000000000000000000000000000000000000000000000000000000000000000000000024000000000000000000000000000000000000000000000000017f180 s (State.collPortLost s a1) := by
  unfold State.collPortLost
  refine Touch.foldl ?_ (fun y0 y1 h2 => ?_)
  · exact Touch.refl _ _
  · refine Touch.foldl ?_ (fun y3 y4 h5 => ?_)
    · exact h2
    · extract_lets -merge -useContext +onlyGivenNames v6
      clear_value v6
      refine Touch.ite ?_ ?_
      · exact h5
      · refine Touch.ite ?_ ?_
        · refine Touch.step ?_ (State.collAbort_touch ..) (by decide +kernel)
          exact h5
        · extract_lets -merge -useContext +onlyGivenNames v7
          clear_value v7
          refine Touch.ite ?_ ?_
          · refine Touch.foldl ?_ (fun y8 y9 h10 => ?_)
            · exact h5
            · refine Touch.step ?_ (State.resendChunk_touch ..) (by decide +kernel)
              exact h10
          · exact h5

theorem State.portLost_touch (s : State) (a1 : ℕ) :
    Touch 0x180000049003f90100000000000000000006000000000000000000000f101803ffc00200021f00300000000240000000000000000000000000000000000c001fffffe00000bff9a0 s (State.portLost s a1) := by
  unfold State.portLost
  refine Touch.step ?_ (State.settleAll_touch ..) (by decide +kernel)
  refine Touch.step ?_ (State.collPortLost_touch ..) (by decide +kernel)
  refine Touch.step ?_ (State.failover_touch ..) (by decide +kernel)
  exact Touch.refl _ _

theorem State.linkDown_touch (s : State) (a1 : ℕ) (a2 : ℕ) :
    Touch 0x49ff8000000000000180000049003f901000000e0000100000006003000000000000000000f101803ffc00200021f00300000000240000000000000000000000000000000000c001fffffe00000bffda8 s (State.linkDown s a1 a2) := by
  unfold State.linkDown
  extract_lets -merge -useContext +onlyGivenNames v0
  clear_value v0
  refine Touch.ite ?_ ?_
  · exact Touch.refl _ _
  · extract_lets -merge -useContext +onlyGivenNames v1
    refine Touch.cut v1 ?_ (fun h2 => ?_)
    · unfold v1
      refine Touch.step ?_ (State.put_touch ..) (by decide +kernel)
      refine Touch.step ?_ (State.bump_touch ..) (by decide +kernel)
      exact Touch.refl _ _
    clear_value v1
    extract_lets -merge -useContext +onlyGivenNames v3
    clear_value v3
    extract_lets -merge -useContext +onlyGivenNames v4
    refine Touch.cut v4 ?_ (fun h5 => ?_)
    · unfold v4
      refine Touch.step ?_ (State.raise_touch ..) (by decide +kernel)
      refine Touch.step ?_ (State.fabPortReset_touch ..) (by decide +kernel)
      exact h2
    clear_value v4
    refine Touch.step ?_ (State.portLost_touch ..) (by decide +kernel)
    exact h5

theorem execLinkDownDeclare_touch (a0 : ℕ) (a1 : ℕ) (s : State) :
    ∃ t, execLinkDownDeclare a0 a1 s = .next t ∧ Touch 0x49ff8000000000000180000049003f901000000e0000100000006003000000000000000000f101803ffc00200021f00300000000240000000000000000000000000000000000c001fffffe00000bffda8 s t := by
  refine ⟨_, rfl, ?_⟩
  refine Touch.step ?_ (State.linkDown_touch ..) (by decide +kernel)
  exact Touch.refl _ _

theorem State.rstFabPorts_touch (s : State) (a1 : ℕ) :
    Touch 0x49ff8000000000000180000049003f90100000000000100000006003000000000000000000f101803ffc00200021f00300000000240000000000000000000000000000080000c001fffffe00000bffda8 s (State.rstFabPorts s a1) := by
  unfold State.rstFabPorts
  refine Touch.foldl ?_ (fun y0 y1 h2 => ?_)
  · exact Touch.refl _ _
  · refine Touch.ite ?_ ?_
    · refine Touch.step ?_ (State.portLost_touch ..) (by decide +kernel)
      refine Touch.step ?_ (State.fabPortReset_touch ..) (by decide +kernel)
      refine Touch.step ?_ (State.setBit_touch ..) (by decide +kernel)
      exact h2
    · exact h2

theorem execRstReqFabPort_touch (a0 : ℕ) (s : State) :
    ∃ t, execRstReqFabPort a0 s = .next t ∧ Touch 0x49ff8000000000000180000049003f90100000000000100000006003000000000000000000f101803ffc00200021f00300000000240000000000000000000000000000080000c001fffffe00000bffda8 s t := by
  refine ⟨_, rfl, ?_⟩
  refine Touch.step ?_ (State.rstFabPorts_touch ..) (by decide +kernel)
  exact Touch.refl _ _

theorem State.portResetDone_touch (s : State) (a1 : ℕ) :
    Touch 0x49ff8000000000000000000000000000000000112006f0000000000300000000000000000000000000000000000000000000000000000000000000000000000000000008c000000000000000000120588 s (State.portResetDone s a1) := by
  unfold State.portResetDone
  refine Touch.ite ?_ ?_
  · exact Touch.refl _ _
  · extract_lets -merge -useContext +onlyGivenNames v0
    clear_value v0
    extract_lets -merge -useContext +onlyGivenNames v1
    refine Touch.cut v1 ?_ (fun h2 => ?_)
    · unfold v1
      simp only [List.foldl_cons, List.foldl_nil]
      refine Touch.step ?_ (State.put_touch ..) (by decide +kernel)
      refine Touch.step ?_ (State.put_touch ..) (by decide +kernel)
      refine Touch.step ?_ (State.put_touch ..) (by decide +kernel)
      refine Touch.step ?_ (State.put_touch ..) (by decide +kernel)
      refine Touch.step ?_ (State.put_touch ..) (by decide +kernel)
      refine Touch.step ?_ (State.put_touch ..) (by decide +kernel)
      refine Touch.step ?_ (State.put_touch ..) (by decide +kernel)
      refine Touch.step ?_ (State.put_touch ..) (by decide +kernel)
      exact Touch.refl _ _
    clear_value v1
    extract_lets -merge -useContext +onlyGivenNames v3
    refine Touch.cut v3 ?_ (fun h4 => ?_)
    · unfold v3
      refine Touch.step ?_ (State.modPilot_touch ..) (by decide +kernel)
      refine Touch.step ?_ (State.modPort_touch ..) (by decide +kernel)
      exact h2
    clear_value v3
    extract_lets -merge -useContext +onlyGivenNames v5
    refine Touch.cut v5 ?_ (fun h6 => ?_)
    · unfold v5
      refine Touch.step ?_ (State.put_touch ..) (by decide +kernel)
      refine Touch.step ?_ (State.put_touch ..) (by decide +kernel)
      refine Touch.step ?_ (State.clrBit_touch ..) (by decide +kernel)
      exact h4
    clear_value v5
    refine Touch.step ?_ (State.trainStart_touch ..) (by decide +kernel)
    refine Touch.step ?_ (State.ember'_touch ..) (by decide +kernel)
    exact h6

theorem execFabricPortResetDone_touch (a0 : ℕ) (s : State) :
    ∃ t, execFabricPortResetDone a0 s = .next t ∧ Touch 0x49ff8000000000000000000000000000000000112006f0000000000300000000000000000000000000000000000000000000000000000000000000000000000000000008c000000000000000000120588 s t := by
  refine ⟨_, rfl, ?_⟩
  refine Touch.step ?_ (State.portResetDone_touch ..) (by decide +kernel)
  exact Touch.refl _ _

theorem State.hailIn_touch (s : State) (a1 : ℕ) (a2 : List Byte) :
    Touch 0x49ff8000000000000180000049003f90100003100006100000006003000000000000000000f101803ffc00200021f00300000000240000000000000000000000000000000000c001fffffe00000bffda8 s (State.hailIn s a1 a2) := by
  unfold State.hailIn
  extract_lets -merge -useContext +onlyGivenNames v0
  clear_value v0
  refine Touch.ite ?_ ?_
  · exact Touch.refl _ _
  · extract_lets -merge -useContext +onlyGivenNames v1
    clear_value v1
    extract_lets -merge -useContext +onlyGivenNames v2
    refine Touch.cut v2 ?_ (fun h3 => ?_)
    · unfold v2
      refine Touch.step ?_ (State.put_touch ..) (by decide +kernel)
      refine Touch.step ?_ (State.put_touch ..) (by decide +kernel)
      exact Touch.refl _ _
    clear_value v2
    extract_lets -merge -useContext +onlyGivenNames v4
    refine Touch.cut v4 ?_ (fun h5 => ?_)
    · unfold v4
      refine Touch.step ?_ (State.modPort_touch ..) (by decide +kernel)
      exact h3
    clear_value v4
    refine Touch.ite ?_ ?_
    · exact h5
    · split
      · refine Touch.ite ?_ ?_
        · refine Touch.step ?_ (State.fabPortReset_touch ..) (by decide +kernel)
          exact h5
        · exact h5
      · extract_lets -merge -useContext +onlyGivenNames v6
        clear_value v6
        extract_lets -merge -useContext +onlyGivenNames v7
        refine Touch.cut v7 ?_ (fun h8 => ?_)
        · unfold v7
          refine Touch.foldl ?_ (fun y9 y10 h11 => ?_)
          · exact h5
          · refine Touch.step ?_ (State.enterPortQuarantine_touch ..) (by decide +kernel)
            exact h11
        clear_value v7
        refine Touch.ite ?_ ?_
        · refine Touch.step ?_ (State.portLost_touch ..) (by decide +kernel)
          exact h8
        · exact h8

theorem execFabHail_touch (a0 : ℕ) (a1 : List Byte) (s : State) :
    ∃ t, execFabHail a0 a1 s = .next t ∧ Touch 0x49ff8000000000000180000049003f90100003100006100000006003000000000000000000f101803ffc00200021f00300000000240000000000000000000000000000000000c001fffffe00000bffda8 s t := by
  refine ⟨_, rfl, ?_⟩
  refine Touch.step ?_ (State.hailIn_touch ..) (by decide +kernel)
  exact Touch.refl _ _

theorem State.setSync_touch (s : State) (a1 : ℕ) :
    Touch 0xe000008000000000000000000000000000000000000000000000000000000000000000000000000000000000000000000000000000000000000000000000000100 s (State.setSync s a1) := by
  unfold State.setSync
  refine Touch.step ?_ (State.fenceSettle_touch ..) (by decide +kernel)
  refine Touch.step ?_ (State.put_touch ..) (by decide +kernel)
  exact Touch.refl _ _

theorem State.stepTimer_touch (s : State) (a1 : ℕ) (a2 : ℕ) :
    Touch 0x84000000000000000000000000000000000000000000000000000000000000000000000000000000000000000000000000000000000000000000000020000 s (State.stepTimer s a1 a2) := by
  unfold State.stepTimer
  extract_lets -merge -useContext +onlyGivenNames v0
  clear_value v0
  refine Touch.step ?_ (State.modFab_touch ..) (by decide +kernel)
  refine Touch.step ?_ (State.put_touch ..) (by decide +kernel)
  refine Touch.step ?_ (State.put_touch ..) (by decide +kernel)
  exact Touch.refl _ _

theorem State.syncIn_touch (s : State) (a1 : ℕ) (a2 : ℕ) (a3 : List Byte) :
    Touch 0xe0000fc000000000000000000000000000000000000000000000000000000000000000000000000000000000000000000000000000000000000000000000220100 s (State.syncIn s a1 a2 a3) := by
  unfold State.syncIn
  extract_lets -merge -useContext +onlyGivenNames v0
  clear_value v0
  refine Touch.ite ?_ ?_
  · exact Touch.refl _ _
  · extract_lets -merge -useContext +onlyGivenNames v1
    refine Touch.cut v1 ?_ (fun h2 => ?_)
    · unfold v1
      refine Touch.step ?_ (State.modPort_touch ..) (by decide +kernel)
      exact Touch.refl _ _
    clear_value v1
    refine Touch.ite ?_ ?_
    · exact h2
    · extract_lets -merge -useContext +onlyGivenNames v3
      clear_value v3
      extract_lets -merge -useContext +onlyGivenNames v4
      clear_value v4
      extract_lets -merge -useContext +onlyGivenNames v5
      clear_value v5
      extract_lets -merge -useContext +onlyGivenNames v6
      clear_value v6
      extract_lets -merge -useContext +onlyGivenNames v7
      clear_value v7
      extract_lets -merge -useContext +onlyGivenNames v8
      refine Touch.cut v8 ?_ (fun h9 => ?_)
      · unfold v8
        refine Touch.step ?_ (State.put_touch ..) (by decide +kernel)
        refine Touch.step ?_ (State.put_touch ..) (by decide +kernel)
        exact h2
      clear_value v8
      extract_lets -merge -useContext +onlyGivenNames v10
      refine Touch.cut v10.2 ?_ (fun h11 => ?_)
      · unfold v10
        refine Touch.step ?_ (State.draw_touch ..) (by decide +kernel)
        exact h9
      clear_value v10
      extract_lets -merge -useContext +onlyGivenNames v12
      refine Touch.cut v12 ?_ (fun h13 => ?_)
      · unfold v12
        refine Touch.ite ?_ ?_
        · refine Touch.step ?_ (State.put_touch ..) (by decide +kernel)
          exact h9
        · refine Touch.step ?_ (State.put_touch ..) (by decide +kernel)
          exact h11
      clear_value v12
      extract_lets -merge -useContext +onlyGivenNames v14
      split
      · unfold v14
        refine Touch.step ?_ (State.stepTimer_touch ..) (by decide +kernel)
        refine Touch.step ?_ (State.setSync_touch ..) (by decide +kernel)
        refine Touch.step ?_ (State.modFab_touch ..) (by decide +kernel)
        exact h13
      · refine Touch.ite ?_ ?_
        · unfold v14
          refine Touch.step ?_ (State.stepTimer_touch ..) (by decide +kernel)
          refine Touch.step ?_ (State.setSync_touch ..) (by decide +kernel)
          refine Touch.step ?_ (State.modFab_touch ..) (by decide +kernel)
          exact h13
        · refine Touch.ite ?_ ?_
          · refine Touch.step ?_ (State.modFab_touch ..) (by decide +kernel)
            exact h13
          · refine Touch.ite ?_ ?_
            · refine Touch.step ?_ (State.setSync_touch ..) (by decide +kernel)
              refine Touch.step ?_ (State.modFab_touch ..) (by decide +kernel)
              exact h13
            · refine Touch.step ?_ (State.modFab_touch ..) (by decide +kernel)
              exact h13
      · refine Touch.ite ?_ ?_
        · unfold v14
          refine Touch.step ?_ (State.stepTimer_touch ..) (by decide +kernel)
          refine Touch.step ?_ (State.setSync_touch ..) (by decide +kernel)
          refine Touch.step ?_ (State.modFab_touch ..) (by decide +kernel)
          exact h13
        · exact h13

theorem execFabSync_touch (a0 : ℕ) (a1 : ℕ) (a2 : List Byte) (s : State) :
    ∃ t, execFabSync a0 a1 a2 s = .next t ∧ Touch 0xe0000fc000000000000000000000000000000000000000000000000000000000000000000000000000000000000000000000000000000000000000000000220100 s t := by
  refine ⟨_, rfl, ?_⟩
  refine Touch.step ?_ (State.syncIn_touch ..) (by decide +kernel)
  exact Touch.refl _ _

theorem execSyncLost_touch (s : State) :
    ∃ t, execSyncLost s = .next t ∧ Touch 0xe000308000000000000000000000000000000000000000000000000000000000000000000000000000000000000000000000000000000000000000000000020100 s t := by
  refine ⟨_, rfl, ?_⟩
  refine Touch.ite ?_ ?_
  · extract_lets -merge -useContext +onlyGivenNames v0
    refine Touch.cut v0 ?_ (fun h1 => ?_)
    · unfold v0
      refine Touch.foldl ?_ (fun y2 y3 h4 => ?_)
      · exact Touch.refl _ _
      · refine Touch.ite ?_ ?_
        · refine Touch.step ?_ (State.modPort_touch ..) (by decide +kernel)
          exact h4
        · exact h4
    clear_value v0
    refine Touch.step ?_ (State.setSync_touch ..) (by decide +kernel)
    refine Touch.step ?_ (State.raise_touch ..) (by decide +kernel)
    refine Touch.step ?_ (State.bump_touch ..) (by decide +kernel)
    exact h1
  · exact Touch.refl _ _

theorem execFabEcho_touch (a0 : ℕ) (a1 : ℕ) (a2 : ℕ) (a3 : List Byte) (s : State) :
    ∃ t, execFabEcho a0 a1 a2 a3 s = .next t ∧ Touch 0x20000 s t := by
  refine ⟨_, rfl, ?_⟩
  extract_lets -merge -useContext +onlyGivenNames v0
  clear_value v0
  extract_lets -merge -useContext +onlyGivenNames v1
  clear_value v1
  refine Touch.ite ?_ ?_
  · exact Touch.refl _ _
  · refine Touch.ite ?_ ?_
    · refine Touch.ite ?_ ?_
      · refine Touch.step ?_ (State.modPort_touch ..) (by decide +kernel)
        exact Touch.refl _ _
      · exact Touch.refl _ _
    · refine Touch.step ?_ (State.modPort_touch ..) (by decide +kernel)
      exact Touch.refl _ _

theorem execFabCredit_touch (a0 : ℕ) (a1 : List Byte) (s : State) :
    ∃ t, execFabCredit a0 a1 s = .next t ∧ Touch 0x20000 s t := by
  refine ⟨_, rfl, ?_⟩
  refine Touch.ite ?_ ?_
  · exact Touch.refl _ _
  · extract_lets -merge -useContext +onlyGivenNames v0
    clear_value v0
    refine Touch.step ?_ (State.modPort_touch ..) (by decide +kernel)
    exact Touch.refl _ _

theorem State.startRetry_touch (s : State) (a1 : ℕ) (a2 : ℕ) :
    Touch 0xc000000000000000000000000000000000000000000000000000000000000000000000000000000000000000000000000000000000000000000020100 s (State.startRetry s a1 a2) := by
  unfold State.startRetry
  extract_lets -merge -useContext +onlyGivenNames v0
  clear_value v0
  refine Touch.step ?_ (State.bump_touch ..) (by decide +kernel)
  refine Touch.step ?_ (State.modPort_touch ..) (by decide +kernel)
  exact Touch.refl _ _

theorem execFabReplay_touch (a0 : ℕ) (a1 : List Byte) (s : State) :
    ∃ t, execFabReplay a0 a1 s = .next t ∧ Touch 0x49ff8000000000000000000000000000000003f0c000100000000003000000000000000000000000000000000000000000000000000000000000000000000000000000000000000000000000000120580 s t := by
  refine ⟨_, rfl, ?_⟩
  extract_lets -merge -useContext +onlyGivenNames v0
  clear_value v0
  refine Touch.ite ?_ ?_
  · exact Touch.refl _ _
  · refine Touch.ite ?_ ?_
    · refine Touch.step ?_ (State.startRetry_touch ..) (by decide +kernel)
      exact Touch.refl _ _
    · refine Touch.ite ?_ ?_
      · exact Touch.refl _ _
      · refine Touch.step ?_ (State.fabViolation_touch ..) (by decide +kernel)
        exact Touch.refl _ _

theorem execReplayTimeout_touch (a0 : ℕ) (s : State) :
    ∃ t, execReplayTimeout a0 s = .next t ∧ Touch 0xc000000000000000000000000000000000000000000000000000000000000000000000000000000000000000000000000000000000000000000020100 s t := by
  refine ⟨_, rfl, ?_⟩
  split
  · refine Touch.ite ?_ ?_
    · refine Touch.step ?_ (State.startRetry_touch ..) (by decide +kernel)
      exact Touch.refl _ _
    · exact Touch.refl _ _
  · exact Touch.refl _ _

theorem execRetryExhausted_touch (a0 : ℕ) (s : State) :
    ∃ t, execRetryExhausted a0 s = .next t ∧ Touch 0x10000000000000000000000000000000000000000000000000000000000000000000000000000000000000000000000000000000000000000000020000 s t := by
  refine ⟨_, rfl, ?_⟩
  refine Touch.ite ?_ ?_
  · refine Touch.step ?_ (State.put_touch ..) (by decide +kernel)
    refine Touch.step ?_ (State.modPort_touch ..) (by decide +kernel)
    exact Touch.refl _ _
  · exact Touch.refl _ _

theorem execTxHeld_touch (a0 : ℕ) (s : State) :
    ∃ t, execTxHeld a0 s = .next t ∧ Touch 0x30000000000000600000000000000000000000000000000000000000000000000000000000000000000000000000000000000000000000000000000000000000020100 s t := by
  refine ⟨_, rfl, ?_⟩
  split
  · refine Touch.ite ?_ ?_
    · exact Touch.refl _ _
    · extract_lets -merge -useContext +onlyGivenNames v0
      refine Touch.cut v0 ?_ (fun h1 => ?_)
      · unfold v0
        refine Touch.step ?_ (State.modFab_touch ..) (by decide +kernel)
        exact Touch.refl _ _
      clear_value v0
      extract_lets -merge -useContext +onlyGivenNames v2
      refine Touch.cut v2 ?_ (fun h3 => ?_)
      · unfold v2
        split
        · refine Touch.step ?_ (State.bump_touch ..) (by decide +kernel)
          exact h1
        · exact h1
      clear_value v2
      refine Touch.step ?_ (State.bump_touch ..) (by decide +kernel)
      exact h3
  · exact Touch.refl _ _

theorem State.unretain_touch (s : State) (a1 : Pkt → Bool) :
    Touch 0x100000000000000000000000000000000000000000000000000000000000000000000000000000000000000000000000000000000000000000000000000020000 s (State.unretain s a1) := by
  unfold State.unretain
  refine Touch.step ?_ (State.retainSettle_touch ..) (by decide +kernel)
  refine Touch.step ?_ (State.modFab_touch ..) (by decide +kernel)
  exact Touch.refl _ _

theorem execE2eAck_touch (a0 : Pkt) (s : State) :
    ∃ t, execE2eAck a0 s = .next t ∧ Touch 0x100000000000000000000000000000000000000000000000000000000000000000000000240000000000000000000000000000000000000000000000000063100 s t := by
  refine ⟨_, rfl, ?_⟩
  refine Touch.ite ?_ ?_
  · exact Touch.refl _ _
  · refine Touch.step ?_ (State.pumpExit_touch ..) (by decide +kernel)
    refine Touch.step ?_ (State.unretain_touch ..) (by decide +kernel)
    exact Touch.refl _ _

theorem State.failRetained_touch (s : State) (a1 : Pkt) (a2 : ℕ) (a3 : ℕ) :
    Touch 0x24000000100000000000000000000000000000000000000000000000000000000000000000000000240000000000000000000000000000000000000000000000000063100 s (State.failRetained s a1 a2 a3) := by
  unfold State.failRetained
  extract_lets -merge -useContext +onlyGivenNames v0
  refine Touch.cut v0 ?_ (fun h1 => ?_)
  · unfold v0
    refine Touch.step ?_ (State.bump_touch ..) (by decide +kernel)
    refine Touch.step ?_ (State.unretain_touch ..) (by decide +kernel)
    exact Touch.refl _ _
  clear_value v0
  refine Touch.ite ?_ ?_
  · refine Touch.step ?_ (State.failSendFab_touch ..) (by decide +kernel)
    exact h1
  · refine Touch.step ?_ (State.bump_touch ..) (by decide +kernel)
    refine Touch.step ?_ (State.raise_touch ..) (by decide +kernel)
    exact h1

theorem State.resendRetained_touch (s : State) (a1 : Retained) :
    Touch 0x2d000000100000000000000000000000000000000000000000000000000000000000000000000000240000000000000000000000000000000000000000000000000163100 s (State.resendRetained s a1) := by
  unfold State.resendRetained
  refine Touch.ite ?_ ?_
  · extract_lets -merge -useContext +onlyGivenNames v0
    refine Touch.cut v0 ?_ (fun h1 => ?_)
    · unfold v0
      refine Touch.step ?_ (State.failRetained_touch ..) (by decide +kernel)
      exact Touch.refl _ _
    clear_value v0
    refine Touch.ite ?_ ?_
    · refine Touch.step ?_ (State.sendPkt_touch ..) (by decide +kernel)
      exact h1
    · exact h1
  · refine Touch.step ?_ (State.bump_touch ..) (by decide +kernel)
    refine Touch.step ?_ (State.modFab_touch ..) (by decide +kernel)
    exact Touch.refl _ _

theorem execE2eResend_touch (a0 : ℕ) (s : State) :
    ∃ t, execE2eResend a0 s = .next t ∧ Touch 0x2d000000100000000000000000000000000000000000000000000000000000000000000000000000240000000000000000000000000000000000000000000000000163100 s t := by
  refine ⟨_, rfl, ?_⟩
  split
  · refine Touch.ite ?_ ?_
    · exact Touch.refl _ _
    · refine Touch.step ?_ (State.resendRetained_touch ..) (by decide +kernel)
      exact Touch.refl _ _
  · exact Touch.refl _ _

theorem State.nacked_touch (s : State) (a1 : Pkt) :
    Touch 0x2d000000100000000000000000000000000000000000000000000000000000000000000000000000240000000000000000000000000000000000000000000000000163100 s (State.nacked s a1) := by
  unfold State.nacked
  extract_lets -merge -useContext +onlyGivenNames v0
  clear_value v0
  extract_lets -merge -useContext +onlyGivenNames v1
  clear_value v1
  split
  · refine Touch.step ?_ (State.failSend_touch ..) (by decide +kernel)
    exact Touch.refl _ _
  · refine Touch.step ?_ (State.failSend_touch ..) (by decide +kernel)
    exact Touch.refl _ _
  · refine Touch.step ?_ (State.failSend_touch ..) (by decide +kernel)
    exact Touch.refl _ _
  · refine Touch.ite ?_ ?_
    · split
      · refine Touch.step ?_ (State.modColl_touch ..) (by decide +kernel)
        exact Touch.refl _ _
      · exact Touch.refl _ _
    · exact Touch.refl _ _
  · split
    · refine Touch.step ?_ (State.resendRetained_touch ..) (by decide +kernel)
      exact Touch.refl _ _
    · exact Touch.refl _ _
  · extract_lets -merge -useContext +onlyGivenNames v2
    clear_value v2
    split
    · refine Touch.step ?_ (State.failRetained_touch ..) (by decide +kernel)
      exact Touch.refl _ _
    · refine Touch.ite ?_ ?_
      · refine Touch.step ?_ (State.failSendFab_touch ..) (by decide +kernel)
        exact Touch.refl _ _
      · exact Touch.refl _ _

theorem execMeshNack_touch (a0 : Pkt) (s : State) :
    ∃ t, execMeshNack a0 s = .next t ∧ Touch 0x18000002d003f90100000000000000000006000000000000000000000f101803ffc00200021f003000000006c0000000000000000000000000000000000c001fffffe00000bff9a0 s t := by
  refine ⟨_, rfl, ?_⟩
  refine Touch.ite ?_ ?_
  · exact Touch.refl _ _
  · refine Touch.step ?_ (State.settleAll_touch ..) (by decide +kernel)
    refine State.arrive_touch ?_ (fun y0 h1 => ?_) (by decide +kernel)
    · exact Touch.refl _ _
    · refine Touch.step ?_ (State.nacked_touch ..) (by decide +kernel)
      exact h1

theorem execFabMgmt_touch (a0 : Pkt) (a1 : Bool) (s : State) :
    ∃ t, execFabMgmt a0 a1 s = .next t ∧ Touch 0xa00000000000000000000000000000000000000000000000000000000000000000000000240000000000000000000000000000000000c001fffffe00000163100 s t := by
  refine ⟨_, rfl, ?_⟩
  refine Touch.ite ?_ ?_
  · exact Touch.refl _ _
  · refine Touch.ite ?_ ?_
    · refine Touch.step ?_ (State.refuse_touch ..) (by decide +kernel)
      exact Touch.refl _ _
    · refine Touch.ite ?_ ?_
      · refine Touch.step ?_ (State.bump_touch ..) (by decide +kernel)
        exact Touch.refl _ _
      · refine State.needs_touch ?_ (fun y0 h1 => ?_) (by decide +kernel)
        · exact Touch.refl _ _
        · refine Touch.step ?_ (State.modCore_touch ..) (by decide +kernel)
          exact h1

theorem State.collectiveStart_touch (s : State) (a1 : Pkt) :
    Touch 0x180000000003f90100000000000000000006000000000000000000000f101803ffc00200021f003000000006c0000000000000000000000000000000000c001fffffe00000bff9a0 s (State.collectiveStart s a1) := by
  unfold State.collectiveStart
  split
  · refine Touch.ite ?_ ?_
    · refine Touch.step ?_ (State.settleAll_touch ..) (by decide +kernel)
      refine Touch.step ?_ (State.collStart_touch ..) (by decide +kernel)
      refine Touch.step ?_ (State.countData_touch ..) (by decide +kernel)
      exact Touch.refl _ _
    · refine Touch.step ?_ (State.dropPkt_touch ..) (by decide +kernel)
      exact Touch.refl _ _
  · refine Touch.step ?_ (State.dropPkt_touch ..) (by decide +kernel)
    exact Touch.refl _ _

theorem execCollectiveStart_touch (a0 : Pkt) (s : State) :
    ∃ t, execCollectiveStart a0 s = .next t ∧ Touch 0x180000000003f90100000000000000000006000000000000000000000f101803ffc00200021f003000000006c0000000000000000000000000000000000c001fffffe00000bff9a0 s t := by
  refine ⟨_, rfl, ?_⟩
  refine Touch.ite ?_ ?_
  · refine State.arrive_touch ?_ (fun y0 h1 => ?_) (by decide +kernel)
    · exact Touch.refl _ _
    · refine Touch.step ?_ (State.collectiveStart_touch ..) (by decide +kernel)
      exact h1
  · exact Touch.refl _ _

theorem State.collAckSend_touch (s : State) (a1 : ℕ) (a2 : Coll) (a3 : ℕ) (a4 : ℕ) :
    Touch 0x240000000000000000000000000000000000000000000000000163100 s (State.collAckSend s a1 a2 a3 a4) := by
  unfold State.collAckSend
  refine Touch.step ?_ (State.sendPkt_touch ..) (by decide +kernel)
  exact Touch.refl _ _

theorem State.chunkPkt_touch (s : State) (a1 : ℕ) (a2 : ℕ) (a3 : Coll) (a4 : Pkt) :
    Touch 0x12000000000000000000000000000000000000000000000000000000000000000000000000000000240000000000000000000000000000000000000000000000000163100 s (State.chunkPkt s a1 a2 a3 a4) := by
  unfold State.chunkPkt
  extract_lets -merge -useContext +onlyGivenNames v0
  clear_value v0
  extract_lets -merge -useContext +onlyGivenNames v1
  clear_value v1
  refine Touch.ite ?_ ?_
  · exact Touch.refl _ _
  · refine Touch.ite ?_ ?_
    · refine Touch.step ?_ (State.collAckSend_touch ..) (by decide +kernel)
      refine Touch.step ?_ (State.bump_touch ..) (by decide +kernel)
      exact Touch.refl _ _
    · extract_lets -merge -useContext +onlyGivenNames v2
      refine Touch.cut v2 ?_ (fun h3 => ?_)
      · unfold v2
        refine Touch.ite ?_ ?_
        · refine Touch.step ?_ (State.modColl_touch ..) (by decide +kernel)
          exact Touch.refl _ _
        · exact Touch.refl _ _
      clear_value v2
      extract_lets -merge -useContext +onlyGivenNames v4
      clear_value v4
      split
      · refine Touch.ite ?_ ?_
        · refine Touch.step ?_ (State.bump_touch ..) (by decide +kernel)
          exact h3
        · refine Touch.step ?_ (State.modColl_touch ..) (by decide +kernel)
          exact h3
      · refine Touch.ite ?_ ?_
        · exact h3
        · refine Touch.step ?_ (State.modColl_touch ..) (by decide +kernel)
          exact h3

theorem State.collDataIn_touch (s : State) (a1 : Pkt) :
    Touch 0x180000012003f90100000000000000000006000000000000000000000f101803ffc00200021f00300000000240000000000000000000000000000000000c001fffffe00000bff9a0 s (State.collDataIn s a1) := by
  unfold State.collDataIn
  extract_lets -merge -useContext +onlyGivenNames v0
  clear_value v0
  split
  · refine Touch.ite ?_ ?_
    · refine Touch.ite ?_ ?_
      · exact Touch.refl _ _
      · refine Touch.step ?_ (State.settleAll_touch ..) (by decide +kernel)
        refine Touch.step ?_ (State.chunkPkt_touch ..) (by decide +kernel)
        exact Touch.refl _ _
    · refine Touch.ite ?_ ?_
      · exact Touch.refl _ _
      · refine Touch.step ?_ (State.sendPkt_touch ..) (by decide +kernel)
        exact Touch.refl _ _
  · extract_lets -merge -useContext +onlyGivenNames v1
    clear_value v1
    refine Touch.ite ?_ ?_
    · exact Touch.refl _ _
    · refine Touch.step ?_ (State.sendPkt_touch ..) (by decide +kernel)
      exact Touch.refl _ _

theorem execCollData_touch (a0 : Pkt) (s : State) :
    ∃ t, execCollData a0 s = .next t ∧ Touch 0x180000012003f90100000000000000000006000000000000000000000f101803ffc00200021f003000000006c0000000000000000000000000000000000c001fffffe00000bff9a0 s t := by
  refine ⟨_, rfl, ?_⟩
  refine Touch.ite ?_ ?_
  · refine State.arrive_touch ?_ (fun y0 h1 => ?_) (by decide +kernel)
    · exact Touch.refl _ _
    · refine Touch.step ?_ (State.collDataIn_touch ..) (by decide +kernel)
      exact h1
  · exact Touch.refl _ _

theorem State.collAckIn_touch (s : State) (a1 : Pkt) :
    Touch 0x180000000003f90100000000000000000006000000000000000000000f101803ffc00200021f00300000000240000000000000000000000000000000000c001fffffe00000bff9a0 s (State.collAckIn s a1) := by
  unfold State.collAckIn
  extract_lets -merge -useContext +onlyGivenNames v0
  clear_value v0
  split
  · refine Touch.ite ?_ ?_
    · extract_lets -merge -useContext +onlyGivenNames v1
      refine Touch.cut v1 ?_ (fun h2 => ?_)
      · unfold v1
        refine Touch.step ?_ (State.modTx_touch ..) (by decide +kernel)
        exact Touch.refl _ _
      clear_value v1
      extract_lets -merge -useContext +onlyGivenNames v3
      refine Touch.cut v3 ?_ (fun h4 => ?_)
      · unfold v3
        refine Touch.step ?_ (State.modColl_touch ..) (by decide +kernel)
        exact h2
      clear_value v3
      refine Touch.step ?_ (State.settleAll_touch ..) (by decide +kernel)
      refine Touch.ite ?_ ?_
      · refine Touch.step ?_ (State.modColl_touch ..) (by decide +kernel)
        exact h4
      · exact h4
    · exact Touch.refl _ _
  · exact Touch.refl _ _

theorem execCollAck_touch (a0 : Pkt) (s : State) :
    ∃ t, execCollAck a0 s = .next t ∧ Touch 0x180000000003f90100000000000000000006000000000000000000000f101803ffc00200021f003000000006c0000000000000000000000000000000000c001fffffe00000bff9a0 s t := by
  refine ⟨_, rfl, ?_⟩
  refine Touch.ite ?_ ?_
  · refine State.arrive_touch ?_ (fun y0 h1 => ?_) (by decide +kernel)
    · exact Touch.refl _ _
    · refine Touch.step ?_ (State.collAckIn_touch ..) (by decide +kernel)
      exact h1
  · exact Touch.refl _ _

theorem State.collAbortIn_touch (s : State) (a1 : Pkt) :
    Touch 0x180000000003f90100000000000000000006000000000000000000000f101803ffc00200021f00300000000240000000000000000000000000000000000c001fffffe00000bff9a0 s (State.collAbortIn s a1) := by
  unfold State.collAbortIn
  extract_lets -merge -useContext +onlyGivenNames v0
  clear_value v0
  extract_lets -merge -useContext +onlyGivenNames v1
  clear_value v1
  split
  · refine Touch.ite ?_ ?_
    · refine Touch.ite ?_ ?_
      · exact Touch.refl _ _
      · refine Touch.step ?_ (State.modColl_touch ..) (by decide +kernel)
        exact Touch.refl _ _
    · refine Touch.ite ?_ ?_
      · exact Touch.refl _ _
      · refine Touch.step ?_ (State.settleAll_touch ..) (by decide +kernel)
        refine Touch.step ?_ (State.collStop_touch ..) (by decide +kernel)
        exact Touch.refl _ _
  · refine Touch.ite ?_ ?_
    · exact Touch.refl _ _
    · refine Touch.step ?_ (State.modSeq_touch ..) (by decide +kernel)
      exact Touch.refl _ _

theorem execCollAbort_touch (a0 : Pkt) (s : State) :
    ∃ t, execCollAbort a0 s = .next t ∧ Touch 0x180000000003f90100000000000000000006000000000000000000000f101803ffc00200021f003000000006c0000000000000000000000000000000000c001fffffe00000bff9a0 s t := by
  refine ⟨_, rfl, ?_⟩
  refine Touch.ite ?_ ?_
  · refine State.arrive_touch ?_ (fun y0 h1 => ?_) (by decide +kernel)
    · exact Touch.refl _ _
    · refine Touch.step ?_ (State.collAbortIn_touch ..) (by decide +kernel)
      exact h1
  · exact Touch.refl _ _

theorem execChunkResend_touch (a0 : ℕ) (a1 : ℕ) (a2 : ℕ) (a3 : ℕ) (s : State) :
    ∃ t, execChunkResend a0 a1 a2 a3 s = .next t ∧ Touch 0x180000009003f90100000000000000000006000000000000000000000f101803ffc00200021f00300000000240000000000000000000000000000000000c001fffffe00000bff9a0 s t := by
  refine ⟨_, rfl, ?_⟩
  split
  · split
    · refine Touch.ite ?_ ?_
      · refine Touch.step ?_ (State.settleAll_touch ..) (by decide +kernel)
        refine Touch.step ?_ (State.resendChunk_touch ..) (by decide +kernel)
        exact Touch.refl _ _
      · exact Touch.refl _ _
    · exact Touch.refl _ _
  · exact Touch.refl _ _

theorem execCollNotReadyResend_touch (a0 : ℕ) (a1 : ℕ) (a2 : ℕ) (a3 : ℕ) (s : State) :
    ∃ t, execCollNotReadyResend a0 a1 a2 a3 s = .next t ∧ Touch 0x900000000000000000000000000000000000000000000000000000000000000000000000000000024000000000000000000000000000000000000000000000000017f180 s t := by
  refine ⟨_, rfl, ?_⟩
  split
  · split
    · refine Touch.ite ?_ ?_
      · refine Touch.step ?_ (State.resendChunk_touch ..) (by decide +kernel)
        exact Touch.refl _ _
      · exact Touch.refl _ _
    · exact Touch.refl _ _
  · exact Touch.refl _ _

theorem State.collectiveEnd_touch (s : State) (a1 : ℕ) (a2 : ℕ) :
    Touch 0xfc3ff0000000000000000000000000000000000000000000000000000000000000000000000000240000000000000000000000000000000000000000000000000163100 s (State.collectiveEnd s a1 a2) := by
  unfold State.collectiveEnd
  split
  · exact Touch.refl _ _
  · split
    · refine Touch.step ?_ (State.collNotify_touch ..) (by decide +kernel)
      exact Touch.refl _ _
    · refine Touch.ite ?_ ?_
      · exact Touch.refl _ _
      · refine Touch.step ?_ (State.seqRegs_touch ..) (by decide +kernel)
        refine Touch.step ?_ (State.seqExamine_touch ..) (by decide +kernel)
        refine Touch.step ?_ (State.modSeq_touch ..) (by decide +kernel)
        exact Touch.refl _ _
    · exact Touch.refl _ _

theorem execCollectiveEnd_touch (a0 : ℕ) (a1 : ℕ) (s : State) :
    ∃ t, execCollectiveEnd a0 a1 s = .next t ∧ Touch 0xfc3ff0000000000000000000000000000000000000000000000000000000000000000000000000240000000000000000000000000000000000000000000000000163100 s t := by
  refine ⟨_, rfl, ?_⟩
  refine Touch.ite ?_ ?_
  · refine Touch.step ?_ (State.collectiveEnd_touch ..) (by decide +kernel)
    exact Touch.refl _ _
  · exact Touch.refl _ _

theorem State.portSlot_touch (s : State) (a1 : ℕ) :
    Touch 0x20000 s (State.portSlot s a1) := by
  unfold State.portSlot
  extract_lets -merge -useContext +onlyGivenNames v0
  clear_value v0
  refine Touch.ite ?_ ?_
  · exact Touch.refl _ _
  · extract_lets -merge -useContext +onlyGivenNames v1
    clear_value v1
    extract_lets -merge -useContext +onlyGivenNames v2
    refine Touch.cut v2 ?_ (fun h3 => ?_)
    · unfold v2
      refine Touch.step ?_ (State.modFab_touch ..) (by decide +kernel)
      exact Touch.refl _ _
    clear_value v2
    refine Touch.step ?_ (State.modPort_touch ..) (by decide +kernel)
    exact h3

theorem State.fabSlot_touch (s : State) (a1 : ℕ) (a2 : ℕ) :
    Touch 0x20000 s (State.fabSlot s a1 a2) := by
  unfold State.fabSlot
  extract_lets -merge -useContext +onlyGivenNames v0
  refine Touch.cut v0 ?_ (fun h1 => ?_)
  · unfold v0
    refine Touch.foldl ?_ (fun y2 y3 h4 => ?_)
    · refine Touch.step ?_ (State.modFab_touch ..) (by decide +kernel)
      exact Touch.refl _ _
    · refine Touch.step ?_ (State.portSlot_touch ..) (by decide +kernel)
      exact h4
  clear_value v0
  extract_lets -merge -useContext +onlyGivenNames v5
  clear_value v5
  extract_lets -merge -useContext +onlyGivenNames v6
  clear_value v6
  refine Touch.ite ?_ ?_
  · refine Touch.step ?_ (State.modFab_touch ..) (by decide +kernel)
    exact h1
  · exact h1

theorem State.fabBoundary_touch (s : State) :
    Touch 0x60000 s (State.fabBoundary s) := by
  unfold State.fabBoundary
  extract_lets -merge -useContext +onlyGivenNames v0
  refine Touch.cut v0 ?_ (fun h1 => ?_)
  · unfold v0
    refine Touch.step ?_ (State.modFab_touch ..) (by decide +kernel)
    exact Touch.refl _ _
  clear_value v0
  refine Touch.step ?_ (Touch.seqsWith _ _) (by decide +kernel)
  exact h1

end Sys2Proof.Machine
end

