-- ==== Sys2Proof/Laws/TouchXlatRows.lean ====
section
/-! SUPPORT. What the operations of Machine/XlatRows.lean may change. -/
namespace Sys2Proof.Machine

set_option Elab.async false

theorem State.streamReq_touch (s : State) (a1 : Pkt) (a2 : ℕ) (a3 : AccWho) (a4 : ℕ) :
    Touch 0x180000000003f90100000000000000000006000000000000000000000f101803ffc00200021f003000000006c0000000000000000000000000000000000c001fffffe00000bff9a0 s (State.streamReq s a1 a2 a3 a4) := by
  unfold State.streamReq
  refine Touch.ite ?_ ?_
  · exact Touch.refl _ _
  · refine Touch.ite ?_ ?_
    · refine Touch.ite ?_ ?_
      · refine Touch.step ?_ (State.refuse_touch ..) (by decide +kernel)
        exact Touch.refl _ _
      · exact Touch.refl _ _
    · refine State.arrive_touch ?_ (fun y0 h1 => ?_) (by decide +kernel)
      · exact Touch.refl _ _
      · extract_lets -merge -useContext +onlyGivenNames v2
        clear_value v2
        refine Touch.ite ?_ ?_
        · refine Touch.step ?_ (State.settleAll_touch ..) (by decide +kernel)
          refine Touch.step ?_ (State.accept_touch ..) (by decide +kernel)
          exact h1
        · refine Touch.step ?_ (State.sendPkt_touch ..) (by decide +kernel)
          exact h1

theorem execGetReq_touch (a0 : Pkt) (a1 : List EccEvent) (s : State) :
    ∃ t, execGetReq a0 a1 s = .next t ∧ Touch 0x180000000003f90100000000000000000006000000000000000000f1ef101803ffc00200021f003000000006c0000000000000000000000000000000000c001fffffe00000bff9a0 s t := by
  refine ⟨_, rfl, ?_⟩
  refine Touch.step ?_ (State.streamReq_touch ..) (by decide +kernel)
  refine Touch.step ?_ (State.eccRead_touch ..) (by decide +kernel)
  exact Touch.refl _ _

theorem execPutReq_touch (a0 : Pkt) (s : State) :
    ∃ t, execPutReq a0 s = .next t ∧ Touch 0x180000000003f90100000000000000000006000000000000000000000f101803ffc00200021f003000000006c0000000000000000000000000000000000c001fffffe00000bff9a0 s t := by
  refine ⟨_, rfl, ?_⟩
  refine Touch.step ?_ (State.streamReq_touch ..) (by decide +kernel)
  exact Touch.refl _ _

theorem State.putData_touch (s : State) (a1 : Pkt) :
    Touch 0x180000000003f90100000000000000000006000000000000000000000f101803ffc00200021f00300000000240000000000000000000000000000000000c001fffffe00000bff9a0 s (State.putData s a1) := by
  unfold State.putData
  split
  · exact Touch.refl _ _
  · split
    · refine Touch.ite ?_ ?_
      · exact Touch.refl _ _
      · extract_lets -merge -useContext +onlyGivenNames v0
        clear_value v0
        extract_lets -merge -useContext +onlyGivenNames v1
        clear_value v1
        extract_lets -merge -useContext +onlyGivenNames v2
        clear_value v2
        refine Touch.step ?_ (State.settleAll_touch ..) (by decide +kernel)
        refine Touch.step ?_ (State.modAcc_touch ..) (by decide +kernel)
        exact Touch.refl _ _
    · exact Touch.refl _ _

theorem execPutData_touch (a0 : Pkt) (a1 : List EccEvent) (s : State) :
    ∃ t, execPutData a0 a1 s = .next t ∧ Touch 0x180000000003f90100000000000000000006000000000000000000f1ef101803ffc00200021f003000000006c0000000000000000000000000000000000c001fffffe00000bff9a0 s t := by
  refine ⟨_, rfl, ?_⟩
  refine Touch.ite ?_ ?_
  · refine State.arrive_touch ?_ (fun y0 h1 => ?_) (by decide +kernel)
    · refine Touch.step ?_ (State.eccRead_touch ..) (by decide +kernel)
      exact Touch.refl _ _
    · refine Touch.step ?_ (State.putData_touch ..) (by decide +kernel)
      exact h1
  · exact Touch.refl _ _

theorem State.ctxSet_touch {M : Nat} {s0 s : State} {p n op : Nat} {seg0 : Bool} {f : ActiveCmd → State → Except Nat State} (h : Touch M s0 s)
    (hf : ∀ c u, Touch M s0 u → TouchX M s0 (f c u)) (hm : 0x4020 ||| M = M) : Touch M s0 (s.ctxSet p n op seg0 f) := by
  unfold State.ctxSet
  split
  · exact h
  · refine Touch.ite h (State.start_touch h (fun c u hu => ?_) (mask_trans (by decide +kernel) hm))
    refine Touch.ite (hu.step (State.finish_touch ..) (mask_trans (by decide +kernel) hm)) ?_
    split
    · exact hu.step (State.finish_touch ..) (mask_trans (by decide +kernel) hm)
    · rename_i e
      refine Touch.step ?_ (State.finish_touch ..) (mask_trans (by decide +kernel) hm)
      exact Touch.step (TouchX.ofOk e (hf c u hu)) (State.microDrop_touch ..) (mask_trans (by decide +kernel) hm)

theorem State.setCfg_touch (a0 : ℕ) (a1 : ActiveCmd) (s : State) :
    TouchX 0xfc000000000000000000000000000000000000000000000000000000000000000 s (State.setCfg a0 a1 s) := by
  unfold State.setCfg
  extract_lets -merge -useContext +onlyGivenNames v0
  clear_value v0
  extract_lets -merge -useContext +onlyGivenNames v1
  clear_value v1
  refine TouchX.ite ?_ ?_
  · refine TouchX.error _
  · refine TouchX.ok ?_
    refine Touch.step ?_ (State.put_touch ..) (by decide +kernel)
    refine Touch.step ?_ (State.put_touch ..) (by decide +kernel)
    refine Touch.step ?_ (State.put_touch ..) (by decide +kernel)
    refine Touch.step ?_ (State.put_touch ..) (by decide +kernel)
    refine Touch.step ?_ (State.put_touch ..) (by decide +kernel)
    refine Touch.step ?_ (State.put_touch ..) (by decide +kernel)
    exact Touch.refl _ _

theorem execSetCfg_touch (a0 : ℕ) (a1 : ℕ) (s : State) :
    ∃ t, execSetCfg a0 a1 s = .next t ∧ Touch 0xfc000000000000000000000000000000000000000000000000000000000004020 s t := by
  refine ⟨_, rfl, ?_⟩
  refine State.ctxSet_touch ?_ (fun y0 y1 h2 => ?_) (by decide +kernel)
  · exact Touch.refl _ _
  · refine TouchX.step ?_ (State.setCfg_touch ..) (by decide +kernel)
    exact h2

theorem State.setSeg_touch (a0 : ℕ) (a1 : ActiveCmd) (s : State) :
    TouchX 0xff800000000000000000000000000000000000000000000000000000000000000000 s (State.setSeg a0 a1 s) := by
  unfold State.setSeg
  extract_lets -merge -useContext +onlyGivenNames v0
  clear_value v0
  extract_lets -merge -useContext +onlyGivenNames v1
  clear_value v1
  extract_lets -merge -useContext +onlyGivenNames v2
  clear_value v2
  extract_lets -merge -useContext +onlyGivenNames v3
  clear_value v3
  extract_lets -merge -useContext +onlyGivenNames v4
  clear_value v4
  extract_lets -merge -useContext +onlyGivenNames v5
  clear_value v5
  refine TouchX.ite ?_ ?_
  · refine TouchX.error _
  · refine TouchX.ite ?_ ?_
    · refine TouchX.error _
    · refine TouchX.ok ?_
      refine Touch.step ?_ (State.put_touch ..) (by decide +kernel)
      refine Touch.step ?_ (State.put_touch ..) (by decide +kernel)
      refine Touch.step ?_ (State.put_touch ..) (by decide +kernel)
      refine Touch.step ?_ (State.put_touch ..) (by decide +kernel)
      refine Touch.step ?_ (State.put_touch ..) (by decide +kernel)
      refine Touch.step ?_ (State.put_touch ..) (by decide +kernel)
      refine Touch.step ?_ (State.put_touch ..) (by decide +kernel)
      refine Touch.step ?_ (State.put_touch ..) (by decide +kernel)
      refine Touch.step ?_ (State.put_touch ..) (by decide +kernel)
      exact Touch.refl _ _

theorem execSetSeg_touch (a0 : ℕ) (a1 : ℕ) (s : State) :
    ∃ t, execSetSeg a0 a1 s = .next t ∧ Touch 0xff800000000000000000000000000000000000000000000000000000000000004020 s t := by
  refine ⟨_, rfl, ?_⟩
  refine State.ctxSet_touch ?_ (fun y0 y1 h2 => ?_) (by decide +kernel)
  · exact Touch.refl _ _
  · refine TouchX.step ?_ (State.setSeg_touch ..) (by decide +kernel)
    exact h2

theorem State.clearSeg_touch (s : State) (a1 : ℕ) :
    Touch 0xff800000000000000000000000000000000000000000000000000000000000000000 s (State.clearSeg s a1) := by
  unfold State.clearSeg
  simp only [List.foldl_cons, List.foldl_nil]
  refine Touch.step ?_ (State.put_touch ..) (by decide +kernel)
  refine Touch.step ?_ (State.put_touch ..) (by decide +kernel)
  refine Touch.step ?_ (State.put_touch ..) (by decide +kernel)
  refine Touch.step ?_ (State.put_touch ..) (by decide +kernel)
  refine Touch.step ?_ (State.put_touch ..) (by decide +kernel)
  refine Touch.step ?_ (State.put_touch ..) (by decide +kernel)
  refine Touch.step ?_ (State.put_touch ..) (by decide +kernel)
  refine Touch.step ?_ (State.put_touch ..) (by decide +kernel)
  refine Touch.step ?_ (State.put_touch ..) (by decide +kernel)
  exact Touch.refl _ _

theorem execClearSeg_touch (a0 : ℕ) (a1 : ℕ) (s : State) :
    ∃ t, execClearSeg a0 a1 s = .next t ∧ Touch 0xff800000000000000000000000000000000000000000000000000000000000004020 s t := by
  refine ⟨_, rfl, ?_⟩
  refine State.ctxSet_touch ?_ (fun y0 y1 h2 => ?_) (by decide +kernel)
  · exact Touch.refl _ _
  · refine TouchX.ok ?_
    refine Touch.step ?_ (State.clearSeg_touch ..) (by decide +kernel)
    exact h2

theorem State.clearCtx_touch (s : State) (a1 : ℕ) (a2 : ℕ) :
    Touch 0xff880000000000000000000000000000000000000000000000000000000000000000 s (State.clearCtx s a1 a2) := by
  unfold State.clearCtx
  refine Touch.foldl ?_ (fun y0 y1 h2 => ?_)
  · refine Touch.step ?_ (State.put_touch ..) (by decide +kernel)
    exact Touch.refl _ _
  · refine Touch.step ?_ (State.clearSeg_touch ..) (by decide +kernel)
    exact h2

theorem execClearCtx_touch (a0 : ℕ) (a1 : ℕ) (s : State) :
    ∃ t, execClearCtx a0 a1 s = .next t ∧ Touch 0xff880000000000000000000000000000000000000000000000000000000000004020 s t := by
  refine ⟨_, rfl, ?_⟩
  refine State.ctxSet_touch ?_ (fun y0 y1 h2 => ?_) (by decide +kernel)
  · exact Touch.refl _ _
  · refine TouchX.ok ?_
    refine Touch.step ?_ (State.clearCtx_touch ..) (by decide +kernel)
    exact h2

theorem State.segRecheck_touch (s : State) :
    Touch 0x80000000000000000000000000000000000000000000000000000000000000000000 s (State.segRecheck s) := by
  unfold State.segRecheck
  refine Touch.foldl ?_ (fun y0 y1 h2 => ?_)
  · exact Touch.refl _ _
  · refine Touch.foldl ?_ (fun y3 y4 h5 => ?_)
    · exact h2
    · extract_lets -merge -useContext +onlyGivenNames v6
      clear_value v6
      extract_lets -merge -useContext +onlyGivenNames v7
      clear_value v7
      refine Touch.ite ?_ ?_
      · refine Touch.step ?_ (State.put_touch ..) (by decide +kernel)
        exact h5
      · exact h5

theorem State.withdraw_touch (s : State) (a1 : Acc) :
    Touch 0x200002000000000000000000000000000000000000000000000000000000000000000000000000000000000000000000000000000000000000000000000000000000000000000000000004300 s (State.withdraw s a1) := by
  unfold State.withdraw
  extract_lets -merge -useContext +onlyGivenNames v0
  clear_value v0
  extract_lets -merge -useContext +onlyGivenNames v1
  refine Touch.cut v1 ?_ (fun h2 => ?_)
  · unfold v1
    refine Touch.step ?_ (Touch.faultQ_rings ..) (by decide +kernel)
    exact Touch.refl _ _
  clear_value v1
  refine Touch.step ?_ (State.parkSettle_touch ..) (by decide +kernel)
  exact h2

theorem State.xlatInv_touch (a0 : ℕ) (a1 : ℕ) (a2 : ActiveCmd) (s : State) :
    Touch 0x200002000180000000003f90100000000000000000006000000000000000000000f101803ffc00200021f00300000000240000000000000000000000000000000000c001fffffe00000bffba0 s (State.xlatInv a0 a1 a2 s) := by
  unfold State.xlatInv
  extract_lets -merge -useContext +onlyGivenNames v0
  clear_value v0
  refine Touch.ite ?_ ?_
  · refine Touch.step ?_ (State.finish_touch ..) (by decide +kernel)
    exact Touch.refl _ _
  · extract_lets -merge -useContext +onlyGivenNames v1
    clear_value v1
    extract_lets -merge -useContext +onlyGivenNames v2
    refine Touch.cut v2 ?_ (fun h3 => ?_)
    · unfold v2
      refine Touch.step ?_ (State.modCmd_touch ..) (by decide +kernel)
      refine Touch.step ?_ (State.microDrop_touch ..) (by decide +kernel)
      exact Touch.refl _ _
    clear_value v2
    extract_lets -merge -useContext +onlyGivenNames v4
    clear_value v4
    extract_lets -merge -useContext +onlyGivenNames v5
    clear_value v5
    extract_lets -merge -useContext +onlyGivenNames v6
    refine Touch.cut v6 ?_ (fun h7 => ?_)
    · unfold v6
      refine Touch.foldl ?_ (fun y8 y9 h10 => ?_)
      · exact h3
      · refine Touch.step ?_ (State.xlatFail_touch ..) (by decide +kernel)
        refine Touch.step ?_ (State.withdraw_touch ..) (by decide +kernel)
        exact h10
    clear_value v6
    extract_lets -merge -useContext +onlyGivenNames v11
    clear_value v11
    refine Touch.step ?_ (State.settleAll_touch ..) (by decide +kernel)
    refine Touch.step ?_ (State.modXlat_touch ..) (by decide +kernel)
    exact h7

theorem execXlatInv_touch (a0 : ℕ) (a1 : ℕ) (s : State) :
    ∃ t, execXlatInv a0 a1 s = .next t ∧ Touch 0x200002000180000000003f90100000000000000000006000000000000000000000f101803ffc00200021f00300000000240000000000000000000000000000000000c001fffffe00000bffba0 s t := by
  refine ⟨_, rfl, ?_⟩
  refine State.start_touch ?_ (fun y0 y1 h2 => ?_) (by decide +kernel)
  · exact Touch.refl _ _
  · refine Touch.step ?_ (State.xlatInv_touch ..) (by decide +kernel)
    exact h2

theorem State.noteAbsent_touch (s : State) (a1 : AtsReq) (a2 : List ℕ) :
    Touch 0x4000 s (State.noteAbsent s a1 a2) := by
  unfold State.noteAbsent
  split
  · exact Touch.refl _ _
  · extract_lets -merge -useContext +onlyGivenNames v0
    clear_value v0
    refine Touch.foldl ?_ (fun y1 y2 h3 => ?_)
    · exact Touch.refl _ _
    · extract_lets -merge -useContext +onlyGivenNames v4
      clear_value v4
      refine Touch.step ?_ (State.modStream_touch ..) (by decide +kernel)
      exact h3

theorem State.atsWoken_touch (s : State) (a1 : Acc) (a2 : List (ℕ × AtsTrans)) :
    Touch 0x21c00200000000000000000000000000000000000000000000000000000000000004100 s (State.atsWoken s a1 a2) := by
  unfold State.atsWoken
  extract_lets -merge -useContext +onlyGivenNames v0
  clear_value v0
  extract_lets -merge -useContext +onlyGivenNames v1
  clear_value v1
  split
  · refine Touch.step ?_ (State.waitAcc_touch ..) (by decide +kernel)
    exact Touch.refl _ _
  · refine Touch.ite ?_ ?_
    · refine Touch.step ?_ (State.waitAcc_touch ..) (by decide +kernel)
      exact Touch.refl _ _
    · refine Touch.step ?_ (State.pageFault_touch ..) (by decide +kernel)
      exact Touch.refl _ _

theorem State.atsDone_touch (s : State) (a1 : ℕ) (a2 : ℕ) (a3 : List AtsTrans) :
    Touch 0x180000000003f90100000000000000000006000000000000000000000f101803ffc00202421f00300000000240000000000000000000000000000000000c001fffffe00000bff9a0 s (State.atsDone s a1 a2 a3) := by
  unfold State.atsDone
  split
  · exact Touch.refl _ _
  · extract_lets -merge -useContext +onlyGivenNames v0
    clear_value v0
    extract_lets -merge -useContext +onlyGivenNames v1
    refine Touch.cut v1 ?_ (fun h2 => ?_)
    · unfold v1
      refine Touch.step ?_ (State.modXlat_touch ..) (by decide +kernel)
      exact Touch.refl _ _
    clear_value v1
    refine Touch.ite ?_ ?_
    · refine Touch.step ?_ (State.settleAll_touch ..) (by decide +kernel)
      refine Touch.foldl ?_ (fun y3 y4 h5 => ?_)
      · exact h2
      · refine Touch.step ?_ (State.xlatFail_touch ..) (by decide +kernel)
        refine Touch.step ?_ (State.hostErr_touch ..) (by decide +kernel)
        exact h5
    · refine Touch.ite ?_ ?_
      · extract_lets -merge -useContext +onlyGivenNames v6
        refine Touch.cut v6 ?_ (fun h7 => ?_)
        · unfold v6
          refine Touch.step ?_ (State.modXlat_touch ..) (by decide +kernel)
          exact Touch.refl _ _
        clear_value v6
        refine Touch.step ?_ (State.atsSend_touch ..) (by decide +kernel)
        exact h7
      · extract_lets -merge -useContext +onlyGivenNames v8
        clear_value v8
        extract_lets -merge -useContext +onlyGivenNames v9
        refine Touch.cut v9 ?_ (fun h10 => ?_)
        · unfold v9
          refine Touch.foldl ?_ (fun y11 y12 h13 => ?_)
          · exact h2
          · refine Touch.step ?_ (State.l2Fill_touch ..) (by decide +kernel)
            exact h13
        clear_value v9
        extract_lets -merge -useContext +onlyGivenNames v14
        refine Touch.cut v14 ?_ (fun h15 => ?_)
        · unfold v14
          refine Touch.step ?_ (State.noteAbsent_touch ..) (by decide +kernel)
          exact h10
        clear_value v14
        refine Touch.step ?_ (State.settleAll_touch ..) (by decide +kernel)
        refine Touch.foldl ?_ (fun y16 y17 h18 => ?_)
        · exact h15
        · refine Touch.step ?_ (State.atsWoken_touch ..) (by decide +kernel)
          exact h18

theorem execAtsCompletion_touch (a0 : ℕ) (a1 : ℕ) (a2 : List AtsTrans) (a3 : List Byte) (s : State) :
    ∃ t, execAtsCompletion a0 a1 a2 a3 s = .next t ∧ Touch 0x49ff8000000000000180000000003f901000000000000000000060030019fe100000000000f101803ffc00202421f00300000000240000000000000000000000000000000000c001fffffe00000bffda0 s t := by
  refine ⟨_, rfl, ?_⟩
  split
  · refine Touch.step ?_ (State.strayCpl_touch ..) (by decide +kernel)
    exact Touch.refl _ _
  · extract_lets -merge -useContext +onlyGivenNames v0
    refine Touch.cut v0 ?_ (fun h1 => ?_)
    · unfold v0
      refine Touch.step ?_ (State.delReq_touch ..) (by decide +kernel)
      exact Touch.refl _ _
    clear_value v0
    split
    · refine Touch.step ?_ (State.pumpHost_touch ..) (by decide +kernel)
      refine Touch.step ?_ (State.atsDone_touch ..) (by decide +kernel)
      exact h1
    · refine Touch.step ?_ (State.pumpHost_touch ..) (by decide +kernel)
      exact h1
    · refine Touch.step ?_ (State.pumpHost_touch ..) (by decide +kernel)
      refine Touch.step ?_ (State.bump_touch ..) (by decide +kernel)
      exact h1

theorem execAbsentListExpire_touch (a0 : ℕ) (a1 : ℕ) (s : State) :
    ∃ t, execAbsentListExpire a0 a1 s = .next t ∧ Touch 0x4000 s t := by
  refine ⟨_, rfl, ?_⟩
  refine Touch.step ?_ (State.modXlat_touch ..) (by decide +kernel)
  exact Touch.refl _ _

theorem State.modPrg_touch (s : State) (a1 : ℕ) (a2 : PrgRec → PrgRec) :
    Touch 0x4000 s (State.modPrg s a1 a2) := by
  unfold State.modPrg
  refine Touch.step ?_ (State.modXlat_touch ..) (by decide +kernel)
  exact Touch.refl _ _

theorem execPrgClose_touch (a0 : ℕ) (s : State) :
    ∃ t, execPrgClose a0 s = .next t ∧ Touch 0x4000 s t := by
  refine ⟨_, rfl, ?_⟩
  refine Touch.step ?_ (State.modPrg_touch ..) (by decide +kernel)
  exact Touch.refl _ _

theorem State.prgSend_touch (s : State) (a1 : ℕ) :
    Touch 0x26000200000000000000000000000000000000000000000000000000000000000104100 s (State.prgSend s a1) := by
  unfold State.prgSend
  split
  · exact Touch.refl _ _
  · extract_lets -merge -useContext +onlyGivenNames v0
    clear_value v0
    refine Touch.ite ?_ ?_
    · exact Touch.refl _ _
    · extract_lets -merge -useContext +onlyGivenNames v1
      clear_value v1
      extract_lets -merge -useContext +onlyGivenNames v2
      refine Touch.cut v2 ?_ (fun h3 => ?_)
      · unfold v2
        refine Touch.foldl ?_ (fun y4 y5 h6 => ?_)
        · exact Touch.refl _ _
        · refine Touch.step ?_ (State.bump_touch ..) (by decide +kernel)
          exact h6
      clear_value v2
      extract_lets -merge -useContext +onlyGivenNames v7
      refine Touch.cut v7 ?_ (fun h8 => ?_)
      · unfold v7
        refine Touch.foldl ?_ (fun y9 y10 h11 => ?_)
        · exact h3
        · refine Touch.step ?_ (State.emit_touch ..) (by decide +kernel)
          exact h11
      clear_value v7
      refine Touch.step ?_ (State.prgCount_touch ..) (by decide +kernel)
      refine Touch.step ?_ (State.modPrg_touch ..) (by decide +kernel)
      exact h8

theorem execPrgSend_touch (a0 : ℕ) (s : State) :
    ∃ t, execPrgSend a0 s = .next t ∧ Touch 0x26000200000000000000000000000000000000000000000000000000000000000104100 s t := by
  refine ⟨_, rfl, ?_⟩
  refine Touch.step ?_ (State.prgSend_touch ..) (by decide +kernel)
  exact Touch.refl _ _

theorem State.prgDrop_touch (s : State) (a1 : PrgRec) :
    Touch 0x20000200000000000000000000000000000000000000000000000000000000000004000 s (State.prgDrop s a1) := by
  unfold State.prgDrop
  refine Touch.step ?_ (State.prgCount_touch ..) (by decide +kernel)
  refine Touch.step ?_ (State.modXlat_touch ..) (by decide +kernel)
  exact Touch.refl _ _

theorem State.prgResponse_touch (s : State) (a1 : ℕ) (a2 : ℕ) (a3 : Option ℕ) (a4 : ℕ) (a5 : List Byte) :
    Touch 0x49ff8000000000000180000000003f901000000000000000000060030001fe100000000000f101803ffc002011a1f00300000000240000000000000000000000000000000000c001fffffe00000bffda0 s (State.prgResponse s a1 a2 a3 a4 a5) := by
  unfold State.prgResponse
  split
  · refine Touch.step ?_ (State.violation_touch ..) (by decide +kernel)
    refine Touch.step ?_ (State.bump_touch ..) (by decide +kernel)
    exact Touch.refl _ _
  · extract_lets -merge -useContext +onlyGivenNames v0
    clear_value v0
    extract_lets -merge -useContext +onlyGivenNames v1
    refine Touch.cut v1 ?_ (fun h2 => ?_)
    · unfold v1
      refine Touch.step ?_ (State.prgDrop_touch ..) (by decide +kernel)
      exact Touch.refl _ _
    clear_value v1
    extract_lets -merge -useContext +onlyGivenNames v3
    refine Touch.cut v3 ?_ (fun h4 => ?_)
    · unfold v3
      split
      · refine Touch.foldl ?_ (fun y5 y6 h7 => ?_)
        · exact h2
        · refine Touch.step ?_ (State.modAcc_touch ..) (by decide +kernel)
          exact h7
      · refine Touch.foldl ?_ (fun y8 y9 h10 => ?_)
        · exact h2
        · refine Touch.step ?_ (State.xlatFail_touch ..) (by decide +kernel)
          exact h10
      · refine Touch.foldl ?_ (fun y11 y12 h13 => ?_)
        · refine Touch.step ?_ (State.put_touch ..) (by decide +kernel)
          exact h2
        · refine Touch.step ?_ (State.xlatFail_touch ..) (by decide +kernel)
          exact h13
    clear_value v3
    refine Touch.step ?_ (State.settleAll_touch ..) (by decide +kernel)
    exact h4

theorem execPrgResponse_touch (a0 : ℕ) (a1 : ℕ) (a2 : Option ℕ) (a3 : ℕ) (a4 : List Byte) (s : State) :
    ∃ t, execPrgResponse a0 a1 a2 a3 a4 s = .next t ∧ Touch 0x49ff8000000000000180000000003f901000000000000000000060030001fe100000000000f101803ffc002011a1f00300000000240000000000000000000000000000000000c001fffffe00000bffda0 s t := by
  refine ⟨_, rfl, ?_⟩
  refine Touch.step ?_ (State.prgResponse_touch ..) (by decide +kernel)
  exact Touch.refl _ _

theorem execPriTimeout_touch (a0 : ℕ) (s : State) :
    ∃ t, execPriTimeout a0 s = .next t ∧ Touch 0x180000000003f90100000000000000000006000000000000000000000f101803ffc00200021f00300000000240000000000000000000000000000000000c001fffffe00000bff9a0 s t := by
  refine ⟨_, rfl, ?_⟩
  split
  · refine Touch.ite ?_ ?_
    · exact Touch.refl _ _
    · refine Touch.step ?_ (State.settleAll_touch ..) (by decide +kernel)
      refine Touch.foldl ?_ (fun y0 y1 h2 => ?_)
      · refine Touch.step ?_ (State.modPrg_touch ..) (by decide +kernel)
        exact Touch.refl _ _
      · refine Touch.step ?_ (State.xlatFail_touch ..) (by decide +kernel)
        exact h2
  · exact Touch.refl _ _

theorem State.priReset_touch (s : State) (a1 : ℕ) :
    Touch 0xa0000200000000000000000000000000000000000000000000000000000000000004000 s (State.priReset s a1) := by
  unfold State.priReset
  extract_lets -merge -useContext +onlyGivenNames v0
  clear_value v0
  extract_lets -merge -useContext +onlyGivenNames v1
  refine Touch.cut v1 ?_ (fun h2 => ?_)
  · unfold v1
    refine Touch.foldl ?_ (fun y3 y4 h5 => ?_)
    · exact Touch.refl _ _
    · refine Touch.step ?_ (State.prgDrop_touch ..) (by decide +kernel)
      refine Touch.foldl ?_ (fun y6 y7 h8 => ?_)
      · exact h5
      · refine Touch.step ?_ (State.waitAcc_touch ..) (by decide +kernel)
        exact h8
  clear_value v1
  refine Touch.ite ?_ ?_
  · refine Touch.step ?_ (State.put_touch ..) (by decide +kernel)
    exact h2
  · exact h2

theorem execPriReset_touch (a0 : ℕ) (s : State) :
    ∃ t, execPriReset a0 s = .next t ∧ Touch 0x180000000003f90100000000000000000006000000000000000000000f101803ffc002000a1f00300000000240000000000000000000000000000000000c001fffffe00000bff9a0 s t := by
  refine ⟨_, rfl, ?_⟩
  refine Touch.step ?_ (State.settleAll_touch ..) (by decide +kernel)
  refine Touch.step ?_ (State.priReset_touch ..) (by decide +kernel)
  exact Touch.refl _ _

theorem State.invServe_touch (s : State) (a1 : InvReq) :
    Touch 0x4000 s (State.invServe s a1) := by
  unfold State.invServe
  extract_lets -merge -useContext +onlyGivenNames v0
  clear_value v0
  extract_lets -merge -useContext +onlyGivenNames v1
  clear_value v1
  extract_lets -merge -useContext +onlyGivenNames v2
  clear_value v2
  extract_lets -merge -useContext +onlyGivenNames v3
  refine Touch.cut v3 ?_ (fun h4 => ?_)
  · unfold v3
    refine Touch.step ?_ (State.tlbDrop_touch ..) (by decide +kernel)
    exact Touch.refl _ _
  clear_value v3
  refine Touch.step ?_ (State.modXlat_touch ..) (by decide +kernel)
  exact h4

theorem execAtsInvalidate_touch (a0 : ℕ) (a1 : ℕ) (a2 : ℕ) (a3 : ℕ) (a4 : Option ℕ) (a5 : Bool) (a6 : List Byte) (s : State) :
    ∃ t, execAtsInvalidate a0 a1 a2 a3 a4 a5 a6 s = .next t ∧ Touch 0x49ff80000000000000000000000000000000000000000000000000030001fe100000000000000000000000004800000000000000000000000000000000000000000000000000000000000000000104580 s t := by
  refine ⟨_, rfl, ?_⟩
  extract_lets -merge -useContext +onlyGivenNames v0
  clear_value v0
  extract_lets -merge -useContext +onlyGivenNames v1
  refine Touch.cut v1 ?_ (fun h2 => ?_)
  · unfold v1
    refine Touch.step ?_ (State.bump_touch ..) (by decide +kernel)
    exact Touch.refl _ _
  clear_value v1
  refine Touch.ite ?_ ?_
  · refine Touch.step ?_ (State.invServe_touch ..) (by decide +kernel)
    exact h2
  · refine Touch.step ?_ (State.violation_touch ..) (by decide +kernel)
    refine Touch.step ?_ (State.modXlat_touch ..) (by decide +kernel)
    exact h2

theorem State.invComplete_touch (s : State) (a1 : ℕ) :
    Touch 0x104000 s (State.invComplete s a1) := by
  unfold State.invComplete
  split
  · exact Touch.refl _ _
  · extract_lets -merge -useContext +onlyGivenNames v0
    clear_value v0
    refine Touch.ite ?_ ?_
    · exact Touch.refl _ _
    · extract_lets -merge -useContext +onlyGivenNames v1
      refine Touch.cut v1 ?_ (fun h2 => ?_)
      · unfold v1
        refine Touch.step ?_ (State.emit_touch ..) (by decide +kernel)
        refine Touch.step ?_ (State.modXlat_touch ..) (by decide +kernel)
        exact Touch.refl _ _
      clear_value v1
      split
      · exact h2
      · refine Touch.step ?_ (State.invServe_touch ..) (by decide +kernel)
        refine Touch.step ?_ (State.modXlat_touch ..) (by decide +kernel)
        exact h2

theorem execInvalidateCompletion_touch (a0 : ℕ) (s : State) :
    ∃ t, execInvalidateCompletion a0 s = .next t ∧ Touch 0x104000 s t := by
  refine ⟨_, rfl, ?_⟩
  refine Touch.step ?_ (State.invComplete_touch ..) (by decide +kernel)
  exact Touch.refl _ _

theorem State.atsOff_touch (s : State) (a1 : ℕ) :
    Touch 0x4080 s (State.atsOff s a1) := by
  unfold State.atsOff
  refine Touch.step ?_ (State.tlbDrop_touch ..) (by decide +kernel)
  refine Touch.step ?_ (State.modFn_touch ..) (by decide +kernel)
  exact Touch.refl _ _

theorem execAtsEnableClear_touch (a0 : ℕ) (s : State) :
    ∃ t, execAtsEnableClear a0 s = .next t ∧ Touch 0x4080 s t := by
  refine ⟨_, rfl, ?_⟩
  refine Touch.step ?_ (State.atsOff_touch ..) (by decide +kernel)
  exact Touch.refl _ _

end Sys2Proof.Machine
end

