-- ==== Sys2Proof/Laws/TouchCacheRows.lean ====
section
/-! SUPPORT. What the operations of Machine/CacheRows.lean may change. -/
namespace Sys2Proof.Machine

set_option Elab.async false

theorem State.setScope_touch (s : State) (a1 : Option ℕ) (a2 : ℕ) :
    Touch 0x18000000000300000000000000000000000000000000000000000000000000000000000000000000000000 s (State.setScope s a1 a2) := by
  unfold State.setScope
  refine Touch.step ?_ (State.staleSettle_touch ..) (by decide +kernel)
  split
  · refine Touch.step ?_ (State.put_touch ..) (by decide +kernel)
    exact Touch.refl _ _
  · refine Touch.step ?_ (State.put_touch ..) (by decide +kernel)
    exact Touch.refl _ _

theorem State.setBusy_touch (s : State) (a1 : Option ℕ) (a2 : Bool) :
    Touch 0x20000000000400000000000000000000000000000000000000000000000000000000000000000000000000 s (State.setBusy s a1 a2) := by
  unfold State.setBusy
  split
  · refine Touch.step ?_ (State.put_touch ..) (by decide +kernel)
    exact Touch.refl _ _
  · refine Touch.step ?_ (State.put_touch ..) (by decide +kernel)
    exact Touch.refl _ _

theorem State.flushLines_touch (s : State) (a1 : Option ℕ) :
    Touch 0xc0000000000000000000000000000000000000000000000000000000000000000000000000108100 s (State.flushLines s a1).2 := by
  unfold State.flushLines
  refine Touch.foldlSnd ?_ (fun y0 y1 h2 => ?_)
  · refine Touch.mkSnd ?_
    exact Touch.refl _ _
  · refine Touch.iteSnd ?_ ?_
    · refine Touch.mkSnd ?_
      refine Touch.step ?_ (State.delLine_touch ..) (by decide +kernel)
      exact h2
    · refine Touch.iteSnd ?_ ?_
      · exact h2
      · refine Touch.mkSnd ?_
        refine Touch.step ?_ (State.dirtyEvict_touch ..) (by decide +kernel)
        refine Touch.step ?_ (State.delLine_touch ..) (by decide +kernel)
        exact h2

theorem State.flushEnd_touch (s : State) (a1 : CacheFlush) :
    Touch 0x49ff80000000000000000000000000000000000000000000000000030000000000000000000200000000004000000000000000000000000000000000000000000000000000000000000000000001005a0 s (State.flushEnd s a1) := by
  unfold State.flushEnd
  extract_lets -merge -useContext +onlyGivenNames v0
  refine Touch.cut v0 ?_ (fun h1 => ?_)
  · unfold v0
    refine Touch.step ?_ (State.setBusy_touch ..) (by decide +kernel)
    exact Touch.refl _ _
  clear_value v0
  split
  · refine Touch.step ?_ (State.finish_touch ..) (by decide +kernel)
    exact h1
  · refine Touch.step ?_ (State.modFn_touch ..) (by decide +kernel)
    exact h1
  · refine Touch.step ?_ (State.emberTrigger_touch ..) (by decide +kernel)
    refine Touch.step ?_ (State.modFn_touch ..) (by decide +kernel)
    exact h1
  · exact h1
  · exact h1

theorem State.flushPump_touch (s : State) :
    Touch 0x49ff80000000000000000000000000000000000000000000000000030000000000000000000300000c00006000000000000000000000000000000000000000000000000000000000000000000001085a0 s (State.flushPump s) := by
  unfold State.flushPump
  refine Touch.step ?_ (State.staleSettle_touch ..) (by decide +kernel)
  refine Touch.foldl ?_ (fun y0 y1 h2 => ?_)
  · refine Touch.step ?_ (State.modCch_touch ..) (by decide +kernel)
    exact Touch.refl _ _
  · extract_lets -merge -useContext +onlyGivenNames v3
    refine Touch.cut v3.2 ?_ (fun h4 => ?_)
    · unfold v3
      refine Touch.step ?_ (State.flushLines_touch ..) (by decide +kernel)
      exact h2
    clear_value v3
    extract_lets -merge -useContext +onlyGivenNames v5
    clear_value v5
    refine Touch.ite ?_ ?_
    · refine Touch.step ?_ (State.modCch_touch ..) (by decide +kernel)
      exact h4
    · refine Touch.step ?_ (State.flushEnd_touch ..) (by decide +kernel)
      exact h4

theorem State.flushStart_touch (s : State) (a1 : Option ℕ) (a2 : FlushWho) :
    Touch 0x49ff80000000000000000000000000000000000000000000000000030000000000000000000300000c00006000000000000000000000000000000000000000000000000000000000000000000001085a0 s (State.flushStart s a1 a2) := by
  unfold State.flushStart
  refine Touch.step ?_ (State.flushPump_touch ..) (by decide +kernel)
  refine Touch.step ?_ (State.modCch_touch ..) (by decide +kernel)
  refine Touch.step ?_ (State.setBusy_touch ..) (by decide +kernel)
  exact Touch.refl _ _

theorem State.discardLines_touch (s : State) (a1 : Option ℕ) :
    Touch 0x8000 s (State.discardLines s a1).2 := by
  unfold State.discardLines
  extract_lets -merge -useContext +onlyGivenNames v0
  clear_value v0
  refine Touch.mkSnd ?_
  refine Touch.step ?_ (State.modCch_touch ..) (by decide +kernel)
  exact Touch.refl _ _

theorem State.cacheCtl_touch (s : State) (a1 : Option ℕ) (a2 : CacheOp) (a3 : Bool) (a4 : Bool) (a5 : FlushWho) :
    Touch 0x49ff80000000000000000000000000000000000000000000000000030000000000000000000380000c00007000000000000000000000000000000000000000000000000000000000000000000001085a0 s (State.cacheCtl s a1 a2 a3 a4 a5).2 := by
  unfold State.cacheCtl
  extract_lets -merge -useContext +onlyGivenNames v0
  clear_value v0
  split
  · refine Touch.mkSnd ?_
    refine Touch.step ?_ (State.setScope_touch ..) (by decide +kernel)
    exact Touch.refl _ _
  · refine Touch.mkSnd ?_
    refine Touch.step ?_ (State.flushStart_touch ..) (by decide +kernel)
    refine Touch.step ?_ (State.setScope_touch ..) (by decide +kernel)
    exact Touch.refl _ _
  · refine Touch.iteSnd ?_ ?_
    · extract_lets -merge -useContext +onlyGivenNames v1
      refine Touch.cut v1.2 ?_ (fun h2 => ?_)
      · unfold v1
        refine Touch.step ?_ (State.discardLines_touch ..) (by decide +kernel)
        exact Touch.refl _ _
      clear_value v1
      refine Touch.mkSnd ?_
      refine Touch.step ?_ (State.setScope_touch ..) (by decide +kernel)
      exact h2
    · refine Touch.iteSnd ?_ ?_
      · refine Touch.mkSnd ?_
        exact Touch.refl _ _
      · refine Touch.mkSnd ?_
        refine Touch.step ?_ (State.flushStart_touch ..) (by decide +kernel)
        refine Touch.step ?_ (State.setScope_touch ..) (by decide +kernel)
        exact Touch.refl _ _
  · refine Touch.iteSnd ?_ ?_
    · extract_lets -merge -useContext +onlyGivenNames v3
      refine Touch.cut v3.2 ?_ (fun h4 => ?_)
      · unfold v3
        refine Touch.step ?_ (State.discardLines_touch ..) (by decide +kernel)
        exact Touch.refl _ _
      clear_value v3
      refine Touch.mkSnd ?_
      refine Touch.step ?_ (State.setScope_touch ..) (by decide +kernel)
      exact h4
    · refine Touch.iteSnd ?_ ?_
      · refine Touch.mkSnd ?_
        refine Touch.step ?_ (State.setScope_touch ..) (by decide +kernel)
        exact Touch.refl _ _
      · refine Touch.iteSnd ?_ ?_
        · refine Touch.mkSnd ?_
          refine Touch.step ?_ (State.cacheFault_touch ..) (by decide +kernel)
          refine Touch.step ?_ (State.setScope_touch ..) (by decide +kernel)
          exact Touch.refl _ _
        · refine Touch.mkSnd ?_
          exact Touch.refl _ _
  · refine Touch.mkSnd ?_
    refine Touch.step ?_ (State.setScope_touch ..) (by decide +kernel)
    exact Touch.refl _ _
  · refine Touch.mkSnd ?_
    exact Touch.refl _ _

theorem State.cacheRun_touch (a0 : ℕ) (a1 : ℕ) (a2 : CacheOp) (a3 : Option ℕ) (a4 : ActiveCmd) (s : State) :
    Touch 0x49ff80000000000000000000000000000000000000000000000000030000000000000000000380000c00007000000000000000000000000000000000000000000000000000000000000000000001085a0 s (State.cacheRun a0 a1 a2 a3 a4 s) := by
  unfold State.cacheRun
  refine Touch.ite ?_ ?_
  · refine Touch.step ?_ (State.finish_touch ..) (by decide +kernel)
    exact Touch.refl _ _
  · refine Touch.ite ?_ ?_
    · refine Touch.step ?_ (State.finish_touch ..) (by decide +kernel)
      exact Touch.refl _ _
    · extract_lets -merge -useContext +onlyGivenNames v0
      refine Touch.cut v0 ?_ (fun h1 => ?_)
      · unfold v0
        refine Touch.step ?_ (State.modCmd_touch ..) (by decide +kernel)
        exact Touch.refl _ _
      clear_value v0
      extract_lets -merge -useContext +onlyGivenNames v2
      refine Touch.cut v2.2 ?_ (fun h3 => ?_)
      · unfold v2
        refine Touch.step ?_ (State.cacheCtl_touch ..) (by decide +kernel)
        exact h1
      clear_value v2
      split
      · refine Touch.step ?_ (State.finish_touch ..) (by decide +kernel)
        exact h3
      · refine Touch.step ?_ (State.cacheFault_touch ..) (by decide +kernel)
        refine Touch.step ?_ (State.finish_touch ..) (by decide +kernel)
        exact h3
      · exact h3

theorem State.cacheCmd_touch (s : State) (a1 : ℕ) (a2 : ℕ) (a3 : ℕ) (a4 : CacheOp) :
    Touch 0x49ff8000000000000180000000003f90100000000000000000006003000000000000000000f381803ffc00700021f00300000000240000000000000000000000000000000000c001fffffe00000bffda0 s (State.cacheCmd s a1 a2 a3 a4) := by
  unfold State.cacheCmd
  split
  · exact Touch.refl _ _
  · extract_lets -merge -useContext +onlyGivenNames v0
    clear_value v0
    refine Touch.ite ?_ ?_
    · exact Touch.refl _ _
    · refine Touch.step ?_ (State.settleAll_touch ..) (by decide +kernel)
      refine State.start_touch ?_ (fun y1 y2 h3 => ?_) (by decide +kernel)
      · exact Touch.refl _ _
      · refine Touch.step ?_ (State.cacheRun_touch ..) (by decide +kernel)
        exact h3

theorem execCacheDisableFlush_touch (a0 : ℕ) (a1 : ℕ) (s : State) :
    ∃ t, execCacheDisableFlush a0 a1 s = .next t ∧ Touch 0x49ff8000000000000180000000003f90100000000000000000006003000000000000000000f381803ffc00700021f00300000000240000000000000000000000000000000000c001fffffe00000bffda0 s t := by
  refine ⟨_, rfl, ?_⟩
  refine Touch.step ?_ (State.cacheCmd_touch ..) (by decide +kernel)
  exact Touch.refl _ _

theorem execCacheDisableRetain_touch (a0 : ℕ) (a1 : ℕ) (s : State) :
    ∃ t, execCacheDisableRetain a0 a1 s = .next t ∧ Touch 0x49ff8000000000000180000000003f90100000000000000000006003000000000000000000f381803ffc00700021f00300000000240000000000000000000000000000000000c001fffffe00000bffda0 s t := by
  refine ⟨_, rfl, ?_⟩
  refine Touch.step ?_ (State.cacheCmd_touch ..) (by decide +kernel)
  exact Touch.refl _ _

theorem execCacheEnable_touch (a0 : ℕ) (a1 : ℕ) (s : State) :
    ∃ t, execCacheEnable a0 a1 s = .next t ∧ Touch 0x49ff8000000000000180000000003f90100000000000000000006003000000000000000000f381803ffc00700021f00300000000240000000000000000000000000000000000c001fffffe00000bffda0 s t := by
  refine ⟨_, rfl, ?_⟩
  refine Touch.step ?_ (State.cacheCmd_touch ..) (by decide +kernel)
  exact Touch.refl _ _

theorem State.resetScope_touch (s : State) (a1 : Option ℕ) :
    Touch 0x49ff80000000000000000000000000000000000000000000000000030000000000000000000380000c00007000000000000000000000000000000000000000000000000000000000000000000001085a0 s (State.resetScope s a1) := by
  unfold State.resetScope
  extract_lets -merge -useContext +onlyGivenNames v0
  refine Touch.cut v0 ?_ (fun h1 => ?_)
  · unfold v0
    refine Touch.ite ?_ ?_
    · refine Touch.step ?_ (State.cacheFault_touch ..) (by decide +kernel)
      exact Touch.refl _ _
    · exact Touch.refl _ _
  clear_value v0
  refine Touch.step ?_ (State.flushStart_touch ..) (by decide +kernel)
  refine Touch.step ?_ (State.setScope_touch ..) (by decide +kernel)
  exact h1

theorem State.hostOp_touch (s : State) (a1 : ℕ) :
    Touch 0x49ff80000000000000000000000000000000000000000000000000030000000000000000000380000c00007000000000000000000000000000000000000000000000000000000000000000000001085a0 s (State.hostOp s a1) := by
  unfold State.hostOp
  split
  · refine Touch.step ?_ (State.cacheCtl_touch ..) (by decide +kernel)
    exact Touch.refl _ _
  · refine Touch.ite ?_ ?_
    · exact Touch.refl _ _
    · extract_lets -merge -useContext +onlyGivenNames v0
      refine Touch.cut v0.2 ?_ (fun h1 => ?_)
      · unfold v0
        refine Touch.step ?_ (State.cacheCtl_touch ..) (by decide +kernel)
        exact Touch.refl _ _
      clear_value v0
      refine Touch.ite ?_ ?_
      · exact h1
      · refine Touch.step ?_ (State.modFn_touch ..) (by decide +kernel)
        exact h1
  · refine Touch.step ?_ (State.modFn_touch ..) (by decide +kernel)
    refine Touch.step ?_ (State.cacheCtl_touch ..) (by decide +kernel)
    exact Touch.refl _ _
  · extract_lets -merge -useContext +onlyGivenNames v2
    refine Touch.cut v2.2 ?_ (fun h3 => ?_)
    · unfold v2
      refine Touch.step ?_ (State.cacheCtl_touch ..) (by decide +kernel)
      exact Touch.refl _ _
    clear_value v2
    refine Touch.ite ?_ ?_
    · exact h3
    · refine Touch.step ?_ (State.emberTrigger_touch ..) (by decide +kernel)
      refine Touch.step ?_ (State.modFn_touch ..) (by decide +kernel)
      exact h3

theorem State.hostOps_touch (a0 : ℕ) (s : State) :
    Touch 0x49ff80000000000000000000000000000000000000000000000000030000000000000000000380000c00007000000000000000000000000000000000000000000000000000000000000000000001085a0 s (State.hostOps a0 s) := by
  induction a0 generalizing s
  · unfold State.hostOps
    exact Touch.refl _ _
  · rename_i n_ ih
    unfold State.hostOps
    split
    · rename_i y0 y1
      exact Touch.refl _ _
    · rename_i y2 y3 y4 y5
      refine Touch.ite ?_ ?_
      · exact Touch.refl _ _
      · refine Touch.stepSelf ?_ (ih ..)
        refine Touch.step ?_ (State.hostOp_touch ..) (by decide +kernel)
        refine Touch.step ?_ (State.modCch_touch ..) (by decide +kernel)
        exact Touch.refl _ _

theorem State.biVictim_touch (s : State) (a1 : ℕ) :
    Touch 0x180000000000000000000000000000000000000000000000000000000000000000000000000000108100 s (State.biVictim s a1) := by
  unfold State.biVictim
  refine Touch.ite ?_ ?_
  · refine Touch.step ?_ (State.modCch_touch ..) (by decide +kernel)
    exact Touch.refl _ _
  · refine Touch.step ?_ (State.biSend_touch ..) (by decide +kernel)
    exact Touch.refl _ _

theorem State.dirUpdate_touch (s : State) (a1 : ℕ) (a2 : ℕ) (a3 : ℕ) :
    TouchO 0x780000000000000000000000000000000000000000000000000000000000000000000000000000108100 s (State.dirUpdate s a1 a2 a3) := by
  unfold State.dirUpdate
  refine TouchO.ite ?_ ?_
  · refine TouchO.some ?_
    exact Touch.refl _ _
  · refine TouchO.ite ?_ ?_
    · refine TouchO.some ?_
      refine Touch.step ?_ (State.delDir_touch ..) (by decide +kernel)
      exact Touch.refl _ _
    · refine TouchO.ite ?_ ?_
      · refine TouchO.some ?_
        exact Touch.refl _ _
      · refine TouchO.ite ?_ ?_
        · refine TouchO.some ?_
          refine Touch.step ?_ (State.setDir_touch ..) (by decide +kernel)
          exact Touch.refl _ _
        · extract_lets -merge -useContext +onlyGivenNames v0
          clear_value v0
          split
          · refine TouchO.ite ?_ ?_
            · refine TouchO.some ?_
              refine Touch.step ?_ (State.setDir_touch ..) (by decide +kernel)
              exact Touch.refl _ _
            · refine TouchO.ite ?_ ?_
              · refine TouchO.none
              · refine TouchO.some ?_
                refine Touch.step ?_ (State.setDir_touch ..) (by decide +kernel)
                refine Touch.step ?_ (State.biVictim_touch ..) (by decide +kernel)
                refine Touch.step ?_ (State.bump_touch ..) (by decide +kernel)
                refine Touch.step ?_ (State.delDir_touch ..) (by decide +kernel)
                exact Touch.refl _ _
          · refine TouchO.some ?_
            refine Touch.step ?_ (State.setDir_touch ..) (by decide +kernel)
            exact Touch.refl _ _

theorem State.m2sServe_touch (s : State) (a1 : M2S) :
    Touch 0x180000000000000000000000000000000000000000000000000000000000000000000000000000000000000000000000000000000000000000000000000000000000000000b80900 s (State.m2sServe s a1) := by
  unfold State.m2sServe
  extract_lets -merge -useContext +onlyGivenNames v0
  clear_value v0
  split
  · refine Touch.step ?_ (State.emit_touch ..) (by decide +kernel)
    exact Touch.refl _ _
  · refine Touch.step ?_ (State.emit_touch ..) (by decide +kernel)
    exact Touch.refl _ _
  · extract_lets -merge -useContext +onlyGivenNames v1
    extract_lets -merge -useContext +onlyGivenNames v2
    clear_value v2
    extract_lets -merge -useContext +onlyGivenNames v3
    refine Touch.cut v3 ?_ (fun h4 => ?_)
    · unfold v3
      refine Touch.ite ?_ ?_
      · refine Touch.step ?_ (State.capture_touch ..) (by decide +kernel)
        refine Touch.step ?_ (State.setPoison_touch ..) (by decide +kernel)
        exact Touch.refl _ _
      · refine Touch.ite ?_ ?_
        · refine Touch.step ?_ (State.writeLine_touch ..) (by decide +kernel)
          exact Touch.refl _ _
        · refine Touch.ite ?_ ?_
          · exact Touch.refl _ _
          · refine Touch.step ?_ (State.writeLine_touch ..) (by decide +kernel)
            exact Touch.refl _ _
    clear_value v3
    refine Touch.step ?_ (State.emit_touch ..) (by decide +kernel)
    exact h4

theorem State.m2sTry_touch (s : State) (a1 : M2S) :
    Touch 0x180000000000000000000000000000000000000000000000000000000000780000000000000000000000000000000000000000000000000000000000000c001fffffe00000b88900 s (State.m2sTry s a1) := by
  unfold State.m2sTry
  extract_lets -merge -useContext +onlyGivenNames v0
  clear_value v0
  extract_lets -merge -useContext +onlyGivenNames v1
  refine Touch.ite ?_ ?_
  · unfold v1
    refine Touch.step ?_ (State.modCch_touch ..) (by decide +kernel)
    exact Touch.refl _ _
  · refine Touch.ite ?_ ?_
    · unfold v1
      refine Touch.step ?_ (State.modCch_touch ..) (by decide +kernel)
      refine Touch.step ?_ (State.wake_touch ..) (by decide +kernel)
      exact Touch.refl _ _
    · split
      · unfold v1
        refine Touch.step ?_ (State.modCch_touch ..) (by decide +kernel)
        exact Touch.refl _ _
      · rename_i y2 y3 y4
        refine Touch.step ?_ (State.m2sServe_touch ..) (by decide +kernel)
        refine TouchO.ofSome y4 ?_
        refine TouchO.step ?_ (State.dirUpdate_touch ..) (by decide +kernel)
        exact Touch.refl _ _

theorem State.m2sPump_touch (s : State) :
    Touch 0x180000000000000000000000000000000000000000000000000000000000780000000000000000000000000000000000000000000000000000000000000c001fffffe00000b88900 s (State.m2sPump s) := by
  unfold State.m2sPump
  refine Touch.foldl ?_ (fun y0 y1 h2 => ?_)
  · refine Touch.step ?_ (State.modCch_touch ..) (by decide +kernel)
    exact Touch.refl _ _
  · refine Touch.step ?_ (State.m2sTry_touch ..) (by decide +kernel)
    exact h2

theorem State.drainPump_touch (s : State) :
    Touch 0x180000000000000000000000000000000000000000000000000000000000000000000000000000108100 s (State.drainPump s) := by
  unfold State.drainPump
  refine Touch.foldl ?_ (fun y0 y1 h2 => ?_)
  · exact Touch.refl _ _
  · refine Touch.ite ?_ ?_
    · refine Touch.step ?_ (State.biVictim_touch ..) (by decide +kernel)
      exact h2
    · exact h2

theorem State.evictPump_touch (s : State) :
    Touch 0xc0000000000000000000000000000000000000000000000000000000000000000000000000108100 s (State.evictPump s) := by
  unfold State.evictPump
  refine Touch.ite ?_ ?_
  · exact Touch.refl _ _
  · refine Touch.foldl ?_ (fun y0 y1 h2 => ?_)
    · refine Touch.step ?_ (State.modCch_touch ..) (by decide +kernel)
      exact Touch.refl _ _
    · refine Touch.step ?_ (State.sendEvict_touch ..) (by decide +kernel)
      exact h2

theorem State.cchPump_touch (s : State) :
    Touch 0x49ff8000000000000180000000003f90100000000000000000006003000000000000000000f387803ffc00700021f00300000000240000000000000000000000000000000000c001fffffe00000bffda0 s (State.cchPump s) := by
  unfold State.cchPump
  refine Touch.step ?_ (State.settleAll_touch ..) (by decide +kernel)
  refine Touch.step ?_ (State.drainPump_touch ..) (by decide +kernel)
  refine Touch.step ?_ (State.m2sPump_touch ..) (by decide +kernel)
  refine Touch.step ?_ (State.hostOps_touch ..) (by decide +kernel)
  refine Touch.step ?_ (State.flushPump_touch ..) (by decide +kernel)
  refine Touch.step ?_ (State.evictPump_touch ..) (by decide +kernel)
  exact Touch.refl _ _

theorem execM2sRequest_touch (a0 : M2S) (a1 : List EccEvent) (a2 : List Byte) (s : State) :
    ∃ t, execM2sRequest a0 a1 a2 s = .next t ∧ Touch 0x49ff8000000000000180000000003f901000000000000000000060030001fe100000000f1ef107803ffc00200021f00300000000240000000000000000000000000000000000c001fffffe00000bffda0 s t := by
  refine ⟨_, rfl, ?_⟩
  refine Touch.ite ?_ ?_
  · exact Touch.refl _ _
  · split
    · extract_lets -merge -useContext +onlyGivenNames v0
      refine Touch.cut v0 ?_ (fun h1 => ?_)
      · unfold v0
        refine Touch.step ?_ (State.violation_touch ..) (by decide +kernel)
        exact Touch.refl _ _
      clear_value v0
      refine Touch.ite ?_ ?_
      · extract_lets -merge -useContext +onlyGivenNames v2
        refine Touch.cut v2.2 ?_ (fun h3 => ?_)
        · unfold v2
          refine Touch.step ?_ (State.draw_touch ..) (by decide +kernel)
          exact h1
        clear_value v2
        refine Touch.step ?_ (State.emit_touch ..) (by decide +kernel)
        exact h3
      · refine Touch.step ?_ (State.emit_touch ..) (by decide +kernel)
        exact h1
    · extract_lets -merge -useContext +onlyGivenNames v4
      refine Touch.cut v4 ?_ (fun h5 => ?_)
      · unfold v4
        refine Touch.ite ?_ ?_
        · refine Touch.step ?_ (State.violation_touch ..) (by decide +kernel)
          exact Touch.refl _ _
        · exact Touch.refl _ _
      clear_value v4
      refine Touch.step ?_ (State.settleAll_touch ..) (by decide +kernel)
      refine Touch.step ?_ (State.drainPump_touch ..) (by decide +kernel)
      refine Touch.step ?_ (State.m2sTry_touch ..) (by decide +kernel)
      refine Touch.step ?_ (State.eccRead_touch ..) (by decide +kernel)
      refine Touch.step ?_ (State.wake_touch ..) (by decide +kernel)
      exact h5

theorem State.biEnd_touch (s : State) (a1 : ℕ) (a2 : Option ℕ) :
    Touch 0x49ff8000000000000180000000003f90100000000000000000006003000000000000000000f39f803ffc00700021f00300000000240000000000000000000000000000000000c001fffffe00000bffda0 s (State.biEnd s a1 a2) := by
  unfold State.biEnd
  extract_lets -merge -useContext +onlyGivenNames v0
  clear_value v0
  extract_lets -merge -useContext +onlyGivenNames v1
  refine Touch.cut v1 ?_ (fun h2 => ?_)
  · unfold v1
    refine Touch.step ?_ (State.modCch_touch ..) (by decide +kernel)
    exact Touch.refl _ _
  clear_value v1
  extract_lets -merge -useContext +onlyGivenNames v3
  refine Touch.cut v3 ?_ (fun h4 => ?_)
  · unfold v3
    refine Touch.foldl ?_ (fun y5 y6 h7 => ?_)
    · exact h2
    · refine Touch.step ?_ (State.modCore_touch ..) (by decide +kernel)
      exact h7
  clear_value v3
  extract_lets -merge -useContext +onlyGivenNames v8
  refine Touch.cut v8 ?_ (fun h9 => ?_)
  · unfold v8
    split
    · refine Touch.ite ?_ ?_
      · refine Touch.step ?_ (State.setDir_touch ..) (by decide +kernel)
        exact h4
      · exact h4
    · exact h4
    · refine Touch.step ?_ (State.delDir_touch ..) (by decide +kernel)
      refine Touch.ite ?_ ?_
      · refine Touch.step ?_ (State.bump_touch ..) (by decide +kernel)
        exact h4
      · exact h4
    · refine Touch.step ?_ (State.delDir_touch ..) (by decide +kernel)
      exact h4
  clear_value v8
  extract_lets -merge -useContext +onlyGivenNames v10
  refine Touch.cut v10 ?_ (fun h11 => ?_)
  · unfold v10
    refine Touch.step ?_ (State.modXlat_touch ..) (by decide +kernel)
    exact h9
  clear_value v10
  refine Touch.step ?_ (State.cchPump_touch ..) (by decide +kernel)
  refine Touch.step ?_ (State.settleAll_touch ..) (by decide +kernel)
  exact h11

theorem State.biError_touch (s : State) (a1 : ℕ) (a2 : List Byte) :
    Touch 0x49ff80000000000000000000000000000000000000000000000000030001fe100000000000000000000000000000000000000000000000000000000000000000000000000000000000000000000100580 s (State.biError s a1 a2) := by
  unfold State.biError
  refine Touch.step ?_ (State.cacheFault_touch ..) (by decide +kernel)
  refine Touch.step ?_ (State.violation_touch ..) (by decide +kernel)
  exact Touch.refl _ _

theorem execBirsp_touch (a0 : ℕ) (a1 : ℕ) (a2 : Bool) (a3 : Option (List Byte × Bool)) (a4 : List Byte) (s : State) :
    ∃ t, execBirsp a0 a1 a2 a3 a4 s = .next t ∧ Touch 0x49ff8000000000000180000000003f901000000000000000000060030001fe100000000000f39f803ffc00700021f00300000000240000000000000000000000000000000000c001fffffe00000bffda0 s t := by
  refine ⟨_, rfl, ?_⟩
  refine Touch.ite ?_ ?_
  · refine Touch.step ?_ (State.violation_touch ..) (by decide +kernel)
    exact Touch.refl _ _
  · refine Touch.ite ?_ ?_
    · refine Touch.step ?_ (State.biEnd_touch ..) (by decide +kernel)
      refine Touch.step ?_ (State.biError_touch ..) (by decide +kernel)
      exact Touch.refl _ _
    · extract_lets -merge -useContext +onlyGivenNames v0
      refine Touch.cut v0 ?_ (fun h1 => ?_)
      · unfold v0
        split
        · refine Touch.step ?_ (State.writeLine_touch ..) (by decide +kernel)
          exact Touch.refl _ _
        · exact Touch.refl _ _
      clear_value v0
      refine Touch.step ?_ (State.biEnd_touch ..) (by decide +kernel)
      exact h1

theorem execBiTimeout_touch (a0 : ℕ) (a1 : List Byte) (s : State) :
    ∃ t, execBiTimeout a0 a1 s = .next t ∧ Touch 0x49ff8000000000000180000000003f901000000000000000000060030001fe100000000000f39f803ffc00700021f00300000000240000000000000000000000000000000000c001fffffe00000bffda0 s t := by
  refine ⟨_, rfl, ?_⟩
  refine Touch.ite ?_ ?_
  · refine Touch.step ?_ (State.biEnd_touch ..) (by decide +kernel)
    refine Touch.step ?_ (State.biError_touch ..) (by decide +kernel)
    exact Touch.refl _ _
  · exact Touch.refl _ _

theorem execBiconflict_touch (a0 : ℕ) (s : State) :
    ∃ t, execBiconflict a0 s = .next t ∧ Touch 0x6000000000000000000000000000000000000000000000000000000000000000000000000000000100100 s t := by
  refine ⟨_, rfl, ?_⟩
  refine Touch.ite ?_ ?_
  · refine Touch.step ?_ (State.emit_touch ..) (by decide +kernel)
    refine Touch.step ?_ (State.bump_touch ..) (by decide +kernel)
    exact Touch.refl _ _
  · exact Touch.refl _ _

theorem State.dirDrain_touch (s : State) :
    Touch 0x194000000000000000000000000000000000000000000000000000000000000000000000000000108100 s (State.dirDrain s) := by
  unfold State.dirDrain
  refine Touch.step ?_ (State.drainPump_touch ..) (by decide +kernel)
  refine Touch.step ?_ (State.modCch_touch ..) (by decide +kernel)
  refine Touch.step ?_ (State.put_touch ..) (by decide +kernel)
  refine Touch.step ?_ (State.put_touch ..) (by decide +kernel)
  exact Touch.refl _ _

theorem execDirDrain_touch (s : State) :
    ∃ t, execDirDrain s = .next t ∧ Touch 0x194000000000000000000000000000000000000000000000000000000000000000000000000000108100 s t := by
  refine ⟨_, rfl, ?_⟩
  refine Touch.step ?_ (State.dirDrain_touch ..) (by decide +kernel)
  exact Touch.refl _ _

theorem execDirDrainDone_touch (s : State) :
    ∃ t, execDirDrainDone s = .next t ∧ Touch 0x14000000000000000000000000000000000000000000000000000000000000000000000000000008000 s t := by
  refine ⟨_, rfl, ?_⟩
  refine Touch.ite ?_ ?_
  · refine Touch.step ?_ (State.modCch_touch ..) (by decide +kernel)
    refine Touch.step ?_ (State.put_touch ..) (by decide +kernel)
    refine Touch.step ?_ (State.put_touch ..) (by decide +kernel)
    exact Touch.refl _ _
  · exact Touch.refl _ _

theorem State.snoopHit_touch (s : State) (a1 : ℕ) (a2 : ℕ) :
    Touch 0x8000 s (State.snoopHit s a1 a2) := by
  unfold State.snoopHit
  refine Touch.ite ?_ ?_
  · refine Touch.step ?_ (State.modCch_touch ..) (by decide +kernel)
    exact Touch.refl _ _
  · refine Touch.ite ?_ ?_
    · refine Touch.step ?_ (State.delLine_touch ..) (by decide +kernel)
      exact Touch.refl _ _
    · exact Touch.refl _ _

theorem State.snoopTaken_touch (s : State) (a1 : ℕ) (a2 : ℕ) :
    Touch 0x8000 s (State.snoopTaken s a1 a2) := by
  unfold State.snoopTaken
  refine Touch.ite ?_ ?_
  · exact Touch.refl _ _
  · refine Touch.step ?_ (State.modCch_touch ..) (by decide +kernel)
    exact Touch.refl _ _

theorem State.snoopAt_touch (s : State) (a1 : ℕ) (a2 : ℕ) :
    Touch 0x10003000000200000000000000000000000000000000000000000000000000000000000000000000108100 s (State.snoopAt s a1 a2) := by
  unfold State.snoopAt
  split
  · refine Touch.step ?_ (State.staleSettle_touch ..) (by decide +kernel)
    refine Touch.step ?_ (State.emit_touch ..) (by decide +kernel)
    refine Touch.step ?_ (State.snoopHit_touch ..) (by decide +kernel)
    exact Touch.refl _ _
  · split
    · refine Touch.step ?_ (State.emit_touch ..) (by decide +kernel)
      refine Touch.step ?_ (State.snoopTaken_touch ..) (by decide +kernel)
      refine Touch.step ?_ (State.bump_touch ..) (by decide +kernel)
      exact Touch.refl _ _
    · refine Touch.step ?_ (State.emit_touch ..) (by decide +kernel)
      exact Touch.refl _ _

theorem State.snoop_touch (s : State) (a1 : ℕ) (a2 : ℕ) :
    Touch 0x10003c00000200000000000000000000000000000000000000000000000000000c001fffffe00000108100 s (State.snoop s a1 a2) := by
  unfold State.snoop
  refine Touch.step ?_ (State.snoopAt_touch ..) (by decide +kernel)
  refine Touch.step ?_ (State.bump_touch ..) (by decide +kernel)
  refine Touch.step ?_ (State.wake_touch ..) (by decide +kernel)
  exact Touch.refl _ _

theorem execH2dSnoop_touch (a0 : ℕ) (a1 : ℕ) (s : State) :
    ∃ t, execH2dSnoop a0 a1 s = .next t ∧ Touch 0x49ff8000000000000180000000003f90100000000000000000006003000000000000000000f38783fffc00700021f00300000000240000000000000000000000000000000000c001fffffe00000bffda0 s t := by
  refine ⟨_, rfl, ?_⟩
  refine Touch.ite ?_ ?_
  · refine Touch.step ?_ (State.cchPump_touch ..) (by decide +kernel)
    refine Touch.step ?_ (State.snoop_touch ..) (by decide +kernel)
    exact Touch.refl _ _
  · exact Touch.refl _ _

theorem execH2dResponse_touch (a0 : ℕ) (a1 : Option ℕ) (a2 : Option (List Byte × Bool)) (a3 : List Byte) (s : State) :
    ∃ t, execH2dResponse a0 a1 a2 a3 s = .next t ∧ Touch 0x49ff8000000000000180000000003f901000000000000000000060030001fe100000000000f387803fffc0700021f00300000000240000000000000000000000000000000000c001fffffe00000bffda0 s t := by
  refine ⟨_, rfl, ?_⟩
  split
  · refine Touch.step ?_ (State.violation_touch ..) (by decide +kernel)
    exact Touch.refl _ _
  · refine Touch.ite ?_ ?_
    · refine Touch.step ?_ (State.violation_touch ..) (by decide +kernel)
      exact Touch.refl _ _
    · extract_lets -merge -useContext +onlyGivenNames v0
      refine Touch.cut v0 ?_ (fun h1 => ?_)
      · unfold v0
        refine Touch.step ?_ (State.h2dAnswer_touch ..) (by decide +kernel)
        exact Touch.refl _ _
      clear_value v0
      refine Touch.step ?_ (State.cchPump_touch ..) (by decide +kernel)
      refine Touch.ite ?_ ?_
      · refine Touch.step ?_ (State.modCch_touch ..) (by decide +kernel)
        exact h1
      · exact h1

theorem execWritePull_touch (a0 : ℕ) (a1 : List Byte) (s : State) :
    ∃ t, execWritePull a0 a1 s = .next t ∧ Touch 0x49ff8000000000000180000000003f901000000000000000000060030001fe100000000000f387803ffc00700021f00300000000240000000000000000000000000000000000c001fffffe00000bffda0 s t := by
  refine ⟨_, rfl, ?_⟩
  split
  · refine Touch.step ?_ (State.violation_touch ..) (by decide +kernel)
    exact Touch.refl _ _
  · extract_lets -merge -useContext +onlyGivenNames v0
    refine Touch.cut v0 ?_ (fun h1 => ?_)
    · unfold v0
      refine Touch.step ?_ (State.d2hDel_touch ..) (by decide +kernel)
      exact Touch.refl _ _
    clear_value v0
    refine Touch.step ?_ (State.cchPump_touch ..) (by decide +kernel)
    split
    · exact h1
    · refine Touch.step ?_ (State.emit_touch ..) (by decide +kernel)
      refine Touch.step ?_ (State.modCch_touch ..) (by decide +kernel)
      exact h1

theorem execStreamingEnd_touch (a0 : ℕ) (s : State) :
    ∃ t, execStreamingEnd a0 s = .next t ∧ Touch 0x4000 s t := by
  refine ⟨_, rfl, ?_⟩
  refine Touch.step ?_ (State.modXlat_touch ..) (by decide +kernel)
  exact Touch.refl _ _

theorem execCacheResponseTimeout_touch (a0 : ℕ) (a1 : List Byte) (s : State) :
    ∃ t, execCacheResponseTimeout a0 a1 s = .next t ∧ Touch 0x49ff8000000000000180000000003f901000000000000000000060030007fe100000000000f387803ffc00700021f00300000000240000000000000000000000000000000000c001fffffe00000bffda0 s t := by
  refine ⟨_, rfl, ?_⟩
  split
  · exact Touch.refl _ _
  · extract_lets -merge -useContext +onlyGivenNames v0
    refine Touch.cut v0 ?_ (fun h1 => ?_)
    · unfold v0
      refine Touch.step ?_ (State.d2hFail_touch ..) (by decide +kernel)
      refine Touch.step ?_ (State.bump_touch ..) (by decide +kernel)
      refine Touch.step ?_ (State.violation_touch ..) (by decide +kernel)
      exact Touch.refl _ _
    clear_value v0
    refine Touch.step ?_ (State.cchPump_touch ..) (by decide +kernel)
    refine Touch.ite ?_ ?_
    · refine Touch.step ?_ (State.modCch_touch ..) (by decide +kernel)
      exact h1
    · exact h1

theorem State.hostCtl_touch (s : State) (a1 : ℕ) :
    Touch 0x49ff8000000000000180000000003f90100000000000000000006003000000000000000000f387803ffc00700021f00300000000240000000000000000000000000000000000c001fffffe00000bffda0 s (State.hostCtl s a1) := by
  unfold State.hostCtl
  refine Touch.step ?_ (State.cchPump_touch ..) (by decide +kernel)
  refine Touch.step ?_ (State.modCch_touch ..) (by decide +kernel)
  exact Touch.refl _ _

theorem execDisableCachingSet_touch (s : State) :
    ∃ t, execDisableCachingSet s = .next t ∧ Touch 0x49ff8000000000000180000000003f90100000000000000000006003000000000000000000f387803ffc00700021f00300000000240000000000000000000000000000000000c001fffffe00000bffda0 s t := by
  refine ⟨_, rfl, ?_⟩
  refine Touch.ite ?_ ?_
  · exact Touch.refl _ _
  · refine Touch.step ?_ (State.hostCtl_touch ..) (by decide +kernel)
    refine Touch.step ?_ (State.modFn_touch ..) (by decide +kernel)
    exact Touch.refl _ _

theorem execInitiateCacheWbinv_touch (s : State) :
    ∃ t, execInitiateCacheWbinv s = .next t ∧ Touch 0x49ff8000000000000180000000003f90100000000000000000006003000000000000000000f387803ffc00700021f00300000000240000000000000000000000000000000000c001fffffe00000bffda0 s t := by
  refine ⟨_, rfl, ?_⟩
  refine Touch.ite ?_ ?_
  · refine Touch.step ?_ (State.hostCtl_touch ..) (by decide +kernel)
    exact Touch.refl _ _
  · exact Touch.refl _ _

theorem execDisableCachingClear_touch (s : State) :
    ∃ t, execDisableCachingClear s = .next t ∧ Touch 0x49ff8000000000000180000000003f90100000000000000000006003000000000000000000f387803ffc00700021f00300000000240000000000000000000000000000000000c001fffffe00000bffda0 s t := by
  refine ⟨_, rfl, ?_⟩
  refine Touch.ite ?_ ?_
  · refine Touch.step ?_ (State.hostCtl_touch ..) (by decide +kernel)
    refine Touch.step ?_ (State.modFn_touch ..) (by decide +kernel)
    exact Touch.refl _ _
  · exact Touch.refl _ _

theorem execGpfPhase1_touch (s : State) :
    ∃ t, execGpfPhase1 s = .next t ∧ Touch 0x49ff8000000000000180000000003f90100000000000000000006003000000000000000000f387803ffc00700021f00300000000240000000000000000000000000000000000c001fffffe00000bffda0 s t := by
  refine ⟨_, rfl, ?_⟩
  refine Touch.step ?_ (State.hostCtl_touch ..) (by decide +kernel)
  exact Touch.refl _ _

theorem execHdmDecoderCommit_touch (a0 : ℕ) (a1 : ℕ) (a2 : ℕ) (a3 : ℕ) (a4 : ℕ) (a5 : ℕ) (a6 : Bool) (s : State) :
    ∃ t, execHdmDecoderCommit a0 a1 a2 a3 a4 a5 a6 s = .next t ∧ Touch 0x80 s t := by
  refine ⟨_, rfl, ?_⟩
  extract_lets -merge -useContext +onlyGivenNames v0
  clear_value v0
  refine Touch.ite ?_ ?_
  · exact Touch.refl _ _
  · extract_lets -merge -useContext +onlyGivenNames v1
    clear_value v1
    extract_lets -merge -useContext +onlyGivenNames v2
    clear_value v2
    refine Touch.step ?_ (State.modHost_touch ..) (by decide +kernel)
    exact Touch.refl _ _

theorem execHdmDecoderUncommit_touch (a0 : ℕ) (s : State) :
    ∃ t, execHdmDecoderUncommit a0 s = .next t ∧ Touch 0x49ff8000000000000180000000003f90100000000000000000006003000000000000000000f387803ffc00700021f00300000000240000000000000000000000000000000000c001fffffe00000bffda0 s t := by
  refine ⟨_, rfl, ?_⟩
  extract_lets -merge -useContext +onlyGivenNames v0
  clear_value v0
  refine Touch.ite ?_ ?_
  · exact Touch.refl _ _
  · refine Touch.ite ?_ ?_
    · refine Touch.step ?_ (State.modHost_touch ..) (by decide +kernel)
      exact Touch.refl _ _
    · refine Touch.step ?_ (State.cchPump_touch ..) (by decide +kernel)
      refine Touch.step ?_ (State.modHost_touch ..) (by decide +kernel)
      exact Touch.refl _ _

theorem execDecoderUncommitDone_touch (a0 : ℕ) (s : State) :
    ∃ t, execDecoderUncommitDone a0 s = .next t ∧ Touch 0x80 s t := by
  refine ⟨_, rfl, ?_⟩
  extract_lets -merge -useContext +onlyGivenNames v0
  clear_value v0
  refine Touch.ite ?_ ?_
  · exact Touch.refl _ _
  · refine Touch.step ?_ (State.modHost_touch ..) (by decide +kernel)
    exact Touch.refl _ _

end Sys2Proof.Machine
end

