-- ==== Sys2Proof/Laws/TouchDlRows.lean ====
section
/-! SUPPORT. What the operations of Machine/DlRows.lean may change. -/
namespace Sys2Proof.Machine

set_option Elab.async false

theorem State.dlDel_touch (s : State) (a1 : DlReq) :
    Touch 0x10000 s (State.dlDel s a1) := by
  unfold State.dlDel
  refine Touch.step ?_ (State.modDl_touch ..) (by decide +kernel)
  exact Touch.refl _ _

theorem State.dlGot_touch (s : State) (a1 : ℕ) (a2 : ℕ) (a3 : List Byte × Bool) :
    Touch 0x4000 s (State.dlGot s a1 a2 a3) := by
  unfold State.dlGot
  refine Touch.step ?_ (State.modAcc_touch ..) (by decide +kernel)
  exact Touch.refl _ _

theorem State.dlFail_touch (s : State) (a1 : DlReq) (a2 : ℕ) (a3 : ℕ) :
    Touch 0x49ff8000000000000000000000000000000000000000000000000003000000000000000000000000000000000000000000000000000000000000000000000000000000000000000000000000000116580 s (State.dlFail s a1 a2 a3) := by
  unfold State.dlFail
  extract_lets -merge -useContext +onlyGivenNames v0
  refine Touch.cut v0 ?_ (fun h1 => ?_)
  · unfold v0
    refine Touch.step ?_ (State.dlDel_touch ..) (by decide +kernel)
    exact Touch.refl _ _
  clear_value v0
  split
  · split
    · exact h1
    · extract_lets -merge -useContext +onlyGivenNames v2
      refine Touch.cut v2 ?_ (fun h3 => ?_)
      · unfold v2
        refine Touch.ite ?_ ?_
        · exact h1
        · refine Touch.step ?_ (State.dlRecord_touch ..) (by decide +kernel)
          refine Touch.step ?_ (State.modAcc_touch ..) (by decide +kernel)
          exact h1
      clear_value v2
      refine Touch.step ?_ (State.dlGot_touch ..) (by decide +kernel)
      exact h3
  · refine Touch.ite ?_ ?_
    · refine Touch.step ?_ (State.breach_touch ..) (by decide +kernel)
      refine Touch.step ?_ (State.dlRecord_touch ..) (by decide +kernel)
      exact h1
    · refine Touch.step ?_ (State.modCore_touch ..) (by decide +kernel)
      refine Touch.step ?_ (State.dlRecord_touch ..) (by decide +kernel)
      exact h1
  · extract_lets -merge -useContext +onlyGivenNames v4
    refine Touch.cut v4 ?_ (fun h5 => ?_)
    · unfold v4
      refine Touch.step ?_ (State.breach_touch ..) (by decide +kernel)
      exact h1
    clear_value v4
    refine Touch.ite ?_ ?_
    · exact h5
    · refine Touch.step ?_ (State.emit_touch ..) (by decide +kernel)
      exact h5
  · exact h1

theorem State.dlDrained_touch (s : State) (a1 : ℕ) :
    Touch 0x49ff8000000000000000000000000000000000000000000010800003000000000000000000000000000000000000000000000000000000000000000000000000000000000000000000000100000110580 s (State.dlDrained s a1) := by
  unfold State.dlDrained
  refine Touch.ite ?_ ?_
  · refine Touch.step ?_ (State.setDlState_touch ..) (by decide +kernel)
    refine Touch.step ?_ (State.modDlPort_touch ..) (by decide +kernel)
    exact Touch.refl _ _
  · exact Touch.refl _ _

theorem State.dlTrained_touch (s : State) (a1 : ℕ) (a2 : ℕ) (a3 : ℕ) (a4 : ℕ) (a5 : ℕ) :
    Touch 0x49ff80000000000000000000000000000000000000000000f0800003000000000000000000000000000000000000000000000000000000000000000000000000000000000000000000000100000110580 s (State.dlTrained s a1 a2 a3 a4 a5) := by
  unfold State.dlTrained
  refine Touch.ite ?_ ?_
  · exact Touch.refl _ _
  · extract_lets -merge -useContext +onlyGivenNames v0
    refine Touch.cut v0 ?_ (fun h1 => ?_)
    · unfold v0
      refine Touch.step ?_ (State.put_touch ..) (by decide +kernel)
      refine Touch.step ?_ (State.put_touch ..) (by decide +kernel)
      refine Touch.step ?_ (State.put_touch ..) (by decide +kernel)
      exact Touch.refl _ _
    clear_value v0
    extract_lets -merge -useContext +onlyGivenNames v2
    refine Touch.cut v2 ?_ (fun h3 => ?_)
    · unfold v2
      refine Touch.step ?_ (State.modDlPort_touch ..) (by decide +kernel)
      exact h1
    clear_value v2
    refine Touch.step ?_ (State.setDlState_touch ..) (by decide +kernel)
    exact h3

theorem execDlPortTrained_touch (a0 : ℕ) (a1 : ℕ) (a2 : ℕ) (a3 : ℕ) (a4 : ℕ) (s : State) :
    ∃ t, execDlPortTrained a0 a1 a2 a3 a4 s = .next t ∧ Touch 0x49ff80000000000000000000000000000000000000000000f0800003000000000000000000000000000000000000000000000000000000000000000000000000000000000000000000000100000110580 s t := by
  refine ⟨_, rfl, ?_⟩
  refine Touch.step ?_ (State.dlTrained_touch ..) (by decide +kernel)
  exact Touch.refl _ _

theorem State.dlMap_touch (s : State) (a1 : ℕ) (a2 : ℕ) (a3 : ℕ) :
    Touch 0x1800000000000000000000000000000000000000000000000000000000000000000000000000000000000000000000000000000000000000000 s (State.dlMap s a1 a2 a3) := by
  unfold State.dlMap
  refine Touch.step ?_ (State.put_touch ..) (by decide +kernel)
  refine Touch.step ?_ (State.put_touch ..) (by decide +kernel)
  exact Touch.refl _ _

theorem State.dlFormMap_touch (s : State) :
    Touch 0x1800600000000000000000000000000000000000000000000000000000000000000000000000000000000000000000000000000000000010000 s (State.dlFormMap s) := by
  unfold State.dlFormMap
  extract_lets -merge -useContext +onlyGivenNames v0
  clear_value v0
  extract_lets -merge -useContext +onlyGivenNames v1
  refine Touch.cut v1 ?_ (fun h2 => ?_)
  · unfold v1
    refine Touch.foldl ?_ (fun y3 y4 h5 => ?_)
    · refine Touch.step ?_ (State.modDl_touch ..) (by decide +kernel)
      exact Touch.refl _ _
    · refine Touch.step ?_ (State.dlMap_touch ..) (by decide +kernel)
      exact h5
  clear_value v1
  extract_lets -merge -useContext +onlyGivenNames v6
  refine Touch.cut v6 ?_ (fun h7 => ?_)
  · unfold v6
    refine Touch.step ?_ (State.put_touch ..) (by decide +kernel)
    refine Touch.step ?_ (State.put_touch ..) (by decide +kernel)
    exact h2
  clear_value v6
  refine Touch.ite ?_ ?_
  · refine Touch.ite ?_ ?_
    · extract_lets -merge -useContext +onlyGivenNames v8
      clear_value v8
      refine Touch.step ?_ (State.put_touch ..) (by decide +kernel)
      refine Touch.foldl ?_ (fun y9 y10 h11 => ?_)
      · refine Touch.step ?_ (State.modDl_touch ..) (by decide +kernel)
        exact h7
      · refine Touch.step ?_ (State.dlMap_touch ..) (by decide +kernel)
        exact h11
    · refine Touch.step ?_ (State.put_touch ..) (by decide +kernel)
      exact h7
  · refine Touch.foldl ?_ (fun y12 y13 h14 => ?_)
    · exact h7
    · refine Touch.ite ?_ ?_
      · refine Touch.step ?_ (State.dlMap_touch ..) (by decide +kernel)
        exact h14
      · exact h14

theorem State.dlJoin_touch (s : State) (a1 : ℕ) :
    Touch 0x1800600000000000000000000000000000000000000000000000000000000000000000000000000000000000000000000000000000000010000 s (State.dlJoin s a1) := by
  unfold State.dlJoin
  refine Touch.ite ?_ ?_
  · exact Touch.refl _ _
  · refine Touch.ite ?_ ?_
    · refine Touch.ite ?_ ?_
      · extract_lets -merge -useContext +onlyGivenNames v0
        clear_value v0
        refine Touch.step ?_ (State.put_touch ..) (by decide +kernel)
        refine Touch.step ?_ (State.put_touch ..) (by decide +kernel)
        refine Touch.foldl ?_ (fun y1 y2 h3 => ?_)
        · refine Touch.step ?_ (State.modDl_touch ..) (by decide +kernel)
          exact Touch.refl _ _
        · refine Touch.step ?_ (State.dlMap_touch ..) (by decide +kernel)
          exact h3
      · exact Touch.refl _ _
    · refine Touch.step ?_ (State.dlMap_touch ..) (by decide +kernel)
      exact Touch.refl _ _

theorem State.dlReenumEnd_touch (s : State) :
    Touch 0x1808600000000000000000000000000000000000000000000000000000000000000000000000000000000000000000000000000000000010000 s (State.dlReenumEnd s) := by
  unfold State.dlReenumEnd
  refine Touch.ite ?_ ?_
  · exact Touch.refl _ _
  · extract_lets -merge -useContext +onlyGivenNames v0
    refine Touch.cut v0 ?_ (fun h1 => ?_)
    · unfold v0
      refine Touch.step ?_ (State.put_touch ..) (by decide +kernel)
      exact Touch.refl _ _
    clear_value v0
    refine Touch.ite ?_ ?_
    · refine Touch.step ?_ (State.dlFormMap_touch ..) (by decide +kernel)
      refine Touch.step ?_ (State.modDl_touch ..) (by decide +kernel)
      exact h1
    · exact h1

theorem State.dlEnumerate_touch (s : State) (a1 : ℕ) (a2 : ℕ) (a3 : ℕ) (a4 : ℕ) (a5 : ℕ) :
    Touch 0x49ff8000000000000180000000003f90100000000000009f18e06003000000000000000000f101803ffc00200021f00300000000240000000000000000000000000000000000c001ffffff00000bffda0 s (State.dlEnumerate s a1 a2 a3 a4 a5) := by
  unfold State.dlEnumerate
  refine Touch.ite ?_ ?_
  · exact Touch.refl _ _
  · extract_lets -merge -useContext +onlyGivenNames v0
    clear_value v0
    extract_lets -merge -useContext +onlyGivenNames v1
    clear_value v1
    extract_lets -merge -useContext +onlyGivenNames v2
    clear_value v2
    extract_lets -merge -useContext +onlyGivenNames v3
    refine Touch.cut v3 ?_ (fun h4 => ?_)
    · unfold v3
      refine Touch.step ?_ (State.put_touch ..) (by decide +kernel)
      refine Touch.step ?_ (State.put_touch ..) (by decide +kernel)
      exact Touch.refl _ _
    clear_value v3
    refine Touch.ite ?_ ?_
    · refine Touch.step ?_ (State.dlReenumEnd_touch ..) (by decide +kernel)
      refine Touch.step ?_ (State.setDlState_touch ..) (by decide +kernel)
      refine Touch.step ?_ (State.put_touch ..) (by decide +kernel)
      exact h4
    · extract_lets -merge -useContext +onlyGivenNames v5
      refine Touch.cut v5 ?_ (fun h6 => ?_)
      · unfold v5
        refine Touch.ite ?_ ?_
        · refine Touch.step ?_ (State.put_touch ..) (by decide +kernel)
          exact h4
        · exact h4
      clear_value v5
      refine Touch.step ?_ (State.settleAll_touch ..) (by decide +kernel)
      refine Touch.step ?_ (State.dlReenumEnd_touch ..) (by decide +kernel)
      refine Touch.step ?_ (State.dlJoin_touch ..) (by decide +kernel)
      refine Touch.step ?_ (State.setDlState_touch ..) (by decide +kernel)
      refine Touch.step ?_ (State.modDlPort_touch ..) (by decide +kernel)
      exact h6

theorem execDlEnumerate_touch (a0 : ℕ) (a1 : ℕ) (a2 : ℕ) (a3 : ℕ) (a4 : ℕ) (s : State) :
    ∃ t, execDlEnumerate a0 a1 a2 a3 a4 s = .next t ∧ Touch 0x49ff8000000000000180000000003f90100000000000009f18e06003000000000000000000f101803ffc00200021f00300000000240000000000000000000000000000000000c001ffffff00000bffda0 s t := by
  refine ⟨_, rfl, ?_⟩
  refine Touch.step ?_ (State.dlEnumerate_touch ..) (by decide +kernel)
  exact Touch.refl _ _

theorem execDlEnumDone_touch (s : State) :
    ∃ t, execDlEnumDone s = .next t ∧ Touch 0x180000000003f90100000000000001800706000000000000000000000f101803ffc00200021f00300000000240000000000000000000000000000000000c001fffffe00000bff9a0 s t := by
  refine ⟨_, rfl, ?_⟩
  refine Touch.ite ?_ ?_
  · refine Touch.step ?_ (State.settleAll_touch ..) (by decide +kernel)
    refine Touch.step ?_ (State.put_touch ..) (by decide +kernel)
    refine Touch.step ?_ (State.dlFormMap_touch ..) (by decide +kernel)
    exact Touch.refl _ _
  · exact Touch.refl _ _

theorem State.windowNext_touch (s : State) (a1 : Bool) (a2 : ℕ) (a3 : ℕ) (a4 : List Byte) (a5 : Bool) :
    Touch 0x112800 s (State.windowNext s a1 a2 a3 a4 a5) := by
  unfold State.windowNext
  refine Touch.ite ?_ ?_
  · refine Touch.step ?_ (State.emit_touch ..) (by decide +kernel)
    exact Touch.refl _ _
  · split
    · rename_i y0 y1 y2
      refine TouchO.ofSome y2 ?_
      refine TouchO.bind (fun y3 => ?_)
      refine TouchO.step ?_ (State.dlAccess?_touch ..) (by decide +kernel)
      exact Touch.refl _ _
    · refine Touch.step ?_ (State.emit_touch ..) (by decide +kernel)
      exact Touch.refl _ _

theorem State.dlRead_touch (s : State) (a1 : DlReq) (a2 : List Byte) (a3 : Bool) :
    Touch 0x116800 s (State.dlRead s a1 a2 a3) := by
  unfold State.dlRead
  refine Touch.ite ?_ ?_
  · refine Touch.step ?_ (State.dlMerge_touch ..) (by decide +kernel)
    exact Touch.refl _ _
  · extract_lets -merge -useContext +onlyGivenNames v0
    refine Touch.cut v0 ?_ (fun h1 => ?_)
    · unfold v0
      refine Touch.step ?_ (State.dlDel_touch ..) (by decide +kernel)
      exact Touch.refl _ _
    clear_value v0
    split
    · refine Touch.step ?_ (State.dlGot_touch ..) (by decide +kernel)
      exact h1
    · refine Touch.ite ?_ ?_
      · exact h1
      · refine Touch.step ?_ (State.modCore_touch ..) (by decide +kernel)
        exact h1
    · refine Touch.ite ?_ ?_
      · exact h1
      · extract_lets -merge -useContext +onlyGivenNames v2
        clear_value v2
        refine Touch.step ?_ (State.windowNext_touch ..) (by decide +kernel)
        exact h1
    · exact h1

theorem State.dlAnswer_touch (s : State) (a1 : DlReq) (a2 : Option (List Byte × Bool)) (a3 : List Byte) :
    Touch 0x49ff80000000000000000000000000000000000000000ce010800003000000000000000000000000000000000000000000000000000000000000000000000000000000000000000000000100000116d80 s (State.dlAnswer s a1 a2 a3) := by
  unfold State.dlAnswer
  extract_lets -merge -useContext +onlyGivenNames v0
  clear_value v0
  refine Touch.ite ?_ ?_
  · refine Touch.step ?_ (State.dlFail_touch ..) (by decide +kernel)
    refine Touch.step ?_ (State.dlViolation_touch ..) (by decide +kernel)
    exact Touch.refl _ _
  · split
    · extract_lets -merge -useContext +onlyGivenNames v1
      refine Touch.cut v1 ?_ (fun h2 => ?_)
      · unfold v1
        refine Touch.ite ?_ ?_
        · refine Touch.step ?_ (State.dlRecord_touch ..) (by decide +kernel)
          refine Touch.step ?_ (State.bump_touch ..) (by decide +kernel)
          exact Touch.refl _ _
        · exact Touch.refl _ _
      clear_value v1
      refine Touch.step ?_ (State.dlRead_touch ..) (by decide +kernel)
      exact h2
    · extract_lets -merge -useContext +onlyGivenNames v3
      refine Touch.cut v3 ?_ (fun h4 => ?_)
      · unfold v3
        refine Touch.step ?_ (State.dlDel_touch ..) (by decide +kernel)
        exact Touch.refl _ _
      clear_value v3
      split
      · refine Touch.step ?_ (State.dlGot_touch ..) (by decide +kernel)
        exact h4
      · exact h4

theorem execDlS2mResponse_touch (a0 : ℕ) (a1 : ℕ) (a2 : Option (List Byte × Bool)) (a3 : List Byte) (s : State) :
    ∃ t, execDlS2mResponse a0 a1 a2 a3 s = .next t ∧ Touch 0x49ff8000000000000180000000003f901000000000000cf818e06003000000000000000000f101803ffc00200021f00300000000240000000000000000000000000000000000c001ffffff00000bffda0 s t := by
  refine ⟨_, rfl, ?_⟩
  split
  · refine Touch.ite ?_ ?_
    · refine Touch.step ?_ (State.modDlPort_touch ..) (by decide +kernel)
      exact Touch.refl _ _
    · refine Touch.step ?_ (State.dlViolation_touch ..) (by decide +kernel)
      exact Touch.refl _ _
  · refine Touch.step ?_ (State.settleAll_touch ..) (by decide +kernel)
    refine Touch.step ?_ (State.dlReenumEnd_touch ..) (by decide +kernel)
    refine Touch.step ?_ (State.dlDrained_touch ..) (by decide +kernel)
    refine Touch.step ?_ (State.dlAnswer_touch ..) (by decide +kernel)
    exact Touch.refl _ _

theorem execDlMemTimeout_touch (a0 : ℕ) (a1 : ℕ) (a2 : List Byte) (s : State) :
    ∃ t, execDlMemTimeout a0 a1 a2 s = .next t ∧ Touch 0x49ff8000000000000180000000003f9010000000000000f818e06003000000000000000000f101803ffc00200021f00300000000240000000000000000000000000000000000c001ffffff00000bffda0 s t := by
  refine ⟨_, rfl, ?_⟩
  split
  · exact Touch.refl _ _
  · extract_lets -merge -useContext +onlyGivenNames v0
    refine Touch.cut v0 ?_ (fun h1 => ?_)
    · unfold v0
      refine Touch.step ?_ (State.dlFail_touch ..) (by decide +kernel)
      refine Touch.step ?_ (State.dlViolation_touch ..) (by decide +kernel)
      exact Touch.refl _ _
    clear_value v0
    refine Touch.step ?_ (State.settleAll_touch ..) (by decide +kernel)
    refine Touch.step ?_ (State.dlReenumEnd_touch ..) (by decide +kernel)
    refine Touch.step ?_ (State.dlDrained_touch ..) (by decide +kernel)
    refine Touch.step ?_ (State.modDlPort_touch ..) (by decide +kernel)
    exact h1

theorem execDlUpstreamRequest_touch (a0 : ℕ) (a1 : ℕ) (a2 : Bool) (a3 : List Byte) (s : State) :
    ∃ t, execDlUpstreamRequest a0 a1 a2 a3 s = .next t ∧ Touch 0x49ff800000000000000000000000000000000000000000e010800003000000000000000000000000000000000000000000000000000000000000000000000000000000000000000000000100000110580 s t := by
  refine ⟨_, rfl, ?_⟩
  split
  · refine Touch.step ?_ (State.dlViolation_touch ..) (by decide +kernel)
    exact Touch.refl _ _
  · refine Touch.ite ?_ ?_
    · refine Touch.step ?_ (State.dlViolation_touch ..) (by decide +kernel)
      exact Touch.refl _ _
    · refine Touch.step ?_ (State.emit_touch ..) (by decide +kernel)
      refine Touch.step ?_ (State.dlViolation_touch ..) (by decide +kernel)
      exact Touch.refl _ _
  · refine Touch.step ?_ (State.emit_touch ..) (by decide +kernel)
    refine Touch.step ?_ (State.dlViolation_touch ..) (by decide +kernel)
    exact Touch.refl _ _
  · exact Touch.refl _ _

theorem execDlRasPoll_touch (a0 : ℕ) (a1 : List (Bool × List Byte)) (s : State) :
    ∃ t, execDlRasPoll a0 a1 s = .next t ∧ Touch 0x49ff800000000000000000000000000000000000000000e010800003000000000000000000000000000000000000000000000000000000000000000000000000000000000000000000000100000110580 s t := by
  refine ⟨_, rfl, ?_⟩
  refine Touch.ite ?_ ?_
  · exact Touch.refl _ _
  · refine Touch.foldl ?_ (fun y0 y1 h2 => ?_)
    · exact Touch.refl _ _
    · refine Touch.ite ?_ ?_
      · refine Touch.step ?_ (State.dlViolation_touch ..) (by decide +kernel)
        exact h2
      · refine Touch.step ?_ (State.ember'_touch ..) (by decide +kernel)
        exact h2

theorem State.dlDown_touch (s : State) (a1 : ℕ) :
    Touch 0x49ff8000000000000180000000003f901000000000000318f8e06003000000000000000000f101803ffc00200021f00300000000240000000000000000000000000000000000c001ffffff00000bffda0 s (State.dlDown s a1) := by
  unfold State.dlDown
  refine Touch.ite ?_ ?_
  · exact Touch.refl _ _
  · extract_lets -merge -useContext +onlyGivenNames v0
    refine Touch.cut v0 ?_ (fun h1 => ?_)
    · unfold v0
      refine Touch.step ?_ (State.bump_touch ..) (by decide +kernel)
      refine Touch.step ?_ (State.setDlState_touch ..) (by decide +kernel)
      exact Touch.refl _ _
    clear_value v0
    extract_lets -merge -useContext +onlyGivenNames v2
    refine Touch.cut v2 ?_ (fun h3 => ?_)
    · unfold v2
      refine Touch.step ?_ (State.put_touch ..) (by decide +kernel)
      refine Touch.step ?_ (State.put_touch ..) (by decide +kernel)
      refine Touch.step ?_ (State.put_touch ..) (by decide +kernel)
      exact h1
    clear_value v2
    extract_lets -merge -useContext +onlyGivenNames v4
    refine Touch.cut v4 ?_ (fun h5 => ?_)
    · unfold v4
      refine Touch.step ?_ (State.dlRecord_touch ..) (by decide +kernel)
      exact h3
    clear_value v4
    extract_lets -merge -useContext +onlyGivenNames v6
    refine Touch.cut v6 ?_ (fun h7 => ?_)
    · unfold v6
      refine Touch.step ?_ (State.modDlPort_touch ..) (by decide +kernel)
      exact h5
    clear_value v6
    refine Touch.step ?_ (State.settleAll_touch ..) (by decide +kernel)
    refine Touch.step ?_ (State.dlReenumEnd_touch ..) (by decide +kernel)
    refine Touch.foldl ?_ (fun y8 y9 h10 => ?_)
    · exact h7
    · refine Touch.step ?_ (State.dlFail_touch ..) (by decide +kernel)
      exact h10

theorem execDlPortDown_touch (a0 : ℕ) (s : State) :
    ∃ t, execDlPortDown a0 s = .next t ∧ Touch 0x49ff8000000000000180000000003f901000000000000318f8e06003000000000000000000f101803ffc00200021f00300000000240000000000000000000000000000000000c001ffffff00000bffda0 s t := by
  refine ⟨_, rfl, ?_⟩
  refine Touch.step ?_ (State.dlDown_touch ..) (by decide +kernel)
  exact Touch.refl _ _

theorem State.dlDrain_touch (s : State) (a1 : ℕ) :
    Touch 0x49ff8000000000000000000000000000000000000000000010800003000000000000000000000000000000000000000000000000000000000000000000000000000000000000000000000100000110580 s (State.dlDrain s a1) := by
  unfold State.dlDrain
  refine Touch.ite ?_ ?_
  · refine Touch.step ?_ (State.dlDrained_touch ..) (by decide +kernel)
    refine Touch.step ?_ (State.setDlState_touch ..) (by decide +kernel)
    refine Touch.step ?_ (State.modDlPort_touch ..) (by decide +kernel)
    exact Touch.refl _ _
  · refine Touch.ite ?_ ?_
    · refine Touch.step ?_ (State.setDlState_touch ..) (by decide +kernel)
      exact Touch.refl _ _
    · exact Touch.refl _ _

theorem State.dlReenum_touch (s : State) (a1 : ℕ) (a2 : Bool) :
    Touch 0x49ff8000000000000180000000003f9010000000000000181fe06003000000000000000000f101803ffc00200021f00300000000240000000000000000000000000000000000c001ffffff00000bffda0 s (State.dlReenum s a1 a2) := by
  unfold State.dlReenum
  refine Touch.ite ?_ ?_
  · exact Touch.refl _ _
  · extract_lets -merge -useContext +onlyGivenNames v0
    refine Touch.cut v0 ?_ (fun h1 => ?_)
    · unfold v0
      refine Touch.step ?_ (State.put_touch ..) (by decide +kernel)
      refine Touch.step ?_ (State.put_touch ..) (by decide +kernel)
      refine Touch.step ?_ (State.put_touch ..) (by decide +kernel)
      refine Touch.step ?_ (State.put_touch ..) (by decide +kernel)
      exact Touch.refl _ _
    clear_value v0
    extract_lets -merge -useContext +onlyGivenNames v2
    refine Touch.cut v2 ?_ (fun h3 => ?_)
    · unfold v2
      refine Touch.ite ?_ ?_
      · refine Touch.foldl ?_ (fun y4 y5 h6 => ?_)
        · refine Touch.step ?_ (State.modDl_touch ..) (by decide +kernel)
          exact h1
        · refine Touch.step ?_ (State.dlDrain_touch ..) (by decide +kernel)
          exact h6
      · refine Touch.ite ?_ ?_
        · refine Touch.step ?_ (State.dlDrain_touch ..) (by decide +kernel)
          exact h1
        · exact h1
    clear_value v2
    refine Touch.step ?_ (State.settleAll_touch ..) (by decide +kernel)
    refine Touch.step ?_ (State.dlReenumEnd_touch ..) (by decide +kernel)
    exact h3

theorem execDlReenum_touch (a0 : ℕ) (a1 : Bool) (s : State) :
    ∃ t, execDlReenum a0 a1 s = .next t ∧ Touch 0x49ff8000000000000180000000003f9010000000000000181fe06003000000000000000000f101803ffc00200021f00300000000240000000000000000000000000000000000c001ffffff00000bffda0 s t := by
  refine ⟨_, rfl, ?_⟩
  refine Touch.step ?_ (State.dlReenum_touch ..) (by decide +kernel)
  exact Touch.refl _ _

theorem State.dlRelease_touch (s : State) (a1 : ℕ) :
    Touch 0x49ff8000000000000180000000003f90100000000000000017806003000000000000000000f101803ffc00200021f00300000000240000000000000000000000000000000000c001ffffff00000bffda0 s (State.dlRelease s a1) := by
  unfold State.dlRelease
  refine Touch.ite ?_ ?_
  · exact Touch.refl _ _
  · extract_lets -merge -useContext +onlyGivenNames v0
    refine Touch.cut v0 ?_ (fun h1 => ?_)
    · unfold v0
      refine Touch.step ?_ (State.put_touch ..) (by decide +kernel)
      refine Touch.step ?_ (State.put_touch ..) (by decide +kernel)
      refine Touch.step ?_ (State.put_touch ..) (by decide +kernel)
      exact Touch.refl _ _
    clear_value v0
    refine Touch.ite ?_ ?_
    · refine Touch.step ?_ (State.settleAll_touch ..) (by decide +kernel)
      refine Touch.step ?_ (State.setDlState_touch ..) (by decide +kernel)
      refine Touch.step ?_ (State.modDlPort_touch ..) (by decide +kernel)
      exact h1
    · exact h1

theorem execDlRelease_touch (a0 : ℕ) (s : State) :
    ∃ t, execDlRelease a0 s = .next t ∧ Touch 0x49ff8000000000000180000000003f90100000000000000017806003000000000000000000f101803ffc00200021f00300000000240000000000000000000000000000000000c001ffffff00000bffda0 s t := by
  refine ⟨_, rfl, ?_⟩
  refine Touch.step ?_ (State.dlRelease_touch ..) (by decide +kernel)
  exact Touch.refl _ _

end Sys2Proof.Machine
end

