-- ==== Sys2Proof/Laws/TouchTwin.lean ====
section
/-! SUPPORT. What the operations of Machine/Twin.lean may change. -/
namespace Sys2Proof.Machine

set_option Elab.async false

theorem State.pairIn_touch (s : State) (a1 : Pkt) :
    Touch 0x187e00080000000000000000000000000000000000000000000000000000000000000000000000000000000000000000000000000000000000000000000000000000000000aa0900 s (State.pairIn s a1) := by
  unfold State.pairIn
  extract_lets -merge -useContext +onlyGivenNames v0
  clear_value v0
  refine Touch.ite ?_ ?_
  · exact Touch.refl _ _
  · extract_lets -merge -useContext +onlyGivenNames v1
    refine Touch.cut v1 ?_ (fun h2 => ?_)
    · unfold v1
      refine Touch.step ?_ (State.twinCtl_touch ..) (by decide +kernel)
      exact Touch.refl _ _
    clear_value v1
    refine Touch.ite ?_ ?_
    · exact h2
    · extract_lets -merge -useContext +onlyGivenNames v3
      clear_value v3
      extract_lets -merge -useContext +onlyGivenNames v4
      clear_value v4
      refine Touch.ite ?_ ?_
      · refine Touch.step ?_ (State.mismatch_touch ..) (by decide +kernel)
        exact h2
      · refine Touch.step ?_ (State.tryPaired_touch ..) (by decide +kernel)
        refine Touch.step ?_ (State.modTwin_touch ..) (by decide +kernel)
        exact h2

theorem execTwinPair_touch (a0 : Pkt) (s : State) :
    ∃ t, execTwinPair a0 s = .next t ∧ Touch 0x187e00080000000000000000000000000000000000000000000000000000000000000000000000000000000000000000000000000000000000000000000000000000000000aa0900 s t := by
  refine ⟨_, rfl, ?_⟩
  refine Touch.step ?_ (State.pairIn_touch ..) (by decide +kernel)
  exact Touch.refl _ _

theorem execPairAck_touch (a0 : Pkt) (s : State) :
    ∃ t, execPairAck a0 s = .next t ∧ Touch 0x187e00080000000000000000000000000000000000000000000000000000000000000000000000000000000000000000000000000000000000000000000000000000000000a80900 s t := by
  refine ⟨_, rfl, ?_⟩
  refine Touch.ite ?_ ?_
  · refine Touch.step ?_ (State.tryPaired_touch ..) (by decide +kernel)
    refine Touch.step ?_ (State.modTwin_touch ..) (by decide +kernel)
    exact Touch.refl _ _
  · exact Touch.refl _ _

theorem execPairResend_touch (s : State) :
    ∃ t, execPairResend s = .next t ∧ Touch 0x20000 s t := by
  refine ⟨_, rfl, ?_⟩
  refine Touch.ite ?_ ?_
  · refine Touch.step ?_ (State.sendPair_touch ..) (by decide +kernel)
    exact Touch.refl _ _
  · exact Touch.refl _ _

theorem State.driveHb_touch (s : State) (a1 : Bool) :
    Touch 0x100004 s (State.driveHb s a1) := by
  unfold State.driveHb
  refine Touch.ite ?_ ?_
  · exact Touch.refl _ _
  · refine Touch.step ?_ (State.emit_touch ..) (by decide +kernel)
    refine Touch.step ?_ (Touch.pinsWith _ _) (by decide +kernel)
    exact Touch.refl _ _

theorem State.hbToggle_touch (s : State) :
    Touch 0x180004 s (State.hbToggle s) := by
  unfold State.hbToggle
  refine Touch.ite ?_ ?_
  · extract_lets -merge -useContext +onlyGivenNames v0
    clear_value v0
    refine Touch.ite ?_ ?_
    · refine Touch.step ?_ (State.driveHb_touch ..) (by decide +kernel)
      refine Touch.step ?_ (State.modTwin_touch ..) (by decide +kernel)
      exact Touch.refl _ _
    · exact Touch.refl _ _
  · refine Touch.step ?_ (State.driveHb_touch ..) (by decide +kernel)
    exact Touch.refl _ _

theorem execHbToggle_touch (s : State) :
    ∃ t, execHbToggle s = .next t ∧ Touch 0x180004 s t := by
  refine ⟨_, rfl, ?_⟩
  refine Touch.step ?_ (State.hbToggle_touch ..) (by decide +kernel)
  exact Touch.refl _ _

theorem State.hbEdge_touch (s : State) :
    Touch 0x1800000000000000000000000000000000000000000000000000000000000000000000000000000000000000000000000000000000000000000000000000000000000a0000 s (State.hbEdge s) := by
  unfold State.hbEdge
  extract_lets -merge -useContext +onlyGivenNames v0
  refine Touch.cut v0 ?_ (fun h1 => ?_)
  · unfold v0
    refine Touch.step ?_ (State.modTwin_touch ..) (by decide +kernel)
    refine Touch.step ?_ (State.put_touch ..) (by decide +kernel)
    exact Touch.refl _ _
  clear_value v0
  refine Touch.ite ?_ ?_
  · refine Touch.step ?_ (State.pairing_touch ..) (by decide +kernel)
    exact h1
  · exact h1

theorem execHbEdge_touch (s : State) :
    ∃ t, execHbEdge s = .next t ∧ Touch 0x1800000000000000000000000000000000000000000000000000000000000000000000000000000000000000000000000000000000000000000000000000000000000a0000 s t := by
  refine ⟨_, rfl, ?_⟩
  refine Touch.step ?_ (State.hbEdge_touch ..) (by decide +kernel)
  exact Touch.refl _ _

theorem State.hbTimeout_touch (s : State) :
    Touch 0x49ff80000000000001814c1b800000000000000000000000000000030000000000000000000000000000000000000000000000000000000000000000000000000000000000000000000000000001a05a0 s (State.hbTimeout s) := by
  unfold State.hbTimeout
  extract_lets -merge -useContext +onlyGivenNames v0
  clear_value v0
  refine Touch.ite ?_ ?_
  · exact Touch.refl _ _
  · extract_lets -merge -useContext +onlyGivenNames v1
    refine Touch.cut v1 ?_ (fun h2 => ?_)
    · unfold v1
      refine Touch.step ?_ (State.put_touch ..) (by decide +kernel)
      exact Touch.refl _ _
    clear_value v1
    refine Touch.ite ?_ ?_
    · exact h2
    · refine Touch.ite ?_ ?_
      · refine Touch.step ?_ (State.twinLost_touch ..) (by decide +kernel)
        exact h2
      · refine Touch.ite ?_ ?_
        · exact h2
        · refine Touch.step ?_ (State.twnFault_touch ..) (by decide +kernel)
          refine Touch.step ?_ (State.put_touch ..) (by decide +kernel)
          exact h2

theorem execHbTimeout_touch (s : State) :
    ∃ t, execHbTimeout s = .next t ∧ Touch 0x49ff80000000000001814c1b800000000000000000000000000000030000000000000000000000000000000000000000000000000000000000000000000000000000000000000000000000000001a05a0 s t := by
  refine ⟨_, rfl, ?_⟩
  refine Touch.step ?_ (State.hbTimeout_touch ..) (by decide +kernel)
  exact Touch.refl _ _

theorem execTwinLinkTimeout_touch (s : State) :
    ∃ t, execTwinLinkTimeout s = .next t ∧ Touch 0x1810c00800000000000000000000000000000000000000000000000000000000000000000000000000000000000000000000000000000000000000000000000000000000000a0120 s t := by
  refine ⟨_, rfl, ?_⟩
  refine Touch.ite ?_ ?_
  · refine Touch.step ?_ (State.mirrorStops_touch ..) (by decide +kernel)
    refine Touch.step ?_ (State.twnFault_touch ..) (by decide +kernel)
    refine Touch.step ?_ (State.put_touch ..) (by decide +kernel)
    exact Touch.refl _ _
  · exact Touch.refl _ _

theorem State.restoreData_touch (s : State) (a1 : Pkt) :
    Touch 0x180000000000000000000000000000000000000000000000000000000000000000000000000000000000000000000000000000000000000000000000000000000000000000a80900 s (State.restoreData s a1) := by
  unfold State.restoreData
  extract_lets -merge -useContext +onlyGivenNames v0
  clear_value v0
  split
  · exact Touch.refl _ _
  · extract_lets -merge -useContext +onlyGivenNames v1
    clear_value v1
    extract_lets -merge -useContext +onlyGivenNames v2
    refine Touch.cut v2 ?_ (fun h3 => ?_)
    · unfold v2
      refine Touch.step ?_ (State.modSrc_touch ..) (by decide +kernel)
      exact Touch.refl _ _
    clear_value v2
    extract_lets -merge -useContext +onlyGivenNames v4
    refine Touch.cut v4 ?_ (fun h5 => ?_)
    · unfold v4
      refine Touch.step ?_ (State.modTwin_touch ..) (by decide +kernel)
      exact h3
    clear_value v4
    refine Touch.step ?_ (State.modTwin_touch ..) (by decide +kernel)
    refine Touch.step ?_ (State.putLines_touch ..) (by decide +kernel)
    exact h5

theorem State.mirrorData_touch (s : State) (a1 : Pkt) :
    Touch 0x1fca00000000000000000000000000000000000000000000000000000000000000000000000000000000000000000000000000000000000000000000000000000000000000aa0900 s (State.mirrorData s a1) := by
  unfold State.mirrorData
  refine Touch.ite ?_ ?_
  · exact Touch.refl _ _
  · refine Touch.ite ?_ ?_
    · refine Touch.step ?_ (State.restoreData_touch ..) (by decide +kernel)
      exact Touch.refl _ _
    · refine Touch.step ?_ (State.journalEntry_touch ..) (by decide +kernel)
      exact Touch.refl _ _

theorem execMirrorData_touch (a0 : Pkt) (s : State) :
    ∃ t, execMirrorData a0 s = .next t ∧ Touch 0x1fca00000000000000000000000000000000000000000000000000000000000000000000000000000000000000000000000000000000000000000000000000000000000000aa0900 s t := by
  refine ⟨_, rfl, ?_⟩
  refine Touch.step ?_ (State.mirrorData_touch ..) (by decide +kernel)
  exact Touch.refl _ _

theorem State.digestSend_touch (s : State) (a1 : ℕ) :
    Touch 0xa0000 s (State.digestSend s a1) := by
  unfold State.digestSend
  extract_lets -merge -useContext +onlyGivenNames v0
  clear_value v0
  extract_lets -merge -useContext +onlyGivenNames v1
  clear_value v1
  refine Touch.ite ?_ ?_
  · exact Touch.refl _ _
  · extract_lets -merge -useContext +onlyGivenNames v2
    clear_value v2
    extract_lets -merge -useContext +onlyGivenNames v3
    clear_value v3
    extract_lets -merge -useContext +onlyGivenNames v4
    clear_value v4
    extract_lets -merge -useContext +onlyGivenNames v5
    clear_value v5
    refine Touch.step ?_ (State.twinSend_touch ..) (by decide +kernel)
    refine Touch.step ?_ (State.modSrc_touch ..) (by decide +kernel)
    exact Touch.refl _ _

theorem execMirrorDigestSend_touch (a0 : ℕ) (s : State) :
    ∃ t, execMirrorDigestSend a0 s = .next t ∧ Touch 0xa0000 s t := by
  refine ⟨_, rfl, ?_⟩
  refine Touch.step ?_ (State.digestSend_touch ..) (by decide +kernel)
  exact Touch.refl _ _

theorem execMirrorDigest_touch (a0 : Pkt) (s : State) :
    ∃ t, execMirrorDigest a0 s = .next t ∧ Touch 0x7ca000000000000000000000000000000000000000000000000000000000000000000000000000000000000000000000000000000000000000000000000000000000000000a0100 s t := by
  refine ⟨_, rfl, ?_⟩
  refine Touch.ite ?_ ?_
  · refine Touch.step ?_ (State.digestIn_touch ..) (by decide +kernel)
    exact Touch.refl _ _
  · exact Touch.refl _ _

theorem State.mirDeadline_touch (s : State) (a1 : ℕ) (a2 : Bool) :
    Touch 0x6fca000000000000000000000000000000000000000000000000000000000000000000000000000000000000000000000000000000000000000000000000000000000000000a0100 s (State.mirDeadline s a1 a2) := by
  unfold State.mirDeadline
  refine Touch.ite ?_ ?_
  · exact Touch.refl _ _
  · refine Touch.ite ?_ ?_
    · extract_lets -merge -useContext +onlyGivenNames v0
      clear_value v0
      refine Touch.ite ?_ ?_
      · refine Touch.step ?_ (State.srcFail_touch ..) (by decide +kernel)
        exact Touch.refl _ _
      · exact Touch.refl _ _
    · split
      · refine Touch.ite ?_ ?_
        · refine Touch.step ?_ (State.mirJudge_touch ..) (by decide +kernel)
          refine Touch.step ?_ (State.rxFail_touch ..) (by decide +kernel)
          exact Touch.refl _ _
        · exact Touch.refl _ _
      · exact Touch.refl _ _

theorem execMirrorDeadline_touch (a0 : ℕ) (a1 : Bool) (s : State) :
    ∃ t, execMirrorDeadline a0 a1 s = .next t ∧ Touch 0x6fca000000000000000000000000000000000000000000000000000000000000000000000000000000000000000000000000000000000000000000000000000000000000000a0100 s t := by
  refine ⟨_, rfl, ?_⟩
  refine Touch.step ?_ (State.mirDeadline_touch ..) (by decide +kernel)
  exact Touch.refl _ _

theorem execMirrorVerdict_touch (a0 : Pkt) (s : State) :
    ∃ t, execMirrorVerdict a0 s = .next t ∧ Touch 0xf80000000000000000000000000000000000000000000000000000000000000000000000000000000000000000000000000000000000000000000000000000000000000000080100 s t := by
  refine ⟨_, rfl, ?_⟩
  refine Touch.ite ?_ ?_
  · refine Touch.step ?_ (State.verdict_touch ..) (by decide +kernel)
    exact Touch.refl _ _
  · exact Touch.refl _ _

theorem execMirrorApply_touch (a0 : ℕ) (s : State) :
    ∃ t, execMirrorApply a0 s = .next t ∧ Touch 0x182200000000000000000000000000000000000000000000000000000000000000000000000000000000000000000000000000000000000000000000000000000000000000a80900 s t := by
  refine ⟨_, rfl, ?_⟩
  refine Touch.step ?_ (State.mirApply_touch ..) (by decide +kernel)
  exact Touch.refl _ _

theorem State.restoreBegin_touch (s : State) (a1 : Pkt) :
    Touch 0xa0000 s (State.restoreBegin s a1) := by
  unfold State.restoreBegin
  refine Touch.ite ?_ ?_
  · exact Touch.refl _ _
  · extract_lets -merge -useContext +onlyGivenNames v0
    clear_value v0
    extract_lets -merge -useContext +onlyGivenNames v1
    clear_value v1
    extract_lets -merge -useContext +onlyGivenNames v2
    refine Touch.cut v2 ?_ (fun h3 => ?_)
    · unfold v2
      refine Touch.ite ?_ ?_
      · exact Touch.refl _ _
      · refine Touch.step ?_ (State.modSrc_touch ..) (by decide +kernel)
        exact Touch.refl _ _
    clear_value v2
    refine Touch.step ?_ (State.twinCtl_touch ..) (by decide +kernel)
    exact h3

theorem execRestoreBegin_touch (a0 : Pkt) (s : State) :
    ∃ t, execRestoreBegin a0 s = .next t ∧ Touch 0xa0000 s t := by
  refine ⟨_, rfl, ?_⟩
  refine Touch.step ?_ (State.restoreBegin_touch ..) (by decide +kernel)
  exact Touch.refl _ _

theorem execRestoreReady_touch (a0 : Pkt) (s : State) :
    ∃ t, execRestoreReady a0 s = .next t ∧ Touch 0x10c0000000000000000000000000000000000000000000000000000000000000000000000000000000000000000000000000000000000000000000000000000000000000080020 s t := by
  refine ⟨_, rfl, ?_⟩
  split
  · refine Touch.ite ?_ ?_
    · exact Touch.refl _ _
    · refine Touch.ite ?_ ?_
      · refine Touch.step ?_ (State.modRx_touch ..) (by decide +kernel)
        exact Touch.refl _ _
      · refine Touch.step ?_ (State.endRestore_touch ..) (by decide +kernel)
        exact Touch.refl _ _
  · exact Touch.refl _ _

theorem State.restoreEnd_touch (s : State) (a1 : Pkt) :
    Touch 0x9800000000000000000000000000000000000000000000000000000000000000000000000000000000000000000000000000000000000000000000000000000000000000002a0800 s (State.restoreEnd s a1) := by
  unfold State.restoreEnd
  extract_lets -merge -useContext +onlyGivenNames v0
  clear_value v0
  split
  · exact Touch.refl _ _
  · refine Touch.ite ?_ ?_
    · exact Touch.refl _ _
    · extract_lets -merge -useContext +onlyGivenNames v1
      refine Touch.cut v1 ?_ (fun h2 => ?_)
      · unfold v1
        refine Touch.step ?_ (State.modSrc_touch ..) (by decide +kernel)
        exact Touch.refl _ _
      clear_value v1
      refine Touch.ite ?_ ?_
      · extract_lets -merge -useContext +onlyGivenNames v3
        refine Touch.cut v3 ?_ (fun h4 => ?_)
        · unfold v3
          refine Touch.step ?_ (State.put_touch ..) (by decide +kernel)
          refine Touch.step ?_ (State.restartStream_touch ..) (by decide +kernel)
          refine Touch.step ?_ (State.modSrc_touch ..) (by decide +kernel)
          exact h2
        clear_value v3
        refine Touch.step ?_ (State.twinCtl_touch ..) (by decide +kernel)
        refine Touch.step ?_ (State.put_touch ..) (by decide +kernel)
        refine Touch.step ?_ (State.put_touch ..) (by decide +kernel)
        exact h4
      · refine Touch.step ?_ (State.twinCtl_touch ..) (by decide +kernel)
        refine Touch.foldl ?_ (fun y5 y6 h7 => ?_)
        · exact h2
        · refine Touch.step ?_ (State.undefine_touch ..) (by decide +kernel)
          exact h7

theorem execRestoreEnd_touch (a0 : Pkt) (s : State) :
    ∃ t, execRestoreEnd a0 s = .next t ∧ Touch 0x9800000000000000000000000000000000000000000000000000000000000000000000000000000000000000000000000000000000000000000000000000000000000000002a0800 s t := by
  refine ⟨_, rfl, ?_⟩
  refine Touch.step ?_ (State.restoreEnd_touch ..) (by decide +kernel)
  exact Touch.refl _ _

theorem State.restoreDone_touch (s : State) (a1 : Pkt) :
    Touch 0x74c0000000000000000000000000000000000000000000000000000000000000000000000000000000000000000000000000000000000000000000000000000000000000080020 s (State.restoreDone s a1) := by
  unfold State.restoreDone
  extract_lets -merge -useContext +onlyGivenNames v0
  clear_value v0
  split
  · exact Touch.refl _ _
  · refine Touch.ite ?_ ?_
    · exact Touch.refl _ _
    · refine Touch.ite ?_ ?_
      · refine Touch.step ?_ (State.endRestore_touch ..) (by decide +kernel)
        exact Touch.refl _ _
      · extract_lets -merge -useContext +onlyGivenNames v1
        refine Touch.cut v1 ?_ (fun h2 => ?_)
        · unfold v1
          refine Touch.step ?_ (State.put_touch ..) (by decide +kernel)
          refine Touch.step ?_ (State.put_touch ..) (by decide +kernel)
          refine Touch.step ?_ (State.put_touch ..) (by decide +kernel)
          exact Touch.refl _ _
        clear_value v1
        refine Touch.step ?_ (State.modRx_touch ..) (by decide +kernel)
        refine Touch.step ?_ (State.endRestore_touch ..) (by decide +kernel)
        exact h2

theorem execRestoreDone_touch (a0 : Pkt) (s : State) :
    ∃ t, execRestoreDone a0 s = .next t ∧ Touch 0x74c0000000000000000000000000000000000000000000000000000000000000000000000000000000000000000000000000000000000000000000000000000000000000080020 s t := by
  refine ⟨_, rfl, ?_⟩
  refine Touch.step ?_ (State.restoreDone_touch ..) (by decide +kernel)
  exact Touch.refl _ _

theorem State.mirrorCtl_touch (s : State) (a1 : ℕ) (a2 : ℕ) (a3 : ℕ) :
    Touch 0x1874c0000000000000000000000000000000000000000000000000000000000000000000000000000000000000000000000000000000000000000000000000000000000000aa0920 s (State.mirrorCtl s a1 a2 a3) := by
  unfold State.mirrorCtl
  split
  · exact Touch.refl _ _
  · extract_lets -merge -useContext +onlyGivenNames v0
    clear_value v0
    refine Touch.ite ?_ ?_
    · exact Touch.refl _ _
    · refine State.start_touch ?_ (fun y1 y2 h3 => ?_) (by decide +kernel)
      · exact Touch.refl _ _
      · refine Touch.ite ?_ ?_
        · refine Touch.step ?_ (State.finish_touch ..) (by decide +kernel)
          exact h3
        · refine Touch.step ?_ (State.twinOp_touch ..) (by decide +kernel)
          refine Touch.step ?_ (State.modCmd_touch ..) (by decide +kernel)
          exact h3

theorem execMirrorHold_touch (a0 : ℕ) (a1 : ℕ) (s : State) :
    ∃ t, execMirrorHold a0 a1 s = .next t ∧ Touch 0x1874c0000000000000000000000000000000000000000000000000000000000000000000000000000000000000000000000000000000000000000000000000000000000000aa0920 s t := by
  refine ⟨_, rfl, ?_⟩
  refine Touch.step ?_ (State.mirrorCtl_touch ..) (by decide +kernel)
  exact Touch.refl _ _

theorem execMirrorUnhold_touch (a0 : ℕ) (a1 : ℕ) (s : State) :
    ∃ t, execMirrorUnhold a0 a1 s = .next t ∧ Touch 0x1874c0000000000000000000000000000000000000000000000000000000000000000000000000000000000000000000000000000000000000000000000000000000000000aa0920 s t := by
  refine ⟨_, rfl, ?_⟩
  refine Touch.step ?_ (State.mirrorCtl_touch ..) (by decide +kernel)
  exact Touch.refl _ _

theorem execApplyTo_touch (a0 : ℕ) (a1 : ℕ) (s : State) :
    ∃ t, execApplyTo a0 a1 s = .next t ∧ Touch 0x1874c0000000000000000000000000000000000000000000000000000000000000000000000000000000000000000000000000000000000000000000000000000000000000aa0920 s t := by
  refine ⟨_, rfl, ?_⟩
  refine Touch.step ?_ (State.mirrorCtl_touch ..) (by decide +kernel)
  exact Touch.refl _ _

theorem execMirrorRestore_touch (a0 : ℕ) (a1 : ℕ) (s : State) :
    ∃ t, execMirrorRestore a0 a1 s = .next t ∧ Touch 0x1874c0000000000000000000000000000000000000000000000000000000000000000000000000000000000000000000000000000000000000000000000000000000000000aa0920 s t := by
  refine ⟨_, rfl, ?_⟩
  refine Touch.step ?_ (State.mirrorCtl_touch ..) (by decide +kernel)
  exact Touch.refl _ _

theorem execResync_touch (a0 : ℕ) (a1 : ℕ) (s : State) :
    ∃ t, execResync a0 a1 s = .next t ∧ Touch 0x1874c0000000000000000000000000000000000000000000000000000000000000000000000000000000000000000000000000000000000000000000000000000000000000aa0920 s t := by
  refine ⟨_, rfl, ?_⟩
  refine Touch.step ?_ (State.mirrorCtl_touch ..) (by decide +kernel)
  exact Touch.refl _ _

end Sys2Proof.Machine
end

