-- ==== Sys2Proof/Laws/TouchCopy.lean ====
section
/-! SUPPORT. What the operations of Machine/Copy.lean may change. -/
namespace Sys2Proof.Machine

set_option Elab.async false

theorem State.running_touch (s : State) (a1 : ℕ) (a2 : ℕ) :
    Touch 0x20 s (State.running s a1 a2) := by
  unfold State.running
  refine Touch.step ?_ (State.modCmd_touch ..) (by decide +kernel)
  exact Touch.refl _ _

theorem State.copyRun_touch (a0 : ℕ) (a1 : ℕ) (a2 : ActiveCmd) (s : State) :
    Touch 0x180000000003f90100000000000000000006000000000000000000000f101803ffc00200021f00300000000240000000000000000000000000000000000c001fffffe00000bff9a0 s (State.copyRun a0 a1 a2 s) := by
  unfold State.copyRun
  extract_lets -merge -useContext +onlyGivenNames v0
  clear_value v0
  extract_lets -merge -useContext +onlyGivenNames v1
  clear_value v1
  extract_lets -merge -useContext +onlyGivenNames v2
  clear_value v2
  extract_lets -merge -useContext +onlyGivenNames v3
  clear_value v3
  extract_lets -merge -useContext +onlyGivenNames v4
  clear_value v4
  extract_lets -merge -useContext +onlyGivenNames v5
  clear_value v5
  extract_lets -merge -useContext +onlyGivenNames v6
  clear_value v6
  refine Touch.ite ?_ ?_
  · refine Touch.step ?_ (State.finish_touch ..) (by decide +kernel)
    exact Touch.refl _ _
  · refine Touch.ite ?_ ?_
    · refine Touch.step ?_ (State.finish_touch ..) (by decide +kernel)
      exact Touch.refl _ _
    · refine Touch.ite ?_ ?_
      · refine Touch.ite ?_ ?_
        · refine Touch.step ?_ (State.finish_touch ..) (by decide +kernel)
          exact Touch.refl _ _
        · refine Touch.step ?_ (State.settleAll_touch ..) (by decide +kernel)
          refine Touch.step ?_ (State.acceptRaw_touch ..) (by decide +kernel)
          refine Touch.step ?_ (State.acceptRaw_touch ..) (by decide +kernel)
          refine Touch.step ?_ (State.running_touch ..) (by decide +kernel)
          exact Touch.refl _ _
      · refine Touch.ite ?_ ?_
        · refine Touch.step ?_ (State.settleAll_touch ..) (by decide +kernel)
          refine Touch.step ?_ (State.accept_touch ..) (by decide +kernel)
          refine Touch.step ?_ (State.accept_touch ..) (by decide +kernel)
          refine Touch.step ?_ (State.running_touch ..) (by decide +kernel)
          exact Touch.refl _ _
        · exact Touch.refl _ _

theorem execCopyCommand_touch (a0 : ℕ) (a1 : ℕ) (s : State) :
    ∃ t, execCopyCommand a0 a1 s = .next t ∧ Touch 0x180000000003f90100000000000000000006000000000000000000000f101803ffc00200021f00300000000240000000000000000000000000000000000c001fffffe00000bff9a0 s t := by
  refine ⟨_, rfl, ?_⟩
  refine State.start_touch ?_ (fun y0 y1 h2 => ?_) (by decide +kernel)
  · exact Touch.refl _ _
  · refine Touch.step ?_ (State.copyRun_touch ..) (by decide +kernel)
    exact h2

theorem State.fenceRun_touch (a0 : ℕ) (a1 : ℕ) (a2 : ActiveCmd) (s : State) :
    Touch 0x180000000003f90100000000000000000006000000000000000000000f101803ffc00200021f00300000000240000000000000000000000000000000000c001fffffe00000bff9a0 s (State.fenceRun a0 a1 a2 s) := by
  unfold State.fenceRun
  extract_lets -merge -useContext +onlyGivenNames v0
  clear_value v0
  extract_lets -merge -useContext +onlyGivenNames v1
  refine Touch.cut v1 ?_ (fun h2 => ?_)
  · unfold v1
    refine Touch.step ?_ (State.running_touch ..) (by decide +kernel)
    exact Touch.refl _ _
  clear_value v1
  refine Touch.ite ?_ ?_
  · refine Touch.step ?_ (State.finish_touch ..) (by decide +kernel)
    exact h2
  · refine Touch.ite ?_ ?_
    · exact h2
    · refine Touch.ite ?_ ?_
      · refine Touch.step ?_ (State.finish_touch ..) (by decide +kernel)
        exact h2
      · extract_lets -merge -useContext +onlyGivenNames v3
        clear_value v3
        extract_lets -merge -useContext +onlyGivenNames v4
        clear_value v4
        refine Touch.ite ?_ ?_
        · refine Touch.step ?_ (State.settleAll_touch ..) (by decide +kernel)
          refine Touch.step ?_ (State.accept_touch ..) (by decide +kernel)
          exact h2
        · exact h2

theorem State.fence_touch (s : State) (a1 : ℕ) (a2 : ℕ) :
    Touch 0x180000000003f90100000000000000000006000000000000000000000f101803ffc00200021f00300000000240000000000000000000000000000000000c001fffffe00000bff9a0 s (State.fence s a1 a2) := by
  unfold State.fence
  split
  · exact Touch.refl _ _
  · refine Touch.ite ?_ ?_
    · refine Touch.step ?_ (State.fenceRun_touch ..) (by decide +kernel)
      exact Touch.refl _ _
    · refine State.start_touch ?_ (fun y0 y1 h2 => ?_) (by decide +kernel)
      · exact Touch.refl _ _
      · refine Touch.step ?_ (State.fenceRun_touch ..) (by decide +kernel)
        exact h2

theorem execFenceCommand_touch (a0 : ℕ) (a1 : ℕ) (s : State) :
    ∃ t, execFenceCommand a0 a1 s = .next t ∧ Touch 0x180000000003f90100000000000000000006000000000000000000000f101803ffc00200021f00300000000240000000000000000000000000000000000c001fffffe00000bff9a0 s t := by
  refine ⟨_, rfl, ?_⟩
  refine Touch.step ?_ (State.fence_touch ..) (by decide +kernel)
  exact Touch.refl _ _

theorem State.wakeTiles_touch (s : State) (a1 : List ℕ) :
    Touch 0xc001fffffe00000000100 s (State.wakeTiles s a1).2 := by
  unfold State.wakeTiles
  extract_lets -merge -useContext +onlyGivenNames v0
  clear_value v0
  refine Touch.mkSnd ?_
  refine Touch.foldl ?_ (fun y1 y2 h3 => ?_)
  · exact Touch.refl _ _
  · refine Touch.step ?_ (State.wake_touch ..) (by decide +kernel)
    exact h3

theorem State.launchStep_touch (s : State) (a1 : ℕ) (a2 : ℕ) (a3 : ActiveCmd) :
    Touch 0x180000000003f90100000000000000000006000000000000000000000f101803ffc00200021f00300000000240000000000000000000000000000000000c001fffffe00000bff9a0 s (State.launchStep s a1 a2 a3) := by
  unfold State.launchStep
  refine Touch.ite ?_ ?_
  · exact Touch.refl _ _
  · split
    · refine Touch.ite ?_ ?_
      · refine Touch.step ?_ (State.settleAll_touch ..) (by decide +kernel)
        refine Touch.step ?_ (State.accept_touch ..) (by decide +kernel)
        exact Touch.refl _ _
      · exact Touch.refl _ _
    · split
      · refine Touch.step ?_ (State.finish_touch ..) (by decide +kernel)
        exact Touch.refl _ _
      · refine Touch.step ?_ (State.modCmd_touch ..) (by decide +kernel)
        exact Touch.refl _ _

theorem State.launchRun_touch (a0 : ℕ) (a1 : ℕ) (a2 : ActiveCmd) (s : State) :
    Touch 0x180000000003f90100000000000000000006000000000000000000000f101803ffc00200021f00300000000240000000000000000000000000000000000c001fffffe00000bff9a0 s (State.launchRun a0 a1 a2 s) := by
  unfold State.launchRun
  split
  · refine Touch.step ?_ (State.finish_touch ..) (by decide +kernel)
    exact Touch.refl _ _
  · refine Touch.ite ?_ ?_
    · refine Touch.step ?_ (State.finish_touch ..) (by decide +kernel)
      exact Touch.refl _ _
    · extract_lets -merge -useContext +onlyGivenNames v0
      refine Touch.cut v0.2 ?_ (fun h1 => ?_)
      · unfold v0
        refine Touch.step ?_ (State.wakeTiles_touch ..) (by decide +kernel)
        exact Touch.refl _ _
      clear_value v0
      refine Touch.ite ?_ ?_
      · exact h1
      · refine Touch.step ?_ (State.launchStep_touch ..) (by decide +kernel)
        refine Touch.step ?_ (State.running_touch ..) (by decide +kernel)
        exact h1

theorem State.launch_touch (s : State) (a1 : ℕ) (a2 : ℕ) :
    Touch 0x180000000003f90100000000000000000006000000000000000000000f101803ffc00200021f00300000000240000000000000000000000000000000000c001fffffe00000bff9a0 s (State.launch s a1 a2) := by
  unfold State.launch
  split
  · exact Touch.refl _ _
  · refine Touch.ite ?_ ?_
    · refine Touch.step ?_ (State.launchStep_touch ..) (by decide +kernel)
      exact Touch.refl _ _
    · refine State.start_touch ?_ (fun y0 y1 h2 => ?_) (by decide +kernel)
      · exact Touch.refl _ _
      · refine Touch.step ?_ (State.launchRun_touch ..) (by decide +kernel)
        exact h2

theorem execLaunchCommand_touch (a0 : ℕ) (a1 : ℕ) (s : State) :
    ∃ t, execLaunchCommand a0 a1 s = .next t ∧ Touch 0x180000000003f90100000000000000000006000000000000000000000f101803ffc00200021f00300000000240000000000000000000000000000000000c001fffffe00000bff9a0 s t := by
  refine ⟨_, rfl, ?_⟩
  refine Touch.step ?_ (State.launch_touch ..) (by decide +kernel)
  exact Touch.refl _ _

theorem State.loadTile_touch (s : State) (a1 : ℕ) (a2 : ℕ) (a3 : List Byte) (a4 : List Byte) :
    Touch 0x240000000000000000000000000000000000000000000000000163100 s (State.loadTile s a1 a2 a3 a4) := by
  unfold State.loadTile
  extract_lets -merge -useContext +onlyGivenNames v0
  refine Touch.cut v0 ?_ (fun h1 => ?_)
  · unfold v0
    refine Touch.step ?_ (State.modTile_touch ..) (by decide +kernel)
    exact Touch.refl _ _
  clear_value v0
  refine Touch.step ?_ (State.examine_touch ..) (by decide +kernel)
  refine Touch.step ?_ (State.settleNode_touch ..) (by decide +kernel)
  exact h1

theorem State.launchTile_touch (s : State) (a1 : ℕ) (a2 : ℕ) (a3 : ℕ) :
    Touch 0x240000000000000000000000000000000000c001fffffe00000163120 s (State.launchTile s a1 a2 a3) := by
  unfold State.launchTile
  split
  · exact Touch.refl _ _
  · split
    · extract_lets -merge -useContext +onlyGivenNames v0
      clear_value v0
      extract_lets -merge -useContext +onlyGivenNames v1
      refine Touch.cut v1.2 ?_ (fun h2 => ?_)
      · unfold v1
        refine Touch.step ?_ (State.wakeTiles_touch ..) (by decide +kernel)
        exact Touch.refl _ _
      clear_value v1
      refine Touch.ite ?_ ?_
      · exact Touch.refl _ _
      · refine Touch.ite ?_ ?_
        · exact Touch.refl _ _
        · refine Touch.ite ?_ ?_
          · exact h2
          · extract_lets -merge -useContext +onlyGivenNames v3
            refine Touch.cut v3 ?_ (fun h4 => ?_)
            · unfold v3
              refine Touch.step ?_ (State.loadTile_touch ..) (by decide +kernel)
              refine Touch.step ?_ (State.modCmd_touch ..) (by decide +kernel)
              exact Touch.refl _ _
            clear_value v3
            refine Touch.ite ?_ ?_
            · refine Touch.step ?_ (State.finish_touch ..) (by decide +kernel)
              exact h4
            · exact h4
    · exact Touch.refl _ _

theorem execLaunchTileLoad_touch (a0 : ℕ) (a1 : ℕ) (a2 : ℕ) (s : State) :
    ∃ t, execLaunchTileLoad a0 a1 a2 s = .next t ∧ Touch 0x240000000000000000000000000000000000c001fffffe00000163120 s t := by
  refine ⟨_, rfl, ?_⟩
  refine Touch.step ?_ (State.launchTile_touch ..) (by decide +kernel)
  exact Touch.refl _ _

end Sys2Proof.Machine
end

