-- ==== Sys2Proof/Laws/TouchRekey.lean ====
section
/-! SUPPORT. What the operations of Machine/Rekey.lean may change. -/
namespace Sys2Proof.Machine

set_option Elab.async false

theorem State.rkRelease_touch (s : State) (a1 : ℕ) (a2 : ℕ) :
    Touch 0x820 s (State.rkRelease s a1 a2) := by
  unfold State.rkRelease
  refine Touch.foldl ?_ (fun y0 y1 h2 => ?_)
  · refine Touch.step ?_ (State.modMem_touch _ _ (fun _ => rfl)) (by decide +kernel)
    exact Touch.refl _ _
  · refine Touch.step ?_ (State.finish_touch ..) (by decide +kernel)
    exact h2

theorem State.rkGo_touch (s : State) (a1 : ℕ) (a2 : ℕ) (a3 : ActiveCmd) (a4 : ℕ) :
    Touch 0x83000000000000000000000000000000000000000000000000000000000000000000000000000000000000000000820 s (State.rkGo s a1 a2 a3 a4) := by
  unfold State.rkGo
  extract_lets -merge -useContext +onlyGivenNames v0
  clear_value v0
  extract_lets -merge -useContext +onlyGivenNames v1
  refine Touch.cut v1 ?_ (fun h2 => ?_)
  · unfold v1
    refine Touch.step ?_ (State.put_touch ..) (by decide +kernel)
    refine Touch.step ?_ (State.put_touch ..) (by decide +kernel)
    refine Touch.step ?_ (State.put_touch ..) (by decide +kernel)
    exact Touch.refl _ _
  clear_value v1
  refine Touch.ite ?_ ?_
  · refine Touch.step ?_ (State.modMem_touch _ _ (fun _ => rfl)) (by decide +kernel)
    refine Touch.step ?_ (State.modCmd_touch ..) (by decide +kernel)
    exact h2
  · refine Touch.step ?_ (State.finish_touch ..) (by decide +kernel)
    exact h2

theorem State.rekeyStart_touch (a0 : ℕ) (a1 : ℕ) (a2 : ActiveCmd) (s : State) :
    Touch 0xc3000000000000000000000000000000000000000000000000000000000000000000000000000000000000000000820 s (State.rekeyStart a0 a1 a2 s) := by
  unfold State.rekeyStart
  extract_lets -merge -useContext +onlyGivenNames v0
  clear_value v0
  refine Touch.ite ?_ ?_
  · exact Touch.refl _ _
  · split
    · refine Touch.step ?_ (State.finish_touch ..) (by decide +kernel)
      exact Touch.refl _ _
    · refine Touch.ite ?_ ?_
      · refine Touch.step ?_ (State.finish_touch ..) (by decide +kernel)
        exact Touch.refl _ _
      · refine Touch.step ?_ (State.rkGo_touch ..) (by decide +kernel)
        refine Touch.step ?_ (State.put_touch ..) (by decide +kernel)
        exact Touch.refl _ _

theorem execRekeyStart_touch (a0 : ℕ) (a1 : ℕ) (s : State) :
    ∃ t, execRekeyStart a0 a1 s = .next t ∧ Touch 0xc3000000000000000000000000000000000000000000000000000000000000000000000000000000000000000000820 s t := by
  refine ⟨_, rfl, ?_⟩
  refine State.start_touch ?_ (fun y0 y1 h2 => ?_) (by decide +kernel)
  · exact Touch.refl _ _
  · refine Touch.step ?_ (State.rekeyStart_touch ..) (by decide +kernel)
    exact h2

theorem State.rekeyPause_touch (a0 : ℕ) (a1 : ℕ) (a2 : ActiveCmd) (s : State) :
    Touch 0x2000000000000000000000000000000000000000000000000000000000000000000000000000000000000000000820 s (State.rekeyPause a0 a1 a2 s) := by
  unfold State.rekeyPause
  extract_lets -merge -useContext +onlyGivenNames v0
  clear_value v0
  refine Touch.ite ?_ ?_
  · exact Touch.refl _ _
  · split
    · refine Touch.step ?_ (State.finish_touch ..) (by decide +kernel)
      exact Touch.refl _ _
    · refine Touch.ite ?_ ?_
      · refine Touch.step ?_ (State.finish_touch ..) (by decide +kernel)
        exact Touch.refl _ _
      · extract_lets -merge -useContext +onlyGivenNames v1
        clear_value v1
        refine Touch.step ?_ (State.finish_touch ..) (by decide +kernel)
        refine Touch.step ?_ (State.rkRelease_touch ..) (by decide +kernel)
        refine Touch.step ?_ (State.put_touch ..) (by decide +kernel)
        exact Touch.refl _ _

theorem execRekeyPause_touch (a0 : ℕ) (a1 : ℕ) (s : State) :
    ∃ t, execRekeyPause a0 a1 s = .next t ∧ Touch 0x2000000000000000000000000000000000000000000000000000000000000000000000000000000000000000000820 s t := by
  refine ⟨_, rfl, ?_⟩
  refine State.start_touch ?_ (fun y0 y1 h2 => ?_) (by decide +kernel)
  · exact Touch.refl _ _
  · refine Touch.step ?_ (State.rekeyPause_touch ..) (by decide +kernel)
    exact h2

theorem State.rekeyResume_touch (a0 : ℕ) (a1 : ℕ) (a2 : ActiveCmd) (s : State) :
    Touch 0x83000000000000000000000000000000000000000000000000000000000000000000000000000000000000000000820 s (State.rekeyResume a0 a1 a2 s) := by
  unfold State.rekeyResume
  extract_lets -merge -useContext +onlyGivenNames v0
  clear_value v0
  refine Touch.ite ?_ ?_
  · exact Touch.refl _ _
  · split
    · refine Touch.step ?_ (State.finish_touch ..) (by decide +kernel)
      exact Touch.refl _ _
    · refine Touch.ite ?_ ?_
      · refine Touch.step ?_ (State.finish_touch ..) (by decide +kernel)
        exact Touch.refl _ _
      · refine Touch.step ?_ (State.rkGo_touch ..) (by decide +kernel)
        exact Touch.refl _ _

theorem execRekeyResume_touch (a0 : ℕ) (a1 : ℕ) (s : State) :
    ∃ t, execRekeyResume a0 a1 s = .next t ∧ Touch 0x83000000000000000000000000000000000000000000000000000000000000000000000000000000000000000000820 s t := by
  refine ⟨_, rfl, ?_⟩
  refine State.start_touch ?_ (fun y0 y1 h2 => ?_) (by decide +kernel)
  · exact Touch.refl _ _
  · refine Touch.step ?_ (State.rekeyResume_touch ..) (by decide +kernel)
    exact h2

theorem State.rekeyStatus_touch (a0 : ℕ) (a1 : ℕ) (a2 : ActiveCmd) (s : State) :
    Touch 0x20 s (State.rekeyStatus a0 a1 a2 s) := by
  unfold State.rekeyStatus
  split
  · refine Touch.step ?_ (State.finish_touch ..) (by decide +kernel)
    exact Touch.refl _ _
  · refine Touch.step ?_ (State.finish_touch ..) (by decide +kernel)
    exact Touch.refl _ _

theorem execRekeyStatus_touch (a0 : ℕ) (a1 : ℕ) (s : State) :
    ∃ t, execRekeyStatus a0 a1 s = .next t ∧ Touch 0x20 s t := by
  refine ⟨_, rfl, ?_⟩
  refine State.start_touch ?_ (fun y0 y1 h2 => ?_) (by decide +kernel)
  · exact Touch.refl _ _
  · refine Touch.step ?_ (State.rekeyStatus_touch ..) (by decide +kernel)
    exact h2

theorem State.rkDone_touch (s : State) (a1 : ℕ) :
    Touch 0x17c00000000000000000000000000000000000000000000000000000000000000000000000000000000000000000920 s (State.rkDone s a1) := by
  unfold State.rkDone
  extract_lets -merge -useContext +onlyGivenNames v0
  clear_value v0
  extract_lets -merge -useContext +onlyGivenNames v1
  clear_value v1
  extract_lets -merge -useContext +onlyGivenNames v2
  clear_value v2
  extract_lets -merge -useContext +onlyGivenNames v3
  clear_value v3
  extract_lets -merge -useContext +onlyGivenNames v4
  refine Touch.cut v4 ?_ (fun h5 => ?_)
  · unfold v4
    refine Touch.step ?_ (State.modMem_touch _ _ (fun _ => rfl)) (by decide +kernel)
    exact Touch.refl _ _
  clear_value v4
  extract_lets -merge -useContext +onlyGivenNames v6
  refine Touch.cut v6 ?_ (fun h7 => ?_)
  · unfold v6
    refine Touch.step ?_ (State.put_touch ..) (by decide +kernel)
    refine Touch.step ?_ (State.put_touch ..) (by decide +kernel)
    refine Touch.step ?_ (State.put_touch ..) (by decide +kernel)
    exact h5
  clear_value v6
  extract_lets -merge -useContext +onlyGivenNames v8
  refine Touch.cut v8 ?_ (fun h9 => ?_)
  · unfold v8
    refine Touch.step ?_ (State.put_touch ..) (by decide +kernel)
    refine Touch.step ?_ (State.put_touch ..) (by decide +kernel)
    refine Touch.step ?_ (State.put_touch ..) (by decide +kernel)
    exact h7
  clear_value v8
  refine Touch.step ?_ (State.raise_touch ..) (by decide +kernel)
  refine Touch.step ?_ (State.rkRelease_touch ..) (by decide +kernel)
  exact h9

theorem State.rkSector_touch (s : State) (r waits : Nat) (far : List Byte) (bad : List Nat) (ecc : List EccEvent) :
    Touch 0xc0000000000000000000017f00f1e000000000000000000000000000000000000000000000000000000000000000000c001fffffe00000b00920 s
      (s.rkSector r waits far bad ecc) := by
  unfold State.rkSector
  extract_lets b a lbn k1 k2 done v p new lines
  have hd : ∀ u, Touch 0xc0000000000000000000017f00f1e000000000000000000000000000000000000000000000000000000000000000000c001fffffe00000b00920 s u →
      Touch 0xc0000000000000000000017f00f1e000000000000000000000000000000000000000000000000000000000000000000c001fffffe00000b00920 s (done u) := by
    intro u hu
    have h1 : Touch 0xc0000000000000000000017f00f1e000000000000000000000000000000000000000000000000000000000000000000c001fffffe00000b00920 s
        ((u.put .CRY_KR_RK_BOUNDARY r (b + 1)).bump .CRY_WAITS_COUNT 0 waits) := by
      refine Touch.step ?_ (State.bump_touch ..) (by decide +kernel)
      exact hu.step (State.put_touch ..) (by decide +kernel)
    exact Touch.ite (h1.step (State.rkDone_touch ..) (by decide +kernel)) h1
  clear_value done
  refine Touch.ite (Touch.ite ((State.wake_touch ..).weaken (by decide +kernel)) ?_) ?_
  · refine hd _ ?_
    refine Touch.step ?_ (State.modMem_touchCells _ _ (fun m h => by generalize rekeyBlocks _ _ _ _ _ _ = z; exact Mem.writeN_wf _ _ h)) (by decide +kernel)
    exact (State.eccRead_touch ..).weaken (by decide +kernel)
  · split
    · exact Touch.refl _ _
    · refine Touch.ite ?_ ?_
      · refine Touch.step ?_ (State.dlRecord_touch ..) (by decide +kernel)
        refine Touch.step ?_ (State.rkRelease_touch ..) (by decide +kernel)
        exact (State.put_touch ..).weaken (by decide +kernel)
      · refine hd _ (Touch.foldl (Touch.foldl (Touch.refl _ _) (fun u x h => ?_)) (fun u x h => h.step (State.emit_touch ..) (by decide +kernel)))
        refine Touch.step ?_ (State.dlRecord_touch ..) (by decide +kernel)
        exact h.step (State.bump_touch ..) (by decide +kernel)

theorem execRekeyTransit_touch (a0 : ℕ) (a1 : ℕ) (a2 : List Byte) (a3 : List ℕ) (a4 : List EccEvent) (s : State) :
    ∃ t, execRekeyTransit a0 a1 a2 a3 a4 s = .next t ∧ Touch 0xc0000000000000000000017f00f1e000000000000000000000000000000000000000000000000000000000000000000c001fffffe00000b00920 s t := by
  refine ⟨_, rfl, ?_⟩
  refine Touch.ite ?_ ?_
  · refine Touch.step ?_ (State.rkSector_touch ..) (by decide +kernel)
    exact Touch.refl _ _
  · exact Touch.refl _ _

theorem State.onBus_touch (s : State) :
    Touch 0x2000000000000000000000000000000000000000000000000000000000000000000000000000000000000000000000000000000000000000000000000000000000000000000000000000000000000000000 s (State.onBus s) := by
  unfold State.onBus
  refine Touch.ite ?_ ?_
  · refine Touch.step ?_ (State.put_touch ..) (by decide +kernel)
    exact Touch.refl _ _
  · exact Touch.refl _ _

theorem State.kekRequest_touch (s : State) (a1 : SpdmSess) (a2 : List Byte) :
    Touch 0x2000000000000000000000000000000000000000000000000000000000000000000000001000000000000000000000000000000000000000000000000000000000000000000000000000000000000100800 s (State.kekRequest s a1 a2) := by
  unfold State.kekRequest
  extract_lets -merge -useContext +onlyGivenNames v0
  clear_value v0
  extract_lets -merge -useContext +onlyGivenNames v1
  clear_value v1
  extract_lets -merge -useContext +onlyGivenNames v2
  clear_value v2
  extract_lets -merge -useContext +onlyGivenNames v3
  clear_value v3
  extract_lets -merge -useContext +onlyGivenNames v4
  refine Touch.ite ?_ ?_
  · refine Touch.step ?_ (State.emit_touch ..) (by decide +kernel)
    exact Touch.refl _ _
  · refine Touch.ite ?_ ?_
    · refine Touch.step ?_ (State.emit_touch ..) (by decide +kernel)
      refine Touch.step ?_ (State.onBus_touch ..) (by decide +kernel)
      exact Touch.refl _ _
    · refine Touch.ite ?_ ?_
      · unfold v4
        refine Touch.step ?_ (State.emit_touch ..) (by decide +kernel)
        refine Touch.step ?_ (State.onBus_touch ..) (by decide +kernel)
        exact Touch.refl _ _
      · refine Touch.ite ?_ ?_
        · unfold v4
          refine Touch.step ?_ (State.emit_touch ..) (by decide +kernel)
          refine Touch.step ?_ (State.onBus_touch ..) (by decide +kernel)
          exact Touch.refl _ _
        · extract_lets -merge -useContext +onlyGivenNames v5
          refine Touch.cut v5 ?_ (fun h6 => ?_)
          · unfold v5
            refine Touch.step ?_ (State.modMem_touch _ _ (fun _ => rfl)) (by decide +kernel)
            refine Touch.step ?_ (State.onBus_touch ..) (by decide +kernel)
            exact Touch.refl _ _
          clear_value v5
          unfold v4
          refine Touch.step ?_ (State.emit_touch ..) (by decide +kernel)
          refine Touch.ite ?_ ?_
          · refine Touch.step ?_ (State.setBit_touch ..) (by decide +kernel)
            exact h6
          · refine Touch.step ?_ (State.clrBit_touch ..) (by decide +kernel)
            exact h6

theorem execKekSet_touch (a0 : SpdmSess) (a1 : List Byte) (s : State) :
    ∃ t, execKekSet a0 a1 s = .next t ∧ Touch 0x2000000000000000000000000000000000000000000000000000000000000000000000001000000000000000000000000000000000000000000000000000000000000000000000000000000000000100800 s t := by
  refine ⟨_, rfl, ?_⟩
  refine Touch.ite ?_ ?_
  · refine Touch.step ?_ (State.kekRequest_touch ..) (by decide +kernel)
    exact Touch.refl _ _
  · exact Touch.refl _ _

theorem execKekClear_touch (a0 : SpdmSess) (a1 : List Byte) (s : State) :
    ∃ t, execKekClear a0 a1 s = .next t ∧ Touch 0x2000000000000000000000000000000000000000000000000000000000000000000000001000000000000000000000000000000000000000000000000000000000000000000000000000000000000100800 s t := by
  refine ⟨_, rfl, ?_⟩
  refine Touch.ite ?_ ?_
  · refine Touch.step ?_ (State.kekRequest_touch ..) (by decide +kernel)
    exact Touch.refl _ _
  · exact Touch.refl _ _

theorem State.cipherRead_touch (s : State) (a1 : Bool) (a2 : ℕ) (a3 : ℕ) :
    Touch 0x49ff8000000000000000000000000000000000000000000000000003000000000000000000000000000000000000000000000000000000000000000000000000000000000000c001fffffe00000112d80 s (State.cipherRead s a1 a2 a3) := by
  unfold State.cipherRead
  refine Touch.ite ?_ ?_
  · refine Touch.ite ?_ ?_
    · refine Touch.step ?_ (State.wake_touch ..) (by decide +kernel)
      exact Touch.refl _ _
    · refine Touch.step ?_ (State.emit_touch ..) (by decide +kernel)
      exact Touch.refl _ _
  · split
    · refine Touch.step ?_ (State.emit_touch ..) (by decide +kernel)
      exact Touch.refl _ _
    · refine Touch.ite ?_ ?_
      · refine Touch.step ?_ (State.emit_touch ..) (by decide +kernel)
        refine Touch.step ?_ (State.breach_touch ..) (by decide +kernel)
        exact Touch.refl _ _
      · refine Touch.ite ?_ ?_
        · refine Touch.step ?_ (State.wake_touch ..) (by decide +kernel)
          exact Touch.refl _ _
        · refine Touch.step ?_ (State.windowNext_touch ..) (by decide +kernel)
          exact Touch.refl _ _

theorem State.farRuns_touch (s : State) (a1 : Bool) (a2 : ℕ) (a3 : ℕ) (a4 : List Byte) :
    Touch 0x112800 s (State.farRuns s a1 a2 a3 a4) := by
  unfold State.farRuns
  refine Touch.foldl ?_ (fun y0 y1 h2 => ?_)
  · exact Touch.refl _ _
  · refine Touch.getD ?_ ?_
    · refine TouchO.step ?_ (State.dlAccess?_touch ..) (by decide +kernel)
      exact h2
    · exact h2

theorem State.cipherWrite_touch (s : State) (a1 : Bool) (a2 : ℕ) (a3 : List (Byte × Bool)) (a4 : Bool) :
    Touch 0x49ff8000000000000180000000000000000000000000000000000003000000000000000000000000000000000000000000000000000000000000000000000000000000000000c001fffffe00000b92d80 s (State.cipherWrite s a1 a2 a3 a4) := by
  unfold State.cipherWrite
  extract_lets -merge -useContext +onlyGivenNames v0
  clear_value v0
  refine Touch.ite ?_ ?_
  · refine Touch.ite ?_ ?_
    · refine Touch.step ?_ (State.wake_touch ..) (by decide +kernel)
      exact Touch.refl _ _
    · refine Touch.ite ?_ ?_
      · refine Touch.foldl ?_ (fun y1 y2 h3 => ?_)
        · exact Touch.refl _ _
        · refine Touch.step ?_ (State.setPoison_touch ..) (by decide +kernel)
          exact h3
      · refine Touch.foldl ?_ (fun y4 y5 h6 => ?_)
        · exact Touch.refl _ _
        · refine Touch.step ?_ (State.rawWrite_touch ..) (by decide +kernel)
          exact h6
  · split
    · exact Touch.refl _ _
    · refine Touch.ite ?_ ?_
      · refine Touch.step ?_ (State.breach_touch ..) (by decide +kernel)
        exact Touch.refl _ _
      · refine Touch.ite ?_ ?_
        · refine Touch.step ?_ (State.wake_touch ..) (by decide +kernel)
          exact Touch.refl _ _
        · refine Touch.foldl ?_ (fun y7 y8 h9 => ?_)
          · exact Touch.refl _ _
          · refine Touch.step ?_ (State.farRuns_touch ..) (by decide +kernel)
            exact h9

theorem execDebugWindowRead_touch (a0 : ℕ) (a1 : ℕ) (a2 : List EccEvent) (a3 : List Byte) (s : State) :
    ∃ t, execDebugWindowRead a0 a1 a2 a3 s = .next t ∧ Touch 0x49ff80000000000000000000000000000000000000000000000000030001fe100000000f1e000000000000000000000000000000000000000000000000000000000000000000c001fffffe00000b12d80 s t := by
  refine ⟨_, rfl, ?_⟩
  refine Touch.ite ?_ ?_
  · exact Touch.refl _ _
  · refine Touch.ite ?_ ?_
    · refine Touch.step ?_ (State.emit_touch ..) (by decide +kernel)
      refine Touch.step ?_ (State.violation_touch ..) (by decide +kernel)
      exact Touch.refl _ _
    · refine Touch.step ?_ (State.cipherRead_touch ..) (by decide +kernel)
      refine Touch.step ?_ (State.eccRead_touch ..) (by decide +kernel)
      exact Touch.refl _ _

theorem execDebugWindowWrite_touch (a0 : ℕ) (a1 : List (Byte × Bool)) (a2 : Bool) (a3 : List Byte) (s : State) :
    ∃ t, execDebugWindowWrite a0 a1 a2 a3 s = .next t ∧ Touch 0x49ff80000000000001800000000000000000000000000000000000030001fe100000000000000000000000000000000000000000000000000000000000000000000000000000c001fffffe00000b92d80 s t := by
  refine ⟨_, rfl, ?_⟩
  refine Touch.ite ?_ ?_
  · exact Touch.refl _ _
  · refine Touch.ite ?_ ?_
    · refine Touch.step ?_ (State.violation_touch ..) (by decide +kernel)
      exact Touch.refl _ _
    · refine Touch.step ?_ (State.cipherWrite_touch ..) (by decide +kernel)
      refine Touch.ite ?_ ?_
      · refine Touch.step ?_ (State.violation_touch ..) (by decide +kernel)
        exact Touch.refl _ _
      · exact Touch.refl _ _

theorem execJtagMemoryAccess_touch (a0 : ℕ) (a1 : ℕ) (a2 : Option (List Byte)) (a3 : List EccEvent) (s : State) :
    ∃ t, execJtagMemoryAccess a0 a1 a2 a3 s = .next t ∧ Touch 0x49ff8000000000000180000000000000000000000000000000000003000000000000000f1e000000000000000000000000000000000000000000000000000000000000000000c001fffffe00000b92d80 s t := by
  refine ⟨_, rfl, ?_⟩
  refine Touch.ite ?_ ?_
  · exact Touch.refl _ _
  · split
    · refine Touch.step ?_ (State.cipherRead_touch ..) (by decide +kernel)
      refine Touch.step ?_ (State.eccRead_touch ..) (by decide +kernel)
      exact Touch.refl _ _
    · refine Touch.step ?_ (State.cipherWrite_touch ..) (by decide +kernel)
      exact Touch.refl _ _

end Sys2Proof.Machine
end

