-- ==== Sys2Proof/Laws/TouchPart.lean ====
section
/-! SUPPORT. What the operations of Machine/Part.lean may change. -/
namespace Sys2Proof.Machine

set_option Elab.async false

theorem State.resetCells_touch (s : State) (c : FCell → Bool) : Touch 0x3ffffffffffffffffffffffffffffffffffffffffffffffffffffffffffffffffffffffffffffffffffffffffffffffffffffffffffffffffffffffffffffffffffffffffffffffffffffffffffffffff000000 s (s.resetCells c) :=
  (Touch.fieldsFilter s _).weaken (by decide +kernel)

theorem State.scopeDone_touch (s : State) (a1 : ℕ) (a2 : ℕ) (a3 : Option ℕ) (a4 : ℕ) :
    Touch 0x49ff800000000000000000000000000000000000000000000000000300000000000000000000000000000000000000000000000000000000000000000000000000000000c000000000000000000100580 s (State.scopeDone s a1 a2 a3 a4) := by
  unfold State.scopeDone
  refine Touch.step ?_ (State.ember'_touch ..) (by decide +kernel)
  refine Touch.step ?_ (State.put_touch ..) (by decide +kernel)
  refine Touch.step ?_ (State.put_touch ..) (by decide +kernel)
  exact Touch.refl _ _

theorem State.jobBegin_touch (a0 : ℕ) (a1 : ℕ) (a2 : ActiveCmd) (s : State) :
    Touch 0x2800000000000000000000000000000000000000000000000000000000000000000200008000000000000c001fffffe000001021a0 s (State.jobBegin a0 a1 a2 s) := by
  unfold State.jobBegin
  refine Touch.ite ?_ ?_
  · refine Touch.step ?_ (State.finish_touch ..) (by decide +kernel)
    exact Touch.refl _ _
  · refine Touch.ite ?_ ?_
    · refine Touch.step ?_ (State.finish_touch ..) (by decide +kernel)
      exact Touch.refl _ _
    · refine Touch.step ?_ (State.finish_touch ..) (by decide +kernel)
      refine Touch.step ?_ (State.setPartState_touch ..) (by decide +kernel)
      refine Touch.step ?_ (State.put_touch ..) (by decide +kernel)
      exact Touch.refl _ _

theorem execJobBegin_touch (a0 : ℕ) (a1 : ℕ) (s : State) :
    ∃ t, execJobBegin a0 a1 s = .next t ∧ Touch 0x2800000000000000000000000000000000000000000000000000000000000000000200008000000000000c001fffffe000001021a0 s t := by
  refine ⟨_, rfl, ?_⟩
  refine State.start_touch ?_ (fun y0 y1 h2 => ?_) (by decide +kernel)
  · exact Touch.refl _ _
  · refine Touch.step ?_ (State.jobBegin_touch ..) (by decide +kernel)
    exact h2

theorem State.cancelOne_touch (s : State) (a1 : ℕ) (a2 : ℕ) (a3 : ℕ) (a4 : ℕ) (a5 : Bool) :
    Touch 0x27f800000000000000000000000000000000000000000000000163120 s (State.cancelOne s a1 a2 a3 a4 a5) := by
  unfold State.cancelOne
  split
  · exact Touch.refl _ _
  · extract_lets -merge -useContext +onlyGivenNames v0
    refine Touch.cut v0 ?_ (fun h1 => ?_)
    · unfold v0
      refine Touch.step ?_ (State.modCmd_touch ..) (by decide +kernel)
      exact Touch.refl _ _
    clear_value v0
    refine Touch.ite ?_ ?_
    · refine Touch.step ?_ (State.endTask_touch ..) (by decide +kernel)
      exact h1
    · refine Touch.step ?_ (State.cancelTask_touch ..) (by decide +kernel)
      exact h1

theorem State.cancelAll_touch (s : State) (a1 : ℕ) (a2 : ℕ) (a3 : List ℕ) (a4 : ℕ) (a5 : ℕ) (a6 : List (ℕ × ℕ)) :
    Touch 0x27f800000000000000000000000000000000000000000000000163120 s (State.cancelAll s a1 a2 a3 a4 a5 a6) := by
  unfold State.cancelAll
  refine Touch.foldl ?_ (fun y0 y1 h2 => ?_)
  · exact Touch.refl _ _
  · refine Touch.foldl ?_ (fun y3 y4 h5 => ?_)
    · exact h2
    · refine Touch.step ?_ (State.cancelOne_touch ..) (by decide +kernel)
      exact h5

theorem State.jobEnd_touch (a0 : ℕ) (a1 : ℕ) (a2 : ActiveCmd) (s : State) :
    Touch 0x280000000000000000000000000000000000000000000000027f800000000000000000008000000000000c001fffffe000001631a0 s (State.jobEnd a0 a1 a2 s) := by
  unfold State.jobEnd
  extract_lets -merge -useContext +onlyGivenNames v0
  refine Touch.cut v0 ?_ (fun h1 => ?_)
  · unfold v0
    refine Touch.step ?_ (State.setPartState_touch ..) (by decide +kernel)
    refine Touch.step ?_ (State.running_touch ..) (by decide +kernel)
    exact Touch.refl _ _
  clear_value v0
  refine Touch.ite ?_ ?_
  · refine Touch.step ?_ (State.cancelAll_touch ..) (by decide +kernel)
    exact h1
  · exact h1

theorem execJobEnd_touch (a0 : ℕ) (a1 : ℕ) (s : State) :
    ∃ t, execJobEnd a0 a1 s = .next t ∧ Touch 0x180000000003f90100000000000000000006002800000000000000000f101803ffc00200021f0030000000027f800000000000000000008000000000000c001fffffe00000bff9a0 s t := by
  refine ⟨_, rfl, ?_⟩
  refine Touch.step ?_ (State.settleAll_touch ..) (by decide +kernel)
  refine State.start_touch ?_ (fun y0 y1 h2 => ?_) (by decide +kernel)
  · exact Touch.refl _ _
  · refine Touch.step ?_ (State.jobEnd_touch ..) (by decide +kernel)
    exact h2

theorem State.taskCancel_touch (a0 : List (ℕ × ℕ)) (a1 : ℕ) (a2 : ℕ) (a3 : ActiveCmd) (s : State) :
    Touch 0x27f800000000000000000000000000000000000000000000000163120 s (State.taskCancel a0 a1 a2 a3 s) := by
  unfold State.taskCancel
  split
  · refine Touch.step ?_ (State.finish_touch ..) (by decide +kernel)
    exact Touch.refl _ _
  · extract_lets -merge -useContext +onlyGivenNames v0
    clear_value v0
    extract_lets -merge -useContext +onlyGivenNames v1
    refine Touch.cut v1 ?_ (fun h2 => ?_)
    · unfold v1
      refine Touch.step ?_ (State.cancelAll_touch ..) (by decide +kernel)
      refine Touch.step ?_ (State.running_touch ..) (by decide +kernel)
      exact Touch.refl _ _
    clear_value v1
    split
    · refine Touch.ite ?_ ?_
      · refine Touch.step ?_ (State.finish_touch ..) (by decide +kernel)
        exact h2
      · exact h2
    · exact h2

theorem execTaskCancel_touch (a0 : ℕ) (a1 : ℕ) (a2 : List (ℕ × ℕ)) (s : State) :
    ∃ t, execTaskCancel a0 a1 a2 s = .next t ∧ Touch 0x180000000003f90100000000000000000006000000000000000000000f101803ffc00200021f0030000000027f800000000000000000000000000000000c001fffffe00000bff9a0 s t := by
  refine ⟨_, rfl, ?_⟩
  refine Touch.step ?_ (State.settleAll_touch ..) (by decide +kernel)
  refine State.start_touch ?_ (fun y0 y1 h2 => ?_) (by decide +kernel)
  · exact Touch.refl _ _
  · refine Touch.step ?_ (State.taskCancel_touch ..) (by decide +kernel)
    exact h2

theorem State.enterIdle_touch (s : State) (a1 : ℕ) :
    Touch 0x40000000000000000000000000000002800000000000000000000000000000000000000000000000000000000000000000000008000000000000c001fffffe00000122180 s (State.enterIdle s a1) := by
  unfold State.enterIdle
  refine Touch.step ?_ (State.failback_touch ..) (by decide +kernel)
  refine Touch.step ?_ (State.setPartState_touch ..) (by decide +kernel)
  exact Touch.refl _ _

theorem State.jobEndDone_touch (s : State) (a1 : ℕ) :
    Touch 0x20 s (State.jobEndDone s a1) := by
  unfold State.jobEndDone
  refine Touch.foldl ?_ (fun y0 y1 h2 => ?_)
  · exact Touch.refl _ _
  · refine Touch.step ?_ (State.finish_touch ..) (by decide +kernel)
    exact h2

theorem State.idleReached_touch (s : State) (a1 : ℕ) :
    Touch 0x40000000000000000000000000000002800000000000000000000000000000000000000000000000000000000000000000000008000000000000c001fffffe000001221a0 s (State.idleReached s a1) := by
  unfold State.idleReached
  refine Touch.ite ?_ ?_
  · exact Touch.refl _ _
  · refine Touch.ite ?_ ?_
    · refine Touch.step ?_ (State.jobEndDone_touch ..) (by decide +kernel)
      refine Touch.step ?_ (State.enterIdle_touch ..) (by decide +kernel)
      exact Touch.refl _ _
    · refine Touch.ite ?_ ?_
      · refine Touch.step ?_ (State.jobEndDone_touch ..) (by decide +kernel)
        refine Touch.step ?_ (State.setPartState_touch ..) (by decide +kernel)
        exact Touch.refl _ _
      · exact Touch.refl _ _

theorem execPartIdleReached_touch (a0 : ℕ) (s : State) :
    ∃ t, execPartIdleReached a0 s = .next t ∧ Touch 0x40000000000000000000000000000002800000000000000000000000000000000000000000000000000000000000000000000008000000000000c001fffffe000001221a0 s t := by
  refine ⟨_, rfl, ?_⟩
  refine Touch.step ?_ (State.idleReached_touch ..) (by decide +kernel)
  exact Touch.refl _ _

theorem State.resetSend_touch (s : State) (a1 : ℕ) (a2 : SendEnt) :
    Touch 0x24000000000000000000000000000000000000000000000000017f180 s (State.resetSend s a1 a2) := by
  unfold State.resetSend
  split
  · refine Touch.ite ?_ ?_
    · exact Touch.refl _ _
    · extract_lets -merge -useContext +onlyGivenNames v0
      clear_value v0
      extract_lets -merge -useContext +onlyGivenNames v1
      refine Touch.cut v1 ?_ (fun h2 => ?_)
      · unfold v1
        refine Touch.ite ?_ ?_
        · refine Touch.step ?_ (State.sendPkt_touch ..) (by decide +kernel)
          exact Touch.refl _ _
        · exact Touch.refl _ _
      clear_value v1
      refine Touch.step ?_ (State.delSend_touch ..) (by decide +kernel)
      exact h2
  · refine Touch.ite ?_ ?_
    · refine Touch.step ?_ (State.delSend_touch ..) (by decide +kernel)
      exact Touch.refl _ _
    · exact Touch.refl _ _
  · extract_lets -merge -useContext +onlyGivenNames v3
    clear_value v3
    extract_lets -merge -useContext +onlyGivenNames v4
    refine Touch.cut v4 ?_ (fun h5 => ?_)
    · unfold v4
      refine Touch.foldl ?_ (fun y6 y7 h8 => ?_)
      · exact Touch.refl _ _
      · refine Touch.step ?_ (State.detach_touch ..) (by decide +kernel)
        exact h8
    clear_value v4
    extract_lets -merge -useContext +onlyGivenNames v9
    refine Touch.cut v9 ?_ (fun h10 => ?_)
    · unfold v9
      refine Touch.ite ?_ ?_
      · exact h5
      · refine Touch.step ?_ (State.advance_touch ..) (by decide +kernel)
        exact h5
    clear_value v9
    refine Touch.step ?_ (State.delSend_touch ..) (by decide +kernel)
    exact h10

theorem State.dropTasks_touch (s : State) (a1 : ℕ) :
    Touch 0x3020 s (State.dropTasks s a1) := by
  unfold State.dropTasks
  extract_lets -merge -useContext +onlyGivenNames v0
  clear_value v0
  extract_lets -merge -useContext +onlyGivenNames v1
  refine Touch.cut v1 ?_ (fun h2 => ?_)
  · unfold v1
    refine Touch.step ?_ (State.modTile_touch ..) (by decide +kernel)
    exact Touch.refl _ _
  clear_value v1
  refine Touch.foldl ?_ (fun y3 y4 h5 => ?_)
  · refine Touch.step ?_ (State.settleNode_touch ..) (by decide +kernel)
    exact h2
  · refine Touch.step ?_ (State.cancelEnded_touch ..) (by decide +kernel)
    exact h5

theorem State.nackAll_touch (s : State) (a1 : ℕ) :
    Touch 0x240000000000000000000000000000000000000000000000000163100 s (State.nackAll s a1) := by
  unfold State.nackAll
  refine Touch.foldl ?_ (fun y0 y1 h2 => ?_)
  · refine Touch.step ?_ (State.modMsg_touch ..) (by decide +kernel)
    exact Touch.refl _ _
  · refine Touch.step ?_ (State.sendPkt_touch ..) (by decide +kernel)
    exact h2

theorem State.tileResetStart_touch (s : State) (a1 : ℕ) :
    Touch 0x24000000000000000000000000000000000000000000000000017f1a8 s (State.tileResetStart s a1) := by
  unfold State.tileResetStart
  extract_lets -merge -useContext +onlyGivenNames v0
  refine Touch.cut v0 ?_ (fun h1 => ?_)
  · unfold v0
    refine Touch.foldl ?_ (fun y2 y3 h4 => ?_)
    · refine Touch.step ?_ (State.dropTasks_touch ..) (by decide +kernel)
      exact Touch.refl _ _
    · refine Touch.step ?_ (State.resetSend_touch ..) (by decide +kernel)
      exact h4
  clear_value v0
  extract_lets -merge -useContext +onlyGivenNames v5
  refine Touch.cut v5 ?_ (fun h6 => ?_)
  · unfold v5
    refine Touch.step ?_ (State.modTile_touch ..) (by decide +kernel)
    refine Touch.step ?_ (State.nackAll_touch ..) (by decide +kernel)
    exact h1
  clear_value v5
  refine Touch.step ?_ (State.modPilot_touch ..) (by decide +kernel)
  exact h6

theorem State.resetWake_touch (s : State) (a1 : List ℕ) :
    Touch 0xc001fffffe00000000100 s (State.resetWake s a1).2 := by
  unfold State.resetWake
  extract_lets -merge -useContext +onlyGivenNames v0
  clear_value v0
  refine Touch.mkSnd ?_
  refine Touch.foldl ?_ (fun y1 y2 h3 => ?_)
  · exact Touch.refl _ _
  · refine Touch.step ?_ (State.wake_touch ..) (by decide +kernel)
    exact h3

theorem State.tileReset_touch (a0 : ℕ) (a1 : ℕ) (a2 : ActiveCmd) (s : State) :
    Touch 0x180000000003f90100000000000000000006000000000000000000000f101803ffc00200021f00300000000240000000000000000000000000000000000c001fffffe00000bff9a8 s (State.tileReset a0 a1 a2 s) := by
  unfold State.tileReset
  split
  · refine Touch.step ?_ (State.finish_touch ..) (by decide +kernel)
    exact Touch.refl _ _
  · extract_lets -merge -useContext +onlyGivenNames v0
    refine Touch.cut v0.2 ?_ (fun h1 => ?_)
    · unfold v0
      refine Touch.step ?_ (State.resetWake_touch ..) (by decide +kernel)
      exact Touch.refl _ _
    clear_value v0
    refine Touch.ite ?_ ?_
    · exact h1
    · refine Touch.step ?_ (State.settleAll_touch ..) (by decide +kernel)
      refine Touch.foldl ?_ (fun y2 y3 h4 => ?_)
      · refine Touch.step ?_ (State.running_touch ..) (by decide +kernel)
        exact h1
      · refine Touch.step ?_ (State.tileResetStart_touch ..) (by decide +kernel)
        exact h4

theorem execTileReset_touch (a0 : ℕ) (a1 : ℕ) (s : State) :
    ∃ t, execTileReset a0 a1 s = .next t ∧ Touch 0x180000000003f90100000000000000000006000000000000000000000f101803ffc00200021f00300000000240000000000000000000000000000000000c001fffffe00000bff9a8 s t := by
  refine ⟨_, rfl, ?_⟩
  refine State.start_touch ?_ (fun y0 y1 h2 => ?_) (by decide +kernel)
  · exact Touch.refl _ _
  · refine Touch.step ?_ (State.tileReset_touch ..) (by decide +kernel)
    exact h2

theorem State.tileResetDone_touch (s : State) (a1 : ℕ) :
    Touch 0x3ffffffffffffffffffffffffffffffffffffffffffffffffffffffffffffffffffffffffffffffffffffffffffffffffffffffffffffffffffffffffffffffffffffffffffffffffffffffffffffffff1005a8 s (State.tileResetDone s a1) := by
  unfold State.tileResetDone
  extract_lets -merge -useContext +onlyGivenNames v0
  clear_value v0
  refine Touch.ite ?_ ?_
  · exact Touch.refl _ _
  · extract_lets -merge -useContext +onlyGivenNames v1
    refine Touch.cut v1 ?_ (fun h2 => ?_)
    · unfold v1
      refine Touch.step ?_ (State.modPilot_touch ..) (by decide +kernel)
      exact Touch.refl _ _
    clear_value v1
    extract_lets -merge -useContext +onlyGivenNames v3
    refine Touch.cut v3 ?_ (fun h4 => ?_)
    · unfold v3
      refine Touch.step ?_ (State.resetCells_touch ..) (by decide +kernel)
      exact h2
    clear_value v3
    extract_lets -merge -useContext +onlyGivenNames v5
    refine Touch.cut v5 ?_ (fun h6 => ?_)
    · unfold v5
      refine Touch.step ?_ (State.scopeDone_touch ..) (by decide +kernel)
      exact h4
    clear_value v5
    refine Touch.foldl ?_ (fun y7 y8 h9 => ?_)
    · exact h6
    · refine Touch.step ?_ (State.finish_touch ..) (by decide +kernel)
      exact h9

theorem execTileResetDone_touch (a0 : ℕ) (s : State) :
    ∃ t, execTileResetDone a0 s = .next t ∧ Touch 0x3ffffffffffffffffffffffffffffffffffffffffffffffffffffffffffffffffffffffffffffffffffffffffffffffffffffffffffffffffffffffffffffffffffffffffffffffffffffffffffffffff1005a8 s t := by
  refine ⟨_, rfl, ?_⟩
  refine Touch.step ?_ (State.tileResetDone_touch ..) (by decide +kernel)
  exact Touch.refl _ _

theorem State.abortCmds_touch (s : State) (a1 : ℕ) (a2 : Option ℕ) :
    Touch 0x21c8a0 s (State.abortCmds s a1 a2) := by
  unfold State.abortCmds
  refine Touch.foldl ?_ (fun y0 y1 h2 => ?_)
  · exact Touch.refl _ _
  · refine Touch.ite ?_ ?_
    · refine Touch.step ?_ (State.retire_touch ..) (by decide +kernel)
      exact h2
    · refine Touch.ite ?_ ?_
      · refine Touch.step ?_ (State.endCopy_touch ..) (by decide +kernel)
        exact h2
      · extract_lets -merge -useContext +onlyGivenNames v3
        clear_value v3
        refine Touch.step ?_ (State.finish_touch ..) (by decide +kernel)
        refine Touch.foldl ?_ (fun y4 y5 h6 => ?_)
        · exact h2
        · refine Touch.step ?_ (State.detach_touch ..) (by decide +kernel)
          exact h6

theorem State.flushRecords_touch (s : State) (a1 : ℕ) :
    Touch 0x49ff8000000000000000000000000000000000000000000000006003800000000000000000000000000000000000000000000000000000000000001b001800000000000000000000000000000001005a0 s (State.flushRecords s a1) := by
  unfold State.flushRecords
  extract_lets -merge -useContext +onlyGivenNames v0
  refine Touch.cut v0 ?_ (fun h1 => ?_)
  · unfold v0
    refine Touch.foldl ?_ (fun y2 y3 h4 => ?_)
    · exact Touch.refl _ _
    · refine Touch.step ?_ (State.complete_touch ..) (by decide +kernel)
      exact h4
  clear_value v0
  refine Touch.foldl ?_ (fun y5 y6 h7 => ?_)
  · exact h1
  · refine Touch.step ?_ (State.retire_touch ..) (by decide +kernel)
    refine Touch.step ?_ (State.loseRecord_touch ..) (by decide +kernel)
    exact h7

theorem State.queuesOff_touch (s : State) (a1 : ℕ) :
    Touch 0x8804000000000000000000000000000000000020 s (State.queuesOff s a1) := by
  unfold State.queuesOff
  extract_lets -merge -useContext +onlyGivenNames v0
  refine Touch.cut v0 ?_ (fun h1 => ?_)
  · unfold v0
    refine Touch.foldl ?_ (fun y2 y3 h4 => ?_)
    · exact Touch.refl _ _
    · refine Touch.step ?_ (State.put_touch ..) (by decide +kernel)
      refine Touch.step ?_ (State.put_touch ..) (by decide +kernel)
      exact h4
  clear_value v0
  refine Touch.step ?_ (State.modPart_touch ..) (by decide +kernel)
  refine Touch.step ?_ (State.put_touch ..) (by decide +kernel)
  exact h1

theorem State.dropStreams_touch (s : State) (a1 : ℕ) :
    Touch 0x1c080 s (State.dropStreams s a1) := by
  unfold State.dropStreams
  extract_lets -merge -useContext +onlyGivenNames v0
  refine Touch.cut v0 ?_ (fun h1 => ?_)
  · unfold v0
    refine Touch.foldl ?_ (fun y2 y3 h4 => ?_)
    · exact Touch.refl _ _
    · refine Touch.step ?_ (State.detach_touch ..) (by decide +kernel)
      exact h4
  clear_value v0
  extract_lets -merge -useContext +onlyGivenNames v5
  refine Touch.cut v5 ?_ (fun h6 => ?_)
  · unfold v5
    refine Touch.step ?_ (State.modXlat_touch ..) (by decide +kernel)
    exact h1
  clear_value v5
  refine Touch.step ?_ (State.dropReqs_touch ..) (by decide +kernel)
  exact h6

theorem State.dropFabric_touch (s : State) (a1 : ℕ) :
    Touch 0x100000000000000000000000000000000000000000000000000000000000000000000000000000000000000000000000000000000000000000000000000020000 s (State.dropFabric s a1) := by
  unfold State.dropFabric
  extract_lets -merge -useContext +onlyGivenNames v0
  clear_value v0
  extract_lets -merge -useContext +onlyGivenNames v1
  refine Touch.cut v1 ?_ (fun h2 => ?_)
  · unfold v1
    refine Touch.step ?_ (State.modFab_touch ..) (by decide +kernel)
    exact Touch.refl _ _
  clear_value v1
  refine Touch.step ?_ (State.retainSettle_touch ..) (by decide +kernel)
  refine Touch.foldl ?_ (fun y3 y4 h5 => ?_)
  · exact h2
  · split
    · refine Touch.step ?_ (State.oweCredits_touch ..) (by decide +kernel)
      exact h5
    · exact h5

theorem State.abortColls_touch (s : State) (a1 : ℕ) :
    Touch 0x24000000000000000000000000000000000000000000000000017f180 s (State.abortColls s a1) := by
  unfold State.abortColls
  refine Touch.foldl ?_ (fun y0 y1 h2 => ?_)
  · exact Touch.refl _ _
  · refine Touch.foldl ?_ (fun y3 y4 h5 => ?_)
    · exact h2
    · refine Touch.ite ?_ ?_
      · refine Touch.step ?_ (State.collAbort_touch ..) (by decide +kernel)
        exact h5
      · exact h5

theorem State.partReset_touch (s : State) (a1 : ℕ) (a2 : ℕ) (a3 : Option ℕ) (a4 : Option ℕ) :
    Touch 0x49ff8000200002008180000000003f90100000000000000000006003800000000000000000f387803ffc00700021f00300000000240000000000001b08984008000000000000c001fffffe00000bfffa8 s (State.partReset s a1 a2 a3 a4) := by
  unfold State.partReset
  refine Touch.ite ?_ ?_
  · exact Touch.refl _ _
  · refine Touch.ite ?_ ?_
    · refine Touch.ite ?_ ?_
      · refine Touch.step ?_ (State.modPart_touch ..) (by decide +kernel)
        exact Touch.refl _ _
      · exact Touch.refl _ _
    · extract_lets -merge -useContext +onlyGivenNames v0
      refine Touch.cut v0 ?_ (fun h1 => ?_)
      · unfold v0
        refine Touch.step ?_ (State.modPart_touch ..) (by decide +kernel)
        exact Touch.refl _ _
      clear_value v0
      extract_lets -merge -useContext +onlyGivenNames v2
      refine Touch.cut v2 ?_ (fun h3 => ?_)
      · unfold v2
        refine Touch.step ?_ (State.setPartState_touch ..) (by decide +kernel)
        refine Touch.step ?_ (State.flushRecords_touch ..) (by decide +kernel)
        refine Touch.step ?_ (State.abortCmds_touch ..) (by decide +kernel)
        exact h1
      clear_value v2
      extract_lets -merge -useContext +onlyGivenNames v4
      refine Touch.cut v4 ?_ (fun h5 => ?_)
      · unfold v4
        refine Touch.step ?_ (State.modMem_touch _ _ (fun _ => rfl)) (by decide +kernel)
        refine Touch.step ?_ (State.dropStreams_touch ..) (by decide +kernel)
        refine Touch.step ?_ (State.queuesOff_touch ..) (by decide +kernel)
        exact h3
      clear_value v4
      extract_lets -merge -useContext +onlyGivenNames v6
      refine Touch.cut v6 ?_ (fun h7 => ?_)
      · unfold v6
        refine Touch.step ?_ (State.put_touch ..) (by decide +kernel)
        refine Touch.step ?_ (State.parkSettle_touch ..) (by decide +kernel)
        refine Touch.step ?_ (Touch.ringsWith _ _) (by decide +kernel)
        exact h5
      clear_value v6
      extract_lets -merge -useContext +onlyGivenNames v8
      refine Touch.cut v8 ?_ (fun h9 => ?_)
      · unfold v8
        refine Touch.step ?_ (State.resetWake_touch ..) (by decide +kernel)
        exact h7
      extract_lets -merge -useContext +onlyGivenNames v10
      refine Touch.cut v10 ?_ (fun h11 => ?_)
      · unfold v10
        refine Touch.step ?_ (State.dropFabric_touch ..) (by decide +kernel)
        refine Touch.foldl ?_ (fun y12 y13 h14 => ?_)
        · exact h9
        · refine Touch.step ?_ (State.tileResetStart_touch ..) (by decide +kernel)
          exact h14
      clear_value v10
      refine Touch.step ?_ (State.cchPump_touch ..) (by decide +kernel)
      refine Touch.step ?_ (State.resetScope_touch ..) (by decide +kernel)
      refine Touch.step ?_ (State.abortColls_touch ..) (by decide +kernel)
      exact h11

theorem State.partResetCmd_touch (a0 : ℕ) (a1 : ℕ) (a2 : ActiveCmd) (s : State) :
    Touch 0x49ff8000200002008180000000003f90100000000000000000006003800000000000000000f387803ffc00700021f00300000000240000000000001b08984008000000000000c001fffffe00000bfffa8 s (State.partResetCmd a0 a1 a2 s) := by
  unfold State.partResetCmd
  extract_lets -merge -useContext +onlyGivenNames v0
  clear_value v0
  refine Touch.ite ?_ ?_
  · refine Touch.step ?_ (State.finish_touch ..) (by decide +kernel)
    exact Touch.refl _ _
  · refine Touch.step ?_ (State.partReset_touch ..) (by decide +kernel)
    exact Touch.refl _ _

theorem execPartReset_touch (a0 : ℕ) (a1 : ℕ) (s : State) :
    ∃ t, execPartReset a0 a1 s = .next t ∧ Touch 0x49ff8000200002008180000000003f90100000000000000000006003800000000000000000f387803ffc00700021f00300000000240000000000001b08984008000000000000c001fffffe00000bfffa8 s t := by
  refine ⟨_, rfl, ?_⟩
  refine State.start_touch ?_ (fun y0 y1 h2 => ?_) (by decide +kernel)
  · exact Touch.refl _ _
  · refine Touch.step ?_ (State.partResetCmd_touch ..) (by decide +kernel)
    exact h2

theorem State.provReset_touch (s : State) (a1 : ℕ) :
    Touch 0x49ff8000200002008180000000003f90100000000000000000006003800000000000000000f387803ffc00700021f00300000000240000000000101b08984008000000000000c001fffffe00000bfffa8 s (State.provReset s a1) := by
  unfold State.provReset
  refine Touch.ite ?_ ?_
  · exact Touch.refl _ _
  · refine Touch.step ?_ (State.partReset_touch ..) (by decide +kernel)
    refine Touch.step ?_ (State.put_touch ..) (by decide +kernel)
    exact Touch.refl _ _

theorem execPartProvReset_touch (a0 : ℕ) (s : State) :
    ∃ t, execPartProvReset a0 s = .next t ∧ Touch 0x49ff8000200002008180000000003f90100000000000000000006003800000000000000000f387803ffc00700021f00300000000240000000000101b08984008000000000000c001fffffe00000bfffa8 s t := by
  refine ⟨_, rfl, ?_⟩
  refine Touch.step ?_ (State.provReset_touch ..) (by decide +kernel)
  exact Touch.refl _ _

theorem State.quiesce_touch (s : State) (a1 : ℕ) (a2 : Bool) :
    Touch 0x49ff8000200002008180000000003f90100000000000000000006003800000000000000000f387803ffc00700021f00300000000240000000000061b08984008000000000000c001fffffe00000bfffa8 s (State.quiesce s a1 a2) := by
  unfold State.quiesce
  extract_lets -merge -useContext +onlyGivenNames v0
  refine Touch.cut v0 ?_ (fun h1 => ?_)
  · unfold v0
    refine Touch.step ?_ (State.put_touch ..) (by decide +kernel)
    exact Touch.refl _ _
  clear_value v0
  refine Touch.ite ?_ ?_
  · exact h1
  · extract_lets -merge -useContext +onlyGivenNames v2
    refine Touch.cut v2 ?_ (fun h3 => ?_)
    · unfold v2
      refine Touch.step ?_ (State.put_touch ..) (by decide +kernel)
      exact h1
    clear_value v2
    split
    · refine Touch.step ?_ (State.setPartState_touch ..) (by decide +kernel)
      exact h3
    · refine Touch.ite ?_ ?_
      · refine Touch.step ?_ (State.partReset_touch ..) (by decide +kernel)
        exact h3
      · refine Touch.step ?_ (State.setPartState_touch ..) (by decide +kernel)
        exact h3
    · refine Touch.ite ?_ ?_
      · refine Touch.step ?_ (State.partReset_touch ..) (by decide +kernel)
        exact h3
      · refine Touch.step ?_ (State.setPartState_touch ..) (by decide +kernel)
        exact h3
    · refine Touch.ite ?_ ?_
      · refine Touch.step ?_ (State.partReset_touch ..) (by decide +kernel)
        exact h3
      · exact h3
    · exact h3

theorem execQuiesce_touch (a0 : ℕ) (a1 : Bool) (s : State) :
    ∃ t, execQuiesce a0 a1 s = .next t ∧ Touch 0x49ff8000200002008180000000003f90100000000000000000006003800000000000000000f387803ffc00700021f00300000000240000000000061b08984008000000000000c001fffffe00000bfffa8 s t := by
  refine ⟨_, rfl, ?_⟩
  refine Touch.step ?_ (State.quiesce_touch ..) (by decide +kernel)
  exact Touch.refl _ _

theorem State.resume_touch (s : State) (a1 : ℕ) :
    Touch 0x40000000000000000000000000000002800000000000000000000000000000000000000000000000000000000000020000000008000000000000c001fffffe00000122180 s (State.resume s a1) := by
  unfold State.resume
  refine Touch.ite ?_ ?_
  · refine Touch.step ?_ (State.enterIdle_touch ..) (by decide +kernel)
    refine Touch.step ?_ (State.put_touch ..) (by decide +kernel)
    exact Touch.refl _ _
  · exact Touch.refl _ _

theorem execPartResume_touch (a0 : ℕ) (s : State) :
    ∃ t, execPartResume a0 s = .next t ∧ Touch 0x40000000000000000000000000000002800000000000000000000000000000000000000000000000000000000000020000000008000000000000c001fffffe00000122180 s t := by
  refine ⟨_, rfl, ?_⟩
  refine Touch.step ?_ (State.resume_touch ..) (by decide +kernel)
  exact Touch.refl _ _

theorem State.quiesceTimeout_touch (s : State) (a1 : ℕ) :
    Touch 0x49ff8000200002008180000000003f90100000000000000000006003800000000000000000f387803ffc00700021f00300000000240000000000001b08984008000000000000c001fffffe00000bfffa8 s (State.quiesceTimeout s a1) := by
  unfold State.quiesceTimeout
  refine Touch.ite ?_ ?_
  · refine Touch.step ?_ (State.partReset_touch ..) (by decide +kernel)
    exact Touch.refl _ _
  · exact Touch.refl _ _

theorem execQuiesceTimeout_touch (a0 : ℕ) (s : State) :
    ∃ t, execQuiesceTimeout a0 s = .next t ∧ Touch 0x49ff8000200002008180000000003f90100000000000000000006003800000000000000000f387803ffc00700021f00300000000240000000000001b08984008000000000000c001fffffe00000bfffa8 s t := by
  refine ⟨_, rfl, ?_⟩
  refine Touch.step ?_ (State.quiesceTimeout_touch ..) (by decide +kernel)
  exact Touch.refl _ _

theorem State.freeColls_touch (s : State) (a1 : ℕ) :
    Touch 0x3f90000000000000000000000000000000000000000000000000000000000000000000000000240000000000000000000000000000000000000000000000000163100 s (State.freeColls s a1) := by
  unfold State.freeColls
  refine Touch.foldl ?_ (fun y0 y1 h2 => ?_)
  · exact Touch.refl _ _
  · refine Touch.step ?_ (State.seqRegs_touch ..) (by decide +kernel)
    refine Touch.step ?_ (State.seqExamine_touch ..) (by decide +kernel)
    refine Touch.step ?_ (State.modSeq_touch ..) (by decide +kernel)
    exact h2

theorem State.newInc_touch (s : State) (a1 : ℕ) :
    Touch 0x810000000000000000000000000000000020 s (State.newInc s a1) := by
  unfold State.newInc
  extract_lets -merge -useContext +onlyGivenNames v0
  clear_value v0
  extract_lets -merge -useContext +onlyGivenNames v1
  clear_value v1
  extract_lets -merge -useContext +onlyGivenNames v2
  clear_value v2
  extract_lets -merge -useContext +onlyGivenNames v3
  refine Touch.cut v3 ?_ (fun h4 => ?_)
  · unfold v3
    refine Touch.step ?_ (State.modPart_touch ..) (by decide +kernel)
    exact Touch.refl _ _
  clear_value v3
  refine Touch.step ?_ (State.put_touch ..) (by decide +kernel)
  refine Touch.step ?_ (State.put_touch ..) (by decide +kernel)
  exact h4

theorem State.hotDone_touch (s : State) :
    Touch 0x49ff800000000000000000000000000000000000000000000000000300000000000000000000000000000000000000000000000000000000000000000000000000000000c000000000000000000100588 s (State.hotDone s) := by
  unfold State.hotDone
  refine Touch.ite ?_ ?_
  · refine Touch.step ?_ (State.scopeDone_touch ..) (by decide +kernel)
    refine Touch.step ?_ (State.modPilot_touch ..) (by decide +kernel)
    exact Touch.refl _ _
  · exact Touch.refl _ _

theorem State.partResetDone_touch (s : State) (a1 : ℕ) :
    Touch 0x3ffffffffffffffffffffffffffffffffffffffffffffffffffffffffffffffffffffffffffffffffffffffffffffffffffffffffffffffffffffffffffffffffffffffffffffffffffffffffffffffffbfffa8 s (State.partResetDone s a1) := by
  unfold State.partResetDone
  extract_lets -merge -useContext +onlyGivenNames v0
  clear_value v0
  extract_lets -merge -useContext +onlyGivenNames v1
  refine Touch.cut v1.2 ?_ (fun h2 => ?_)
  · unfold v1
    refine Touch.step ?_ (State.resetWake_touch ..) (by decide +kernel)
    exact Touch.refl _ _
  clear_value v1
  refine Touch.ite ?_ ?_
  · exact Touch.refl _ _
  · refine Touch.ite ?_ ?_
    · exact h2
    · extract_lets -merge -useContext +onlyGivenNames v3
      clear_value v3
      extract_lets -merge -useContext +onlyGivenNames v4
      refine Touch.cut v4 ?_ (fun h5 => ?_)
      · unfold v4
        refine Touch.step ?_ (State.newInc_touch ..) (by decide +kernel)
        refine Touch.step ?_ (State.resetCells_touch ..) (by decide +kernel)
        exact Touch.refl _ _
      clear_value v4
      extract_lets -merge -useContext +onlyGivenNames v6
      refine Touch.cut v6 ?_ (fun h7 => ?_)
      · unfold v6
        refine Touch.step ?_ (State.freeColls_touch ..) (by decide +kernel)
        refine Touch.step ?_ (State.modPilot_touch ..) (by decide +kernel)
        exact h5
      clear_value v6
      extract_lets -merge -useContext +onlyGivenNames v8
      refine Touch.cut v8 ?_ (fun h9 => ?_)
      · unfold v8
        refine Touch.step ?_ (Touch.rings_tiles ..) (by decide +kernel)
        exact h7
      clear_value v8
      extract_lets -merge -useContext +onlyGivenNames v10
      refine Touch.cut v10 ?_ (fun h11 => ?_)
      · unfold v10
        refine Touch.ite ?_ ?_
        · refine Touch.step ?_ (State.modFab_touch ..) (by decide +kernel)
          refine Touch.step ?_ (State.put_touch ..) (by decide +kernel)
          exact h9
        · exact h9
      clear_value v10
      extract_lets -merge -useContext +onlyGivenNames v12
      refine Touch.cut v12 ?_ (fun h13 => ?_)
      · unfold v12
        refine Touch.step ?_ (State.put_touch ..) (by decide +kernel)
        refine Touch.step ?_ (State.put_touch ..) (by decide +kernel)
        exact h11
      clear_value v12
      extract_lets -merge -useContext +onlyGivenNames v14
      refine Touch.cut v14 ?_ (fun h15 => ?_)
      · unfold v14
        refine Touch.ite ?_ ?_
        · refine Touch.step ?_ (State.put_touch ..) (by decide +kernel)
          refine Touch.step ?_ (State.put_touch ..) (by decide +kernel)
          exact h13
        · refine Touch.step ?_ (State.bump_touch ..) (by decide +kernel)
          exact h13
      clear_value v14
      extract_lets -merge -useContext +onlyGivenNames v16
      refine Touch.cut v16 ?_ (fun h17 => ?_)
      · unfold v16
        refine Touch.ite ?_ ?_
        · exact h15
        · refine Touch.step ?_ (State.scopeDone_touch ..) (by decide +kernel)
          exact h15
      clear_value v16
      refine Touch.step ?_ (State.hotDone_touch ..) (by decide +kernel)
      refine Touch.step ?_ (State.settleAll_touch ..) (by decide +kernel)
      refine Touch.ite ?_ ?_
      · refine Touch.step ?_ (State.failback_touch ..) (by decide +kernel)
        refine Touch.step ?_ (State.setPartState_touch ..) (by decide +kernel)
        exact h17
      · refine Touch.step ?_ (State.enterIdle_touch ..) (by decide +kernel)
        exact h17

theorem execPartResetDone_touch (a0 : ℕ) (s : State) :
    ∃ t, execPartResetDone a0 s = .next t ∧ Touch 0x3ffffffffffffffffffffffffffffffffffffffffffffffffffffffffffffffffffffffffffffffffffffffffffffffffffffffffffffffffffffffffffffffffffffffffffffffffffffffffffffffffbfffa8 s t := by
  refine ⟨_, rfl, ?_⟩
  refine Touch.step ?_ (State.partResetDone_touch ..) (by decide +kernel)
  exact Touch.refl _ _

theorem State.incGateExpire_touch (s : State) (a1 : ℕ) :
    Touch 0x800000000000000000000000000000000020 s (State.incGateExpire s a1) := by
  unfold State.incGateExpire
  refine Touch.ite ?_ ?_
  · refine Touch.step ?_ (State.modPart_touch ..) (by decide +kernel)
    refine Touch.step ?_ (State.put_touch ..) (by decide +kernel)
    exact Touch.refl _ _
  · exact Touch.refl _ _

theorem execIncGateExpire_touch (a0 : ℕ) (s : State) :
    ∃ t, execIncGateExpire a0 s = .next t ∧ Touch 0x800000000000000000000000000000000020 s t := by
  refine ⟨_, rfl, ?_⟩
  refine Touch.step ?_ (State.incGateExpire_touch ..) (by decide +kernel)
  exact Touch.refl _ _

theorem State.partFaulted_touch (s : State) (a1 : ℕ) :
    Touch 0x180000000003f90100000000000000000006002800000000000000000f101803ffc00200021f00300000000240000000400000000000008000000000000c001fffffe00000bff9a0 s (State.partFaulted s a1) := by
  unfold State.partFaulted
  refine Touch.ite ?_ ?_
  · extract_lets -merge -useContext +onlyGivenNames v0
    refine Touch.cut v0 ?_ (fun h1 => ?_)
    · unfold v0
      refine Touch.step ?_ (State.abortCmds_touch ..) (by decide +kernel)
      exact Touch.refl _ _
    clear_value v0
    extract_lets -merge -useContext +onlyGivenNames v2
    refine Touch.cut v2 ?_ (fun h3 => ?_)
    · unfold v2
      refine Touch.foldl ?_ (fun y4 y5 h6 => ?_)
      · exact h1
      · refine Touch.step ?_ (State.put_touch ..) (by decide +kernel)
        exact h6
    clear_value v2
    refine Touch.step ?_ (State.settleAll_touch ..) (by decide +kernel)
    refine Touch.step ?_ (State.setPartState_touch ..) (by decide +kernel)
    exact h3
  · exact Touch.refl _ _

end Sys2Proof.Machine
end

