-- ==== Sys2Proof/Laws/TouchFaults.lean ====
section
/-! SUPPORT. What the operations of Machine/Faults.lean may change. -/
namespace Sys2Proof.Machine

set_option Elab.async false

theorem State.rput_touch (s : State) (r : Nat) (a b : Fld) (v : Nat) : Touch (2 ^ (24 + a.ctorIdx) ||| 2 ^ (24 + b.ctorIdx)) s (s.rput r a b v) :=
  Touch.ite ((s.put_touch a r v).weaken (by rw [← Nat.or_assoc, Nat.or_self]))
    ((s.put_touch b 0 v).weaken (by rw [Nat.or_left_comm, Nat.or_self]))

theorem State.modRing_touch (s : State) (a1 : ℕ) (a2 : Ring → Ring) :
    Touch 0x200 s (State.modRing s a1 a2) := by
  unfold State.modRing
  refine Touch.step ?_ (Touch.ringsWith _ _) (by decide +kernel)
  exact Touch.refl _ _

theorem State.ringVector_touch (s : State) (a1 : ℕ) :
    Touch 0x3800000000000000000000000000000000000000000000000000000000000000000000000000000000000000000000000000100280 s (State.ringVector s a1) := by
  unfold State.ringVector
  refine Touch.ite ?_ ?_
  · exact Touch.refl _ _
  · extract_lets -merge -useContext +onlyGivenNames v0
    refine Touch.cut v0 ?_ (fun h1 => ?_)
    · unfold v0
      refine Touch.step ?_ (State.modRing_touch ..) (by decide +kernel)
      exact Touch.refl _ _
    clear_value v0
    refine Touch.ite ?_ ?_
    · refine Touch.step ?_ (State.partVector_touch ..) (by decide +kernel)
      exact h1
    · refine Touch.step ?_ (State.globalEvent_touch ..) (by decide +kernel)
      exact h1

theorem State.ringWrite_touch (s : State) (a1 : ℕ) (a2 : FaultRec) (a3 : Bool) :
    Touch 0x30000300000000000000000000000000000000000000003800000000000000000000000000000000000000000000000000000000000000000000000000000000000c001fffffe00000102380 s (State.ringWrite s a1 a2 a3) := by
  unfold State.ringWrite
  extract_lets -merge -useContext +onlyGivenNames v0
  clear_value v0
  extract_lets -merge -useContext +onlyGivenNames v1
  clear_value v1
  extract_lets -merge -useContext +onlyGivenNames v2
  clear_value v2
  extract_lets -merge -useContext +onlyGivenNames v3
  refine Touch.cut v3 ?_ (fun h4 => ?_)
  · unfold v3
    refine Touch.step ?_ (State.ioWrite_touch ..) (by decide +kernel)
    exact Touch.refl _ _
  clear_value v3
  extract_lets -merge -useContext +onlyGivenNames v5
  refine Touch.cut v5 ?_ (fun h6 => ?_)
  · unfold v5
    refine Touch.step ?_ (State.rput_touch ..) (by decide +kernel)
    exact h4
  clear_value v5
  extract_lets -merge -useContext +onlyGivenNames v7
  refine Touch.cut v7 ?_ (fun h8 => ?_)
  · unfold v7
    refine Touch.ite ?_ ?_
    · refine Touch.step ?_ (State.rput_touch ..) (by decide +kernel)
      exact h6
    · exact h6
  clear_value v7
  extract_lets -merge -useContext +onlyGivenNames v9
  refine Touch.cut v9 ?_ (fun h10 => ?_)
  · unfold v9
    refine Touch.step ?_ (State.ringVector_touch ..) (by decide +kernel)
    refine Touch.step ?_ (State.modRing_touch ..) (by decide +kernel)
    exact h8
  clear_value v9
  refine Touch.step ?_ (State.coreLines_touch ..) (by decide +kernel)
  exact h10

theorem State.loseFault_touch (s : State) (r : Nat) (f : FaultRec) :
    Touch 0x4800003fc403fc400000000000000000000000000000000000000000000000000000000000000000000000000000000000000000000000000000000000000000000000000000000000000000000100300 s (s.loseFault r f) := by
  unfold State.loseFault
  extract_lets k v1 v2
  refine Touch.cut v1 ?_ (fun h1 => ?_)
  · unfold v1 lostFld
    refine Touch.ite ?_ ?_ <;> split <;> refine Touch.step (Touch.refl _ _) (State.bump_touch ..) (by decide +kernel)
  clear_value v1
  refine Touch.cut v2 ?_ (fun h2 => ?_)
  · unfold v2
    refine Touch.ite ?_ h1
    refine Touch.step ?_ (State.latchOut_touch ..) (by decide +kernel)
    exact h1.step (State.rput_touch ..) (by decide +kernel)
  exact h2.step (State.modRing_touch ..) (by decide +kernel)

theorem State.failParked_touch (s : State) (a1 : FaultRec) :
    Touch 0x4000 s (State.failParked s a1) := by
  unfold State.failParked
  split
  · refine Touch.step ?_ (State.markFail_touch ..) (by decide +kernel)
    exact Touch.refl _ _
  · exact Touch.refl _ _

theorem State.ringFlush_touch (a0 : ℕ) (a1 : ℕ) (s : State) :
    Touch 0x230002300000000000000000000000000000000000000003800000000000000000000000000000000000000000000000000000000000000000000000000000000000c001fffffe00000106380 s (State.ringFlush a0 a1 s) := by
  induction a1 generalizing a0 s
  · unfold State.ringFlush
    exact Touch.refl _ _
  · rename_i n_ ih
    unfold State.ringFlush
    refine Touch.ite ?_ ?_
    · exact Touch.refl _ _
    · refine Touch.ite ?_ ?_
      · refine Touch.stepSelf ?_ (ih ..)
        refine Touch.step ?_ (State.modRing_touch ..) (by decide +kernel)
        refine Touch.step ?_ (State.ringWrite_touch ..) (by decide +kernel)
        exact Touch.refl _ _
      · split
        · rename_i y0 y1
          exact Touch.refl _ _
        · rename_i y2 y3 y4 y5
          refine Touch.stepSelf ?_ (ih ..)
          refine Touch.step ?_ (State.parkSettle_touch ..) (by decide +kernel)
          refine Touch.step ?_ (State.failParked_touch ..) (by decide +kernel)
          refine Touch.step ?_ (State.modRing_touch ..) (by decide +kernel)
          refine Touch.step ?_ (State.ringWrite_touch ..) (by decide +kernel)
          exact Touch.refl _ _

theorem State.ringPump_touch (s : State) (a1 : ℕ) :
    Touch 0x230002300000000000000000000000000000000000000003800000000000000000000000000000000000000000000000000000000000000000000000000000000000c001fffffe00000106380 s (State.ringPump s a1) := by
  unfold State.ringPump
  refine Touch.step ?_ (State.ringFlush_touch ..) (by decide +kernel)
  exact Touch.refl _ _

theorem State.ringsPump_touch (s : State) :
    Touch 0x230002300000000000000000000000000000000000000003800000000000000000000000000000000000000000000000000000000000000000000000000000000000c001fffffe00000106380 s (State.ringsPump s) := by
  unfold State.ringsPump
  refine Touch.foldl ?_ (fun y0 y1 h2 => ?_)
  · exact Touch.refl _ _
  · refine Touch.step ?_ (State.ringPump_touch ..) (by decide +kernel)
    exact h2

theorem State.deliverFault_touch (s : State) (a1 : FaultRec) :
    Touch 0x4800003fe703fe700000000000000000000000000000000000000003800000000000000000000000000000000000000000000000000000000000000000000000000000000000c001fffffe00000106380 s (State.deliverFault s a1) := by
  unfold State.deliverFault
  extract_lets -merge -useContext +onlyGivenNames v0
  clear_value v0
  extract_lets -merge -useContext +onlyGivenNames v1
  refine Touch.cut v1 ?_ (fun h2 => ?_)
  · unfold v1
    refine Touch.step ?_ (State.ringPump_touch ..) (by decide +kernel)
    exact Touch.refl _ _
  clear_value v1
  refine Touch.ite ?_ ?_
  · refine Touch.step ?_ (State.failParked_touch ..) (by decide +kernel)
    refine Touch.step ?_ (State.loseFault_touch ..) (by decide +kernel)
    exact h2
  · refine Touch.ite ?_ ?_
    · refine Touch.step ?_ (State.failParked_touch ..) (by decide +kernel)
      refine Touch.step ?_ (State.ringWrite_touch ..) (by decide +kernel)
      exact h2
    · split
      · refine Touch.step ?_ (State.parkSettle_touch ..) (by decide +kernel)
        refine Touch.step ?_ (State.modRing_touch ..) (by decide +kernel)
        refine Touch.step ?_ (State.modStream_touch ..) (by decide +kernel)
        exact h2
      · refine Touch.step ?_ (State.loseFault_touch ..) (by decide +kernel)
        exact h2

theorem State.deviceFatal_touch (s : State) (a1 : FaultRec) :
    Touch 0x1c9ff8000000000000180000000003f90100000000000000000006003800000000000000000f101803ffc00200021f00300000000240000000400000000000008000000000000c001fffffe00000bffda8 s (State.deviceFatal s a1) := by
  unfold State.deviceFatal
  extract_lets -merge -useContext +onlyGivenNames v0
  refine Touch.cut v0 ?_ (fun h1 => ?_)
  · unfold v0
    refine Touch.step ?_ (State.globalEvent_touch ..) (by decide +kernel)
    refine Touch.step ?_ (State.latchOut_touch ..) (by decide +kernel)
    refine Touch.step ?_ (State.bump_touch ..) (by decide +kernel)
    exact Touch.refl _ _
  clear_value v0
  extract_lets -merge -useContext +onlyGivenNames v2
  refine Touch.cut v2 ?_ (fun h3 => ?_)
  · unfold v2
    refine Touch.step ?_ (State.emberTrigger_touch ..) (by decide +kernel)
    exact h1
  clear_value v2
  refine Touch.ite ?_ ?_
  · refine Touch.step ?_ (State.modPilot_touch ..) (by decide +kernel)
    refine Touch.foldl ?_ (fun y4 y5 h6 => ?_)
    · exact h3
    · refine Touch.step ?_ (State.partFaulted_touch ..) (by decide +kernel)
      exact h6
  · exact h3

theorem State.partFatal_touch (s : State) (a1 : FaultRec) :
    Touch 0x480000c0000000000180000000003f90100000000000000000006002800000000000000000f101803ffc00200021f00300000000240000000400000000000008000000000000c001fffffe00000bff9a0 s (State.partFatal s a1) := by
  unfold State.partFatal
  extract_lets -merge -useContext +onlyGivenNames v0
  refine Touch.cut v0 ?_ (fun h1 => ?_)
  · unfold v0
    refine Touch.step ?_ (State.latchOut_touch ..) (by decide +kernel)
    refine Touch.step ?_ (State.bump_touch ..) (by decide +kernel)
    exact Touch.refl _ _
  clear_value v0
  split
  · refine Touch.ite ?_ ?_
    · refine Touch.step ?_ (State.raise_touch ..) (by decide +kernel)
      refine Touch.step ?_ (State.partFaulted_touch ..) (by decide +kernel)
      exact h1
    · exact h1
  · exact h1

theorem State.acceptFault_touch (s : State) (a1 : FaultRec) :
    Touch 0x1c9ff83ffe703fe700180000000003f90100000000000000000006003800000000000000000f101803ffc00200021f00300000000240000000400000000000008000000000000c001fffffe00000bfffa8 s (State.acceptFault s a1) := by
  unfold State.acceptFault
  extract_lets -merge -useContext +onlyGivenNames v0
  refine Touch.cut v0 ?_ (fun h1 => ?_)
  · unfold v0
    refine Touch.step ?_ (State.deliverFault_touch ..) (by decide +kernel)
    refine Touch.step ?_ (State.embWrite_touch ..) (by decide +kernel)
    exact Touch.refl _ _
  clear_value v0
  split
  · refine Touch.step ?_ (State.bump_touch ..) (by decide +kernel)
    exact h1
  · refine Touch.step ?_ (State.partFatal_touch ..) (by decide +kernel)
    exact h1
  · refine Touch.step ?_ (State.deviceFatal_touch ..) (by decide +kernel)
    exact h1
  · exact h1

theorem State.faultWrite_touch (s : State) (a1 : Bool) :
    Touch 0x1c9ff83ffe703fe700180000000003f90100000000000000000006003800000000000000000f101803ffc00200021f00300000000240000000400000000000008000000000000c001fffffe00000bfffa8 s (State.faultWrite s a1) := by
  unfold State.faultWrite
  extract_lets -merge -useContext +onlyGivenNames v0
  refine Touch.cut v0 ?_ (fun h1 => ?_)
  · unfold v0
    refine Touch.ite ?_ ?_
    · refine Touch.step ?_ (State.raise_touch ..) (by decide +kernel)
      exact Touch.refl _ _
    · exact Touch.refl _ _
  clear_value v0
  split
  · exact h1
  · refine Touch.step ?_ (State.settleAll_touch ..) (by decide +kernel)
    refine Touch.step ?_ (State.acceptFault_touch ..) (by decide +kernel)
    refine Touch.step ?_ (Touch.faultQWith _ _) (by decide +kernel)
    exact h1

theorem execFaultRecordWrite_touch (a0 : Bool) (s : State) :
    ∃ t, execFaultRecordWrite a0 s = .next t ∧ Touch 0x1c9ff83ffe703fe700180000000003f90100000000000000000006003800000000000000000f101803ffc00200021f00300000000240000000400000000000008000000000000c001fffffe00000bfffa8 s t := by
  refine ⟨_, rfl, ?_⟩
  refine Touch.step ?_ (State.faultWrite_touch ..) (by decide +kernel)
  exact Touch.refl _ _

theorem State.ringHeadWrite_touch (s : State) (a1 : ℕ) (a2 : ℕ) :
    Touch 0x2b8002b80180000000003f90100000000000000000006003800000000000000000f101803ffc00200021f00300000000240000000000000000000000000000000000c001fffffe00000bffba0 s (State.ringHeadWrite s a1 a2) := by
  unfold State.ringHeadWrite
  extract_lets -merge -useContext +onlyGivenNames v0
  clear_value v0
  extract_lets -merge -useContext +onlyGivenNames v1
  clear_value v1
  refine Touch.ite ?_ ?_
  · refine Touch.step ?_ (State.rput_touch ..) (by decide +kernel)
    exact Touch.refl _ _
  · extract_lets -merge -useContext +onlyGivenNames v2
    refine Touch.cut v2 ?_ (fun h3 => ?_)
    · unfold v2
      refine Touch.step ?_ (State.modRing_touch ..) (by decide +kernel)
      refine Touch.step ?_ (State.rput_touch ..) (by decide +kernel)
      exact Touch.refl _ _
    clear_value v2
    extract_lets -merge -useContext +onlyGivenNames v4
    refine Touch.cut v4 ?_ (fun h5 => ?_)
    · unfold v4
      refine Touch.step ?_ (State.ringPump_touch ..) (by decide +kernel)
      exact h3
    clear_value v4
    refine Touch.step ?_ (State.settleAll_touch ..) (by decide +kernel)
    refine Touch.ite ?_ ?_
    · refine Touch.step ?_ (State.ringVector_touch ..) (by decide +kernel)
      exact h5
    · exact h5

theorem execRingHead_touch (a0 : ℕ) (a1 : ℕ) (s : State) :
    ∃ t, execRingHead a0 a1 s = .next t ∧ Touch 0x2b8002b80180000000003f90100000000000000000006003800000000000000000f101803ffc00200021f00300000000240000000000000000000000000000000000c001fffffe00000bffba0 s t := by
  refine ⟨_, rfl, ?_⟩
  refine Touch.ite ?_ ?_
  · exact Touch.refl _ _
  · refine Touch.step ?_ (State.ringHeadWrite_touch ..) (by decide +kernel)
    exact Touch.refl _ _

theorem State.ringEnable_touch (s : State) (a1 : ℕ) :
    Touch 0x238802388000000000000000000000000000000000000003800000000000000000000000000000000000000000000000000000000000000000000000000000000000c001fffffe00000106380 s (State.ringEnable s a1) := by
  unfold State.ringEnable
  extract_lets -merge -useContext +onlyGivenNames v0
  clear_value v0
  refine Touch.ite ?_ ?_
  · exact Touch.refl _ _
  · extract_lets -merge -useContext +onlyGivenNames v1
    refine Touch.cut v1 ?_ (fun h2 => ?_)
    · unfold v1
      refine Touch.step ?_ (State.rput_touch ..) (by decide +kernel)
      refine Touch.step ?_ (State.rput_touch ..) (by decide +kernel)
      exact Touch.refl _ _
    clear_value v1
    extract_lets -merge -useContext +onlyGivenNames v3
    refine Touch.cut v3 ?_ (fun h4 => ?_)
    · unfold v3
      refine Touch.step ?_ (State.rput_touch ..) (by decide +kernel)
      refine Touch.step ?_ (State.rput_touch ..) (by decide +kernel)
      exact h2
    clear_value v3
    refine Touch.step ?_ (State.ringPump_touch ..) (by decide +kernel)
    refine Touch.step ?_ (State.modRing_touch ..) (by decide +kernel)
    exact h4

theorem execFaultRingEnable_touch (a0 : ℕ) (s : State) :
    ∃ t, execFaultRingEnable a0 s = .next t ∧ Touch 0x238802388000000000000000000000000000000000000003800000000000000000000000000000000000000000000000000000000000000000000000000000000000c001fffffe00000106380 s t := by
  refine ⟨_, rfl, ?_⟩
  refine Touch.ite ?_ ?_
  · exact Touch.refl _ _
  · refine Touch.step ?_ (State.ringEnable_touch ..) (by decide +kernel)
    exact Touch.refl _ _

theorem State.ringDisable_touch (s : State) (a1 : ℕ) :
    Touch 0x4800003fe40bfe408180000000003f90100000000000000000006000000000000000000000f101803ffc00200021f00300000000240000000000000000000000000000000000c001fffffe00000bffba0 s (State.ringDisable s a1) := by
  unfold State.ringDisable
  extract_lets -merge -useContext +onlyGivenNames v0
  clear_value v0
  extract_lets -merge -useContext +onlyGivenNames v1
  refine Touch.cut v1 ?_ (fun h2 => ?_)
  · unfold v1
    refine Touch.step ?_ (State.modRing_touch ..) (by decide +kernel)
    refine Touch.step ?_ (State.rput_touch ..) (by decide +kernel)
    exact Touch.refl _ _
  clear_value v1
  refine Touch.step ?_ (State.settleAll_touch ..) (by decide +kernel)
  refine Touch.step ?_ (State.parkSettle_touch ..) (by decide +kernel)
  refine Touch.foldl ?_ (fun y3 y4 h5 => ?_)
  · exact h2
  · refine Touch.step ?_ (State.failParked_touch ..) (by decide +kernel)
    refine Touch.step ?_ (State.loseFault_touch ..) (by decide +kernel)
    exact h5

theorem execFaultRingDisable_touch (a0 : ℕ) (s : State) :
    ∃ t, execFaultRingDisable a0 s = .next t ∧ Touch 0x4800003fe40bfe408180000000003f90100000000000000000006000000000000000000000f101803ffc00200021f00300000000240000000000000000000000000000000000c001fffffe00000bffba0 s t := by
  refine ⟨_, rfl, ?_⟩
  refine Touch.ite ?_ ?_
  · exact Touch.refl _ _
  · refine Touch.step ?_ (State.ringDisable_touch ..) (by decide +kernel)
    exact Touch.refl _ _

theorem State.clrLost_touch (s : State) (r : Nat) : Touch 0x3fc003fc000000000000000000000000000000000000000000000000000000000000000000000000000000000000000000000000000000000000000000000000000000000000000000000000000 s (s.clrLost r) := by
  unfold State.clrLost
  refine Touch.foldl (Touch.refl _ _) (fun u k h => ?_)
  by_cases hr : r < 64
  all_goals
    simp only [hr, if_true, if_false, List.zip_cons_cons, List.zip_nil_right, List.foldl_cons, List.foldl_nil]
    repeat refine Touch.step ?_ (State.put_touch ..) (by decide +kernel)
    exact h

theorem execClrLost_touch (a0 : ℕ) (s : State) :
    ∃ t, execClrLost a0 s = .next t ∧ Touch 0x3fc003fc000000000000000000000000000000000000000000000000000000000000000000000000000000000000000000000000000000000000000000000000000000000000000000000000000 s t := by
  refine ⟨_, rfl, ?_⟩
  refine Touch.ite ?_ ?_
  · exact Touch.refl _ _
  · refine Touch.step ?_ (State.clrLost_touch ..) (by decide +kernel)
    exact Touch.refl _ _

theorem execEmberTrigger_touch (a0 : ℕ) (s : State) :
    ∃ t, execEmberTrigger a0 s = .next t ∧ Touch 0x49ff8000000000000000000000000000000000000000000000000003000000000000000000000000000000000000000000000000000000000000000000000000000000000000000000000000000100580 s t := by
  refine ⟨_, rfl, ?_⟩
  refine Touch.ite ?_ ?_
  · exact Touch.refl _ _
  · refine Touch.step ?_ (State.emberTrigger_touch ..) (by decide +kernel)
    exact Touch.refl _ _

theorem execEmberFreeze_touch (s : State) :
    ∃ t, execEmberFreeze s = .next t ∧ Touch 0x480f8000000000000000000000000000000000000000000000000003000000000000000000000000000000000000000000000000000000000000000000000000000000000000000000000000000100480 s t := by
  refine ⟨_, rfl, ?_⟩
  refine Touch.ite ?_ ?_
  · refine Touch.step ?_ (State.emberFreeze_touch ..) (by decide +kernel)
    exact Touch.refl _ _
  · exact Touch.refl _ _

theorem State.embSlotBits_touch (s : State) :
    Touch 0x6000000000000000000000000000000000000000000000000000000000000000000000000000000000000000000000000000000000000000000000000000000000000000000000000000000000000000 s (State.embSlotBits s) := by
  unfold State.embSlotBits
  extract_lets -merge -useContext +onlyGivenNames v0
  clear_value v0
  refine Touch.step ?_ (State.put_touch ..) (by decide +kernel)
  refine Touch.step ?_ (State.put_touch ..) (by decide +kernel)
  exact Touch.refl _ _

theorem State.modSlot_touch (s : State) (a1 : ℕ) (a2 : EmbSlot → EmbSlot) :
    Touch 0x6000000000000000000000000000000000000000000000000000000000000000000000000000000000000000000000000000000000000000000000000000000000000000000000000000000000000400 s (State.modSlot s a1 a2) := by
  unfold State.modSlot
  refine Touch.step ?_ (State.embSlotBits_touch ..) (by decide +kernel)
  refine Touch.step ?_ (State.modEmber_touch ..) (by decide +kernel)
  exact Touch.refl _ _

theorem State.copyDone_touch (s : State) :
    Touch 0x4fff8000000000000000000000000000000000000000000000000003000000000000000000000000000000000000000000000000000000000000000000000000000000000000000000000000000100580 s (State.copyDone s) := by
  unfold State.copyDone
  refine Touch.ite ?_ ?_
  · exact Touch.refl _ _
  · extract_lets -merge -useContext +onlyGivenNames v0
    clear_value v0
    extract_lets -merge -useContext +onlyGivenNames v1
    refine Touch.cut v1 ?_ (fun h2 => ?_)
    · unfold v1
      refine Touch.step ?_ (State.modSlot_touch ..) (by decide +kernel)
      exact Touch.refl _ _
    clear_value v1
    extract_lets -merge -useContext +onlyGivenNames v3
    refine Touch.cut v3 ?_ (fun h4 => ?_)
    · unfold v3
      refine Touch.step ?_ (State.put_touch ..) (by decide +kernel)
      refine Touch.step ?_ (State.modEmber_touch ..) (by decide +kernel)
      exact h2
    clear_value v3
    refine Touch.ite ?_ ?_
    · refine Touch.step ?_ (State.emberResume_touch ..) (by decide +kernel)
      exact h4
    · exact h4

theorem execEmberCopyDone_touch (s : State) :
    ∃ t, execEmberCopyDone s = .next t ∧ Touch 0x4fff8000000000000000000000000000000000000000000000000003000000000000000000000000000000000000000000000000000000000000000000000000000000000000000000000000000100580 s t := by
  refine ⟨_, rfl, ?_⟩
  refine Touch.step ?_ (State.copyDone_touch ..) (by decide +kernel)
  exact Touch.refl _ _

theorem execEmbCtlFreeze_touch (s : State) :
    ∃ t, execEmbCtlFreeze s = .next t ∧ Touch 0x49ff8000000000000000000000000000000000000000000000000003000000000000000000000000000000000000000000000000000000000000000000000000000000000000000000000000000100580 s t := by
  refine ⟨_, rfl, ?_⟩
  refine Touch.step ?_ (State.emberTrigger_touch ..) (by decide +kernel)
  exact Touch.refl _ _

theorem State.rearm_touch (s : State) :
    Touch 0x49ff8000000000000000000000000000000000000000000000000003000000000000000000000000000000000000000000000000000000000000000000000000000000000000000000000000000100580 s (State.rearm s) := by
  unfold State.rearm
  refine Touch.ite ?_ ?_
  · refine Touch.step ?_ (State.emberResume_touch ..) (by decide +kernel)
    exact Touch.refl _ _
  · exact Touch.refl _ _

theorem execRearm_touch (s : State) :
    ∃ t, execRearm s = .next t ∧ Touch 0x49ff8000000000000000000000000000000000000000000000000003000000000000000000000000000000000000000000000000000000000000000000000000000000000000000000000000000100580 s t := by
  refine ⟨_, rfl, ?_⟩
  refine Touch.step ?_ (State.rearm_touch ..) (by decide +kernel)
  exact Touch.refl _ _

theorem State.embNote_touch (s : State) (a1 : ℕ) :
    Touch 0x449ff8000000000000000000000000000000000000000000000000003000000000000000000000000000000000000000000000000000000000000000000000000000000000000000000000000000100580 s (State.embNote s a1) := by
  unfold State.embNote
  refine Touch.step ?_ (State.ember'_touch ..) (by decide +kernel)
  refine Touch.step ?_ (State.put_touch ..) (by decide +kernel)
  exact Touch.refl _ _

theorem execEmbNote_touch (a0 : ℕ) (s : State) :
    ∃ t, execEmbNote a0 s = .next t ∧ Touch 0x449ff8000000000000000000000000000000000000000000000000003000000000000000000000000000000000000000000000000000000000000000000000000000000000000000000000000000100580 s t := by
  refine ⟨_, rfl, ?_⟩
  refine Touch.step ?_ (State.embNote_touch ..) (by decide +kernel)
  exact Touch.refl _ _

theorem State.embKeep_touch (s : State) (a1 : ℕ) :
    Touch 0x6000000000000000000000000000000000000000000000000000000000000000000000000000000000000000000000000000000000000000000000000000000000000000000000000000000000000400 s (State.embKeep s a1) := by
  unfold State.embKeep
  refine Touch.foldl ?_ (fun y0 y1 h2 => ?_)
  · exact Touch.refl _ _
  · refine Touch.step ?_ (State.modSlot_touch ..) (by decide +kernel)
    exact h2

theorem execEmbSlots_touch (a0 : ℕ) (s : State) :
    ∃ t, execEmbSlots a0 s = .next t ∧ Touch 0x6000000000000000000000000000000000000000000000000000000000000000000000000000000000000000000000000000000000000000000000000000000000000000000000000000000000000400 s t := by
  refine ⟨_, rfl, ?_⟩
  refine Touch.step ?_ (State.embKeep_touch ..) (by decide +kernel)
  exact Touch.refl _ _

theorem State.embAnswer_touch (s : State) (a1 : ℕ) (a2 : ℕ) (a3 : List Byte) :
    Touch 0x2000000000000000000000000000000000000000000000000000000000000000000000000000000000000000000000000000000000000000000000000000000000000000000000000000000000000100000 s (State.embAnswer s a1 a2 a3) := by
  unfold State.embAnswer
  refine Touch.ite ?_ ?_
  · refine Touch.step ?_ (State.emit_touch ..) (by decide +kernel)
    refine Touch.step ?_ (State.onBus_touch ..) (by decide +kernel)
    exact Touch.refl _ _
  · exact Touch.refl _ _

theorem execEmbDir_touch (s : State) :
    ∃ t, execEmbDir s = .next t ∧ Touch 0x2000000000000000000000000000000000000000000000000000000000000000000000000000000000000000000000000000000000000000000000000000000000000000000000000000000000000100000 s t := by
  refine ⟨_, rfl, ?_⟩
  refine Touch.step ?_ (State.embAnswer_touch ..) (by decide +kernel)
  exact Touch.refl _ _

theorem State.embRead_touch (s : State) (a1 : ℕ) :
    Touch 0x2000000000000000000000000000000000000000000000000000000000000000000000000000000000000000000000000000000000000000000000000000000000000000000000000000000000000100000 s (State.embRead s a1) := by
  unfold State.embRead
  extract_lets -merge -useContext +onlyGivenNames v0
  clear_value v0
  refine Touch.ite ?_ ?_
  · refine Touch.step ?_ (State.embAnswer_touch ..) (by decide +kernel)
    exact Touch.refl _ _
  · refine Touch.ite ?_ ?_
    · refine Touch.step ?_ (State.embAnswer_touch ..) (by decide +kernel)
      exact Touch.refl _ _
    · extract_lets -merge -useContext +onlyGivenNames v1
      clear_value v1
      refine Touch.step ?_ (State.embAnswer_touch ..) (by decide +kernel)
      exact Touch.refl _ _

theorem execEmbRead_touch (a0 : ℕ) (s : State) :
    ∃ t, execEmbRead a0 s = .next t ∧ Touch 0x2000000000000000000000000000000000000000000000000000000000000000000000000000000000000000000000000000000000000000000000000000000000000000000000000000000000000100000 s t := by
  refine ⟨_, rfl, ?_⟩
  refine Touch.step ?_ (State.embRead_touch ..) (by decide +kernel)
  exact Touch.refl _ _

theorem execEmbFreeze_touch (s : State) :
    ∃ t, execEmbFreeze s = .next t ∧ Touch 0x2049ff8000000000000000000000000000000000000000000000000003000000000000000000000000000000000000000000000000000000000000000000000000000000000000000000000000000100580 s t := by
  refine ⟨_, rfl, ?_⟩
  refine Touch.ite ?_ ?_
  · extract_lets -merge -useContext +onlyGivenNames v0
    refine Touch.cut v0 ?_ (fun h1 => ?_)
    · unfold v0
      refine Touch.step ?_ (State.emberTrigger_touch ..) (by decide +kernel)
      exact Touch.refl _ _
    clear_value v0
    refine Touch.step ?_ (State.embAnswer_touch ..) (by decide +kernel)
    exact h1
  · exact Touch.refl _ _

theorem State.embKeepOne_touch (s : State) (a1 : ℕ) :
    Touch 0x2006000000000000000000000000000000000000000000000000000000000000000000000000000000000000000000000000000000000000000000000000000000000000000000000000000000000100400 s (State.embKeepOne s a1) := by
  unfold State.embKeepOne
  extract_lets -merge -useContext +onlyGivenNames v0
  clear_value v0
  refine Touch.ite ?_ ?_
  · exact Touch.refl _ _
  · refine Touch.ite ?_ ?_
    · refine Touch.step ?_ (State.embAnswer_touch ..) (by decide +kernel)
      exact Touch.refl _ _
    · refine Touch.ite ?_ ?_
      · refine Touch.step ?_ (State.embAnswer_touch ..) (by decide +kernel)
        exact Touch.refl _ _
      · refine Touch.ite ?_ ?_
        · refine Touch.step ?_ (State.embAnswer_touch ..) (by decide +kernel)
          exact Touch.refl _ _
        · extract_lets -merge -useContext +onlyGivenNames v1
          refine Touch.cut v1 ?_ (fun h2 => ?_)
          · unfold v1
            refine Touch.step ?_ (State.modSlot_touch ..) (by decide +kernel)
            exact Touch.refl _ _
          clear_value v1
          refine Touch.step ?_ (State.embAnswer_touch ..) (by decide +kernel)
          exact h2

theorem execEmbKeep_touch (a0 : ℕ) (s : State) :
    ∃ t, execEmbKeep a0 s = .next t ∧ Touch 0x2006000000000000000000000000000000000000000000000000000000000000000000000000000000000000000000000000000000000000000000000000000000000000000000000000000000000100400 s t := by
  refine ⟨_, rfl, ?_⟩
  refine Touch.step ?_ (State.embKeepOne_touch ..) (by decide +kernel)
  exact Touch.refl _ _

theorem execEmbStat_touch (s : State) :
    ∃ t, execEmbStat s = .next t ∧ Touch 0x2000000000000000000000000000000000000000000000000000000000000000000000000000000000000000000000000000000000000000000000000000000000000000000000000000000000000100000 s t := by
  refine ⟨_, rfl, ?_⟩
  refine Touch.step ?_ (State.embAnswer_touch ..) (by decide +kernel)
  exact Touch.refl _ _

end Sys2Proof.Machine
end

