-- ==== Sys2Proof/Laws/TouchLntOps.lean ====
section
/-! SUPPORT. What the operations of Machine/LntOps.lean may change. -/
namespace Sys2Proof.Machine

set_option Elab.async false

theorem State.setLcsr_touch (s : State) (a1 : ℕ) (a2 : ℕ) (a3 : ℕ) :
    Touch 0x2000 s (State.setLcsr s a1 a2 a3) := by
  unfold State.setLcsr
  refine Touch.step ?_ (State.modCore_touch ..) (by decide +kernel)
  exact Touch.refl _ _

theorem State.emptyMbox_touch (s : State) (a1 : ℕ) :
    Touch 0x1800000000000000000000000000000000000000000000000000000000002100 s (State.emptyMbox s a1) := by
  unfold State.emptyMbox
  refine Touch.foldl ?_ (fun y0 y1 h2 => ?_)
  · refine Touch.step ?_ (State.modCore_touch ..) (by decide +kernel)
    exact Touch.refl _ _
  · refine Touch.ite ?_ ?_
    · exact h2
    · refine Touch.step ?_ (State.bump_touch ..) (by decide +kernel)
      exact h2

theorem State.restartCore_touch (s : State) (a1 : ℕ) (a2 : Bool) :
    Touch 0x180c100240000000000000000000000000000000000000000000000000163100 s (State.restartCore s a1 a2) := by
  unfold State.restartCore
  extract_lets -merge -useContext +onlyGivenNames v0
  refine Touch.cut v0 ?_ (fun h1 => ?_)
  · unfold v0
    refine Touch.step ?_ (State.bump_touch ..) (by decide +kernel)
    refine Touch.step ?_ (State.put_touch ..) (by decide +kernel)
    exact Touch.refl _ _
  clear_value v0
  extract_lets -merge -useContext +onlyGivenNames v2
  refine Touch.cut v2 ?_ (fun h3 => ?_)
  · unfold v2
    refine Touch.step ?_ (State.modCore_touch ..) (by decide +kernel)
    exact h1
  clear_value v2
  refine Touch.ite ?_ ?_
  · exact h3
  · extract_lets -merge -useContext +onlyGivenNames v4
    refine Touch.cut v4 ?_ (fun h5 => ?_)
    · unfold v4
      refine Touch.step ?_ (State.setLcsr_touch ..) (by decide +kernel)
      refine Touch.step ?_ (State.emptyMbox_touch ..) (by decide +kernel)
      exact h3
    clear_value v4
    extract_lets -merge -useContext +onlyGivenNames v6
    refine Touch.cut v6 ?_ (fun h7 => ?_)
    · unfold v6
      refine Touch.step ?_ (State.modCore_touch ..) (by decide +kernel)
      exact h5
    clear_value v6
    refine Touch.step ?_ (State.nackAll_touch ..) (by decide +kernel)
    refine Touch.step ?_ (State.settleNode_touch ..) (by decide +kernel)
    exact h7

theorem State.assignErr_touch (s : State) (a1 : ℕ) :
    Touch 0x800000000000000000000000000000000000000000000000000000000000 s (State.assignErr s a1) := by
  unfold State.assignErr
  refine Touch.step ?_ (State.put_touch ..) (by decide +kernel)
  exact Touch.refl _ _

theorem State.assignCore_touch (s : State) (a1 : ℕ) (a2 : ℕ) :
    Touch 0x180ebc0240000000000000000000000000000000000000000000000000163100 s (State.assignCore s a1 a2) := by
  unfold State.assignCore
  refine Touch.ite ?_ ?_
  · refine Touch.step ?_ (State.assignErr_touch ..) (by decide +kernel)
    exact Touch.refl _ _
  · refine Touch.step ?_ (State.restartCore_touch ..) (by decide +kernel)
    refine Touch.step ?_ (State.put_touch ..) (by decide +kernel)
    refine Touch.step ?_ (State.put_touch ..) (by decide +kernel)
    refine Touch.step ?_ (State.put_touch ..) (by decide +kernel)
    refine Touch.step ?_ (State.put_touch ..) (by decide +kernel)
    exact Touch.refl _ _

theorem execAssign_touch (a0 : ℕ) (a1 : ℕ) (s : State) :
    ∃ t, execAssign a0 a1 s = .next t ∧ Touch 0x180ebc0240000000000000000000000000000000000000000000000000163100 s t := by
  refine ⟨_, rfl, ?_⟩
  refine Touch.step ?_ (State.assignCore_touch ..) (by decide +kernel)
  exact Touch.refl _ _

theorem State.freeCore_touch (s : State) (a1 : ℕ) :
    Touch 0x180c580240000000000000000000000000000000000000000000000000163100 s (State.freeCore s a1) := by
  unfold State.freeCore
  refine Touch.step ?_ (State.restartCore_touch ..) (by decide +kernel)
  refine Touch.step ?_ (State.put_touch ..) (by decide +kernel)
  refine Touch.step ?_ (State.put_touch ..) (by decide +kernel)
  exact Touch.refl _ _

theorem State.releaseCore_touch (s : State) (a1 : ℕ) :
    Touch 0x180cd80240000000000000000000000000000000000000000000000000163100 s (State.releaseCore s a1) := by
  unfold State.releaseCore
  extract_lets -merge -useContext +onlyGivenNames v0
  clear_value v0
  refine Touch.ite ?_ ?_
  · refine Touch.step ?_ (State.freeCore_touch ..) (by decide +kernel)
    exact Touch.refl _ _
  · refine Touch.step ?_ (State.assignErr_touch ..) (by decide +kernel)
    exact Touch.refl _ _

theorem execCoreRelease_touch (a0 : ℕ) (s : State) :
    ∃ t, execCoreRelease a0 s = .next t ∧ Touch 0x180cd80240000000000000000000000000000000000000000000000000163100 s t := by
  refine ⟨_, rfl, ?_⟩
  refine Touch.step ?_ (State.releaseCore_touch ..) (by decide +kernel)
  exact Touch.refl _ _

theorem State.mailTo?_touch (s : State) (a1 : ℕ) (a2 : MboxEnt) :
    TouchO 0x2000 s (State.mailTo? s a1 a2) := by
  unfold State.mailTo?
  refine TouchO.ite ?_ ?_
  · refine TouchO.none
  · refine TouchO.some ?_
    refine Touch.step ?_ (State.modCore_touch ..) (by decide +kernel)
    exact Touch.refl _ _

theorem State.lntDb_touch (s : State) (a1 : ℕ) (a2 : ℕ) (a3 : ℕ) :
    Touch 0x1a00000000000000000000000000000000000000000c001fffffe00000002100 s (State.lntDb s a1 a2 a3) := by
  unfold State.lntDb
  refine Touch.ite ?_ ?_
  · exact Touch.refl _ _
  · refine State.needs_touch ?_ (fun y0 h1 => ?_) (by decide +kernel)
    · exact Touch.refl _ _
    · extract_lets -merge -useContext +onlyGivenNames v2
      clear_value v2
      extract_lets -merge -useContext +onlyGivenNames v3
      refine Touch.cut v3 ?_ (fun h4 => ?_)
      · unfold v3
        refine Touch.step ?_ (State.bump_touch ..) (by decide +kernel)
        exact h1
      clear_value v3
      refine Touch.ite ?_ ?_
      · exact h4
      · split
        · rename_i y5 y6 y7
          refine Touch.step ?_ (State.put_touch ..) (by decide +kernel)
          refine TouchO.ofSome y7 ?_
          refine TouchO.step ?_ (State.mailTo?_touch ..) (by decide +kernel)
          exact h1
        · exact h4

theorem execLntDb_touch (a0 : ℕ) (a1 : ℕ) (a2 : ℕ) (s : State) :
    ∃ t, execLntDb a0 a1 a2 s = .next t ∧ Touch 0x1a00000000000000000000000000000000000000000c001fffffe00000002100 s t := by
  refine ⟨_, rfl, ?_⟩
  refine Touch.step ?_ (State.lntDb_touch ..) (by decide +kernel)
  exact Touch.refl _ _

theorem State.lntProvDb_touch (s : State) (a1 : ℕ) (a2 : ℕ) :
    Touch 0x40000000000000000000000000000000000000000c001fffffe00000002100 s (State.lntProvDb s a1 a2) := by
  unfold State.lntProvDb
  refine State.needs_touch ?_ (fun y0 h1 => ?_) (by decide +kernel)
  · exact Touch.refl _ _
  · refine Touch.ite ?_ ?_
    · exact h1
    · split
      · rename_i y2 y3 y4
        refine Touch.step ?_ (State.put_touch ..) (by decide +kernel)
        refine TouchO.ofSome y4 ?_
        refine TouchO.step ?_ (State.mailTo?_touch ..) (by decide +kernel)
        exact h1
      · exact h1

theorem execLntProvDb_touch (a0 : ℕ) (a1 : ℕ) (s : State) :
    ∃ t, execLntProvDb a0 a1 s = .next t ∧ Touch 0x40000000000000000000000000000000000000000c001fffffe00000002100 s t := by
  refine ⟨_, rfl, ?_⟩
  refine Touch.step ?_ (State.lntProvDb_touch ..) (by decide +kernel)
  exact Touch.refl _ _

theorem State.lntHostIrq_touch (s : State) (a1 : ℕ) (a2 : ℕ) :
    Touch 0x2800000000000000000000000000000000000000002000000000000000000000000000000000000000000000000000000000100080 s (State.lntHostIrq s a1 a2) := by
  unfold State.lntHostIrq
  refine Touch.ite ?_ ?_
  · exact Touch.refl _ _
  · extract_lets -merge -useContext +onlyGivenNames v0
    refine Touch.cut v0 ?_ (fun h1 => ?_)
    · unfold v0
      refine Touch.step ?_ (State.put_touch ..) (by decide +kernel)
      exact Touch.refl _ _
    clear_value v0
    refine Touch.ite ?_ ?_
    · exact h1
    · refine Touch.step ?_ (State.partVector_touch ..) (by decide +kernel)
      exact h1

theorem execLntHostirq_touch (a0 : ℕ) (a1 : ℕ) (s : State) :
    ∃ t, execLntHostirq a0 a1 s = .next t ∧ Touch 0x2800000000000000000000000000000000000000002000000000000000000000000000000000000000000000000000000000100080 s t := by
  refine ⟨_, rfl, ?_⟩
  refine Touch.step ?_ (State.lntHostIrq_touch ..) (by decide +kernel)
  exact Touch.refl _ _

theorem State.freeRegs_touch (s : State) (a1 : ℕ) :
    Touch 0x202000 s (State.freeRegs s a1) := by
  unfold State.freeRegs
  extract_lets -merge -useContext +onlyGivenNames v0
  refine Touch.cut v0.2 ?_ (fun h1 => ?_)
  · unfold v0
    refine Touch.step ?_ (State.draw_touch ..) (by decide +kernel)
    exact Touch.refl _ _
  clear_value v0
  refine Touch.step ?_ (State.modCore_touch ..) (by decide +kernel)
  exact h1

theorem State.startCores_touch (s : State) :
    Touch 0x100000000000000000000000000000000000000000000000000000202000 s (State.startCores s) := by
  unfold State.startCores
  refine Touch.foldl ?_ (fun y0 y1 h2 => ?_)
  · exact Touch.refl _ _
  · refine Touch.step ?_ (State.modCore_touch ..) (by decide +kernel)
    refine Touch.step ?_ (State.freeRegs_touch ..) (by decide +kernel)
    refine Touch.step ?_ (State.put_touch ..) (by decide +kernel)
    exact h2

end Sys2Proof.Machine
end

