-- ==== Sys2Proof/Laws/TouchPowerOps.lean ====
section
/-! SUPPORT. What the operations of Machine/PowerOps.lean may change. -/
namespace Sys2Proof.Machine

set_option Elab.async false

theorem State.spoilTile_touch (s : State) (a1 : ℕ) :
    Touch 0x201000 s (State.spoilTile s a1) := by
  unfold State.spoilTile
  refine Touch.step ?_ (Touch.tiles_freeCtr ..) (by decide +kernel)
  exact Touch.refl _ _

theorem State.portOff_touch (s : State) (a1 : ℕ) :
    Touch 0x49ff8000000000000000000040000000000000000000100000000003000000000000000000000000000000000000000000000000240000000000000000000000000000000000000000000000000163580 s (State.portOff s a1) := by
  unfold State.portOff
  refine Touch.ite ?_ ?_
  · exact Touch.refl _ _
  · refine Touch.step ?_ (State.failover_touch ..) (by decide +kernel)
    refine Touch.step ?_ (State.modPort_touch ..) (by decide +kernel)
    refine Touch.step ?_ (State.setPortState_touch ..) (by decide +kernel)
    refine Touch.step ?_ (State.clearPort_touch ..) (by decide +kernel)
    exact Touch.refl _ _

theorem State.domOff_touch (s : State) (a1 : ℕ) :
    Touch 0x49ff8000000000000180000040003f901000000000001318f8e06003000000000000000000f101803ffc00200021f00300000100240000000000000000000000000000000000c001ffffff00000bffda8 s (State.domOff s a1) := by
  unfold State.domOff
  refine Touch.ite ?_ ?_
  · exact Touch.refl _ _
  · extract_lets -merge -useContext +onlyGivenNames v0
    refine Touch.cut v0 ?_ (fun h1 => ?_)
    · unfold v0
      refine Touch.step ?_ (State.modPilot_touch ..) (by decide +kernel)
      refine Touch.step ?_ (State.setDom_touch ..) (by decide +kernel)
      exact Touch.refl _ _
    clear_value v0
    refine Touch.ite ?_ ?_
    · refine Touch.step ?_ (Touch.tilesWith _ _) (by decide +kernel)
      exact h1
    · split
      · refine Touch.foldl ?_ (fun y2 y3 h4 => ?_)
        · refine Touch.step ?_ (Touch.coresWith _ _) (by decide +kernel)
          exact h1
        · refine Touch.step ?_ (State.put_touch ..) (by decide +kernel)
          exact h4
      · refine Touch.step ?_ (State.modCch_touch ..) (by decide +kernel)
        exact h1
      · refine Touch.foldl ?_ (fun y5 y6 h7 => ?_)
        · exact h1
        · refine Touch.step ?_ (State.setDlState_touch ..) (by decide +kernel)
          refine Touch.step ?_ (State.dlDown_touch ..) (by decide +kernel)
          exact h7
      · extract_lets -merge -useContext +onlyGivenNames v8
        refine Touch.cut v8 ?_ (fun h9 => ?_)
        · unfold v8
          refine Touch.foldl ?_ (fun y10 y11 h12 => ?_)
          · exact h1
          · refine Touch.step ?_ (State.portOff_touch ..) (by decide +kernel)
            exact h12
        clear_value v8
        refine Touch.ite ?_ ?_
        · refine Touch.foldl ?_ (fun y13 y14 h15 => ?_)
          · exact h9
          · refine Touch.step ?_ (State.seqRegs_touch ..) (by decide +kernel)
            refine Touch.step ?_ (Touch.seqsWith _ _) (by decide +kernel)
            exact h15
        · exact h9

theorem State.domOn_touch (s : State) (a1 : ℕ) :
    Touch 0xc001fffffe00000000108 s (State.domOn s a1) := by
  unfold State.domOn
  refine Touch.ite ?_ ?_
  · refine Touch.step ?_ (State.modPilot_touch ..) (by decide +kernel)
    refine Touch.step ?_ (State.setDom_touch ..) (by decide +kernel)
    exact Touch.refl _ _
  · refine Touch.step ?_ (State.wake_touch ..) (by decide +kernel)
    exact Touch.refl _ _

theorem State.applyPower_touch (s : State) :
    Touch 0x49ff8000000000000180000040003f901000000000001318f8e06003000000000000000000f101803ffc00200021f00300000100240000000000000000000000000000000000fe01ffffff00000bffda8 s (State.applyPower s) := by
  unfold State.applyPower
  refine Touch.foldl ?_ (fun y0 y1 h2 => ?_)
  · exact Touch.refl _ _
  · extract_lets -merge -useContext +onlyGivenNames v3
    clear_value v3
    extract_lets -merge -useContext +onlyGivenNames v4
    refine Touch.cut v4 ?_ (fun h5 => ?_)
    · unfold v4
      refine Touch.step ?_ (State.put_touch ..) (by decide +kernel)
      refine Touch.step ?_ (State.put_touch ..) (by decide +kernel)
      refine Touch.step ?_ (State.put_touch ..) (by decide +kernel)
      refine Touch.step ?_ (State.put_touch ..) (by decide +kernel)
      exact h2
    clear_value v4
    extract_lets -merge -useContext +onlyGivenNames v6
    refine Touch.cut v6 ?_ (fun h7 => ?_)
    · unfold v6
      refine Touch.step ?_ (State.put_touch ..) (by decide +kernel)
      exact h5
    clear_value v6
    refine Touch.ite ?_ ?_
    · refine Touch.step ?_ (State.domOff_touch ..) (by decide +kernel)
      exact h7
    · refine Touch.ite ?_ ?_
      · exact h7
      · refine Touch.step ?_ (State.domOn_touch ..) (by decide +kernel)
        exact h7

end Sys2Proof.Machine
end

