-- ==== Sys2Proof/Laws/TouchKindling.lean ====
section
/-! SUPPORT. What the operations of Machine/Kindling.lean may change. -/
namespace Sys2Proof.Machine

set_option Elab.async false

theorem State.kimFault_touch (s : State) (a1 : ℕ) (a2 : Place) :
    Touch 0x80000000000000000000000000100 s (State.kimFault s a1 a2) := by
  unfold State.kimFault
  refine Touch.step ?_ (State.raise_touch ..) (by decide +kernel)
  refine Touch.step ?_ (State.put_touch ..) (by decide +kernel)
  exact Touch.refl _ _

theorem State.putDigest_touch (s : State) (f : Fld) (n : Nat) : Touch (2 ^ (24 + f.ctorIdx)) s (s.putDigest f n) :=
  Touch.foldl (Touch.refl _ _) (fun u k h => h.step (State.put_touch ..) (Nat.or_self _))

theorem State.rootSettle_touch (s : State) :
    Touch 0xe000058000000000000000000000000000000000000000000000000000000000000000000000000000000000000000000000000000000000000000000000020100 s (State.rootSettle s) := by
  unfold State.rootSettle
  extract_lets -merge -useContext +onlyGivenNames v0
  clear_value v0
  extract_lets -merge -useContext +onlyGivenNames v1
  clear_value v1
  extract_lets -merge -useContext +onlyGivenNames v2
  refine Touch.cut v2 ?_ (fun h3 => ?_)
  · unfold v2
    refine Touch.ite ?_ ?_
    · exact Touch.refl _ _
    · refine Touch.step ?_ (State.modFab_touch ..) (by decide +kernel)
      exact Touch.refl _ _
  clear_value v2
  refine Touch.ite ?_ ?_
  · refine Touch.ite ?_ ?_
    · exact h3
    · refine Touch.step ?_ (State.setSync_touch ..) (by decide +kernel)
      refine Touch.step ?_ (State.put_touch ..) (by decide +kernel)
      exact h3
  · refine Touch.ite ?_ ?_
    · refine Touch.step ?_ (State.setSync_touch ..) (by decide +kernel)
      refine Touch.step ?_ (State.modFab_touch ..) (by decide +kernel)
      refine Touch.step ?_ (State.put_touch ..) (by decide +kernel)
      exact h3
    · exact h3

theorem State.kimClear_touch (s : State) :
    Touch 0x20000000000000000000000000000000000000000000000000000000000201000000200000000000000000000000090 s (State.kimClear s) := by
  unfold State.kimClear
  extract_lets -merge -useContext +onlyGivenNames v0
  refine Touch.cut v0 ?_ (fun h1 => ?_)
  · unfold v0
    refine Touch.foldl ?_ (fun y2 y3 h4 => ?_)
    · exact Touch.refl _ _
    · refine Touch.step ?_ (State.put_touch ..) (by decide +kernel)
      exact h4
  clear_value v0
  extract_lets -merge -useContext +onlyGivenNames v5
  refine Touch.cut v5 ?_ (fun h6 => ?_)
  · unfold v5
    refine Touch.foldl ?_ (fun y7 y8 h9 => ?_)
    · exact h1
    · refine Touch.step ?_ (State.put_touch ..) (by decide +kernel)
      exact h9
  clear_value v5
  extract_lets -merge -useContext +onlyGivenNames v10
  refine Touch.cut v10 ?_ (fun h11 => ?_)
  · unfold v10
    refine Touch.step ?_ (State.dropReqs_touch ..) (by decide +kernel)
    refine Touch.step ?_ (State.put_touch ..) (by decide +kernel)
    refine Touch.step ?_ (State.putDigest_touch ..) (by decide +kernel)
    exact h6
  clear_value v10
  refine Touch.step ?_ (State.modKim_touch ..) (by decide +kernel)
  exact h11

theorem State.kimEmpty_touch (s : State) :
    Touch 0x49ff800000000000000000000000000e000058000000000000000003000000000020000000000000000000000000000000000000000000000000000000000201000040200000c001fffffe00000122590 s (State.kimEmpty s) := by
  unfold State.kimEmpty
  extract_lets -merge -useContext +onlyGivenNames v0
  refine Touch.cut v0 ?_ (fun h1 => ?_)
  · unfold v0
    refine Touch.step ?_ (State.kimClear_touch ..) (by decide +kernel)
    exact Touch.refl _ _
  clear_value v0
  refine Touch.step ?_ (State.rootSettle_touch ..) (by decide +kernel)
  refine Touch.ite ?_ ?_
  · exact h1
  · refine Touch.step ?_ (State.setKimState_touch ..) (by decide +kernel)
    exact h1

theorem State.kimReject_touch (s : State) (a1 : ℕ) (a2 : Place) :
    Touch 0x49ff800000000000000000000000000e0000580000000000000000030000000000200000000000000000000000000000000000000000000000000000000002011800c0200000c001fffffe00000122590 s (State.kimReject s a1 a2) := by
  unfold State.kimReject
  refine Touch.step ?_ (State.kimEmpty_touch ..) (by decide +kernel)
  refine Touch.step ?_ (State.bump_touch ..) (by decide +kernel)
  refine Touch.step ?_ (State.kimFault_touch ..) (by decide +kernel)
  exact Touch.refl _ _

theorem State.kimStaged_touch (s : State) (a1 : List Byte) :
    Touch 0x49ff800000000000000000000000000e0000580000000000000000030000000000200000000000000000000000000000000000000000000000000000000002011800c0200000c001fffffe00000122590 s (State.kimStaged s a1) := by
  unfold State.kimStaged
  split
  · refine Touch.step ?_ (State.kimReject_touch ..) (by decide +kernel)
    exact Touch.refl _ _
  · refine Touch.step ?_ (State.setKimState_touch ..) (by decide +kernel)
    refine Touch.step ?_ (State.put_touch ..) (by decide +kernel)
    refine Touch.step ?_ (State.modKim_touch ..) (by decide +kernel)
    exact Touch.refl _ _

theorem State.kimPull_touch (s : State) (a1 : ℕ) :
    Touch 0x100090 s (State.kimPull s a1) := by
  unfold State.kimPull
  split
  · exact Touch.refl _ _
  · refine Touch.ite ?_ ?_
    · refine Touch.step ?_ (State.modKim_touch ..) (by decide +kernel)
      exact Touch.refl _ _
    · refine Touch.step ?_ (State.ioRead_touch ..) (by decide +kernel)
      exact Touch.refl _ _

theorem State.kimStage_touch (s : State) :
    Touch 0x49ff800000000000000000000000000e0000580000000000000000030000000000200000000000000000000000000000000000000000000000000000000002010000c0300000c001fffffe00000122590 s (State.kimStage s) := by
  unfold State.kimStage
  extract_lets -merge -useContext +onlyGivenNames v0
  refine Touch.cut v0 ?_ (fun h1 => ?_)
  · unfold v0
    refine Touch.step ?_ (State.put_touch ..) (by decide +kernel)
    exact Touch.refl _ _
  clear_value v0
  refine Touch.ite ?_ ?_
  · refine Touch.step ?_ (State.kimFault_touch ..) (by decide +kernel)
    exact h1
  · refine Touch.step ?_ (State.kimPull_touch ..) (by decide +kernel)
    refine Touch.step ?_ (State.put_touch ..) (by decide +kernel)
    refine Touch.step ?_ (State.modKim_touch ..) (by decide +kernel)
    refine Touch.step ?_ (State.kimEmpty_touch ..) (by decide +kernel)
    exact h1

theorem execKimStage_touch (s : State) :
    ∃ t, execKimStage s = .next t ∧ Touch 0x49ff800000000000000000000000000e0000580000000000000000030000000000200000000000000000000000000000000000000000000000000000000002010000c0300000c001fffffe00000122590 s t := by
  refine ⟨_, rfl, ?_⟩
  refine Touch.step ?_ (State.kimStage_touch ..) (by decide +kernel)
  exact Touch.refl _ _

theorem execStageComplete_touch (s : State) :
    ∃ t, execStageComplete s = .next t ∧ Touch 0x49ff800000000000000000000000000e0000580000000000000000030000000000200000000000000000000000000000000000000000000000000000000002011800c0200000c001fffffe00000122590 s t := by
  refine ⟨_, rfl, ?_⟩
  refine Touch.ite ?_ ?_
  · refine Touch.step ?_ (State.kimStaged_touch ..) (by decide +kernel)
    exact Touch.refl _ _
  · exact Touch.refl _ _

theorem State.kimChunk_touch (s : State) (a1 : ℕ) (a2 : List Byte) (a3 : Option ℕ) :
    Touch 0x49ff800000000000000000000000000e0000580000000000000000030000000000200000000000000000000000000000000000000000000000000000000002011800c0200000c001fffffe00000122590 s (State.kimChunk s a1 a2 a3) := by
  unfold State.kimChunk
  refine Touch.ite ?_ ?_
  · refine Touch.ite ?_ ?_
    · refine Touch.step ?_ (State.kimFault_touch ..) (by decide +kernel)
      exact Touch.refl _ _
    · exact Touch.refl _ _
  · refine Touch.ite ?_ ?_
    · exact Touch.refl _ _
    · extract_lets -merge -useContext +onlyGivenNames v0
      refine Touch.cut v0 ?_ (fun h1 => ?_)
      · unfold v0
        refine Touch.ite ?_ ?_
        · exact Touch.refl _ _
        · refine Touch.step ?_ (State.kimEmpty_touch ..) (by decide +kernel)
          exact Touch.refl _ _
      clear_value v0
      extract_lets -merge -useContext +onlyGivenNames v2
      refine Touch.cut v2 ?_ (fun h3 => ?_)
      · unfold v2
        refine Touch.ite ?_ ?_
        · exact h1
        · refine Touch.step ?_ (State.modKim_touch ..) (by decide +kernel)
          exact h1
      clear_value v2
      split
      · exact h3
      · refine Touch.step ?_ (State.kimStaged_touch ..) (by decide +kernel)
        exact h3

theorem execKimSidebandChunk_touch (a0 : ℕ) (a1 : List Byte) (a2 : Option ℕ) (s : State) :
    ∃ t, execKimSidebandChunk a0 a1 a2 s = .next t ∧ Touch 0x2049ff800000000000000000000000000e0000580000000000000000030000000000200000000000000000000000000000000000000000000000000000000002011800c0200000c001fffffe00000122590 s t := by
  refine ⟨_, rfl, ?_⟩
  refine Touch.ite ?_ ?_
  · refine Touch.step ?_ (State.kimChunk_touch ..) (by decide +kernel)
    refine Touch.step ?_ (State.onBus_touch ..) (by decide +kernel)
    exact Touch.refl _ _
  · exact Touch.refl _ _

theorem State.kimValidate_touch (s : State) :
    Touch 0x49ff800000000000000000000000000e000000000000000000000003000000000000000000000000000000000000000000000000000000000000000000000000000040300000c001fffffe00000102580 s (State.kimValidate s) := by
  unfold State.kimValidate
  extract_lets -merge -useContext +onlyGivenNames v0
  refine Touch.cut v0 ?_ (fun h1 => ?_)
  · unfold v0
    refine Touch.step ?_ (State.put_touch ..) (by decide +kernel)
    exact Touch.refl _ _
  clear_value v0
  refine Touch.ite ?_ ?_
  · refine Touch.step ?_ (State.setKimState_touch ..) (by decide +kernel)
    refine Touch.step ?_ (State.put_touch ..) (by decide +kernel)
    exact h1
  · exact h1

theorem execKimValidate_touch (s : State) :
    ∃ t, execKimValidate s = .next t ∧ Touch 0x49ff800000000000000000000000000e000000000000000000000003000000000000000000000000000000000000000000000000000000000000000000000000000040300000c001fffffe00000102580 s t := by
  refine ⟨_, rfl, ?_⟩
  refine Touch.step ?_ (State.kimValidate_touch ..) (by decide +kernel)
  exact Touch.refl _ _

theorem State.validationDone_touch (s : State) :
    Touch 0x49ff800000000000000000000000000e0000580000000000000000030000000000200000000000000000000000000000000000000000000000000000000002011800c0200000c001fffffe00000122590 s (State.validationDone s) := by
  unfold State.validationDone
  refine Touch.ite ?_ ?_
  · exact Touch.refl _ _
  · extract_lets -merge -useContext +onlyGivenNames v0
    refine Touch.cut v0 ?_ (fun h1 => ?_)
    · unfold v0
      refine Touch.step ?_ (State.put_touch ..) (by decide +kernel)
      exact Touch.refl _ _
    clear_value v0
    extract_lets -merge -useContext +onlyGivenNames v2
    clear_value v2
    extract_lets -merge -useContext +onlyGivenNames v3
    clear_value v3
    split
    · refine Touch.step ?_ (State.kimReject_touch ..) (by decide +kernel)
      exact h1
    · extract_lets -merge -useContext +onlyGivenNames v4
      clear_value v4
      extract_lets -merge -useContext +onlyGivenNames v5
      clear_value v5
      extract_lets -merge -useContext +onlyGivenNames v6
      refine Touch.cut v6 ?_ (fun h7 => ?_)
      · unfold v6
        refine Touch.step ?_ (State.putDigest_touch ..) (by decide +kernel)
        refine Touch.step ?_ (State.modKim_touch ..) (by decide +kernel)
        exact h1
      clear_value v6
      extract_lets -merge -useContext +onlyGivenNames v8
      refine Touch.cut v8 ?_ (fun h9 => ?_)
      · unfold v8
        refine Touch.foldl ?_ (fun y10 y11 h12 => ?_)
        · exact h7
        · refine Touch.step ?_ (State.put_touch ..) (by decide +kernel)
          exact h12
      clear_value v8
      refine Touch.step ?_ (State.rootSettle_touch ..) (by decide +kernel)
      refine Touch.step ?_ (State.setKimState_touch ..) (by decide +kernel)
      exact h9

theorem execValidationDone_touch (s : State) :
    ∃ t, execValidationDone s = .next t ∧ Touch 0x49ff800000000000000000000000000e0000580000000000000000030000000000200000000000000000000000000000000000000000000000000000000002011800c0200000c001fffffe00000122590 s t := by
  refine ⟨_, rfl, ?_⟩
  refine Touch.step ?_ (State.validationDone_touch ..) (by decide +kernel)
  exact Touch.refl _ _

theorem State.undefineOut_touch (s : State) (a1 : ℕ) (a2 : ℕ) (a3 : ℕ) (a4 : ℕ) :
    Touch 0x200800 s (State.undefineOut s a1 a2 a3 a4) := by
  unfold State.undefineOut
  extract_lets -merge -useContext +onlyGivenNames v0
  refine Touch.cut v0 ?_ (fun h1 => ?_)
  · unfold v0
    refine Touch.ite ?_ ?_
    · refine Touch.step ?_ (State.undefine_touch ..) (by decide +kernel)
      exact Touch.refl _ _
    · exact Touch.refl _ _
  clear_value v0
  refine Touch.ite ?_ ?_
  · refine Touch.step ?_ (State.undefine_touch ..) (by decide +kernel)
    exact h1
  · exact h1

theorem State.commitRange_touch (s : State) (a1 : KeyRange) (a2 : List (ℕ × Bool × ℕ × ℕ)) (a3 : ℕ) :
    Touch 0x8fc00000000000000000000000000000000000000000000000000000000000000000000000000000000000000200800 s (State.commitRange s a1 a2 a3) := by
  unfold State.commitRange
  extract_lets -merge -useContext +onlyGivenNames v0
  clear_value v0
  extract_lets -merge -useContext +onlyGivenNames v1
  clear_value v1
  extract_lets -merge -useContext +onlyGivenNames v2
  clear_value v2
  extract_lets -merge -useContext +onlyGivenNames v3
  clear_value v3
  extract_lets -merge -useContext +onlyGivenNames v4
  clear_value v4
  extract_lets -merge -useContext +onlyGivenNames v5
  clear_value v5
  extract_lets -merge -useContext +onlyGivenNames v6
  extract_lets -merge -useContext +onlyGivenNames v7
  refine Touch.cut v7 ?_ (fun h8 => ?_)
  · unfold v7
    refine Touch.ite ?_ ?_
    · exact Touch.refl _ _
    · refine Touch.ite ?_ ?_
      · refine Touch.step ?_ (State.undefine_touch ..) (by decide +kernel)
        exact Touch.refl _ _
      · refine Touch.ite ?_ ?_
        · refine Touch.step ?_ (State.undefine_touch ..) (by decide +kernel)
          refine Touch.step ?_ (State.undefineOut_touch ..) (by decide +kernel)
          exact Touch.refl _ _
        · refine Touch.ite ?_ ?_
          · refine Touch.step ?_ (State.undefineOut_touch ..) (by decide +kernel)
            refine Touch.step ?_ (State.undefineOut_touch ..) (by decide +kernel)
            exact Touch.refl _ _
          · exact Touch.refl _ _
  clear_value v7
  extract_lets -merge -useContext +onlyGivenNames v9
  refine Touch.cut v9 ?_ (fun h10 => ?_)
  · unfold v9
    refine Touch.step ?_ (State.modMem_touch _ _ (fun _ => rfl)) (by decide +kernel)
    exact h8
  clear_value v9
  extract_lets -merge -useContext +onlyGivenNames v11
  clear_value v11
  extract_lets -merge -useContext +onlyGivenNames v12
  refine Touch.cut v12 ?_ (fun h13 => ?_)
  · unfold v12
    refine Touch.step ?_ (State.put_touch ..) (by decide +kernel)
    refine Touch.step ?_ (State.put_touch ..) (by decide +kernel)
    refine Touch.step ?_ (State.put_touch ..) (by decide +kernel)
    exact h10
  clear_value v12
  extract_lets -merge -useContext +onlyGivenNames v14
  refine Touch.cut v14 ?_ (fun h15 => ?_)
  · unfold v14
    refine Touch.step ?_ (State.put_touch ..) (by decide +kernel)
    exact h13
  clear_value v14
  refine Touch.ite ?_ ?_
  · exact h15
  · refine Touch.step ?_ (State.put_touch ..) (by decide +kernel)
    refine Touch.step ?_ (State.put_touch ..) (by decide +kernel)
    refine Touch.step ?_ (State.put_touch ..) (by decide +kernel)
    exact h15

theorem State.newLinkKey_touch (s : State) (a1 : List ℕ) :
    Touch 0x49ff8000000000000000000000000000000000000001100000000003000000000000000000000000000000000000000000000000000000000000000000000000000000000000000000000000000120588 s (State.newLinkKey s a1) := by
  unfold State.newLinkKey
  refine Touch.foldl ?_ (fun y0 y1 h2 => ?_)
  · exact Touch.refl _ _
  · extract_lets -merge -useContext +onlyGivenNames v3
    refine Touch.cut v3 ?_ (fun h4 => ?_)
    · unfold v3
      refine Touch.step ?_ (State.put_touch ..) (by decide +kernel)
      refine Touch.step ?_ (State.modPort_touch ..) (by decide +kernel)
      exact h2
    clear_value v3
    refine Touch.ite ?_ ?_
    · refine Touch.step ?_ (State.fabPortReset_touch ..) (by decide +kernel)
      exact h4
    · exact h4

theorem State.commitLinkKeys_touch (s : State) (a1 : List (ℕ × Bool × ℕ × ℕ)) :
    Touch 0x49ff800000000000000000000000000000000000000110000000000300000000000001e000000000000000000000000000000000000000000000000000000000000000000000000000000000000120d88 s (State.commitLinkKeys s a1) := by
  unfold State.commitLinkKeys
  extract_lets -merge -useContext +onlyGivenNames v0
  clear_value v0
  extract_lets -merge -useContext +onlyGivenNames v1
  clear_value v1
  extract_lets -merge -useContext +onlyGivenNames v2
  refine Touch.cut v2 ?_ (fun h3 => ?_)
  · unfold v2
    refine Touch.ite ?_ ?_
    · exact Touch.refl _ _
    · refine Touch.step ?_ (State.newLinkKey_touch ..) (by decide +kernel)
      refine Touch.step ?_ (State.modMem_touch _ _ (fun _ => rfl)) (by decide +kernel)
      exact Touch.refl _ _
  clear_value v2
  extract_lets -merge -useContext +onlyGivenNames v4
  refine Touch.cut v4 ?_ (fun h5 => ?_)
  · unfold v4
    refine Touch.ite ?_ ?_
    · exact h3
    · refine Touch.step ?_ (State.newLinkKey_touch ..) (by decide +kernel)
      refine Touch.step ?_ (State.modMem_touch _ _ (fun _ => rfl)) (by decide +kernel)
      exact h3
  clear_value v4
  extract_lets -merge -useContext +onlyGivenNames v6
  clear_value v6
  refine Touch.step ?_ (State.put_touch ..) (by decide +kernel)
  refine Touch.step ?_ (State.put_touch ..) (by decide +kernel)
  refine Touch.step ?_ (State.put_touch ..) (by decide +kernel)
  refine Touch.step ?_ (State.put_touch ..) (by decide +kernel)
  exact h5

theorem State.partFields_touch (s : State) (a1 : ℕ) :
    Touch 0x78006000000000000000000000000000000000 s (State.partFields s a1) := by
  unfold State.partFields
  extract_lets -merge -useContext +onlyGivenNames v0
  clear_value v0
  extract_lets -merge -useContext +onlyGivenNames v1
  clear_value v1
  extract_lets -merge -useContext +onlyGivenNames v2
  refine Touch.cut v2 ?_ (fun h3 => ?_)
  · unfold v2
    refine Touch.step ?_ (State.put_touch ..) (by decide +kernel)
    refine Touch.step ?_ (State.put_touch ..) (by decide +kernel)
    exact Touch.refl _ _
  clear_value v2
  extract_lets -merge -useContext +onlyGivenNames v4
  refine Touch.cut v4 ?_ (fun h5 => ?_)
  · unfold v4
    refine Touch.step ?_ (State.put_touch ..) (by decide +kernel)
    refine Touch.step ?_ (State.put_touch ..) (by decide +kernel)
    exact h3
  clear_value v4
  refine Touch.step ?_ (State.put_touch ..) (by decide +kernel)
  refine Touch.step ?_ (State.put_touch ..) (by decide +kernel)
  exact h5

theorem State.baseFields_touch (s : State) (a1 : Image) :
    Touch 0x300000000000000000000000000000000000000000000000000000000000000000000000000000000000000000000000000000000000000000000000000000000781c6603000000000000000000017800000000 s (State.baseFields s a1) := by
  unfold State.baseFields
  extract_lets -merge -useContext +onlyGivenNames v0
  refine Touch.cut v0 ?_ (fun h1 => ?_)
  · unfold v0
    refine Touch.step ?_ (State.putDigest_touch ..) (by decide +kernel)
    refine Touch.step ?_ (State.put_touch ..) (by decide +kernel)
    refine Touch.step ?_ (State.put_touch ..) (by decide +kernel)
    exact Touch.refl _ _
  clear_value v0
  extract_lets -merge -useContext +onlyGivenNames v2
  refine Touch.cut v2 ?_ (fun h3 => ?_)
  · unfold v2
    refine Touch.step ?_ (State.putDigest_touch ..) (by decide +kernel)
    exact h1
  clear_value v2
  extract_lets -merge -useContext +onlyGivenNames v4
  refine Touch.cut v4 ?_ (fun h5 => ?_)
  · unfold v4
    refine Touch.step ?_ (State.put_touch ..) (by decide +kernel)
    refine Touch.step ?_ (State.put_touch ..) (by decide +kernel)
    refine Touch.step ?_ (State.put_touch ..) (by decide +kernel)
    refine Touch.step ?_ (State.put_touch ..) (by decide +kernel)
    exact h3
  clear_value v4
  extract_lets -merge -useContext +onlyGivenNames v6
  refine Touch.cut v6 ?_ (fun h7 => ?_)
  · unfold v6
    refine Touch.step ?_ (State.put_touch ..) (by decide +kernel)
    exact h5
  clear_value v6
  extract_lets -merge -useContext +onlyGivenNames v8
  refine Touch.cut v8 ?_ (fun h9 => ?_)
  · unfold v8
    refine Touch.foldl ?_ (fun y10 y11 h12 => ?_)
    · exact h7
    · extract_lets -merge -useContext +onlyGivenNames v13
      clear_value v13
      refine Touch.step ?_ (State.put_touch ..) (by decide +kernel)
      refine Touch.step ?_ (State.put_touch ..) (by decide +kernel)
      refine Touch.step ?_ (State.put_touch ..) (by decide +kernel)
      exact h12
  clear_value v8
  extract_lets -merge -useContext +onlyGivenNames v14
  refine Touch.cut v14 ?_ (fun h15 => ?_)
  · unfold v14
    refine Touch.foldl ?_ (fun y16 y17 h18 => ?_)
    · exact h9
    · refine Touch.step ?_ (State.put_touch ..) (by decide +kernel)
      refine Touch.step ?_ (State.put_touch ..) (by decide +kernel)
      exact h18
  clear_value v14
  refine Touch.foldl ?_ (fun y19 y20 h21 => ?_)
  · exact h15
  · refine Touch.step ?_ (State.partFields_touch ..) (by decide +kernel)
    exact h21

theorem State.removePart_touch (s : State) (a1 : ℕ) :
    Touch 0x3ffffffffffffffffffffffffffffffffffffffffffffffffffffffffffffffffffffffffffffffffffffffffffffffffffffffffffffffffffffffffffffffffffffffffffffffffffffffffffffffffbfffa8 s (State.removePart s a1) := by
  unfold State.removePart
  extract_lets -merge -useContext +onlyGivenNames v0
  clear_value v0
  extract_lets -merge -useContext +onlyGivenNames v1
  refine Touch.cut v1 ?_ (fun h2 => ?_)
  · unfold v1
    refine Touch.step ?_ (State.partReset_touch ..) (by decide +kernel)
    exact Touch.refl _ _
  clear_value v1
  extract_lets -merge -useContext +onlyGivenNames v3
  refine Touch.cut v3 ?_ (fun h4 => ?_)
  · unfold v3
    refine Touch.step ?_ (State.resetCells_touch ..) (by decide +kernel)
    exact h2
  clear_value v3
  extract_lets -merge -useContext +onlyGivenNames v5
  refine Touch.cut v5 ?_ (fun h6 => ?_)
  · unfold v5
    refine Touch.step ?_ (State.freeColls_touch ..) (by decide +kernel)
    refine Touch.step ?_ (State.modPilot_touch ..) (by decide +kernel)
    exact h4
  clear_value v5
  extract_lets -merge -useContext +onlyGivenNames v7
  refine Touch.cut v7 ?_ (fun h8 => ?_)
  · unfold v7
    refine Touch.step ?_ (Touch.rings_tiles ..) (by decide +kernel)
    exact h6
  clear_value v7
  extract_lets -merge -useContext +onlyGivenNames v9
  refine Touch.cut v9 ?_ (fun h10 => ?_)
  · unfold v9
    refine Touch.step ?_ (State.modPart_touch ..) (by decide +kernel)
    exact h8
  clear_value v9
  extract_lets -merge -useContext +onlyGivenNames v11
  refine Touch.cut v11 ?_ (fun h12 => ?_)
  · unfold v11
    refine Touch.step ?_ (State.setPartState_touch ..) (by decide +kernel)
    refine Touch.step ?_ (State.bump_touch ..) (by decide +kernel)
    refine Touch.step ?_ (State.put_touch ..) (by decide +kernel)
    exact h10
  clear_value v11
  refine Touch.step ?_ (State.scopeDone_touch ..) (by decide +kernel)
  exact h12

theorem State.addPart_touch (s : State) (a1 : ℕ) :
    Touch 0x3ffffffffffffffffffffffffffffffffffffffffffffffffffffffffffffffffffffffffffffffffffffffffffffffffffffffffffffffffffffffffffffffffffffffffffffffffffffffffffffffff1221a0 s (State.addPart s a1) := by
  unfold State.addPart
  extract_lets -merge -useContext +onlyGivenNames v0
  refine Touch.cut v0 ?_ (fun h1 => ?_)
  · unfold v0
    refine Touch.step ?_ (State.modPart_touch ..) (by decide +kernel)
    refine Touch.step ?_ (State.resetCells_touch ..) (by decide +kernel)
    exact Touch.refl _ _
  clear_value v0
  refine Touch.step ?_ (State.enterIdle_touch ..) (by decide +kernel)
  refine Touch.step ?_ (State.newInc_touch ..) (by decide +kernel)
  exact h1

theorem State.remapped_touch (s : State) (a1 : Struct) :
    Touch 0x201000 s (State.remapped s a1) := by
  unfold State.remapped
  extract_lets -merge -useContext +onlyGivenNames v0
  clear_value v0
  refine Touch.foldl ?_ (fun y1 y2 h3 => ?_)
  · exact Touch.refl _ _
  · refine Touch.step ?_ (State.spoilTile_touch ..) (by decide +kernel)
    exact h3

theorem State.commitPorts_touch (s : State) :
    Touch 0x49ff8000000000000180000049003f90100000000000100000006003000000000000000000f101803ffc00200021f00300000000240000000000000000000000000000000000c001fffffe00000bffda0 s (State.commitPorts s) := by
  unfold State.commitPorts
  extract_lets -merge -useContext +onlyGivenNames v0
  refine Touch.cut v0 ?_ (fun h1 => ?_)
  · unfold v0
    refine Touch.foldl ?_ (fun y2 y3 h4 => ?_)
    · exact Touch.refl _ _
    · refine Touch.ite ?_ ?_
      · refine Touch.step ?_ (State.portLost_touch ..) (by decide +kernel)
        refine Touch.step ?_ (State.setPortState_touch ..) (by decide +kernel)
        refine Touch.step ?_ (State.clearPort_touch ..) (by decide +kernel)
        exact h4
      · refine Touch.step ?_ (State.trainStart_touch ..) (by decide +kernel)
        exact h4
  clear_value v0
  refine Touch.step ?_ (State.modFab_touch ..) (by decide +kernel)
  exact h1

theorem State.commitBase_touch (s : State) (a1 : Image) (a2 : List (ℕ × Bool × ℕ × ℕ)) (a3 : List ℕ) :
    Touch 0x3ffffffffffffffffffffffffffffffffffffffffffffffffffffffffffffffffffffffffffffffffffffffffffffffffffffffffffffffffffffffffffffffffffffffffffffffffffffffffffffffffbfffb8 s (State.commitBase s a1 a2 a3) := by
  unfold State.commitBase
  extract_lets -merge -useContext +onlyGivenNames v0
  clear_value v0
  extract_lets -merge -useContext +onlyGivenNames v1
  clear_value v1
  extract_lets -merge -useContext +onlyGivenNames v2
  clear_value v2
  extract_lets -merge -useContext +onlyGivenNames v3
  clear_value v3
  extract_lets -merge -useContext +onlyGivenNames v4
  refine Touch.cut v4 ?_ (fun h5 => ?_)
  · unfold v4
    refine Touch.foldl ?_ (fun y6 y7 h8 => ?_)
    · exact Touch.refl _ _
    · refine Touch.step ?_ (State.removePart_touch ..) (by decide +kernel)
      exact h8
  clear_value v4
  extract_lets -merge -useContext +onlyGivenNames v9
  refine Touch.cut v9 ?_ (fun h10 => ?_)
  · unfold v9
    refine Touch.foldl ?_ (fun y11 y12 h13 => ?_)
    · exact h5
    · refine Touch.step ?_ (State.commitRange_touch ..) (by decide +kernel)
      exact h13
  clear_value v9
  extract_lets -merge -useContext +onlyGivenNames v14
  clear_value v14
  extract_lets -merge -useContext +onlyGivenNames v15
  refine Touch.cut v15 ?_ (fun h16 => ?_)
  · unfold v15
    refine Touch.step ?_ (State.commitLinkKeys_touch ..) (by decide +kernel)
    exact h10
  clear_value v15
  extract_lets -merge -useContext +onlyGivenNames v17
  refine Touch.cut v17 ?_ (fun h18 => ?_)
  · unfold v17
    refine Touch.step ?_ (State.modKim_touch ..) (by decide +kernel)
    exact h16
  clear_value v17
  extract_lets -merge -useContext +onlyGivenNames v19
  refine Touch.cut v19 ?_ (fun h20 => ?_)
  · unfold v19
    refine Touch.step ?_ (State.putDigest_touch ..) (by decide +kernel)
    refine Touch.step ?_ (State.baseFields_touch ..) (by decide +kernel)
    exact h18
  clear_value v19
  extract_lets -merge -useContext +onlyGivenNames v21
  refine Touch.cut v21 ?_ (fun h22 => ?_)
  · unfold v21
    refine Touch.foldl ?_ (fun y23 y24 h25 => ?_)
    · exact h20
    · refine Touch.step ?_ (State.addPart_touch ..) (by decide +kernel)
      exact h25
  clear_value v21
  extract_lets -merge -useContext +onlyGivenNames v26
  refine Touch.cut v26 ?_ (fun h27 => ?_)
  · unfold v26
    refine Touch.foldl ?_ (fun y28 y29 h30 => ?_)
    · exact h22
    · refine Touch.step ?_ (State.freeCore_touch ..) (by decide +kernel)
      exact h30
  clear_value v26
  extract_lets -merge -useContext +onlyGivenNames v31
  refine Touch.cut v31 ?_ (fun h32 => ?_)
  · unfold v31
    refine Touch.step ?_ (State.segRecheck_touch ..) (by decide +kernel)
    refine Touch.step ?_ (State.applyPower_touch ..) (by decide +kernel)
    refine Touch.step ?_ (State.remapped_touch ..) (by decide +kernel)
    exact h27
  clear_value v31
  extract_lets -merge -useContext +onlyGivenNames v33
  refine Touch.cut v33 ?_ (fun h34 => ?_)
  · unfold v33
    refine Touch.step ?_ (State.commitPorts_touch ..) (by decide +kernel)
    refine Touch.step ?_ (State.twinCommit_touch ..) (by decide +kernel)
    refine Touch.step ?_ (State.rootSettle_touch ..) (by decide +kernel)
    exact h32
  clear_value v33
  extract_lets -merge -useContext +onlyGivenNames v35
  refine Touch.cut v35 ?_ (fun h36 => ?_)
  · unfold v35
    refine Touch.foldl ?_ (fun y37 y38 h39 => ?_)
    · exact h34
    · refine Touch.step ?_ (State.failback_touch ..) (by decide +kernel)
      exact h39
  clear_value v35
  refine Touch.ite ?_ ?_
  · refine Touch.step ?_ (State.modKim_touch ..) (by decide +kernel)
    exact h36
  · exact h36

theorem State.commitPart_touch (s : State) (a1 : Image) (a2 : List (ℕ × Bool × ℕ × ℕ)) :
    Touch 0x4000000000000000000000000000000000000000008fc00000000000000000000000000000000000000000000000000000078006800000000000000000000000000221810 s (State.commitPart s a1 a2) := by
  unfold State.commitPart
  extract_lets -merge -useContext +onlyGivenNames v0
  clear_value v0
  extract_lets -merge -useContext +onlyGivenNames v1
  clear_value v1
  extract_lets -merge -useContext +onlyGivenNames v2
  refine Touch.cut v2 ?_ (fun h3 => ?_)
  · unfold v2
    refine Touch.foldl ?_ (fun y4 y5 h6 => ?_)
    · exact Touch.refl _ _
    · refine Touch.ite ?_ ?_
      · refine Touch.step ?_ (State.commitRange_touch ..) (by decide +kernel)
        exact h6
      · exact h6
  clear_value v2
  extract_lets -merge -useContext +onlyGivenNames v7
  refine Touch.cut v7 ?_ (fun h8 => ?_)
  · unfold v7
    refine Touch.step ?_ (State.modKim_touch ..) (by decide +kernel)
    exact h3
  clear_value v7
  extract_lets -merge -useContext +onlyGivenNames v9
  refine Touch.cut v9 ?_ (fun h10 => ?_)
  · unfold v9
    refine Touch.step ?_ (State.remapped_touch ..) (by decide +kernel)
    refine Touch.step ?_ (State.putDigest_touch ..) (by decide +kernel)
    refine Touch.step ?_ (State.partFields_touch ..) (by decide +kernel)
    exact h8
  clear_value v9
  extract_lets -merge -useContext +onlyGivenNames v11
  refine Touch.cut v11 ?_ (fun h12 => ?_)
  · unfold v11
    refine Touch.step ?_ (State.modFab_touch ..) (by decide +kernel)
    exact h10
  clear_value v11
  refine Touch.step ?_ (State.failback_touch ..) (by decide +kernel)
  exact h12

theorem State.kimCommit_touch (s : State) (a1 : Bool) :
    Touch 0x3ffffffffffffffffffffffffffffffffffffffffffffffffffffffffffffffffffffffffffffffffffffffffffffffffffffffffffffffffffffffffffffffffffffffffffffffffffffffffffffffffbfffb8 s (State.kimCommit s a1) := by
  unfold State.kimCommit
  split
  · exact Touch.refl _ _
  · extract_lets -merge -useContext +onlyGivenNames v0
    clear_value v0
    extract_lets -merge -useContext +onlyGivenNames v1
    clear_value v1
    extract_lets -merge -useContext +onlyGivenNames v2
    refine Touch.cut v2 ?_ (fun h3 => ?_)
    · unfold v2
      refine Touch.ite ?_ ?_
      · refine Touch.step ?_ (State.commitBase_touch ..) (by decide +kernel)
        exact Touch.refl _ _
      · refine Touch.step ?_ (State.commitPart_touch ..) (by decide +kernel)
        exact Touch.refl _ _
    clear_value v2
    extract_lets -merge -useContext +onlyGivenNames v4
    refine Touch.cut v4 ?_ (fun h5 => ?_)
    · unfold v4
      refine Touch.step ?_ (State.put_touch ..) (by decide +kernel)
      refine Touch.step ?_ (State.put_touch ..) (by decide +kernel)
      refine Touch.step ?_ (State.bump_touch ..) (by decide +kernel)
      exact h3
    clear_value v4
    extract_lets -merge -useContext +onlyGivenNames v6
    refine Touch.cut v6 ?_ (fun h7 => ?_)
    · unfold v6
      refine Touch.ite ?_ ?_
      · refine Touch.step ?_ (State.put_touch ..) (by decide +kernel)
        exact h5
      · exact h5
    clear_value v6
    refine Touch.step ?_ (State.cchPump_touch ..) (by decide +kernel)
    refine Touch.step ?_ (State.settleAll_touch ..) (by decide +kernel)
    refine Touch.step ?_ (State.dropUnroutable_touch ..) (by decide +kernel)
    refine Touch.step ?_ (State.kimEmpty_touch ..) (by decide +kernel)
    exact h7

theorem State.arbBurn_touch (s : State) (a1 : Bool) (a2 : ℕ) :
    Touch 0x4280000000000000000000000000112 s (State.arbBurn s a1 a2) := by
  unfold State.arbBurn
  split
  · exact Touch.refl _ _
  · extract_lets -merge -useContext +onlyGivenNames v0
    clear_value v0
    extract_lets -merge -useContext +onlyGivenNames v1
    clear_value v1
    extract_lets -merge -useContext +onlyGivenNames v2
    clear_value v2
    extract_lets -merge -useContext +onlyGivenNames v3
    refine Touch.cut v3 ?_ (fun h4 => ?_)
    · unfold v3
      refine Touch.step ?_ (State.modKim_touch ..) (by decide +kernel)
      refine Touch.step ?_ (State.put_touch ..) (by decide +kernel)
      refine Touch.step ?_ (Touch.fusesWith _ _) (by decide +kernel)
      exact Touch.refl _ _
    clear_value v3
    refine Touch.ite ?_ ?_
    · exact h4
    · refine Touch.step ?_ (State.kimFault_touch ..) (by decide +kernel)
      refine Touch.step ?_ (State.put_touch ..) (by decide +kernel)
      exact h4

theorem execArbBurn_touch (a0 : Bool) (a1 : ℕ) (s : State) :
    ∃ t, execArbBurn a0 a1 s = .next t ∧ Touch 0x4280000000000000000000000000112 s t := by
  refine ⟨_, rfl, ?_⟩
  refine Touch.step ?_ (State.arbBurn_touch ..) (by decide +kernel)
  exact Touch.refl _ _

theorem State.kimArm_touch (s : State) (a1 : ArmArgs) :
    Touch 0x3ffffffffffffffffffffffffffffffffffffffffffffffffffffffffffffffffffffffffffffffffffffffffffffffffffffffffffffffffffffffffffffffffffffffffffffffffffffffffffffffffbfffb8 s (State.kimArm s a1) := by
  unfold State.kimArm
  split
  · refine Touch.step ?_ (State.kimFault_touch ..) (by decide +kernel)
    exact Touch.refl _ _
  · extract_lets -merge -useContext +onlyGivenNames v0
    clear_value v0
    extract_lets -merge -useContext +onlyGivenNames v1
    refine Touch.cut v1 ?_ (fun h2 => ?_)
    · unfold v1
      refine Touch.step ?_ (State.modKim_touch ..) (by decide +kernel)
      exact Touch.refl _ _
    clear_value v1
    extract_lets -merge -useContext +onlyGivenNames v3
    refine Touch.cut v3 ?_ (fun h4 => ?_)
    · unfold v3
      refine Touch.foldl ?_ (fun y5 y6 h7 => ?_)
      · exact h2
      · refine Touch.step ?_ (State.put_touch ..) (by decide +kernel)
        exact h7
    clear_value v3
    extract_lets -merge -useContext +onlyGivenNames v8
    refine Touch.cut v8 ?_ (fun h9 => ?_)
    · unfold v8
      refine Touch.step ?_ (State.setKimState_touch ..) (by decide +kernel)
      exact h4
    clear_value v8
    refine Touch.ite ?_ ?_
    · refine Touch.ite ?_ ?_
      · exact h9
      · refine Touch.step ?_ (State.kimCommit_touch ..) (by decide +kernel)
        exact h9
    · refine Touch.ite ?_ ?_
      · exact h9
      · refine Touch.ite ?_ ?_
        · refine Touch.step ?_ (State.modKim_touch ..) (by decide +kernel)
          exact h9
        · refine Touch.step ?_ (State.sendPkt_touch ..) (by decide +kernel)
          exact h9

theorem execKimArm_touch (a0 : Option ArmArgs) (s : State) :
    ∃ t, execKimArm a0 s = .next t ∧ Touch 0x3ffffffffffffffffffffffffffffffffffffffffffffffffffffffffffffffffffffffffffffffffffffffffffffffffffffffffffffffffffffffffffffffffffffffffffffffffffffffffffffffffbfffb8 s t := by
  refine ⟨_, rfl, ?_⟩
  split
  · extract_lets -merge -useContext +onlyGivenNames v0
    refine Touch.cut v0 ?_ (fun h1 => ?_)
    · unfold v0
      refine Touch.step ?_ (State.put_touch ..) (by decide +kernel)
      exact Touch.refl _ _
    clear_value v0
    refine Touch.step ?_ (State.kimArm_touch ..) (by decide +kernel)
    exact h1
  · refine Touch.step ?_ (State.kimArm_touch ..) (by decide +kernel)
    exact Touch.refl _ _

theorem State.kimAbort_touch (s : State) :
    Touch 0x49ff800000000000000000000000000e0000580000000000000000030000000000200000000000000000000000000000000000000000000000000000000002011800c0300000c001fffffe00000122590 s (State.kimAbort s) := by
  unfold State.kimAbort
  extract_lets -merge -useContext +onlyGivenNames v0
  refine Touch.cut v0 ?_ (fun h1 => ?_)
  · unfold v0
    refine Touch.step ?_ (State.put_touch ..) (by decide +kernel)
    exact Touch.refl _ _
  clear_value v0
  refine Touch.ite ?_ ?_
  · refine Touch.step ?_ (State.kimReject_touch ..) (by decide +kernel)
    exact h1
  · exact h1

theorem execKimAbort_touch (s : State) :
    ∃ t, execKimAbort s = .next t ∧ Touch 0x49ff800000000000000000000000000e0000580000000000000000030000000000200000000000000000000000000000000000000000000000000000000002011800c0300000c001fffffe00000122590 s t := by
  refine ⟨_, rfl, ?_⟩
  refine Touch.step ?_ (State.kimAbort_touch ..) (by decide +kernel)
  exact Touch.refl _ _

theorem State.kimDiscard_touch (s : State) :
    Touch 0x49ff800000000000000000000000000e0000580000000000000000030000000000200000000000000000000000000000000000000000000000000000000002010000c0300000c001fffffe00000122590 s (State.kimDiscard s) := by
  unfold State.kimDiscard
  extract_lets -merge -useContext +onlyGivenNames v0
  refine Touch.cut v0 ?_ (fun h1 => ?_)
  · unfold v0
    refine Touch.step ?_ (State.put_touch ..) (by decide +kernel)
    exact Touch.refl _ _
  clear_value v0
  refine Touch.ite ?_ ?_
  · refine Touch.step ?_ (State.kimFault_touch ..) (by decide +kernel)
    exact h1
  · refine Touch.ite ?_ ?_
    · exact h1
    · refine Touch.step ?_ (State.kimEmpty_touch ..) (by decide +kernel)
      exact h1

theorem execKimDiscard_touch (s : State) :
    ∃ t, execKimDiscard s = .next t ∧ Touch 0x49ff800000000000000000000000000e0000580000000000000000030000000000200000000000000000000000000000000000000000000000000000000002010000c0300000c001fffffe00000122590 s t := by
  refine ⟨_, rfl, ?_⟩
  refine Touch.step ?_ (State.kimDiscard_touch ..) (by decide +kernel)
  exact Touch.refl _ _

theorem State.kimLearn_touch (s : State) (a1 : Bool) :
    Touch 0x49ff800000000000000000000000000e0000580000000000000000030000000000200000000000000000000000000000000000000000000000000000000002011800c0200000c001fffffe00000122590 s (State.kimLearn s a1) := by
  unfold State.kimLearn
  refine Touch.ite ?_ ?_
  · refine Touch.step ?_ (State.modKim_touch ..) (by decide +kernel)
    exact Touch.refl _ _
  · refine Touch.step ?_ (State.kimReject_touch ..) (by decide +kernel)
    exact Touch.refl _ _

theorem State.kimResolve_touch (s : State) (a1 : Bool) :
    Touch 0x49ff800000000000000000000000000e0000580000000000000000030000000000200000000000000000000000000000000000000000000000000000000002011800c0300000c001fffffe00000122590 s (State.kimResolve s a1) := by
  unfold State.kimResolve
  extract_lets -merge -useContext +onlyGivenNames v0
  refine Touch.cut v0 ?_ (fun h1 => ?_)
  · unfold v0
    refine Touch.step ?_ (State.put_touch ..) (by decide +kernel)
    exact Touch.refl _ _
  clear_value v0
  refine Touch.ite ?_ ?_
  · refine Touch.step ?_ (State.kimLearn_touch ..) (by decide +kernel)
    exact h1
  · exact h1

theorem execResolveGo_touch (s : State) :
    ∃ t, execResolveGo s = .next t ∧ Touch 0x49ff800000000000000000000000000e0000580000000000000000030000000000200000000000000000000000000000000000000000000000000000000002011800c0300000c001fffffe00000122590 s t := by
  refine ⟨_, rfl, ?_⟩
  refine Touch.step ?_ (State.kimResolve_touch ..) (by decide +kernel)
  exact Touch.refl _ _

theorem execResolveAbort_touch (s : State) :
    ∃ t, execResolveAbort s = .next t ∧ Touch 0x49ff800000000000000000000000000e0000580000000000000000030000000000200000000000000000000000000000000000000000000000000000000002011800c0300000c001fffffe00000122590 s t := by
  refine ⟨_, rfl, ?_⟩
  refine Touch.step ?_ (State.kimResolve_touch ..) (by decide +kernel)
  exact Touch.refl _ _

theorem State.kimDecideCmd_touch (s : State) (a1 : Bool) :
    Touch 0x49ff800000000000000000000000000e0000580000000000000000030000000000200000000000000000000000000000000000000000000000000000000002011800c0300000c001fffffe00000122590 s (State.kimDecideCmd s a1) := by
  unfold State.kimDecideCmd
  extract_lets -merge -useContext +onlyGivenNames v0
  refine Touch.cut v0 ?_ (fun h1 => ?_)
  · unfold v0
    refine Touch.step ?_ (State.put_touch ..) (by decide +kernel)
    exact Touch.refl _ _
  clear_value v0
  refine Touch.ite ?_ ?_
  · refine Touch.step ?_ (State.kimLearn_touch ..) (by decide +kernel)
    exact h1
  · exact h1

theorem execDecideGo_touch (s : State) :
    ∃ t, execDecideGo s = .next t ∧ Touch 0x49ff800000000000000000000000000e0000580000000000000000030000000000200000000000000000000000000000000000000000000000000000000002011800c0300000c001fffffe00000122590 s t := by
  refine ⟨_, rfl, ?_⟩
  refine Touch.step ?_ (State.kimDecideCmd_touch ..) (by decide +kernel)
  exact Touch.refl _ _

theorem execDecideAbort_touch (s : State) :
    ∃ t, execDecideAbort s = .next t ∧ Touch 0x49ff800000000000000000000000000e0000580000000000000000030000000000200000000000000000000000000000000000000000000000000000000002011800c0300000c001fffffe00000122590 s t := by
  refine ⟨_, rfl, ?_⟩
  refine Touch.step ?_ (State.kimDecideCmd_touch ..) (by decide +kernel)
  exact Touch.refl _ _

theorem execKimArmed_touch (a0 : Pkt) (s : State) :
    ∃ t, execKimArmed a0 s = .next t ∧ Touch 0x10 s t := by
  refine ⟨_, rfl, ?_⟩
  split
  · refine Touch.step ?_ (State.modKim_touch ..) (by decide +kernel)
    exact Touch.refl _ _
  · exact Touch.refl _ _

theorem State.coordDecide_touch (s : State) (a1 : ℕ) :
    Touch 0x49ff800000000000000000000000000e0000580000000000000000030000000000200000000000000000000000000000000000002400000000000000000002011800c0200000c001fffffe00000163590 s (State.coordDecide s a1) := by
  unfold State.coordDecide
  extract_lets -merge -useContext +onlyGivenNames v0
  clear_value v0
  split
  · exact Touch.refl _ _
  · extract_lets -merge -useContext +onlyGivenNames v1
    clear_value v1
    refine Touch.ite ?_ ?_
    · exact Touch.refl _ _
    · extract_lets -merge -useContext +onlyGivenNames v2
      clear_value v2
      extract_lets -merge -useContext +onlyGivenNames v3
      clear_value v3
      extract_lets -merge -useContext +onlyGivenNames v4
      clear_value v4
      extract_lets -merge -useContext +onlyGivenNames v5
      clear_value v5
      extract_lets -merge -useContext +onlyGivenNames v6
      refine Touch.cut v6 ?_ (fun h7 => ?_)
      · unfold v6
        refine Touch.step ?_ (State.modKim_touch ..) (by decide +kernel)
        exact Touch.refl _ _
      clear_value v6
      extract_lets -merge -useContext +onlyGivenNames v8
      refine Touch.cut v8 ?_ (fun h9 => ?_)
      · unfold v8
        refine Touch.foldl ?_ (fun y10 y11 h12 => ?_)
        · exact h7
        · refine Touch.step ?_ (State.sendPkt_touch ..) (by decide +kernel)
          exact h12
      clear_value v8
      refine Touch.ite ?_ ?_
      · refine Touch.step ?_ (State.kimLearn_touch ..) (by decide +kernel)
        exact h9
      · exact h9

theorem execCoordinatorDecide_touch (a0 : ℕ) (s : State) :
    ∃ t, execCoordinatorDecide a0 s = .next t ∧ Touch 0x49ff800000000000000000000000000e0000580000000000000000030000000000200000000000000000000000000000000000002400000000000000000002011800c0200000c001fffffe00000163590 s t := by
  refine ⟨_, rfl, ?_⟩
  refine Touch.step ?_ (State.coordDecide_touch ..) (by decide +kernel)
  exact Touch.refl _ _

theorem execKimDecide_touch (a0 : Pkt) (s : State) :
    ∃ t, execKimDecide a0 s = .next t ∧ Touch 0x49ff800000000000000000000000000e0000580000000000000000030000000000200000000000000000000000000000000000000000000000000000000002011800c0200000c001fffffe00000122590 s t := by
  refine ⟨_, rfl, ?_⟩
  split
  · refine Touch.ite ?_ ?_
    · refine Touch.step ?_ (State.kimLearn_touch ..) (by decide +kernel)
      exact Touch.refl _ _
    · exact Touch.refl _ _
  · exact Touch.refl _ _

theorem State.decideResend_touch (s : State) (a1 : ℕ) (a2 : ℕ) (a3 : Bool) :
    Touch 0x240000000000000000000000000000000000000000000000000163110 s (State.decideResend s a1 a2 a3) := by
  unfold State.decideResend
  split
  · exact Touch.refl _ _
  · refine Touch.ite ?_ ?_
    · refine Touch.step ?_ (State.modKim_touch ..) (by decide +kernel)
      exact Touch.refl _ _
    · refine Touch.step ?_ (State.sendPkt_touch ..) (by decide +kernel)
      exact Touch.refl _ _

theorem execKimDecideResend_touch (a0 : ℕ) (a1 : ℕ) (a2 : Bool) (s : State) :
    ∃ t, execKimDecideResend a0 a1 a2 s = .next t ∧ Touch 0x240000000000000000000000000000000000000000000000000163110 s t := by
  refine ⟨_, rfl, ?_⟩
  refine Touch.step ?_ (State.decideResend_touch ..) (by decide +kernel)
  exact Touch.refl _ _

theorem execKimQuery_touch (a0 : Pkt) (s : State) :
    ∃ t, execKimQuery a0 s = .next t ∧ Touch 0x240000000000000000000000000000000000000000000000000163100 s t := by
  refine ⟨_, rfl, ?_⟩
  split
  · split
    · refine Touch.step ?_ (State.sendPkt_touch ..) (by decide +kernel)
      exact Touch.refl _ _
    · exact Touch.refl _ _
  · exact Touch.refl _ _

theorem State.slot0End_touch (s : State) :
    Touch 0x810 s (State.slot0End s) := by
  unfold State.slot0End
  extract_lets -merge -useContext +onlyGivenNames v0
  refine Touch.cut v0 ?_ (fun h1 => ?_)
  · unfold v0
    refine Touch.step ?_ (State.modMem_touch _ _ (fun _ => rfl)) (by decide +kernel)
    exact Touch.refl _ _
  clear_value v0
  refine Touch.step ?_ (State.modKim_touch ..) (by decide +kernel)
  exact h1

theorem State.wakeTimed_touch (s : State) :
    Touch 0x3000 s (State.wakeTimed s) := by
  unfold State.wakeTimed
  refine Touch.foldl ?_ (fun y0 y1 h2 => ?_)
  · exact Touch.refl _ _
  · refine Touch.step ?_ (State.settleNode_touch ..) (by decide +kernel)
    exact h2

theorem State.slotStart_touch (s : State) (a1 : ℕ) :
    Touch 0x80000000000000000000000000000000000000000000000000000000000000000000000000000000000000000000000000000000000000000000000023810 s (State.slotStart s a1) := by
  unfold State.slotStart
  extract_lets -merge -useContext +onlyGivenNames v0
  clear_value v0
  refine Touch.ite ?_ ?_
  · exact Touch.refl _ _
  · extract_lets -merge -useContext +onlyGivenNames v1
    refine Touch.cut v1 ?_ (fun h2 => ?_)
    · unfold v1
      refine Touch.ite ?_ ?_
      · refine Touch.step ?_ (State.slot0End_touch ..) (by decide +kernel)
        exact Touch.refl _ _
      · exact Touch.refl _ _
    clear_value v1
    refine Touch.step ?_ (State.wakeTimed_touch ..) (by decide +kernel)
    refine Touch.step ?_ (State.fabSlot_touch ..) (by decide +kernel)
    refine Touch.step ?_ (State.put_touch ..) (by decide +kernel)
    exact h2

theorem execSlotStart_touch (a0 : ℕ) (s : State) :
    ∃ t, execSlotStart a0 s = .next t ∧ Touch 0x80000000000000000000000000000000000000000000000000000000000000000000000000000000000000000000000000000000000000000000000023810 s t := by
  refine ⟨_, rfl, ?_⟩
  refine Touch.step ?_ (State.slotStart_touch ..) (by decide +kernel)
  exact Touch.refl _ _

theorem State.kimBoundary_touch (s : State) :
    Touch 0x3ffffffffffffffffffffffffffffffffffffffffffffffffffffffffffffffffffffffffffffffffffffffffffffffffffffffffffffffffffffffffffffffffffffffffffffffffffffffffffffffffbfffb8 s (State.kimBoundary s) := by
  unfold State.kimBoundary
  split
  · refine Touch.ite ?_ ?_
    · refine Touch.ite ?_ ?_
      · refine Touch.step ?_ (State.kimCommit_touch ..) (by decide +kernel)
        exact Touch.refl _ _
      · exact Touch.refl _ _
    · refine Touch.ite ?_ ?_
      · exact Touch.refl _ _
      · refine Touch.ite ?_ ?_
        · refine Touch.step ?_ (State.kimCommit_touch ..) (by decide +kernel)
          exact Touch.refl _ _
        · refine Touch.step ?_ (State.setKimState_touch ..) (by decide +kernel)
          refine Touch.step ?_ (State.kimFault_touch ..) (by decide +kernel)
          exact Touch.refl _ _
  · refine Touch.ite ?_ ?_
    · refine Touch.step ?_ (State.kimCommit_touch ..) (by decide +kernel)
      exact Touch.refl _ _
    · exact Touch.refl _ _
  · exact Touch.refl _ _

theorem State.kimAsk_touch (s : State) :
    Touch 0x240000000000000000000000000000000000000000000000000163100 s (State.kimAsk s) := by
  unfold State.kimAsk
  refine Touch.ite ?_ ?_
  · refine Touch.step ?_ (State.sendPkt_touch ..) (by decide +kernel)
    exact Touch.refl _ _
  · exact Touch.refl _ _

theorem State.cadenceBoundary_touch (s : State) :
    Touch 0x3ffffffffffffffffffffffffffffffffffffffffffffffffffffffffffffffffffffffffffffffffffffffffffffffffffffffffffffffffffffffffffffffffffffffffffffffffffffffffffffffffbfffb8 s (State.cadenceBoundary s) := by
  unfold State.cadenceBoundary
  extract_lets -merge -useContext +onlyGivenNames v0
  clear_value v0
  extract_lets -merge -useContext +onlyGivenNames v1
  refine Touch.cut v1 ?_ (fun h2 => ?_)
  · unfold v1
    refine Touch.step ?_ (State.slot0End_touch ..) (by decide +kernel)
    exact Touch.refl _ _
  clear_value v1
  extract_lets -merge -useContext +onlyGivenNames v3
  refine Touch.cut v3 ?_ (fun h4 => ?_)
  · unfold v3
    refine Touch.step ?_ (State.put_touch ..) (by decide +kernel)
    refine Touch.step ?_ (State.put_touch ..) (by decide +kernel)
    exact h2
  clear_value v3
  extract_lets -merge -useContext +onlyGivenNames v5
  refine Touch.cut v5 ?_ (fun h6 => ?_)
  · unfold v5
    refine Touch.step ?_ (State.fabBoundary_touch ..) (by decide +kernel)
    refine Touch.step ?_ (State.fabSlot_touch ..) (by decide +kernel)
    exact h4
  clear_value v5
  extract_lets -merge -useContext +onlyGivenNames v7
  refine Touch.cut v7 ?_ (fun h8 => ?_)
  · unfold v7
    refine Touch.ite ?_ ?_
    · refine Touch.step ?_ (Touch.partsWith _ _) (by decide +kernel)
      exact h6
    · exact h6
  clear_value v7
  extract_lets -merge -useContext +onlyGivenNames v9
  refine Touch.cut v9 ?_ (fun h10 => ?_)
  · unfold v9
    refine Touch.step ?_ (State.modKim_touch ..) (by decide +kernel)
    exact h8
  clear_value v9
  refine Touch.step ?_ (State.wakeTimed_touch ..) (by decide +kernel)
  refine Touch.step ?_ (State.kimAsk_touch ..) (by decide +kernel)
  refine Touch.step ?_ (State.kimBoundary_touch ..) (by decide +kernel)
  exact h10

theorem execCadenceBoundary_touch (s : State) :
    ∃ t, execCadenceBoundary s = .next t ∧ Touch 0x3ffffffffffffffffffffffffffffffffffffffffffffffffffffffffffffffffffffffffffffffffffffffffffffffffffffffffffffffffffffffffffffffffffffffffffffffffffffffffffffffffbfffb8 s t := by
  refine ⟨_, rfl, ?_⟩
  refine Touch.ite ?_ ?_
  · refine Touch.step ?_ (State.cadenceBoundary_touch ..) (by decide +kernel)
    exact Touch.refl _ _
  · exact Touch.refl _ _

end Sys2Proof.Machine
end

