-- ==== Sys2Proof/Laws/TouchFwu.lean ====
section
/-! SUPPORT. What the operations of Machine/Fwu.lean may change. -/
namespace Sys2Proof.Machine

set_option Elab.async false

theorem State.setFwu_touch (s : State) (a1 : ℕ) :
    Touch 0x3000000000000000000000000000000000000000000000000000000000004000000000000000000000000000000000000000100080 s (State.setFwu s a1) := by
  unfold State.setFwu
  refine Touch.ite ?_ ?_
  · exact Touch.refl _ _
  · refine Touch.step ?_ (State.globalEvent_touch ..) (by decide +kernel)
    refine Touch.step ?_ (State.put_touch ..) (by decide +kernel)
    exact Touch.refl _ _

theorem State.modFwu_touch (s : State) (a1 : Fwu → Fwu) :
    Touch 0x40 s (State.modFwu s a1) := by
  unfold State.modFwu
  refine Touch.step ?_ (Touch.fwuWith _ _) (by decide +kernel)
  exact Touch.refl _ _

theorem State.fwuFault_touch (s : State) (a1 : ℕ) :
    Touch 0x8000000000000000000000000000000000000000000000 s (State.fwuFault s a1) := by
  unfold State.fwuFault
  refine Touch.step ?_ (State.put_touch ..) (by decide +kernel)
  exact Touch.refl _ _

theorem State.fwuSequence_touch (s : State) :
    Touch 0x8000000000000000000000000000000000000000000000 s (State.fwuSequence s) := by
  unfold State.fwuSequence
  refine Touch.step ?_ (State.fwuFault_touch ..) (by decide +kernel)
  exact Touch.refl _ _

theorem State.fwuStaged_touch (s : State) :
    Touch 0x3000000000000000000000000000000000000000000000000000000000006000000000000000000000000000000000000000100080 s (State.fwuStaged s) := by
  unfold State.fwuStaged
  refine Touch.step ?_ (State.setFwu_touch ..) (by decide +kernel)
  refine Touch.step ?_ (State.put_touch ..) (by decide +kernel)
  exact Touch.refl _ _

theorem State.fwuPull_touch (s : State) (a1 : ℕ) :
    Touch 0x3000000000000000000000000000000000000000000000000000000000006000000000000000000000000000000000000000100080 s (State.fwuPull s a1) := by
  unfold State.fwuPull
  refine Touch.ite ?_ ?_
  · refine Touch.step ?_ (State.fwuStaged_touch ..) (by decide +kernel)
    exact Touch.refl _ _
  · refine Touch.step ?_ (State.ioRead_touch ..) (by decide +kernel)
    exact Touch.refl _ _

theorem State.fwuDrop_touch (s : State) :
    Touch 0x3220000000000000000000000000000000000000000000c0 s (State.fwuDrop s) := by
  unfold State.fwuDrop
  extract_lets -merge -useContext +onlyGivenNames v0
  refine Touch.cut v0 ?_ (fun h1 => ?_)
  · unfold v0
    refine Touch.step ?_ (State.dropReqs_touch ..) (by decide +kernel)
    exact Touch.refl _ _
  clear_value v0
  extract_lets -merge -useContext +onlyGivenNames v2
  refine Touch.cut v2 ?_ (fun h3 => ?_)
  · unfold v2
    refine Touch.step ?_ (State.put_touch ..) (by decide +kernel)
    refine Touch.step ?_ (State.put_touch ..) (by decide +kernel)
    refine Touch.step ?_ (State.put_touch ..) (by decide +kernel)
    exact h1
  clear_value v2
  refine Touch.step ?_ (State.modFwu_touch ..) (by decide +kernel)
  refine Touch.step ?_ (State.put_touch ..) (by decide +kernel)
  exact h3

theorem State.fwuStage_touch (s : State) :
    Touch 0x300000000000000000000000000000000000000000000000000000000032f0000000000000000000000000000000000000001000c0 s (State.fwuStage s) := by
  unfold State.fwuStage
  extract_lets -merge -useContext +onlyGivenNames v0
  refine Touch.cut v0 ?_ (fun h1 => ?_)
  · unfold v0
    refine Touch.step ?_ (State.put_touch ..) (by decide +kernel)
    exact Touch.refl _ _
  clear_value v0
  refine Touch.ite ?_ ?_
  · refine Touch.step ?_ (State.fwuSequence_touch ..) (by decide +kernel)
    exact h1
  · extract_lets -merge -useContext +onlyGivenNames v2
    refine Touch.cut v2 ?_ (fun h3 => ?_)
    · unfold v2
      refine Touch.step ?_ (State.setFwu_touch ..) (by decide +kernel)
      refine Touch.step ?_ (State.fwuFault_touch ..) (by decide +kernel)
      refine Touch.step ?_ (State.fwuDrop_touch ..) (by decide +kernel)
      exact h1
    clear_value v2
    refine Touch.step ?_ (State.fwuPull_touch ..) (by decide +kernel)
    refine Touch.step ?_ (State.put_touch ..) (by decide +kernel)
    refine Touch.step ?_ (State.modFwu_touch ..) (by decide +kernel)
    exact h3

theorem execFwuStage_touch (s : State) :
    ∃ t, execFwuStage s = .next t ∧ Touch 0x300000000000000000000000000000000000000000000000000000000032f0000000000000000000000000000000000000001000c0 s t := by
  refine ⟨_, rfl, ?_⟩
  refine Touch.step ?_ (State.fwuStage_touch ..) (by decide +kernel)
  exact Touch.refl _ _

theorem State.fwuVerify_touch (s : State) :
    Touch 0x300000000000000000000000000000000000000000000000000000000030d0000000000000000000000000000000000000001000c0 s (State.fwuVerify s) := by
  unfold State.fwuVerify
  extract_lets -merge -useContext +onlyGivenNames v0
  refine Touch.cut v0 ?_ (fun h1 => ?_)
  · unfold v0
    refine Touch.step ?_ (State.put_touch ..) (by decide +kernel)
    exact Touch.refl _ _
  clear_value v0
  refine Touch.ite ?_ ?_
  · refine Touch.step ?_ (State.fwuSequence_touch ..) (by decide +kernel)
    exact h1
  · extract_lets -merge -useContext +onlyGivenNames v2
    clear_value v2
    split
    · refine Touch.step ?_ (State.setFwu_touch ..) (by decide +kernel)
      refine Touch.step ?_ (State.fwuFault_touch ..) (by decide +kernel)
      exact h1
    · extract_lets -merge -useContext +onlyGivenNames v3
      refine Touch.cut v3 ?_ (fun h4 => ?_)
      · unfold v3
        refine Touch.step ?_ (State.put_touch ..) (by decide +kernel)
        refine Touch.step ?_ (State.put_touch ..) (by decide +kernel)
        exact h1
      clear_value v3
      refine Touch.step ?_ (State.setFwu_touch ..) (by decide +kernel)
      refine Touch.step ?_ (State.fwuFault_touch ..) (by decide +kernel)
      refine Touch.step ?_ (State.modFwu_touch ..) (by decide +kernel)
      exact h4

theorem execFwuVerify_touch (s : State) :
    ∃ t, execFwuVerify s = .next t ∧ Touch 0x300000000000000000000000000000000000000000000000000000000030d0000000000000000000000000000000000000001000c0 s t := by
  refine ⟨_, rfl, ?_⟩
  refine Touch.step ?_ (State.fwuVerify_touch ..) (by decide +kernel)
  exact Touch.refl _ _

theorem State.fwuActivate_touch (s : State) :
    Touch 0x300000000000000000000000000000000000000000000000000000000001f0000000000000000000000000000000000000001000c0 s (State.fwuActivate s) := by
  unfold State.fwuActivate
  extract_lets -merge -useContext +onlyGivenNames v0
  refine Touch.cut v0 ?_ (fun h1 => ?_)
  · unfold v0
    refine Touch.step ?_ (State.put_touch ..) (by decide +kernel)
    exact Touch.refl _ _
  clear_value v0
  refine Touch.ite ?_ ?_
  · refine Touch.step ?_ (State.fwuSequence_touch ..) (by decide +kernel)
    exact h1
  · extract_lets -merge -useContext +onlyGivenNames v2
    refine Touch.cut v2 ?_ (fun h3 => ?_)
    · unfold v2
      refine Touch.step ?_ (State.put_touch ..) (by decide +kernel)
      refine Touch.step ?_ (State.modFwu_touch ..) (by decide +kernel)
      exact h1
    clear_value v2
    refine Touch.step ?_ (State.setFwu_touch ..) (by decide +kernel)
    refine Touch.step ?_ (State.fwuFault_touch ..) (by decide +kernel)
    refine Touch.step ?_ (State.put_touch ..) (by decide +kernel)
    exact h3

theorem execFwuActivate_touch (s : State) :
    ∃ t, execFwuActivate s = .next t ∧ Touch 0x300000000000000000000000000000000000000000000000000000000001f0000000000000000000000000000000000000001000c0 s t := by
  refine ⟨_, rfl, ?_⟩
  refine Touch.step ?_ (State.fwuActivate_touch ..) (by decide +kernel)
  exact Touch.refl _ _

theorem State.fwuRevert_touch (s : State) :
    Touch 0x300000000000000000000000000000000000000000000000000000000002f0000000000000000000000000000000000000001000c0 s (State.fwuRevert s) := by
  unfold State.fwuRevert
  extract_lets -merge -useContext +onlyGivenNames v0
  refine Touch.cut v0 ?_ (fun h1 => ?_)
  · unfold v0
    refine Touch.step ?_ (State.put_touch ..) (by decide +kernel)
    exact Touch.refl _ _
  clear_value v0
  refine Touch.ite ?_ ?_
  · refine Touch.step ?_ (State.fwuSequence_touch ..) (by decide +kernel)
    exact h1
  · split
    · refine Touch.ite ?_ ?_
      · refine Touch.step ?_ (State.setFwu_touch ..) (by decide +kernel)
        refine Touch.step ?_ (State.put_touch ..) (by decide +kernel)
        refine Touch.step ?_ (State.put_touch ..) (by decide +kernel)
        exact h1
      · refine Touch.step ?_ (State.fwuSequence_touch ..) (by decide +kernel)
        exact h1
    · refine Touch.step ?_ (State.setFwu_touch ..) (by decide +kernel)
      refine Touch.step ?_ (State.put_touch ..) (by decide +kernel)
      refine Touch.step ?_ (State.put_touch ..) (by decide +kernel)
      refine Touch.step ?_ (State.modFwu_touch ..) (by decide +kernel)
      exact h1

theorem execFwuRevert_touch (s : State) :
    ∃ t, execFwuRevert s = .next t ∧ Touch 0x300000000000000000000000000000000000000000000000000000000002f0000000000000000000000000000000000000001000c0 s t := by
  refine ⟨_, rfl, ?_⟩
  refine Touch.step ?_ (State.fwuRevert_touch ..) (by decide +kernel)
  exact Touch.refl _ _

theorem State.fwuDiscard_touch (s : State) :
    Touch 0x30000000000000000000000000000000000000000000000000000000003270000000000000000000000000000000000000001000c0 s (State.fwuDiscard s) := by
  unfold State.fwuDiscard
  refine Touch.step ?_ (State.setFwu_touch ..) (by decide +kernel)
  refine Touch.step ?_ (State.fwuDrop_touch ..) (by decide +kernel)
  refine Touch.step ?_ (State.put_touch ..) (by decide +kernel)
  exact Touch.refl _ _

theorem execFwuDiscard_touch (s : State) :
    ∃ t, execFwuDiscard s = .next t ∧ Touch 0x30000000000000000000000000000000000000000000000000000000003270000000000000000000000000000000000000001000c0 s t := by
  refine ⟨_, rfl, ?_⟩
  refine Touch.step ?_ (State.fwuDiscard_touch ..) (by decide +kernel)
  exact Touch.refl _ _

theorem State.fwuCoreUpdate_touch (s : State) (a1 : Bool) :
    Touch 0x300000000000000000000000000000000000000000180c10024000000003e000000000000000000000000c001fffffe000001631c0 s (State.fwuCoreUpdate s a1) := by
  unfold State.fwuCoreUpdate
  extract_lets -merge -useContext +onlyGivenNames v0
  clear_value v0
  extract_lets -merge -useContext +onlyGivenNames v1
  clear_value v1
  refine Touch.ite ?_ ?_
  · exact Touch.refl _ _
  · refine Touch.ite ?_ ?_
    · refine Touch.step ?_ (State.put_touch ..) (by decide +kernel)
      exact Touch.refl _ _
    · refine State.needs_touch ?_ (fun y2 h3 => ?_) (by decide +kernel)
      · exact Touch.refl _ _
      · extract_lets -merge -useContext +onlyGivenNames v4
        refine Touch.cut v4 ?_ (fun h5 => ?_)
        · unfold v4
          refine Touch.step ?_ (State.restartCore_touch ..) (by decide +kernel)
          refine Touch.step ?_ (State.put_touch ..) (by decide +kernel)
          exact h3
        clear_value v4
        extract_lets -merge -useContext +onlyGivenNames v6
        refine Touch.cut v6 ?_ (fun h7 => ?_)
        · unfold v6
          refine Touch.step ?_ (State.modFwu_touch ..) (by decide +kernel)
          exact h5
        clear_value v6
        refine Touch.ite ?_ ?_
        · refine Touch.step ?_ (State.clrBit_touch ..) (by decide +kernel)
          exact h7
        · refine Touch.ite ?_ ?_
          · refine Touch.step ?_ (State.modFwu_touch ..) (by decide +kernel)
            exact h5
          · refine Touch.step ?_ (State.setFwu_touch ..) (by decide +kernel)
            refine Touch.step ?_ (State.put_touch ..) (by decide +kernel)
            refine Touch.step ?_ (State.fwuFault_touch ..) (by decide +kernel)
            exact h7

theorem execFwuCoreUpdate_touch (a0 : Bool) (s : State) :
    ∃ t, execFwuCoreUpdate a0 s = .next t ∧ Touch 0x300000000000000000000000000000000000000000180c10024000000003e000000000000000000000000c001fffffe000001631c0 s t := by
  refine ⟨_, rfl, ?_⟩
  refine Touch.step ?_ (State.fwuCoreUpdate_touch ..) (by decide +kernel)
  exact Touch.refl _ _

theorem State.fwuDone_touch (s : State) :
    Touch 0x30000000000000000000000000000000000000000000000000000000000c60000000000000000000000000000000000000001000c0 s (State.fwuDone s) := by
  unfold State.fwuDone
  extract_lets -merge -useContext +onlyGivenNames v0
  refine Touch.cut v0 ?_ (fun h1 => ?_)
  · unfold v0
    refine Touch.step ?_ (State.put_touch ..) (by decide +kernel)
    refine Touch.step ?_ (State.put_touch ..) (by decide +kernel)
    exact Touch.refl _ _
  clear_value v0
  refine Touch.step ?_ (State.setFwu_touch ..) (by decide +kernel)
  refine Touch.step ?_ (State.put_touch ..) (by decide +kernel)
  refine Touch.step ?_ (State.modFwu_touch ..) (by decide +kernel)
  exact h1

theorem State.fwuServed_touch (s : State) (a1 : ℕ) :
    Touch 0x30000000000000000000000000000000000000000000000000000000000d60000000000000000000000000000000000000001000c0 s (State.fwuServed s a1) := by
  unfold State.fwuServed
  refine Touch.ite ?_ ?_
  · exact Touch.refl _ _
  · refine Touch.ite ?_ ?_
    · refine Touch.ite ?_ ?_
      · exact Touch.refl _ _
      · split
        · refine Touch.step ?_ (State.modFwu_touch ..) (by decide +kernel)
          exact Touch.refl _ _
        · refine Touch.step ?_ (State.setFwu_touch ..) (by decide +kernel)
          refine Touch.step ?_ (State.put_touch ..) (by decide +kernel)
          refine Touch.step ?_ (State.modFwu_touch ..) (by decide +kernel)
          exact Touch.refl _ _
    · refine Touch.ite ?_ ?_
      · exact Touch.refl _ _
      · extract_lets -merge -useContext +onlyGivenNames v0
        refine Touch.cut v0 ?_ (fun h1 => ?_)
        · unfold v0
          refine Touch.step ?_ (State.modFwu_touch ..) (by decide +kernel)
          refine Touch.step ?_ (State.setBit_touch ..) (by decide +kernel)
          exact Touch.refl _ _
        clear_value v0
        refine Touch.ite ?_ ?_
        · refine Touch.step ?_ (State.fwuDone_touch ..) (by decide +kernel)
          exact h1
        · exact h1

end Sys2Proof.Machine
end

