-- ==== Sys2Proof/Laws/TouchHostRows.lean ====
section
/-! SUPPORT. What the operations of Machine/HostRows.lean may change. -/
namespace Sys2Proof.Machine

set_option Elab.async false

theorem State.reqFail_touch (s : State) (a1 : HostReq) :
    Touch 0x180000000003f90100000000000000000006003000000000000000000f101803ffc00202421f00300000000240000000006001800000000000000000000c001fffffe00000bff9b0 s (State.reqFail s a1) := by
  unfold State.reqFail
  split
  · refine Touch.step ?_ (State.stopPair_touch ..) (by decide +kernel)
    exact Touch.refl _ _
  · refine Touch.step ?_ (State.modKim_touch ..) (by decide +kernel)
    exact Touch.refl _ _
  · refine Touch.step ?_ (State.fwuStaged_touch ..) (by decide +kernel)
    exact Touch.refl _ _
  · split
    · refine Touch.step ?_ (State.ioFail_touch ..) (by decide +kernel)
      exact Touch.refl _ _
    · exact Touch.refl _ _
  · refine Touch.step ?_ (State.atsDone_touch ..) (by decide +kernel)
    exact Touch.refl _ _
  · exact Touch.refl _ _
  · exact Touch.refl _ _

theorem State.reqDone_touch (s : State) (a1 : HostReq) (a2 : List Byte) (a3 : Bool) :
    Touch 0x60030000000000000000000000000000000000000000000000000000000000060018020000000000000000000000000000000001041f0 s (State.reqDone s a1 a2 a3) := by
  unfold State.reqDone
  split
  · refine Touch.ite ?_ ?_
    · refine Touch.step ?_ (State.stopPair_touch ..) (by decide +kernel)
      exact Touch.refl _ _
    · refine Touch.step ?_ (State.acceptCommand_touch ..) (by decide +kernel)
      exact Touch.refl _ _
  · refine Touch.ite ?_ ?_
    · refine Touch.step ?_ (State.modKim_touch ..) (by decide +kernel)
      exact Touch.refl _ _
    · refine Touch.step ?_ (State.kimPull_touch ..) (by decide +kernel)
      refine Touch.step ?_ (State.modKim_touch ..) (by decide +kernel)
      exact Touch.refl _ _
  · refine Touch.ite ?_ ?_
    · refine Touch.step ?_ (State.fwuStaged_touch ..) (by decide +kernel)
      exact Touch.refl _ _
    · refine Touch.step ?_ (State.fwuPull_touch ..) (by decide +kernel)
      refine Touch.step ?_ (State.modFwu_touch ..) (by decide +kernel)
      exact Touch.refl _ _
  · refine Touch.step ?_ (State.modAcc_touch ..) (by decide +kernel)
    exact Touch.refl _ _
  · exact Touch.refl _ _
  · exact Touch.refl _ _
  · exact Touch.refl _ _

theorem State.reqData_touch (s : State) (a1 : HostReq) (a2 : List Byte) (a3 : Bool) :
    Touch 0x600300000000000000000000000000000000000000000000000024000000000600180200000000000000000000000000000000017f1f0 s (State.reqData s a1 a2 a3) := by
  unfold State.reqData
  extract_lets -merge -useContext +onlyGivenNames v0
  clear_value v0
  extract_lets -merge -useContext +onlyGivenNames v1
  refine Touch.cut v1 ?_ (fun h2 => ?_)
  · unfold v1
    refine Touch.ite ?_ ?_
    · refine Touch.step ?_ (State.delReq_touch ..) (by decide +kernel)
      exact Touch.refl _ _
    · refine Touch.step ?_ (State.modHost_touch ..) (by decide +kernel)
      exact Touch.refl _ _
  clear_value v1
  split
  · extract_lets -merge -useContext +onlyGivenNames v3
    clear_value v3
    extract_lets -merge -useContext +onlyGivenNames v4
    refine Touch.cut v4 ?_ (fun h5 => ?_)
    · unfold v4
      refine Touch.step ?_ (State.deliver_touch ..) (by decide +kernel)
      exact h2
    clear_value v4
    refine Touch.ite ?_ ?_
    · exact h5
    · refine Touch.step ?_ (State.waitAcc_touch ..) (by decide +kernel)
      refine Touch.step ?_ (State.modAcc_touch ..) (by decide +kernel)
      exact h5
  · refine Touch.ite ?_ ?_
    · refine Touch.step ?_ (State.reqDone_touch ..) (by decide +kernel)
      exact h2
    · exact h2

theorem State.completion_touch (s : State) (a1 : ℕ) (a2 : ℕ) (a3 : List Byte) (a4 : Bool) (a5 : Bool) (a6 : List Byte) :
    Touch 0x49ff8000000000000180000000003f901000000000000000000060030019fe100000000000f101803ffc00202421f00300000000240000000006001802000000000000000000c001fffffe00000bffdf0 s (State.completion s a1 a2 a3 a4 a5 a6) := by
  unfold State.completion
  split
  · refine Touch.step ?_ (State.strayCpl_touch ..) (by decide +kernel)
    exact Touch.refl _ _
  · refine Touch.ite ?_ ?_
    · exact Touch.refl _ _
    · refine Touch.ite ?_ ?_
      · extract_lets -merge -useContext +onlyGivenNames v0
        refine Touch.cut v0 ?_ (fun h1 => ?_)
        · unfold v0
          refine Touch.ite ?_ ?_
          · exact Touch.refl _ _
          · refine Touch.step ?_ (State.bump_touch ..) (by decide +kernel)
            exact Touch.refl _ _
        clear_value v0
        refine Touch.ite ?_ ?_
        · refine Touch.step ?_ (State.delReq_touch ..) (by decide +kernel)
          exact h1
        · refine Touch.step ?_ (State.modHost_touch ..) (by decide +kernel)
          exact h1
      · refine Touch.ite ?_ ?_
        · refine Touch.step ?_ (State.reqFail_touch ..) (by decide +kernel)
          refine Touch.step ?_ (State.delReq_touch ..) (by decide +kernel)
          refine Touch.step ?_ (State.violation_touch ..) (by decide +kernel)
          exact Touch.refl _ _
        · refine Touch.ite ?_ ?_
          · extract_lets -merge -useContext +onlyGivenNames v2
            clear_value v2
            refine Touch.step ?_ (State.reqFail_touch ..) (by decide +kernel)
            refine Touch.step ?_ (State.delReq_touch ..) (by decide +kernel)
            refine Touch.step ?_ (State.modFn_touch ..) (by decide +kernel)
            exact Touch.refl _ _
          · refine Touch.step ?_ (State.reqData_touch ..) (by decide +kernel)
            exact Touch.refl _ _

theorem execCxlioCompletion_touch (a0 : ℕ) (a1 : ℕ) (a2 : List Byte) (a3 : Bool) (a4 : Bool) (a5 : List Byte) (s : State) :
    ∃ t, execCxlioCompletion a0 a1 a2 a3 a4 a5 s = .next t ∧ Touch 0x49ff8000000000000180000000003f901000000000000000000060030019fe100000000000f101803ffc00202421f00300000000240000000006001802000000000000000000c001fffffe00000bffdf0 s t := by
  refine ⟨_, rfl, ?_⟩
  refine Touch.step ?_ (State.settleAll_touch ..) (by decide +kernel)
  refine Touch.step ?_ (State.pumpHost_touch ..) (by decide +kernel)
  refine Touch.step ?_ (State.completion_touch ..) (by decide +kernel)
  exact Touch.refl _ _

theorem State.ctoFire_touch (s : State) (a1 : ℕ) :
    Touch 0x180000000003f90100000000000000000006003000600000000000000f101803ffc00202421f00300000000240000000006001800000000000000000000c001fffffe00000bff9b0 s (State.ctoFire s a1) := by
  unfold State.ctoFire
  split
  · exact Touch.refl _ _
  · refine Touch.ite ?_ ?_
    · exact Touch.refl _ _
    · extract_lets -merge -useContext +onlyGivenNames v0
      refine Touch.cut v0 ?_ (fun h1 => ?_)
      · unfold v0
        refine Touch.step ?_ (State.bump_touch ..) (by decide +kernel)
        refine Touch.step ?_ (State.modHost_touch ..) (by decide +kernel)
        refine Touch.step ?_ (State.delReq_touch ..) (by decide +kernel)
        exact Touch.refl _ _
      clear_value v0
      refine Touch.step ?_ (State.reqFail_touch ..) (by decide +kernel)
      refine Touch.step ?_ (State.aerReport_touch ..) (by decide +kernel)
      exact h1

theorem execCompletionTimeout_touch (a0 : ℕ) (s : State) :
    ∃ t, execCompletionTimeout a0 s = .next t ∧ Touch 0x180000000003f90100000000000000000006003000600000000000000f101803ffc00202421f00300000000240000000006001800000000000000000000c001fffffe00000bff9b0 s t := by
  refine ⟨_, rfl, ?_⟩
  refine Touch.step ?_ (State.settleAll_touch ..) (by decide +kernel)
  refine Touch.step ?_ (State.pumpHost_touch ..) (by decide +kernel)
  refine Touch.step ?_ (State.ctoFire_touch ..) (by decide +kernel)
  exact Touch.refl _ _

theorem execTagHoldExpire_touch (a0 : ℕ) (a1 : Option ℕ) (s : State) :
    ∃ t, execTagHoldExpire a0 a1 s = .next t ∧ Touch 0x110080 s t := by
  refine ⟨_, rfl, ?_⟩
  split
  · refine Touch.step ?_ (State.modDlPort_touch ..) (by decide +kernel)
    exact Touch.refl _ _
  · refine Touch.step ?_ (State.pumpHost_touch ..) (by decide +kernel)
    refine Touch.step ?_ (State.modHost_touch ..) (by decide +kernel)
    exact Touch.refl _ _

theorem State.msixUnmask_touch (s : State) (a1 : ℕ) (a2 : Option ℕ) :
    Touch 0x100080 s (State.msixUnmask s a1 a2) := by
  unfold State.msixUnmask
  split
  · extract_lets -merge -useContext +onlyGivenNames v0
    refine Touch.cut v0 ?_ (fun h1 => ?_)
    · unfold v0
      refine Touch.step ?_ (State.modMsix_touch ..) (by decide +kernel)
      exact Touch.refl _ _
    clear_value v0
    refine Touch.ite ?_ ?_
    · refine Touch.step ?_ (State.msixEvent_touch ..) (by decide +kernel)
      exact h1
    · exact h1
  · refine Touch.step ?_ (State.sendPending_touch ..) (by decide +kernel)
    refine Touch.step ?_ (State.modFn_touch ..) (by decide +kernel)
    exact Touch.refl _ _

theorem execMsixUnmask_touch (a0 : ℕ) (a1 : Option ℕ) (s : State) :
    ∃ t, execMsixUnmask a0 a1 s = .next t ∧ Touch 0x100080 s t := by
  refine ⟨_, rfl, ?_⟩
  refine Touch.step ?_ (State.msixUnmask_touch ..) (by decide +kernel)
  exact Touch.refl _ _

theorem State.intxClear_touch (s : State) :
    Touch 0x3800000000000000000000000000000000000000000000000000000000000000000000000000000000000000000000000000100000 s (State.intxClear s) := by
  unfold State.intxClear
  refine Touch.step ?_ (State.updIntx_touch ..) (by decide +kernel)
  refine Touch.step ?_ (State.put_touch ..) (by decide +kernel)
  refine Touch.step ?_ (State.put_touch ..) (by decide +kernel)
  exact Touch.refl _ _

theorem State.dropPending_touch (s : State) (a1 : ℕ) :
    Touch 0x80 s (State.dropPending s a1) := by
  unfold State.dropPending
  refine Touch.step ?_ (State.modHost_touch ..) (by decide +kernel)
  exact Touch.refl _ _

theorem State.msixEnable_touch (s : State) (a1 : Bool) :
    Touch 0x3800000000000000000000000000000000000000000000000000000000000000000000000000000000000000000000000000100080 s (State.msixEnable s a1) := by
  unfold State.msixEnable
  refine Touch.ite ?_ ?_
  · exact Touch.refl _ _
  · refine Touch.ite ?_ ?_
    · extract_lets -merge -useContext +onlyGivenNames v0
      clear_value v0
      refine Touch.foldl ?_ (fun y1 y2 h3 => ?_)
      · refine Touch.step ?_ (State.modFn_touch ..) (by decide +kernel)
        refine Touch.step ?_ (State.intxClear_touch ..) (by decide +kernel)
        exact Touch.refl _ _
      · refine Touch.step ?_ (State.msixEvent_touch ..) (by decide +kernel)
        exact h3
    · refine Touch.step ?_ (State.dropPending_touch ..) (by decide +kernel)
      refine Touch.step ?_ (State.modFn_touch ..) (by decide +kernel)
      exact Touch.refl _ _

theorem execMsixEnable_touch (a0 : Bool) (s : State) :
    ∃ t, execMsixEnable a0 s = .next t ∧ Touch 0x3800000000000000000000000000000000000000000000000000000000000000000000000000000000000000000000000000100080 s t := by
  refine ⟨_, rfl, ?_⟩
  refine Touch.step ?_ (State.msixEnable_touch ..) (by decide +kernel)
  exact Touch.refl _ _

theorem State.sendHeld_touch (s : State) (a1 : ℕ) :
    Touch 0x49ff8000230002300180000000003f90100000000000000000006003800000000000000000f387803ffc00700021f00300000000240000000000000000000000000000000000c001fffffe00000bfffa0 s (State.sendHeld s a1) := by
  unfold State.sendHeld
  extract_lets -merge -useContext +onlyGivenNames v0
  refine Touch.cut v0 ?_ (fun h1 => ?_)
  · unfold v0
    refine Touch.ite ?_ ?_
    · refine Touch.foldl ?_ (fun y2 y3 h4 => ?_)
      · exact Touch.refl _ _
      · refine Touch.step ?_ (State.sendPending_touch ..) (by decide +kernel)
        exact h4
    · refine Touch.step ?_ (State.sendPending_touch ..) (by decide +kernel)
      exact Touch.refl _ _
  clear_value v0
  refine Touch.step ?_ (State.settleAll_touch ..) (by decide +kernel)
  refine Touch.step ?_ (State.cchPump_touch ..) (by decide +kernel)
  refine Touch.step ?_ (State.ringsPump_touch ..) (by decide +kernel)
  refine Touch.step ?_ (State.pumpHost_touch ..) (by decide +kernel)
  exact h1

theorem execBusMasterEnable_touch (a0 : ℕ) (s : State) :
    ∃ t, execBusMasterEnable a0 s = .next t ∧ Touch 0x49ff8000230002300180000000003f90100000000000000000006003800000000000000000f387803ffc00700021f00300000000240000000000000000000000000000000000c001fffffe00000bfffa0 s t := by
  refine ⟨_, rfl, ?_⟩
  refine Touch.ite ?_ ?_
  · refine Touch.step ?_ (State.sendHeld_touch ..) (by decide +kernel)
    refine Touch.step ?_ (State.modFn_touch ..) (by decide +kernel)
    exact Touch.refl _ _
  · exact Touch.refl _ _

theorem State.quarantineEnd_touch (s : State) :
    Touch 0x3000000100000000000000000000000000000000000000000000000000000000000000000000000000000000000000000000100080 s (State.quarantineEnd s) := by
  unfold State.quarantineEnd
  extract_lets -merge -useContext +onlyGivenNames v0
  refine Touch.cut v0 ?_ (fun h1 => ?_)
  · unfold v0
    refine Touch.step ?_ (State.modHost_touch ..) (by decide +kernel)
    exact Touch.refl _ _
  clear_value v0
  refine Touch.ite ?_ ?_
  · refine Touch.step ?_ (State.globalEvent_touch ..) (by decide +kernel)
    refine Touch.step ?_ (State.put_touch ..) (by decide +kernel)
    exact h1
  · exact h1

theorem State.quarantineRelease_touch (s : State) :
    Touch 0x49ff8000230002300180000000003f90100000000000000000006003800000100000000000f387803ffc00700021f00300000000240000000000000000000000000000000000c001fffffe00000bfffa0 s (State.quarantineRelease s) := by
  unfold State.quarantineRelease
  refine Touch.ite ?_ ?_
  · refine Touch.step ?_ (State.sendHeld_touch ..) (by decide +kernel)
    refine Touch.step ?_ (State.quarantineEnd_touch ..) (by decide +kernel)
    exact Touch.refl _ _
  · exact Touch.refl _ _

theorem execQuarantineRelease_touch (s : State) :
    ∃ t, execQuarantineRelease s = .next t ∧ Touch 0x49ff8000230002300180000000003f90100000000000000000006003800000100000000000f387803ffc00700021f00300000000240000000000000000000000000000000000c001fffffe00000bfffa0 s t := by
  refine ⟨_, rfl, ?_⟩
  refine Touch.step ?_ (State.quarantineRelease_touch ..) (by decide +kernel)
  exact Touch.refl _ _

theorem State.setDstate_touch (s : State) (a1 : ℕ) (a2 : ℕ) :
    Touch 0x400000000000000000000000000000000000000000000000000000000000000000000000000000000000000000000000080 s (State.setDstate s a1 a2) := by
  unfold State.setDstate
  extract_lets -merge -useContext +onlyGivenNames v0
  refine Touch.cut v0 ?_ (fun h1 => ?_)
  · unfold v0
    refine Touch.step ?_ (State.modFn_touch ..) (by decide +kernel)
    exact Touch.refl _ _
  clear_value v0
  refine Touch.ite ?_ ?_
  · refine Touch.step ?_ (State.put_touch ..) (by decide +kernel)
    exact h1
  · exact h1

theorem execD3hotEntry_touch (a0 : ℕ) (s : State) :
    ∃ t, execD3hotEntry a0 s = .next t ∧ Touch 0x400000000000000000000000000000000000000000000000000000000000000000000000000000000000000000000000080 s t := by
  refine ⟨_, rfl, ?_⟩
  refine Touch.ite ?_ ?_
  · refine Touch.step ?_ (State.setDstate_touch ..) (by decide +kernel)
    exact Touch.refl _ _
  · exact Touch.refl _ _

theorem execD0Return_touch (a0 : ℕ) (s : State) :
    ∃ t, execD0Return a0 s = .next t ∧ Touch 0x49ff8000230002300180000000003f90100000000000000000006003800000400000000000f387803ffc00700021f00300000000240000000000000000000000000000000000c001fffffe00000bfffa0 s t := by
  refine ⟨_, rfl, ?_⟩
  refine Touch.ite ?_ ?_
  · refine Touch.step ?_ (State.sendHeld_touch ..) (by decide +kernel)
    refine Touch.step ?_ (State.setDstate_touch ..) (by decide +kernel)
    exact Touch.refl _ _
  · exact Touch.refl _ _

theorem execPmeTurnOff_touch (s : State) :
    ∃ t, execPmeTurnOff s = .next t ∧ Touch 0x49ff8000000000000180000000003f90100000000000000000006003000000000000000000f387803ffc00700021f00300000000240000000000000000000000000000000000c001fffffe00000bffda0 s t := by
  refine ⟨_, rfl, ?_⟩
  refine Touch.ite ?_ ?_
  · refine Touch.step ?_ (State.cchPump_touch ..) (by decide +kernel)
    refine Touch.step ?_ (State.cacheCtl_touch ..) (by decide +kernel)
    refine Touch.step ?_ (State.modHost_touch ..) (by decide +kernel)
    exact Touch.refl _ _
  · exact Touch.refl _ _

theorem execPmeToAck_touch (s : State) :
    ∃ t, execPmeToAck s = .next t ∧ Touch 0x800000000000000000000000000000000000000000000000000000000000000000000000000000000000000000000100000 s t := by
  refine ⟨_, rfl, ?_⟩
  refine Touch.ite ?_ ?_
  · refine Touch.step ?_ (State.put_touch ..) (by decide +kernel)
    refine Touch.step ?_ (State.emit_touch ..) (by decide +kernel)
    exact Touch.refl _ _
  · exact Touch.refl _ _

theorem State.wakeEnd_touch (s : State) :
    Touch 0x20000000000000000000000000000000000000000000000000000000000000000000000000000000000000000000000000000100000 s (State.wakeEnd s) := by
  unfold State.wakeEnd
  refine Touch.ite ?_ ?_
  · refine Touch.step ?_ (State.emit_touch ..) (by decide +kernel)
    refine Touch.step ?_ (State.put_touch ..) (by decide +kernel)
    exact Touch.refl _ _
  · exact Touch.refl _ _

theorem State.wakeSource_touch (s : State) (a1 : ℕ) :
    Touch 0xe0000000000000000000000000000000000000000000000000000000000000000000000000000000000000000000000000000100180 s (State.wakeSource s a1) := by
  unfold State.wakeSource
  extract_lets -merge -useContext +onlyGivenNames v0
  clear_value v0
  refine Touch.ite ?_ ?_
  · exact Touch.refl _ _
  · refine Touch.ite ?_ ?_
    · extract_lets -merge -useContext +onlyGivenNames v1
      refine Touch.cut v1 ?_ (fun h2 => ?_)
      · unfold v1
        refine Touch.step ?_ (State.modFn_touch ..) (by decide +kernel)
        exact Touch.refl _ _
      clear_value v1
      refine Touch.ite ?_ ?_
      · refine Touch.step ?_ (State.emit_touch ..) (by decide +kernel)
        refine Touch.step ?_ (State.bump_touch ..) (by decide +kernel)
        refine Touch.step ?_ (State.put_touch ..) (by decide +kernel)
        exact h2
      · exact h2
    · refine Touch.step ?_ (State.pmeEvent_touch ..) (by decide +kernel)
      exact Touch.refl _ _

theorem execD3coldWake_touch (a0 : ℕ) (s : State) :
    ∃ t, execD3coldWake a0 s = .next t ∧ Touch 0xe0000000000000000000000000000000000000000000000000000000000000000000000000000000000000000000000000000100180 s t := by
  refine ⟨_, rfl, ?_⟩
  refine Touch.step ?_ (State.wakeSource_touch ..) (by decide +kernel)
  exact Touch.refl _ _

theorem State.resetCfg_touch (s : State) (a1 : Bool) :
    Touch 0x80 s (State.resetCfg s a1) := by
  unfold State.resetCfg
  refine Touch.step ?_ (State.modHost_touch ..) (by decide +kernel)
  exact Touch.refl _ _

theorem State.endReqs_touch (s : State) (a1 : HostReq → Bool) (a2 : Requester) :
    Touch 0x3000000000000000000000000000000000000000000000000000000000006000000000000000000000000000000000000000100090 s (State.endReqs s a1 a2) := by
  unfold State.endReqs
  extract_lets -merge -useContext +onlyGivenNames v0
  clear_value v0
  extract_lets -merge -useContext +onlyGivenNames v1
  refine Touch.cut v1 ?_ (fun h2 => ?_)
  · unfold v1
    refine Touch.step ?_ (State.dropReqs_touch ..) (by decide +kernel)
    exact Touch.refl _ _
  clear_value v1
  extract_lets -merge -useContext +onlyGivenNames v3
  refine Touch.cut v3 ?_ (fun h4 => ?_)
  · unfold v3
    refine Touch.ite ?_ ?_
    · refine Touch.step ?_ (State.modKim_touch ..) (by decide +kernel)
      exact h2
    · exact h2
  clear_value v3
  refine Touch.ite ?_ ?_
  · refine Touch.step ?_ (State.fwuStaged_touch ..) (by decide +kernel)
    exact h4
  · exact h4

theorem State.endInvs_touch (s : State) (a1 : ℕ → Bool) (a2 : Bool) :
    Touch 0x104000 s (State.endInvs s a1 a2) := by
  unfold State.endInvs
  extract_lets -merge -useContext +onlyGivenNames v0
  clear_value v0
  extract_lets -merge -useContext +onlyGivenNames v1
  refine Touch.cut v1 ?_ (fun h2 => ?_)
  · unfold v1
    refine Touch.ite ?_ ?_
    · refine Touch.foldl ?_ (fun y3 y4 h5 => ?_)
      · exact Touch.refl _ _
      · refine Touch.step ?_ (State.emit_touch ..) (by decide +kernel)
        exact h5
    · exact Touch.refl _ _
  clear_value v1
  refine Touch.step ?_ (State.modXlat_touch ..) (by decide +kernel)
  exact h2

theorem State.resetFreePages_touch (s : State) :
    Touch 0x3ffffffffffffffffffffffffffffffffffffffffffffffffffffffffffffffffffffffffffffffffffffffffffffffffffffffffffffffffffffffffffffffffffffffffffffffffffffffffffffffff000000 s (State.resetFreePages s) := by
  unfold State.resetFreePages
  refine Touch.foldl ?_ (fun y0 y1 h2 => ?_)
  · exact Touch.refl _ _
  · refine Touch.ite ?_ ?_
    · refine Touch.step ?_ (State.resetCells_touch ..) (by decide +kernel)
      exact h2
    · exact h2

theorem State.resetAllParts_touch (s : State) (a1 : ℕ) :
    Touch 0x49ff8000200002008180000000003f90100000000000000000006003800000000000000000f387803ffc00700021f00300000000240000000000001b08984008000000000000c001fffffe00000bfffa8 s (State.resetAllParts s a1) := by
  unfold State.resetAllParts
  refine Touch.foldl ?_ (fun y0 y1 h2 => ?_)
  · exact Touch.refl _ _
  · refine Touch.step ?_ (State.partReset_touch ..) (by decide +kernel)
    exact h2

theorem State.cacheLost_touch (s : State) :
    Touch 0x49ff80000000000000000000000000000000000000000000000060030000000000000000000300000c000060000000000000000000000000000000000000000000000000000000000000000000010e5a0 s (State.cacheLost s) := by
  unfold State.cacheLost
  extract_lets -merge -useContext +onlyGivenNames v0
  clear_value v0
  extract_lets -merge -useContext +onlyGivenNames v1
  refine Touch.cut v1 ?_ (fun h2 => ?_)
  · unfold v1
    refine Touch.foldl ?_ (fun y3 y4 h5 => ?_)
    · exact Touch.refl _ _
    · refine Touch.step ?_ (State.d2hFail_touch ..) (by decide +kernel)
      exact h5
  clear_value v1
  extract_lets -merge -useContext +onlyGivenNames v6
  refine Touch.cut v6 ?_ (fun h7 => ?_)
  · unfold v6
    refine Touch.foldl ?_ (fun y8 y9 h10 => ?_)
    · exact h2
    · refine Touch.step ?_ (State.modCore_touch ..) (by decide +kernel)
      exact h10
  clear_value v6
  extract_lets -merge -useContext +onlyGivenNames v11
  refine Touch.cut v11 ?_ (fun h12 => ?_)
  · unfold v11
    refine Touch.step ?_ (State.modCch_touch ..) (by decide +kernel)
    exact h7
  clear_value v11
  extract_lets -merge -useContext +onlyGivenNames v13
  refine Touch.cut v13 ?_ (fun h14 => ?_)
  · unfold v13
    refine Touch.step ?_ (State.put_touch ..) (by decide +kernel)
    exact h12
  clear_value v13
  refine Touch.step ?_ (State.flushPump_touch ..) (by decide +kernel)
  refine Touch.foldl ?_ (fun y15 y16 h17 => ?_)
  · exact h14
  · refine Touch.step ?_ (State.put_touch ..) (by decide +kernel)
    exact h17

theorem State.hostDown_touch (s : State) :
    Touch 0x3ffffffffffffffffffffffffffffffffffffffffffffffffffffffffffffffffffffffffffffffffffffffffffffffffffffffffffffffffffffffffffffffffffffffffffffffffffffffffffffffffbfffb8 s (State.hostDown s) := by
  unfold State.hostDown
  refine Touch.ite ?_ ?_
  · exact Touch.refl _ _
  · extract_lets -merge -useContext +onlyGivenNames v0
    refine Touch.cut v0 ?_ (fun h1 => ?_)
    · unfold v0
      refine Touch.step ?_ (State.modPilot_touch ..) (by decide +kernel)
      refine Touch.step ?_ (State.put_touch ..) (by decide +kernel)
      exact Touch.refl _ _
    clear_value v0
    extract_lets -merge -useContext +onlyGivenNames v2
    refine Touch.cut v2 ?_ (fun h3 => ?_)
    · unfold v2
      refine Touch.step ?_ (State.resetAllParts_touch ..) (by decide +kernel)
      refine Touch.step ?_ (State.endReqs_touch ..) (by decide +kernel)
      refine Touch.step ?_ (State.cacheLost_touch ..) (by decide +kernel)
      exact h1
    clear_value v2
    extract_lets -merge -useContext +onlyGivenNames v4
    refine Touch.cut v4 ?_ (fun h5 => ?_)
    · unfold v4
      refine Touch.step ?_ (State.intxClear_touch ..) (by decide +kernel)
      refine Touch.step ?_ (State.modHost_touch ..) (by decide +kernel)
      exact h3
    clear_value v4
    extract_lets -merge -useContext +onlyGivenNames v6
    refine Touch.cut v6 ?_ (fun h7 => ?_)
    · unfold v6
      refine Touch.step ?_ (State.tlbDrop_touch ..) (by decide +kernel)
      refine Touch.step ?_ (State.priReset_touch ..) (by decide +kernel)
      refine Touch.step ?_ (State.endInvs_touch ..) (by decide +kernel)
      exact h5
    clear_value v6
    extract_lets -merge -useContext +onlyGivenNames v8
    refine Touch.cut v8 ?_ (fun h9 => ?_)
    · unfold v8
      refine Touch.step ?_ (State.resetCfg_touch ..) (by decide +kernel)
      refine Touch.step ?_ (State.modXlat_touch ..) (by decide +kernel)
      exact h7
    clear_value v8
    extract_lets -merge -useContext +onlyGivenNames v10
    refine Touch.cut v10 ?_ (fun h11 => ?_)
    · unfold v10
      refine Touch.step ?_ (State.put_touch ..) (by decide +kernel)
      refine Touch.step ?_ (State.put_touch ..) (by decide +kernel)
      refine Touch.step ?_ (State.put_touch ..) (by decide +kernel)
      exact h9
    clear_value v10
    extract_lets -merge -useContext +onlyGivenNames v12
    refine Touch.cut v12 ?_ (fun h13 => ?_)
    · unfold v12
      refine Touch.step ?_ (State.put_touch ..) (by decide +kernel)
      refine Touch.step ?_ (State.put_touch ..) (by decide +kernel)
      refine Touch.step ?_ (State.put_touch ..) (by decide +kernel)
      refine Touch.step ?_ (State.put_touch ..) (by decide +kernel)
      exact h11
    clear_value v12
    refine Touch.step ?_ (State.hotDone_touch ..) (by decide +kernel)
    refine Touch.step ?_ (State.settleAll_touch ..) (by decide +kernel)
    refine Touch.step ?_ (State.cchPump_touch ..) (by decide +kernel)
    refine Touch.step ?_ (State.ember'_touch ..) (by decide +kernel)
    refine Touch.step ?_ (State.resetFreePages_touch ..) (by decide +kernel)
    exact h13

theorem execHostLinkDown_touch (s : State) :
    ∃ t, execHostLinkDown s = .next t ∧ Touch 0x3ffffffffffffffffffffffffffffffffffffffffffffffffffffffffffffffffffffffffffffffffffffffffffffffffffffffffffffffffffffffffffffffffffffffffffffffffffffffffffffffffbfffb8 s t := by
  refine ⟨_, rfl, ?_⟩
  refine Touch.step ?_ (State.hostDown_touch ..) (by decide +kernel)
  exact Touch.refl _ _

theorem State.hostUp_touch (s : State) (a1 : ℕ) (a2 : ℕ) (a3 : ℕ) :
    Touch 0x63c0049ff8000000000000180000000003f90100000000000000000006003000001000000000000f387803ffc00700021f00300000000240000000000000000000000000000000000c001fffffe00000bffda0 s (State.hostUp s a1 a2 a3) := by
  unfold State.hostUp
  extract_lets -merge -useContext +onlyGivenNames v0
  clear_value v0
  refine Touch.ite ?_ ?_
  · exact Touch.refl _ _
  · extract_lets -merge -useContext +onlyGivenNames v1
    refine Touch.cut v1 ?_ (fun h2 => ?_)
    · unfold v1
      refine Touch.step ?_ (State.put_touch ..) (by decide +kernel)
      refine Touch.step ?_ (State.put_touch ..) (by decide +kernel)
      exact Touch.refl _ _
    clear_value v1
    extract_lets -merge -useContext +onlyGivenNames v3
    refine Touch.cut v3 ?_ (fun h4 => ?_)
    · unfold v3
      refine Touch.step ?_ (State.put_touch ..) (by decide +kernel)
      refine Touch.step ?_ (State.put_touch ..) (by decide +kernel)
      exact h2
    clear_value v3
    extract_lets -merge -useContext +onlyGivenNames v5
    refine Touch.cut v5 ?_ (fun h6 => ?_)
    · unfold v5
      refine Touch.step ?_ (State.put_touch ..) (by decide +kernel)
      refine Touch.ite ?_ ?_
      · refine Touch.step ?_ (State.bump_touch ..) (by decide +kernel)
        exact h4
      · exact h4
    clear_value v5
    extract_lets -merge -useContext +onlyGivenNames v7
    refine Touch.cut v7 ?_ (fun h8 => ?_)
    · unfold v7
      refine Touch.step ?_ (State.ember'_touch ..) (by decide +kernel)
      exact h6
    clear_value v7
    refine Touch.step ?_ (State.settleAll_touch ..) (by decide +kernel)
    refine Touch.step ?_ (State.cchPump_touch ..) (by decide +kernel)
    refine Touch.ite ?_ ?_
    · refine Touch.step ?_ (State.emit_touch ..) (by decide +kernel)
      exact h8
    · exact h8

theorem execHostLinkUp_touch (a0 : ℕ) (a1 : ℕ) (a2 : ℕ) (s : State) :
    ∃ t, execHostLinkUp a0 a1 a2 s = .next t ∧ Touch 0x63c0049ff8000000000000180000000003f90100000000000000000006003000001000000000000f387803ffc00700021f00300000000240000000000000000000000000000000000c001fffffe00000bffda0 s t := by
  refine ⟨_, rfl, ?_⟩
  refine Touch.step ?_ (State.hostUp_touch ..) (by decide +kernel)
  exact Touch.refl _ _

theorem State.vfFlr_touch (s : State) (a1 : ℕ) :
    Touch 0x49ff8000200002008180000000003f90100000000000000000006003800000000000000000f387803ffc007000a1f00300000000240000000000001b08984008000000000000c001fffffe00000bfffa8 s (State.vfFlr s a1) := by
  unfold State.vfFlr
  refine Touch.ite ?_ ?_
  · exact Touch.refl _ _
  · extract_lets -merge -useContext +onlyGivenNames v0
    refine Touch.cut v0 ?_ (fun h1 => ?_)
    · unfold v0
      refine Touch.foldl ?_ (fun y2 y3 h4 => ?_)
      · refine Touch.step ?_ (State.dropReqs_touch ..) (by decide +kernel)
        exact Touch.refl _ _
      · refine Touch.step ?_ (State.partReset_touch ..) (by decide +kernel)
        exact h4
    clear_value v0
    extract_lets -merge -useContext +onlyGivenNames v5
    refine Touch.cut v5 ?_ (fun h6 => ?_)
    · unfold v5
      refine Touch.step ?_ (State.modPilot_touch ..) (by decide +kernel)
      refine Touch.step ?_ (State.dropReqs_touch ..) (by decide +kernel)
      exact h1
    clear_value v5
    extract_lets -merge -useContext +onlyGivenNames v7
    refine Touch.cut v7 ?_ (fun h8 => ?_)
    · unfold v7
      refine Touch.step ?_ (State.modXlat_touch ..) (by decide +kernel)
      refine Touch.step ?_ (State.priReset_touch ..) (by decide +kernel)
      refine Touch.step ?_ (State.endInvs_touch ..) (by decide +kernel)
      exact h6
    clear_value v7
    refine Touch.step ?_ (State.modHost_touch ..) (by decide +kernel)
    exact h8

theorem execVfFlr_touch (a0 : ℕ) (s : State) :
    ∃ t, execVfFlr a0 s = .next t ∧ Touch 0x49ff8000200002008180000000003f90100000000000000000006003800000000000000000f387803ffc007000a1f00300000000240000000000001b08984008000000000000c001fffffe00000bfffa8 s t := by
  refine ⟨_, rfl, ?_⟩
  refine Touch.step ?_ (State.settleAll_touch ..) (by decide +kernel)
  refine Touch.step ?_ (State.vfFlr_touch ..) (by decide +kernel)
  exact Touch.refl _ _

theorem State.pfFlr_touch (s : State) :
    Touch 0x3ffffffffffffffffffffffffffffffffffffffffffffffffffffffffffffffffffffffffffffffffffffffffffffffffffffffffffffffffffffffffffffffffffffffffffffffffffffffffffffffffbfffb8 s (State.pfFlr s) := by
  unfold State.pfFlr
  refine Touch.ite ?_ ?_
  · exact Touch.refl _ _
  · extract_lets -merge -useContext +onlyGivenNames v0
    refine Touch.cut v0 ?_ (fun h1 => ?_)
    · unfold v0
      refine Touch.step ?_ (State.resetAllParts_touch ..) (by decide +kernel)
      refine Touch.step ?_ (State.endReqs_touch ..) (by decide +kernel)
      refine Touch.step ?_ (State.quarantineEnd_touch ..) (by decide +kernel)
      exact Touch.refl _ _
    clear_value v0
    extract_lets -merge -useContext +onlyGivenNames v2
    refine Touch.cut v2 ?_ (fun h3 => ?_)
    · unfold v2
      refine Touch.step ?_ (State.intxClear_touch ..) (by decide +kernel)
      refine Touch.step ?_ (State.modPilot_touch ..) (by decide +kernel)
      refine Touch.step ?_ (State.endReqs_touch ..) (by decide +kernel)
      exact h1
    clear_value v2
    extract_lets -merge -useContext +onlyGivenNames v4
    refine Touch.cut v4 ?_ (fun h5 => ?_)
    · unfold v4
      refine Touch.step ?_ (State.tlbDrop_touch ..) (by decide +kernel)
      refine Touch.step ?_ (State.priReset_touch ..) (by decide +kernel)
      refine Touch.step ?_ (State.endInvs_touch ..) (by decide +kernel)
      exact h3
    clear_value v4
    extract_lets -merge -useContext +onlyGivenNames v6
    refine Touch.cut v6 ?_ (fun h7 => ?_)
    · unfold v6
      refine Touch.step ?_ (State.modHost_touch ..) (by decide +kernel)
      refine Touch.step ?_ (State.modXlat_touch ..) (by decide +kernel)
      exact h5
    clear_value v6
    extract_lets -merge -useContext +onlyGivenNames v8
    refine Touch.cut v8 ?_ (fun h9 => ?_)
    · unfold v8
      refine Touch.step ?_ (State.put_touch ..) (by decide +kernel)
      refine Touch.step ?_ (State.resetCfg_touch ..) (by decide +kernel)
      exact h7
    clear_value v8
    extract_lets -merge -useContext +onlyGivenNames v10
    refine Touch.cut v10 ?_ (fun h11 => ?_)
    · unfold v10
      refine Touch.ite ?_ ?_
      · refine Touch.step ?_ (State.cacheFault_touch ..) (by decide +kernel)
        exact h9
      · exact h9
    clear_value v10
    extract_lets -merge -useContext +onlyGivenNames v12
    refine Touch.cut v12 ?_ (fun h13 => ?_)
    · unfold v12
      refine Touch.ite ?_ ?_
      · refine Touch.step ?_ (State.flushStart_touch ..) (by decide +kernel)
        refine Touch.step ?_ (State.setScope_touch ..) (by decide +kernel)
        exact h11
      · refine Touch.step ?_ (State.resetScope_touch ..) (by decide +kernel)
        exact h9
    clear_value v12
    refine Touch.step ?_ (State.settleAll_touch ..) (by decide +kernel)
    refine Touch.step ?_ (State.cchPump_touch ..) (by decide +kernel)
    refine Touch.step ?_ (State.resetFreePages_touch ..) (by decide +kernel)
    exact h13

theorem execPfFlr_touch (s : State) :
    ∃ t, execPfFlr s = .next t ∧ Touch 0x3ffffffffffffffffffffffffffffffffffffffffffffffffffffffffffffffffffffffffffffffffffffffffffffffffffffffffffffffffffffffffffffffffffffffffffffffffffffffffffffffffbfffb8 s t := by
  refine ⟨_, rfl, ?_⟩
  refine Touch.step ?_ (State.pfFlr_touch ..) (by decide +kernel)
  exact Touch.refl _ _

theorem State.flrComplete_touch (s : State) (a1 : ℕ) :
    Touch 0x49ff8000000000000000000000000000000000000000000000001f0300000000000000000000000000000000000000000000000000000000000000000000000000000000c000000000000000000100588 s (State.flrComplete s a1) := by
  unfold State.flrComplete
  extract_lets -merge -useContext +onlyGivenNames v0
  clear_value v0
  refine Touch.ite ?_ ?_
  · exact Touch.refl _ _
  · extract_lets -merge -useContext +onlyGivenNames v1
    refine Touch.cut v1 ?_ (fun h2 => ?_)
    · unfold v1
      refine Touch.step ?_ (State.modPilot_touch ..) (by decide +kernel)
      exact Touch.refl _ _
    clear_value v1
    refine Touch.ite ?_ ?_
    · refine Touch.step ?_ (State.scopeDone_touch ..) (by decide +kernel)
      refine Touch.step ?_ (State.bump_touch ..) (by decide +kernel)
      exact h2
    · refine Touch.step ?_ (State.scopeDone_touch ..) (by decide +kernel)
      refine Touch.step ?_ (State.put_touch ..) (by decide +kernel)
      refine Touch.step ?_ (State.bump_touch ..) (by decide +kernel)
      exact h2

theorem execFlrComplete_touch (a0 : ℕ) (s : State) :
    ∃ t, execFlrComplete a0 s = .next t ∧ Touch 0x49ff8000000000000180000000003f90100000000000000000007f03000000000000000000f101803ffc00200021f0030000000024000000000000000000000000000000c000c001fffffe00000bffda8 s t := by
  refine ⟨_, rfl, ?_⟩
  refine Touch.step ?_ (State.settleAll_touch ..) (by decide +kernel)
  refine Touch.step ?_ (State.flrComplete_touch ..) (by decide +kernel)
  exact Touch.refl _ _

theorem execVfEnableSet_touch (s : State) :
    ∃ t, execVfEnableSet s = .next t ∧ Touch 0x100080 s t := by
  refine ⟨_, rfl, ?_⟩
  refine Touch.ite ?_ ?_
  · exact Touch.refl _ _
  · refine Touch.step ?_ (State.pumpHost_touch ..) (by decide +kernel)
    refine Touch.step ?_ (State.modFn_touch ..) (by decide +kernel)
    exact Touch.refl _ _

theorem State.vfEnableClear_touch (s : State) :
    Touch 0x49ff8000200002008180000000003f90100000000000000000006003800000000000000000f387803ffc007000a1f00300000000240000000000001b08984008000000000000c001fffffe00000bfffa8 s (State.vfEnableClear s) := by
  unfold State.vfEnableClear
  refine Touch.ite ?_ ?_
  · exact Touch.refl _ _
  · extract_lets -merge -useContext +onlyGivenNames v0
    refine Touch.cut v0 ?_ (fun h1 => ?_)
    · unfold v0
      refine Touch.foldl ?_ (fun y2 y3 h4 => ?_)
      · exact Touch.refl _ _
      · refine Touch.ite ?_ ?_
        · exact h4
        · refine Touch.step ?_ (State.vfFlr_touch ..) (by decide +kernel)
          exact h4
    clear_value v0
    refine Touch.step ?_ (State.modHost_touch ..) (by decide +kernel)
    refine Touch.step ?_ (State.modFn_touch ..) (by decide +kernel)
    exact h1

theorem execVfEnableClear_touch (s : State) :
    ∃ t, execVfEnableClear s = .next t ∧ Touch 0x49ff8000200002008180000000003f90100000000000000000006003800000000000000000f387803ffc007000a1f00300000000240000000000001b08984008000000000000c001fffffe00000bfffa8 s t := by
  refine ⟨_, rfl, ?_⟩
  refine Touch.step ?_ (State.settleAll_touch ..) (by decide +kernel)
  refine Touch.step ?_ (State.vfEnableClear_touch ..) (by decide +kernel)
  exact Touch.refl _ _

theorem execUnsupportedMessage_touch (a0 : Bool) (a1 : List Byte) (s : State) :
    ∃ t, execUnsupportedMessage a0 a1 s = .next t ∧ Touch 0x49ff80000000000000000000000000000000000000000000000000030001fe100000000000000000000000000000000000000000000000000000000000000000000000000000000000000000000100580 s t := by
  refine ⟨_, rfl, ?_⟩
  refine Touch.step ?_ (State.violation_touch ..) (by decide +kernel)
  exact Touch.refl _ _

end Sys2Proof.Machine
end

