-- ==== Sys2Proof/Laws/TouchPower.lean ====
section
/-! SUPPORT. What the operations of Machine/Power.lean may change. -/
namespace Sys2Proof.Machine

set_option Elab.async false

theorem State.limitsSet_touch (s : State) (a1 : Bool) :
    Touch 0x49ff800000000000000000000000000000000000000000000000000300000000000000000000000000000000000000000000000000000000000000000000000000000000020000ec00000000000100580 s (State.limitsSet s a1) := by
  unfold State.limitsSet
  extract_lets -merge -useContext +onlyGivenNames v0
  clear_value v0
  extract_lets -merge -useContext +onlyGivenNames v1
  clear_value v1
  extract_lets -merge -useContext +onlyGivenNames v2
  clear_value v2
  extract_lets -merge -useContext +onlyGivenNames v3
  refine Touch.cut v3 ?_ (fun h4 => ?_)
  · unfold v3
    refine Touch.step ?_ (State.put_touch ..) (by decide +kernel)
    refine Touch.step ?_ (State.put_touch ..) (by decide +kernel)
    refine Touch.step ?_ (State.put_touch ..) (by decide +kernel)
    exact Touch.refl _ _
  clear_value v3
  extract_lets -merge -useContext +onlyGivenNames v5
  refine Touch.cut v5 ?_ (fun h6 => ?_)
  · unfold v5
    refine Touch.ite ?_ ?_
    · refine Touch.step ?_ (State.bump_touch ..) (by decide +kernel)
      refine Touch.step ?_ (State.put_touch ..) (by decide +kernel)
      exact h4
    · exact h4
  clear_value v5
  extract_lets -merge -useContext +onlyGivenNames v7
  refine Touch.cut v7 ?_ (fun h8 => ?_)
  · unfold v7
    refine Touch.ite ?_ ?_
    · refine Touch.step ?_ (State.powerRec_touch ..) (by decide +kernel)
      exact h6
    · exact h6
  clear_value v7
  refine Touch.ite ?_ ?_
  · refine Touch.step ?_ (State.powerRec_touch ..) (by decide +kernel)
    exact h8
  · exact h8

theorem State.throttle_touch (s : State) :
    Touch 0x49ff800000000000000000000000000000000000000000000000000300000000000000000000000000000000000000000000000000000000000000000000000000000000020000ec00000000000100588 s (State.throttle s) := by
  unfold State.throttle
  extract_lets -merge -useContext +onlyGivenNames v0
  refine Touch.cut v0 ?_ (fun h1 => ?_)
  · unfold v0
    refine Touch.ite ?_ ?_
    · refine Touch.step ?_ (State.modPilot_touch ..) (by decide +kernel)
      exact Touch.refl _ _
    · refine Touch.step ?_ (State.modPilot_touch ..) (by decide +kernel)
      exact Touch.refl _ _
  clear_value v0
  refine Touch.step ?_ (State.limitsSet_touch ..) (by decide +kernel)
  exact h1

theorem execThrottleStep_touch (s : State) :
    ∃ t, execThrottleStep s = .next t ∧ Touch 0x49ff800000000000000000000000000000000000000000000000000300000000000000000000000000000000000000000000000000000000000000000000000000000000020000ec00000000000100588 s t := by
  refine ⟨_, rfl, ?_⟩
  refine Touch.step ?_ (State.throttle_touch ..) (by decide +kernel)
  exact Touch.refl _ _

theorem State.thermalStep_touch (s : State) :
    Touch 0x49ff800000000000000000000000000000000000000000000000000300000000000000000000000000000000000000000000000000000000000000000000000000000000020000ec00000000000100588 s (State.thermalStep s) := by
  unfold State.thermalStep
  extract_lets -merge -useContext +onlyGivenNames v0
  refine Touch.cut v0 ?_ (fun h1 => ?_)
  · unfold v0
    refine Touch.ite ?_ ?_
    · refine Touch.step ?_ (State.modPilot_touch ..) (by decide +kernel)
      exact Touch.refl _ _
    · refine Touch.step ?_ (State.modPilot_touch ..) (by decide +kernel)
      exact Touch.refl _ _
  clear_value v0
  refine Touch.step ?_ (State.limitsSet_touch ..) (by decide +kernel)
  exact h1

theorem execThermalThrottleStep_touch (s : State) :
    ∃ t, execThermalThrottleStep s = .next t ∧ Touch 0x49ff800000000000000000000000000000000000000000000000000300000000000000000000000000000000000000000000000000000000000000000000000000000000020000ec00000000000100588 s t := by
  refine ⟨_, rfl, ?_⟩
  refine Touch.step ?_ (State.thermalStep_touch ..) (by decide +kernel)
  exact Touch.refl _ _

theorem execThrottleTemperatureReached_touch (s : State) :
    ∃ t, execThrottleTemperatureReached s = .next t ∧ Touch 0x49ff800000000000000000000000000000000000000000000000000300000000000000000000000000000000000000000000000000000000000000000000000000000000020000ec00000000000100588 s t := by
  refine ⟨_, rfl, ?_⟩
  refine Touch.step ?_ (State.thermalStep_touch ..) (by decide +kernel)
  exact Touch.refl _ _

theorem execThermalLimitLift_touch (s : State) :
    ∃ t, execThermalLimitLift s = .next t ∧ Touch 0x49ff800000000000000000000000000000000000000000000000000300000000000000000000000000000000000000000000000000000000000000000000000000000000020000ec00000000000100588 s t := by
  refine ⟨_, rfl, ?_⟩
  refine Touch.step ?_ (State.limitsSet_touch ..) (by decide +kernel)
  refine Touch.ite ?_ ?_
  · refine Touch.step ?_ (State.modPilot_touch ..) (by decide +kernel)
    exact Touch.refl _ _
  · refine Touch.step ?_ (State.modPilot_touch ..) (by decide +kernel)
    exact Touch.refl _ _

theorem State.powerLift_touch (s : State) :
    Touch 0x49ff800000000000000000000000000000000000000000000000000300000000000000000000000000000000000000000000000000000000000000000000000000000000020000ec00000000000100588 s (State.powerLift s) := by
  unfold State.powerLift
  refine Touch.step ?_ (State.limitsSet_touch ..) (by decide +kernel)
  refine Touch.ite ?_ ?_
  · refine Touch.step ?_ (State.modPilot_touch ..) (by decide +kernel)
    exact Touch.refl _ _
  · refine Touch.step ?_ (State.modPilot_touch ..) (by decide +kernel)
    exact Touch.refl _ _

theorem State.setProchot_touch (s : State) (a1 : Bool) :
    Touch 0x49ff800000000000000000000000000000000000000000000000000300000000000000000000000000000000000000000000000000000000000000000000000000000000020000fc00000000000100584 s (State.setProchot s a1) := by
  unfold State.setProchot
  refine Touch.ite ?_ ?_
  · exact Touch.refl _ _
  · extract_lets -merge -useContext +onlyGivenNames v0
    clear_value v0
    extract_lets -merge -useContext +onlyGivenNames v1
    refine Touch.cut v1 ?_ (fun h2 => ?_)
    · unfold v1
      refine Touch.step ?_ (Touch.pinsWith _ _) (by decide +kernel)
      exact Touch.refl _ _
    clear_value v1
    refine Touch.step ?_ (State.limitsSet_touch ..) (by decide +kernel)
    refine Touch.step ?_ (State.powerRec_touch ..) (by decide +kernel)
    refine Touch.step ?_ (State.put_touch ..) (by decide +kernel)
    exact h2

theorem execProchotAssert_touch (s : State) :
    ∃ t, execProchotAssert s = .next t ∧ Touch 0x49ff800000000000000000000000000000000000000000000000000300000000000000000000000000000000000000000000000000000000000000000000000000000000020000fc00000000000100584 s t := by
  refine ⟨_, rfl, ?_⟩
  refine Touch.step ?_ (State.setProchot_touch ..) (by decide +kernel)
  exact Touch.refl _ _

theorem execProchotRelease_touch (s : State) :
    ∃ t, execProchotRelease s = .next t ∧ Touch 0x49ff800000000000000000000000000000000000000000000000000300000000000000000000000000000000000000000000000000000000000000000000000000000000020000fc00000000000100584 s t := by
  refine ⟨_, rfl, ?_⟩
  refine Touch.step ?_ (State.setProchot_touch ..) (by decide +kernel)
  exact Touch.refl _ _

theorem execAvsFail_touch (a0 : ℕ) (a1 : ℕ) (s : State) :
    ∃ t, execAvsFail a0 a1 s = .next t ∧ Touch 0x49ff800000000000000000000000000000000000000000000000000300000000000000000000000000000000000000000000000000000000000000000000000000000000020000ec00000000000100588 s t := by
  refine ⟨_, rfl, ?_⟩
  refine Touch.step ?_ (State.powerRec_touch ..) (by decide +kernel)
  refine Touch.step ?_ (State.limitsSet_touch ..) (by decide +kernel)
  refine Touch.step ?_ (State.modPilot_touch ..) (by decide +kernel)
  exact Touch.refl _ _

theorem State.stopMain_touch (s : State) (powered : Bool) : Touch 0x3ffffffffffffffffffffffffffffffffffffffffffffffffffffffffffffffffffffffffffffffffffffffffffffffffffffffffffffffffffffffffffffffffffffffffffffffffffffffffffffffffaffff8 s (s.stopMain powered) := by
  unfold State.stopMain
  extract_lets e0 t0 t1
  refine Touch.cut t0 ?_ (fun h0 => ?_)
  · exact {
      get := fun f i h => absurd h (by
        have := allFields_bit f
        simp only [Bool.not_eq_false]
        have hm : allFields ||| 0x3ffffffffffffffffffffffffffffffffffffffffffffffffffffffffffffffffffffffffffffffffffffffffffffffffffffffffffffffffffffffffffffffffffffffffffffffffffffffffffffffffaffff8 = 0x3ffffffffffffffffffffffffffffffffffffffffffffffffffffffffffffffffffffffffffffffffffffffffffffffffffffffffffffffffffffffffffffffffffffffffffffffffffffffffffffffffaffff8 := by decide +kernel
        rw [← hm, Nat.testBit_or, this]; rfl)
      fuses := fun _ => rfl
      pins := fun _ => rfl
      pilot := fun h => absurd h (by decide +kernel)
      kim := fun h => absurd h (by decide +kernel)
      parts := fun h => absurd h (by decide +kernel)
      fwu := fun h => absurd h (by decide +kernel)
      host := fun h => absurd h (by decide +kernel)
      faultQ := fun h => absurd h (by decide +kernel)
      rings := fun h => absurd h (by decide +kernel)
      ember := fun h => absurd h (by decide +kernel)
      tiles := fun h => absurd h (by decide +kernel)
      cores := fun h => absurd h (by decide +kernel)
      xlat := fun h => absurd h (by decide +kernel)
      cch := fun h => absurd h (by decide +kernel)
      dl := fun h => absurd h (by decide +kernel)
      fab := fun h => absurd h (by decide +kernel)
      seqs := fun h => absurd h (by decide +kernel)
      twin := fun h => absurd h (by decide +kernel)
      mem := fun h => absurd h (by decide +kernel)
      cells := fun h => absurd h (by decide +kernel)
      sent := fun _ => rfl
      drawn := fun _ => rfl
      out := List.suffix_refl _
      freeCtr := Nat.le_refl _
      pending := rfl
      fieldsOk := fun h => cellsAbove_filter _ h
      memOk := fun h => by
        show (if powered then s.mem.cells else []).wf = true
        split
        · exact h
        · rfl }
  clear_value t0
  refine Touch.cut t1 ?_ (fun h1 => ?_)
  · refine Touch.step ?_ (State.undefine_touch ..) (by decide +kernel)
    exact h0.step (State.undefine_touch ..) (by decide +kernel)
  refine Touch.step ?_ (State.put_touch ..) (by decide +kernel)
  refine Touch.step ?_ (State.put_touch ..) (by decide +kernel)
  exact h1.step (State.put_touch ..) (by decide +kernel)

theorem State.mainStart_touch (s : State) :
    Touch 0x8 s (State.mainStart s) := by
  unfold State.mainStart
  refine Touch.ite ?_ ?_
  · split
    · refine Touch.step ?_ (State.modPilot_touch ..) (by decide +kernel)
      exact Touch.refl _ _
    · refine Touch.step ?_ (State.modPilot_touch ..) (by decide +kernel)
      exact Touch.refl _ _
  · exact Touch.refl _ _

theorem State.warmReset_touch (s : State) (a1 : ℕ) :
    Touch 0x3ffffffffffffffffffffffffffffffffffffffffffffffffffffffffffffffffffffffffffffffffffffffffffffffffffffffffffffffffffffffffffffffffffffffffffffffffffffffffffffffffaffff8 s (State.warmReset s a1) := by
  unfold State.warmReset
  refine Touch.step ?_ (State.mainStart_touch ..) (by decide +kernel)
  refine Touch.step ?_ (State.modPilot_touch ..) (by decide +kernel)
  refine Touch.step ?_ (State.stopMain_touch ..) (by decide +kernel)
  exact Touch.refl _ _

theorem State.stopUntilRise_touch (s : State) (a1 : ℕ) (a2 : Bool) :
    Touch 0x3ffffffffffffffffffffffffffffffffffffffffffffffffffffffffffffffffffffffffffffffffffffffffffffffffffffffffffffffffffffffffffffffffffffffffffffffffffffffffffffffffaffff8 s (State.stopUntilRise s a1 a2) := by
  unfold State.stopUntilRise
  refine Touch.step ?_ (State.modPilot_touch ..) (by decide +kernel)
  refine Touch.step ?_ (State.stopMain_touch ..) (by decide +kernel)
  exact Touch.refl _ _

theorem execMainPwrOkRise_touch (s : State) :
    ∃ t, execMainPwrOkRise s = .next t ∧ Touch 0xc s t := by
  refine ⟨_, rfl, ?_⟩
  refine Touch.step ?_ (State.mainStart_touch ..) (by decide +kernel)
  refine Touch.step ?_ (Touch.pinsWith _ _) (by decide +kernel)
  exact Touch.refl _ _

theorem State.mainFall_touch (s : State) :
    Touch 0x3ffffffffffffffffffffffffffffffffffffffffffffffffffffffffffffffffffffffffffffffffffffffffffffffffffffffffffffffffffffffffffffffffffffffffffffffffffffffffffffffffbffffc s (State.mainFall s) := by
  unfold State.mainFall
  extract_lets -merge -useContext +onlyGivenNames v0
  clear_value v0
  extract_lets -merge -useContext +onlyGivenNames v1
  refine Touch.cut v1 ?_ (fun h2 => ?_)
  · unfold v1
    refine Touch.step ?_ (Touch.pinsWith _ _) (by decide +kernel)
    exact Touch.refl _ _
  clear_value v1
  split
  · exact h2
  · exact h2
  · refine Touch.ite ?_ ?_
    · refine Touch.step ?_ (State.modPilot_touch ..) (by decide +kernel)
      refine Touch.step ?_ (State.stopUntilRise_touch ..) (by decide +kernel)
      exact h2
    · refine Touch.step ?_ (State.stopUntilRise_touch ..) (by decide +kernel)
      refine Touch.step ?_ (State.acceptFault_touch ..) (by decide +kernel)
      refine Touch.step ?_ (State.put_touch ..) (by decide +kernel)
      exact h2
  · refine Touch.ite ?_ ?_
    · refine Touch.step ?_ (State.modPilot_touch ..) (by decide +kernel)
      exact h2
    · exact h2
  · refine Touch.step ?_ (State.modPilot_touch ..) (by decide +kernel)
    refine Touch.step ?_ (State.stopMain_touch ..) (by decide +kernel)
    exact h2

theorem execMainPwrOkFall_touch (s : State) :
    ∃ t, execMainPwrOkFall s = .next t ∧ Touch 0x3ffffffffffffffffffffffffffffffffffffffffffffffffffffffffffffffffffffffffffffffffffffffffffffffffffffffffffffffffffffffffffffffffffffffffffffffffffffffffffffffffbffffc s t := by
  refine ⟨_, rfl, ?_⟩
  refine Touch.step ?_ (State.mainFall_touch ..) (by decide +kernel)
  exact Touch.refl _ _

theorem State.perstAssert_touch (s : State) :
    Touch 0x3ffffffffffffffffffffffffffffffffffffffffffffffffffffffffffffffffffffffffffffffffffffffffffffffffffffffffffffffffffffffffffffffffffffffffffffffffffffffffffffffffaffffc s (State.perstAssert s) := by
  unfold State.perstAssert
  extract_lets -merge -useContext +onlyGivenNames v0
  clear_value v0
  extract_lets -merge -useContext +onlyGivenNames v1
  refine Touch.cut v1 ?_ (fun h2 => ?_)
  · unfold v1
    refine Touch.step ?_ (Touch.pinsWith _ _) (by decide +kernel)
    exact Touch.refl _ _
  clear_value v1
  refine Touch.ite ?_ ?_
  · extract_lets -merge -useContext +onlyGivenNames v3
    clear_value v3
    refine Touch.step ?_ (State.modPilot_touch ..) (by decide +kernel)
    refine Touch.step ?_ (State.stopMain_touch ..) (by decide +kernel)
    exact h2
  · exact h2

theorem execPerstAssert_touch (s : State) :
    ∃ t, execPerstAssert s = .next t ∧ Touch 0x3ffffffffffffffffffffffffffffffffffffffffffffffffffffffffffffffffffffffffffffffffffffffffffffffffffffffffffffffffffffffffffffffffffffffffffffffffffffffffffffffffaffffc s t := by
  refine ⟨_, rfl, ?_⟩
  refine Touch.step ?_ (State.perstAssert_touch ..) (by decide +kernel)
  exact Touch.refl _ _

theorem execPerstDeassert_touch (s : State) :
    ∃ t, execPerstDeassert s = .next t ∧ Touch 0x2000000000000000000000000000000000000000000000000000000000000000000000000000000000000000000000000000010000c s t := by
  refine ⟨_, rfl, ?_⟩
  refine Touch.step ?_ (State.mainStart_touch ..) (by decide +kernel)
  refine Touch.step ?_ (State.modPilot_touch ..) (by decide +kernel)
  refine Touch.step ?_ (State.wakeEnd_touch ..) (by decide +kernel)
  refine Touch.step ?_ (Touch.pinsWith _ _) (by decide +kernel)
  exact Touch.refl _ _

theorem State.rstReqWarm_touch (s : State) :
    Touch 0x3ffffffffffffffffffffffffffffffffffffffffffffffffffffffffffffffffffffffffffffffffffffffffffffffffffffffffffffffffffffffffffffffffffffffffffffffffffffffffffffffffaffff8 s (State.rstReqWarm s) := by
  unfold State.rstReqWarm
  refine Touch.ite ?_ ?_
  · refine Touch.step ?_ (State.warmReset_touch ..) (by decide +kernel)
    exact Touch.refl _ _
  · exact Touch.refl _ _

theorem execRstReqWarm_touch (s : State) :
    ∃ t, execRstReqWarm s = .next t ∧ Touch 0x3ffffffffffffffffffffffffffffffffffffffffffffffffffffffffffffffffffffffffffffffffffffffffffffffffffffffffffffffffffffffffffffffffffffffffffffffffffffffffffffffffaffff8 s t := by
  refine ⟨_, rfl, ?_⟩
  refine Touch.step ?_ (State.rstReqWarm_touch ..) (by decide +kernel)
  exact Touch.refl _ _

theorem execSidebandWarmRequest_touch (s : State) :
    ∃ t, execSidebandWarmRequest s = .next t ∧ Touch 0x3ffffffffffffffffffffffffffffffffffffffffffffffffffffffffffffffffffffffffffffffffffffffffffffffffffffffffffffffffffffffffffffffffffffffffffffffffffffffffffffffffaffff8 s t := by
  refine ⟨_, rfl, ?_⟩
  refine Touch.ite ?_ ?_
  · refine Touch.step ?_ (State.warmReset_touch ..) (by decide +kernel)
    refine Touch.step ?_ (State.onBus_touch ..) (by decide +kernel)
    exact Touch.refl _ _
  · exact Touch.refl _ _

theorem State.kick_touch (s : State) :
    Touch 0x8 s (State.kick s) := by
  unfold State.kick
  refine Touch.step ?_ (State.modPilot_touch ..) (by decide +kernel)
  exact Touch.refl _ _

theorem execKick_touch (s : State) :
    ∃ t, execKick s = .next t ∧ Touch 0x8 s t := by
  refine ⟨_, rfl, ?_⟩
  refine Touch.step ?_ (State.kick_touch ..) (by decide +kernel)
  exact Touch.refl _ _

theorem State.provWatchdog_touch (s : State) :
    Touch 0x3ffffffffffffffffffffffffffffffffffffffffffffffffffffffffffffffffffffffffffffffffffffffffffffffffffffffffffffffffffffffffffffffffffffffffffffffffffffffffffffffffbffff8 s (State.provWatchdog s) := by
  unfold State.provWatchdog
  extract_lets -merge -useContext +onlyGivenNames v0
  clear_value v0
  refine Touch.ite ?_ ?_
  · refine Touch.step ?_ (State.warmReset_touch ..) (by decide +kernel)
    refine Touch.step ?_ (State.acceptFault_touch ..) (by decide +kernel)
    exact Touch.refl _ _
  · exact Touch.refl _ _

theorem execProvWatchdog_touch (s : State) :
    ∃ t, execProvWatchdog s = .next t ∧ Touch 0x3ffffffffffffffffffffffffffffffffffffffffffffffffffffffffffffffffffffffffffffffffffffffffffffffffffffffffffffffffffffffffffffffffffffffffffffffffffffffffffffffffbffff8 s t := by
  refine ⟨_, rfl, ?_⟩
  refine Touch.step ?_ (State.provWatchdog_touch ..) (by decide +kernel)
  exact Touch.refl _ _

theorem State.setTrip_touch (s : State) (a1 : Bool) :
    Touch 0x100004 s (State.setTrip s a1) := by
  unfold State.setTrip
  refine Touch.step ?_ (State.emit_touch ..) (by decide +kernel)
  refine Touch.step ?_ (Touch.pinsWith _ _) (by decide +kernel)
  exact Touch.refl _ _

theorem State.thermalTrip_touch (s : State) :
    Touch 0x3ffffffffffffffffffffffffffffffffffffffffffffffffffffffffffffffffffffffffffffffffffffffffffffffffffffffffffffffffffffffffffffffffffffffffffffffffffffffffffffffffbffffc s (State.thermalTrip s) := by
  unfold State.thermalTrip
  refine Touch.ite ?_ ?_
  · exact Touch.refl _ _
  · split
    · exact Touch.refl _ _
    · exact Touch.refl _ _
    · exact Touch.refl _ _
    · refine Touch.step ?_ (State.stopUntilRise_touch ..) (by decide +kernel)
      refine Touch.step ?_ (State.acceptFault_touch ..) (by decide +kernel)
      refine Touch.step ?_ (State.setTrip_touch ..) (by decide +kernel)
      exact Touch.refl _ _

theorem execThermalTrip_touch (s : State) :
    ∃ t, execThermalTrip s = .next t ∧ Touch 0x3ffffffffffffffffffffffffffffffffffffffffffffffffffffffffffffffffffffffffffffffffffffffffffffffffffffffffffffffffffffffffffffffffffffffffffffffffffffffffffffffffbffffc s t := by
  refine ⟨_, rfl, ?_⟩
  refine Touch.step ?_ (State.thermalTrip_touch ..) (by decide +kernel)
  exact Touch.refl _ _

theorem execThermTripRelease_touch (s : State) :
    ∃ t, execThermTripRelease s = .next t ∧ Touch 0x100004 s t := by
  refine ⟨_, rfl, ?_⟩
  refine Touch.ite ?_ ?_
  · refine Touch.step ?_ (State.setTrip_touch ..) (by decide +kernel)
    exact Touch.refl _ _
  · exact Touch.refl _ _

theorem execPilotPwrOkRise_touch (s : State) :
    ∃ t, execPilotPwrOkRise s = .next t ∧ Touch 0x3ffffffffffffffffffffffffffffffffffffffffffffffffffffffffffffffffffffffffffffffffffffffffffffffffffffffffffffffffffffffffffffffffffffffffffffffffffffffffffffffffaffffc s t := by
  refine ⟨_, rfl, ?_⟩
  refine Touch.ite (Touch.refl _ _) ?_
  extract_lets t0
  refine Touch.step (Touch.step (u := t0) ?_ (State.undefine_touch ..) (by decide +kernel)) (State.undefine_touch ..) (by decide +kernel)
  exact {
      get := fun f i h => absurd h (by
        have := allFields_bit f
        simp only [Bool.not_eq_false]
        have hm : allFields ||| 0x3ffffffffffffffffffffffffffffffffffffffffffffffffffffffffffffffffffffffffffffffffffffffffffffffffffffffffffffffffffffffffffffffffffffffffffffffffffffffffffffffffaffffc = 0x3ffffffffffffffffffffffffffffffffffffffffffffffffffffffffffffffffffffffffffffffffffffffffffffffffffffffffffffffffffffffffffffffffffffffffffffffffffffffffffffffffaffffc := by decide +kernel
        rw [← hm, Nat.testBit_or, this]; rfl)
      fuses := fun _ => rfl
      pins := fun h => absurd h (by decide +kernel)
      pilot := fun h => absurd h (by decide +kernel)
      kim := fun h => absurd h (by decide +kernel)
      parts := fun h => absurd h (by decide +kernel)
      fwu := fun h => absurd h (by decide +kernel)
      host := fun h => absurd h (by decide +kernel)
      faultQ := fun h => absurd h (by decide +kernel)
      rings := fun h => absurd h (by decide +kernel)
      ember := fun h => absurd h (by decide +kernel)
      tiles := fun h => absurd h (by decide +kernel)
      cores := fun h => absurd h (by decide +kernel)
      xlat := fun h => absurd h (by decide +kernel)
      cch := fun h => absurd h (by decide +kernel)
      dl := fun h => absurd h (by decide +kernel)
      fab := fun h => absurd h (by decide +kernel)
      seqs := fun h => absurd h (by decide +kernel)
      twin := fun h => absurd h (by decide +kernel)
      mem := fun h => absurd h (by decide +kernel)
      cells := fun h => absurd h (by decide +kernel)
      sent := fun _ => rfl
      drawn := fun _ => rfl
      out := List.suffix_refl _
      freeCtr := Nat.le_refl _
      pending := rfl
      fieldsOk := fun _ => rfl
      memOk := fun _ => rfl }

theorem execTickCounterStart_touch (s : State) :
    ∃ t, execTickCounterStart s = .next t ∧ Touch 0xc000000000000000000008 s t := by
  refine ⟨_, rfl, ?_⟩
  refine Touch.ite ?_ ?_
  · refine Touch.step ?_ (State.put_touch ..) (by decide +kernel)
    refine Touch.step ?_ (State.put_touch ..) (by decide +kernel)
    refine Touch.step ?_ (State.modPilot_touch ..) (by decide +kernel)
    exact Touch.refl _ _
  · exact Touch.refl _ _

theorem State.fuseFields_touch (s : State) (a1 : Fuses) :
    Touch 0x800000000000000000000000000000000000000000000000000000000000000000000000000000000000000000000000000000000000000000000000000000000000001c00000000000000000001007e000000 s (State.fuseFields s a1) := by
  unfold State.fuseFields
  extract_lets -merge -useContext +onlyGivenNames v0
  refine Touch.cut v0 ?_ (fun h1 => ?_)
  · unfold v0
    refine Touch.step ?_ (State.put_touch ..) (by decide +kernel)
    refine Touch.step ?_ (State.put_touch ..) (by decide +kernel)
    refine Touch.step ?_ (State.put_touch ..) (by decide +kernel)
    exact Touch.refl _ _
  clear_value v0
  extract_lets -merge -useContext +onlyGivenNames v2
  refine Touch.cut v2 ?_ (fun h3 => ?_)
  · unfold v2
    refine Touch.step ?_ (State.put_touch ..) (by decide +kernel)
    refine Touch.step ?_ (State.put_touch ..) (by decide +kernel)
    refine Touch.step ?_ (State.put_touch ..) (by decide +kernel)
    exact h1
  clear_value v2
  extract_lets -merge -useContext +onlyGivenNames v4
  refine Touch.cut v4 ?_ (fun h5 => ?_)
  · unfold v4
    refine Touch.step ?_ (State.put_touch ..) (by decide +kernel)
    refine Touch.step ?_ (State.put_touch ..) (by decide +kernel)
    refine Touch.step ?_ (State.put_touch ..) (by decide +kernel)
    exact h3
  clear_value v4
  refine Touch.step ?_ (State.put_touch ..) (by decide +kernel)
  refine Touch.step ?_ (State.put_touch ..) (by decide +kernel)
  exact h5

theorem execFusesSensed_touch (a0 : Fuses) (s : State) :
    ∃ t, execFusesSensed a0 s = .next t ∧ Touch 0x800000000000000000000000000000000000000000000000000000000000000000000000000000000000000000000000000000000000000000000000000000000000001c00000000000000000001007e00000a s t := by
  refine ⟨_, rfl, ?_⟩
  refine Touch.ite ?_ ?_
  · extract_lets -merge -useContext +onlyGivenNames v0
    clear_value v0
    refine Touch.step ?_ (State.fuseFields_touch ..) (by decide +kernel)
    refine Touch.step ?_ (State.modPilot_touch ..) (by decide +kernel)
    refine Touch.step ?_ (Touch.fusesWith _ _) (by decide +kernel)
    exact Touch.refl _ _
  · exact Touch.refl _ _

theorem State.mramCheck_touch (s : State) :
    Touch 0x4fff8000000000000000000000000000000000000000000000000003000000000000000000000000000000000000000000000000000000000000000000000000000000000000000000000000000100588 s (State.mramCheck s) := by
  unfold State.mramCheck
  refine Touch.ite ?_ ?_
  · extract_lets -merge -useContext +onlyGivenNames v0
    refine Touch.cut v0 ?_ (fun h1 => ?_)
    · unfold v0
      refine Touch.step ?_ (State.modEmber_touch ..) (by decide +kernel)
      refine Touch.step ?_ (State.modPilot_touch ..) (by decide +kernel)
      exact Touch.refl _ _
    clear_value v0
    refine Touch.step ?_ (State.ember'_touch ..) (by decide +kernel)
    refine Touch.step ?_ (State.embSlotBits_touch ..) (by decide +kernel)
    exact h1
  · exact Touch.refl _ _

theorem execEmberMramCheck_touch (s : State) :
    ∃ t, execEmberMramCheck s = .next t ∧ Touch 0x4fff8000000000000000000000000000000000000000000000000003000000000000000000000000000000000000000000000000000000000000000000000000000000000000000000000000000100588 s t := by
  refine ⟨_, rfl, ?_⟩
  refine Touch.step ?_ (State.mramCheck_touch ..) (by decide +kernel)
  exact Touch.refl _ _

theorem execPilotReady_touch (a0 : ℕ) (s : State) :
    ∃ t, execPilotReady a0 s = .next t ∧ Touch 0x4000000000000000000000000000000000000000000000000000000000000000000000000000000000000000000000000000000000000000000000000000000000000000001000000000000000000000008 s t := by
  refine ⟨_, rfl, ?_⟩
  refine Touch.ite ?_ ?_
  · refine Touch.step ?_ (State.mainStart_touch ..) (by decide +kernel)
    refine Touch.step ?_ (State.modPilot_touch ..) (by decide +kernel)
    refine Touch.step ?_ (State.put_touch ..) (by decide +kernel)
    refine Touch.step ?_ (State.put_touch ..) (by decide +kernel)
    exact Touch.refl _ _
  · exact Touch.refl _ _

theorem State.pilotTick_touch (s : State) (a1 : ℕ) (a2 : Bool) (a3 : Bool) :
    Touch 0x49ff800000000000000000000000000000000000000000000000000300000000000000000000000000000000000000000000000000000000000000000000000000000000020701ec00000000000100588 s (State.pilotTick s a1 a2 a3) := by
  unfold State.pilotTick
  refine Touch.ite ?_ ?_
  · exact Touch.refl _ _
  · extract_lets -merge -useContext +onlyGivenNames v0
    refine Touch.cut v0 ?_ (fun h1 => ?_)
    · unfold v0
      refine Touch.step ?_ (State.put_touch ..) (by decide +kernel)
      exact Touch.refl _ _
    clear_value v0
    refine Touch.ite ?_ ?_
    · exact h1
    · extract_lets -merge -useContext +onlyGivenNames v2
      refine Touch.cut v2 ?_ (fun h3 => ?_)
      · unfold v2
        refine Touch.foldl ?_ (fun y4 y5 h6 => ?_)
        · exact h1
        · refine Touch.step ?_ (State.bump_touch ..) (by decide +kernel)
          exact h6
      clear_value v2
      extract_lets -merge -useContext +onlyGivenNames v7
      refine Touch.cut v7 ?_ (fun h8 => ?_)
      · unfold v7
        refine Touch.step ?_ (State.put_touch ..) (by decide +kernel)
        exact h3
      clear_value v7
      extract_lets -merge -useContext +onlyGivenNames v9
      refine Touch.cut v9 ?_ (fun h10 => ?_)
      · unfold v9
        refine Touch.ite ?_ ?_
        · refine Touch.step ?_ (State.limitsSet_touch ..) (by decide +kernel)
          refine Touch.step ?_ (State.modPilot_touch ..) (by decide +kernel)
          exact h8
        · exact h8
      clear_value v9
      refine Touch.ite ?_ ?_
      · refine Touch.step ?_ (State.powerLift_touch ..) (by decide +kernel)
        exact h10
      · exact h10

theorem execPilotTick_touch (a0 : ℕ) (a1 : Bool) (a2 : Bool) (s : State) :
    ∃ t, execPilotTick a0 a1 a2 s = .next t ∧ Touch 0x49ff800000000000000000000000000000000000000000000000000300000000000000000000000000000000000000000000000000000000000000000000000000000000020701ec00000000000100588 s t := by
  refine ⟨_, rfl, ?_⟩
  refine Touch.step ?_ (State.pilotTick_touch ..) (by decide +kernel)
  exact Touch.refl _ _

theorem execPilotPwrOkFall_touch (s : State) :
    ∃ t, execPilotPwrOkFall s = .next t ∧ Touch 0x3ffffffffffffffffffffffffffffffffffffffffffffffffffffffffffffffffffffffffffffffffffffffffffffffffffffffffffffffffffffffffffffffffffffffffffffffffffffffffffffffffbffffc s t := by
  refine ⟨_, rfl, ?_⟩
  refine Touch.ite ?_ ?_
  · refine Touch.step ?_ (State.modPilot_touch ..) (by decide +kernel)
    refine Touch.step ?_ (State.stopMain_touch ..) (by decide +kernel)
    refine Touch.step ?_ (State.emberTrigger_touch ..) (by decide +kernel)
    refine Touch.step ?_ (Touch.pinsWith _ _) (by decide +kernel)
    exact Touch.refl _ _
  · exact Touch.refl _ _

theorem execPllLock_touch (s : State) :
    ∃ t, execPllLock s = .next t ∧ Touch 0x49ff80000000000000000000000000000000000000000000000000030000000000000000000000000000000000000000000000000000000000000000000000000000000003f000ec00000000000100588 s t := by
  refine ⟨_, rfl, ?_⟩
  refine Touch.ite ?_ ?_
  · extract_lets -merge -useContext +onlyGivenNames v0
    refine Touch.cut v0 ?_ (fun h1 => ?_)
    · unfold v0
      refine Touch.step ?_ (State.put_touch ..) (by decide +kernel)
      refine Touch.step ?_ (State.put_touch ..) (by decide +kernel)
      refine Touch.step ?_ (State.put_touch ..) (by decide +kernel)
      exact Touch.refl _ _
    clear_value v0
    refine Touch.step ?_ (State.limitsSet_touch ..) (by decide +kernel)
    refine Touch.step ?_ (State.modPilot_touch ..) (by decide +kernel)
    refine Touch.step ?_ (State.put_touch ..) (by decide +kernel)
    refine Touch.step ?_ (State.put_touch ..) (by decide +kernel)
    exact h1
  · exact Touch.refl _ _

theorem State.fwLoaded_touch (s : State) (a1 : List Byte) (a2 : List Byte) (a3 : ℕ) (a4 : Bool) :
    Touch 0x49ff80000000000000000000000000000000000000000000108800030000000000000000000000000000000000000000000001000000000000c00000000000000000000000000001ffffff000003025cc s (State.fwLoaded s a1 a2 a3 a4) := by
  unfold State.fwLoaded
  refine Touch.ite ?_ ?_
  · exact Touch.refl _ _
  · extract_lets -merge -useContext +onlyGivenNames v0
    refine Touch.cut v0 ?_ (fun h1 => ?_)
    · unfold v0
      refine Touch.step ?_ (State.modPilot_touch ..) (by decide +kernel)
      refine Touch.step ?_ (State.modFwu_touch ..) (by decide +kernel)
      exact Touch.refl _ _
    clear_value v0
    extract_lets -merge -useContext +onlyGivenNames v2
    refine Touch.cut v2 ?_ (fun h3 => ?_)
    · unfold v2
      refine Touch.step ?_ (State.put_touch ..) (by decide +kernel)
      refine Touch.step ?_ (State.put_touch ..) (by decide +kernel)
      exact h1
    clear_value v2
    extract_lets -merge -useContext +onlyGivenNames v4
    clear_value v4
    extract_lets -merge -useContext +onlyGivenNames v5
    refine Touch.cut v5 ?_ (fun h6 => ?_)
    · unfold v5
      refine Touch.step ?_ (State.modHost_touch ..) (by decide +kernel)
      refine Touch.step ?_ (Touch.pinsWith _ _) (by decide +kernel)
      exact h3
    clear_value v5
    extract_lets -merge -useContext +onlyGivenNames v7
    refine Touch.cut v7 ?_ (fun h8 => ?_)
    · unfold v7
      refine Touch.step ?_ (State.put_touch ..) (by decide +kernel)
      exact h6
    clear_value v7
    extract_lets -merge -useContext +onlyGivenNames v9
    refine Touch.cut v9 ?_ (fun h10 => ?_)
    · unfold v9
      refine Touch.step ?_ (State.startCores_touch ..) (by decide +kernel)
      refine Touch.step ?_ (State.setDom_touch ..) (by decide +kernel)
      refine Touch.step ?_ (State.setDom_touch ..) (by decide +kernel)
      exact h8
    clear_value v9
    refine Touch.foldl ?_ (fun y11 y12 h13 => ?_)
    · exact h10
    · refine Touch.step ?_ (State.setDlState_touch ..) (by decide +kernel)
      exact h13

theorem execFwBundleLoaded_touch (a0 : List Byte) (a1 : List Byte) (a2 : ℕ) (a3 : Bool) (s : State) :
    ∃ t, execFwBundleLoaded a0 a1 a2 a3 s = .next t ∧ Touch 0x49ff80000000000000000000000000000000000000000000108800030000000000000000000000000000000000000000000001000000000000c00000000000000000000000000001ffffff000003025cc s t := by
  refine ⟨_, rfl, ?_⟩
  refine Touch.step ?_ (State.fwLoaded_touch ..) (by decide +kernel)
  exact Touch.refl _ _

theorem State.mainReady_touch (s : State) :
    Touch 0x49ff800000000000000000000000000e00000000000010000000000300000000000000000000000000000000000000000000000000000000000000000000000000000003e0000001fffffe00000300d88 s (State.mainReady s) := by
  unfold State.mainReady
  refine Touch.ite ?_ ?_
  · exact Touch.refl _ _
  · extract_lets -merge -useContext +onlyGivenNames v0
    refine Touch.cut v0.2 ?_ (fun h1 => ?_)
    · unfold v0
      refine Touch.step ?_ (State.draw_touch ..) (by decide +kernel)
      exact Touch.refl _ _
    clear_value v0
    extract_lets -merge -useContext +onlyGivenNames v2
    refine Touch.cut v2 ?_ (fun h3 => ?_)
    · unfold v2
      refine Touch.foldl ?_ (fun y4 y5 h6 => ?_)
      · refine Touch.step ?_ (State.modMem_touch _ _ (fun _ => rfl)) (by decide +kernel)
        exact h1
      · refine Touch.step ?_ (State.setDom_touch ..) (by decide +kernel)
        exact h6
    clear_value v2
    extract_lets -merge -useContext +onlyGivenNames v7
    refine Touch.cut v7 ?_ (fun h8 => ?_)
    · unfold v7
      refine Touch.step ?_ (State.fenceSettle_touch ..) (by decide +kernel)
      refine Touch.step ?_ (State.put_touch ..) (by decide +kernel)
      exact h3
    clear_value v7
    extract_lets -merge -useContext +onlyGivenNames v9
    refine Touch.cut v9 ?_ (fun h10 => ?_)
    · unfold v9
      refine Touch.ite ?_ ?_
      · refine Touch.step ?_ (State.bump_touch ..) (by decide +kernel)
        exact h8
      · exact h8
    clear_value v9
    extract_lets -merge -useContext +onlyGivenNames v11
    refine Touch.cut v11 ?_ (fun h12 => ?_)
    · unfold v11
      refine Touch.step ?_ (State.modPilot_touch ..) (by decide +kernel)
      refine Touch.step ?_ (State.scopeDone_touch ..) (by decide +kernel)
      exact h10
    clear_value v11
    refine Touch.foldl ?_ (fun y13 y14 h15 => ?_)
    · exact h12
    · refine Touch.step ?_ (State.trainStart_touch ..) (by decide +kernel)
      exact h15

theorem execMainReady_touch (s : State) :
    ∃ t, execMainReady s = .next t ∧ Touch 0x49ff800000000000000000000000000e00000000000010000000000300000000000000000000000000000000000000000000000000000000000000000000000000000003e0000001fffffe00000300d88 s t := by
  refine ⟨_, rfl, ?_⟩
  refine Touch.step ?_ (State.mainReady_touch ..) (by decide +kernel)
  exact Touch.refl _ _

theorem execConfigReady_touch (s : State) :
    ∃ t, execConfigReady s = .next t ∧ Touch 0x8 s t := by
  refine ⟨_, rfl, ?_⟩
  refine Touch.ite ?_ ?_
  · refine Touch.step ?_ (State.modPilot_touch ..) (by decide +kernel)
    exact Touch.refl _ _
  · exact Touch.refl _ _

theorem State.bootCommit_touch (s : State) (a1 : Option (List Byte)) :
    Touch 0x3ffffffffffffffffffffffffffffffffffffffffffffffffffffffffffffffffffffffffffffffffffffffffffffffffffffffffffffffffffffffffffffffffffffffffffffffffffffffffffffffffbfffb8 s (State.bootCommit s a1) := by
  unfold State.bootCommit
  refine Touch.ite ?_ ?_
  · exact Touch.refl _ _
  · split
    · refine Touch.step ?_ (State.kimFault_touch ..) (by decide +kernel)
      exact Touch.refl _ _
    · refine Touch.ite ?_ ?_
      · exact Touch.refl _ _
      · refine Touch.ite ?_ ?_
        · refine Touch.step ?_ (State.kimFault_touch ..) (by decide +kernel)
          exact Touch.refl _ _
        · extract_lets -merge -useContext +onlyGivenNames v0
          clear_value v0
          extract_lets -merge -useContext +onlyGivenNames v1
          clear_value v1
          extract_lets -merge -useContext +onlyGivenNames v2
          refine Touch.cut v2 ?_ (fun h3 => ?_)
          · unfold v2
            refine Touch.step ?_ (State.kimStaged_touch ..) (by decide +kernel)
            refine Touch.step ?_ (State.kimEmpty_touch ..) (by decide +kernel)
            exact Touch.refl _ _
          clear_value v2
          refine Touch.ite ?_ ?_
          · exact h3
          · extract_lets -merge -useContext +onlyGivenNames v4
            refine Touch.cut v4 ?_ (fun h5 => ?_)
            · unfold v4
              refine Touch.step ?_ (State.validationDone_touch ..) (by decide +kernel)
              refine Touch.step ?_ (State.kimValidate_touch ..) (by decide +kernel)
              exact h3
            clear_value v4
            refine Touch.ite ?_ ?_
            · exact h5
            · extract_lets -merge -useContext +onlyGivenNames v6
              refine Touch.cut v6 ?_ (fun h7 => ?_)
              · unfold v6
                refine Touch.step ?_ (State.kimArm_touch ..) (by decide +kernel)
                exact h5
              clear_value v6
              refine Touch.ite ?_ ?_
              · refine Touch.step ?_ (State.put_touch ..) (by decide +kernel)
                refine Touch.step ?_ (State.put_touch ..) (by decide +kernel)
                exact h7
              · exact h7

theorem execBootImageCommit_touch (a0 : Option (List Byte)) (s : State) :
    ∃ t, execBootImageCommit a0 s = .next t ∧ Touch 0x3ffffffffffffffffffffffffffffffffffffffffffffffffffffffffffffffffffffffffffffffffffffffffffffffffffffffffffffffffffffffffffffffffffffffffffffffffffffffffffffffffbfffb8 s t := by
  refine ⟨_, rfl, ?_⟩
  refine Touch.step ?_ (State.bootCommit_touch ..) (by decide +kernel)
  exact Touch.refl _ _

theorem State.dozeEntry_touch (s : State) (a1 : ℕ) (a2 : ℕ) :
    Touch 0x1fffffe00000000008 s (State.dozeEntry s a1 a2) := by
  unfold State.dozeEntry
  extract_lets -merge -useContext +onlyGivenNames v0
  clear_value v0
  extract_lets -merge -useContext +onlyGivenNames v1
  clear_value v1
  refine Touch.ite ?_ ?_
  · refine Touch.step ?_ (State.modPilot_touch ..) (by decide +kernel)
    refine Touch.step ?_ (State.setDom_touch ..) (by decide +kernel)
    exact Touch.refl _ _
  · exact Touch.refl _ _

theorem execDozeEntry_touch (a0 : ℕ) (a1 : ℕ) (s : State) :
    ∃ t, execDozeEntry a0 a1 s = .next t ∧ Touch 0x1fffffe00000000008 s t := by
  refine ⟨_, rfl, ?_⟩
  refine Touch.step ?_ (State.dozeEntry_touch ..) (by decide +kernel)
  exact Touch.refl _ _

theorem execDomainWake_touch (a0 : ℕ) (s : State) :
    ∃ t, execDomainWake a0 s = .next t ∧ Touch 0xc001fffffe00000000100 s t := by
  refine ⟨_, rfl, ?_⟩
  refine Touch.ite ?_ ?_
  · refine Touch.step ?_ (State.wake_touch ..) (by decide +kernel)
    exact Touch.refl _ _
  · exact Touch.refl _ _

theorem State.scheduledWake_touch (s : State) (a1 : ℕ) (a2 : ℕ) :
    Touch 0xc001fffffe00000000100 s (State.scheduledWake s a1 a2) := by
  unfold State.scheduledWake
  split
  · refine Touch.ite ?_ ?_
    · refine Touch.step ?_ (State.wake_touch ..) (by decide +kernel)
      exact Touch.refl _ _
    · exact Touch.refl _ _
  · exact Touch.refl _ _

theorem execScheduledWake_touch (a0 : ℕ) (a1 : ℕ) (s : State) :
    ∃ t, execScheduledWake a0 a1 s = .next t ∧ Touch 0xc001fffffe00000000100 s t := by
  refine ⟨_, rfl, ?_⟩
  refine Touch.step ?_ (State.scheduledWake_touch ..) (by decide +kernel)
  exact Touch.refl _ _

theorem State.domRuns_touch (s : State) :
    Touch 0x49ff8000000000000180000000003f90100000000000000000006003000000000000000000f387803ffc00700021f00300000000240000000000000000000000000000000000c001fffffe00000bffda0 s (State.domRuns s) := by
  unfold State.domRuns
  refine Touch.step ?_ (State.cchPump_touch ..) (by decide +kernel)
  refine Touch.step ?_ (State.settleAll_touch ..) (by decide +kernel)
  exact Touch.refl _ _

theorem State.clocked_touch (s : State) (a1 : ℕ) :
    Touch 0x49ff8000000000000180000000003f90100000000000000000006003000000000000000000f387803ffc00700021f00300000000240000000000000000000000000000000000c001fffffe00000bffda8 s (State.clocked s a1) := by
  unfold State.clocked
  refine Touch.ite ?_ ?_
  · extract_lets -merge -useContext +onlyGivenNames v0
    refine Touch.cut v0 ?_ (fun h1 => ?_)
    · unfold v0
      refine Touch.step ?_ (State.setDom_touch ..) (by decide +kernel)
      exact Touch.refl _ _
    clear_value v0
    refine Touch.step ?_ (State.domRuns_touch ..) (by decide +kernel)
    refine Touch.ite ?_ ?_
    · refine Touch.step ?_ (State.modPilot_touch ..) (by decide +kernel)
      exact h1
    · exact h1
  · exact Touch.refl _ _

theorem execQuadrantClocked_touch (a0 : ℕ) (s : State) :
    ∃ t, execQuadrantClocked a0 s = .next t ∧ Touch 0x49ff8000000000000180000000003f90100000000000000000006003000000000000000000f387803ffc00700021f00300000000240000000000000000000000000000000000c001fffffe00000bffda8 s t := by
  refine ⟨_, rfl, ?_⟩
  refine Touch.ite ?_ ?_
  · refine Touch.step ?_ (State.clocked_touch ..) (by decide +kernel)
    exact Touch.refl _ _
  · exact Touch.refl _ _

theorem execDomainClocked_touch (a0 : ℕ) (s : State) :
    ∃ t, execDomainClocked a0 s = .next t ∧ Touch 0x49ff8000000000000180000000003f90100000000000000000006003000000000000000000f387803ffc00700021f00300000000240000000000000000000000000000000000c001fffffe00000bffda8 s t := by
  refine ⟨_, rfl, ?_⟩
  refine Touch.ite ?_ ?_
  · refine Touch.step ?_ (State.clocked_touch ..) (by decide +kernel)
    exact Touch.refl _ _
  · exact Touch.refl _ _

theorem execStrikerHandover_touch (a0 : ℕ) (s : State) :
    ∃ t, execStrikerHandover a0 s = .next t ∧ Touch 0x8 s t := by
  refine ⟨_, rfl, ?_⟩
  refine Touch.ite ?_ ?_
  · refine Touch.step ?_ (State.modPilot_touch ..) (by decide +kernel)
    exact Touch.refl _ _
  · exact Touch.refl _ _

theorem State.powered_touch (s : State) (a1 : ℕ) :
    Touch 0x49ff8000000000000180000000003f90100000000000100010806003000000000000000000f387803ffc00700021f00300000100240000000000000000000000000000000000c001ffffff00000bffda8 s (State.powered s a1) := by
  unfold State.powered
  refine Touch.ite ?_ ?_
  · exact Touch.refl _ _
  · extract_lets -merge -useContext +onlyGivenNames v0
    refine Touch.cut v0 ?_ (fun h1 => ?_)
    · unfold v0
      refine Touch.step ?_ (State.modPilot_touch ..) (by decide +kernel)
      refine Touch.step ?_ (State.setDom_touch ..) (by decide +kernel)
      exact Touch.refl _ _
    clear_value v0
    extract_lets -merge -useContext +onlyGivenNames v2
    refine Touch.cut v2 ?_ (fun h3 => ?_)
    · unfold v2
      refine Touch.ite ?_ ?_
      · refine Touch.foldl ?_ (fun y4 y5 h6 => ?_)
        · exact h1
        · refine Touch.step ?_ (State.spoilTile_touch ..) (by decide +kernel)
          exact h6
      · split
        · refine Touch.step ?_ (State.startCores_touch ..) (by decide +kernel)
          exact h1
        · refine Touch.foldl ?_ (fun y7 y8 h9 => ?_)
          · exact h1
          · refine Touch.step ?_ (State.setDlState_touch ..) (by decide +kernel)
            exact h9
        · refine Touch.foldl ?_ (fun y10 y11 h12 => ?_)
          · exact h1
          · refine Touch.step ?_ (State.trainStart_touch ..) (by decide +kernel)
            exact h12
    clear_value v2
    refine Touch.step ?_ (State.domRuns_touch ..) (by decide +kernel)
    exact h3

theorem execDomainPowered_touch (a0 : ℕ) (s : State) :
    ∃ t, execDomainPowered a0 s = .next t ∧ Touch 0x49ff8000000000000180000000003f90100000000000100010806003000000000000000000f387803ffc00700021f00300000100240000000000000000000000000000000000c001ffffff00000bffda8 s t := by
  refine ⟨_, rfl, ?_⟩
  refine Touch.step ?_ (State.powered_touch ..) (by decide +kernel)
  exact Touch.refl _ _

theorem State.pwrHold_touch (s : State) (a1 : ℕ) :
    Touch 0xc003fffffe00000000100 s (State.pwrHold s a1) := by
  unfold State.pwrHold
  refine Touch.foldl ?_ (fun y0 y1 h2 => ?_)
  · refine Touch.step ?_ (State.put_touch ..) (by decide +kernel)
    exact Touch.refl _ _
  · refine Touch.step ?_ (State.wake_touch ..) (by decide +kernel)
    exact h2

theorem execPwrHold_touch (a0 : ℕ) (s : State) :
    ∃ t, execPwrHold a0 s = .next t ∧ Touch 0xc003fffffe00000000100 s t := by
  refine ⟨_, rfl, ?_⟩
  refine Touch.step ?_ (State.pwrHold_touch ..) (by decide +kernel)
  exact Touch.refl _ _

theorem State.cacheOff_touch (s : State) :
    Touch 0x49ff8000000000000180000040003f901000000000001318f8e06003000000000000000000f101803ffc00200021f00300000100240000000000000000000000000000000000c001ffffff00000bffda8 s (State.cacheOff s) := by
  unfold State.cacheOff
  refine Touch.ite ?_ ?_
  · refine Touch.step ?_ (State.domOff_touch ..) (by decide +kernel)
    exact Touch.refl _ _
  · exact Touch.refl _ _

theorem execCacheOff_touch (s : State) :
    ∃ t, execCacheOff s = .next t ∧ Touch 0x49ff8000000000000180000040003f901000000000001318f8e06003000000000000000000f101803ffc00200021f00300000100240000000000000000000000000000000000c001ffffff00000bffda8 s t := by
  refine ⟨_, rfl, ?_⟩
  refine Touch.step ?_ (State.cacheOff_touch ..) (by decide +kernel)
  exact Touch.refl _ _

theorem State.setLocks_touch (s : State) (a1 : Bool) :
    Touch 0x130000000000000000000000 s (State.setLocks s a1) := by
  unfold State.setLocks
  refine Touch.step ?_ (State.put_touch ..) (by decide +kernel)
  refine Touch.step ?_ (State.put_touch ..) (by decide +kernel)
  refine Touch.step ?_ (State.put_touch ..) (by decide +kernel)
  exact Touch.refl _ _

theorem State.setClkBit_touch (s : State) (a1 : ℕ) (a2 : Bool) :
    Touch 0x1f8000000000000000000000 s (State.setClkBit s a1 a2) := by
  unfold State.setClkBit
  split
  · refine Touch.step ?_ (State.put_touch ..) (by decide +kernel)
    exact Touch.refl _ _
  · refine Touch.step ?_ (State.put_touch ..) (by decide +kernel)
    exact Touch.refl _ _
  · refine Touch.step ?_ (State.put_touch ..) (by decide +kernel)
    exact Touch.refl _ _
  · refine Touch.step ?_ (State.put_touch ..) (by decide +kernel)
    exact Touch.refl _ _
  · refine Touch.step ?_ (State.setLocks_touch ..) (by decide +kernel)
    refine Touch.step ?_ (State.put_touch ..) (by decide +kernel)
    exact Touch.refl _ _
  · refine Touch.ite ?_ ?_
    · refine Touch.step ?_ (State.setBit_touch ..) (by decide +kernel)
      exact Touch.refl _ _
    · refine Touch.step ?_ (State.clrBit_touch ..) (by decide +kernel)
      exact Touch.refl _ _

theorem State.clockLoss_touch (s : State) (a1 : ℕ) :
    Touch 0x3ffffffffffffffffffffffffffffffffffffffffffffffffffffffffffffffffffffffffffffffffffffffffffffffffffffffffffffffffffffffffffffffffffffffffffffffffffffffffffffffffbfffb8 s (State.clockLoss s a1) := by
  unfold State.clockLoss
  refine Touch.ite ?_ ?_
  · exact Touch.refl _ _
  · extract_lets -merge -useContext +onlyGivenNames v0
    refine Touch.cut v0 ?_ (fun h1 => ?_)
    · unfold v0
      refine Touch.step ?_ (State.bump_touch ..) (by decide +kernel)
      refine Touch.step ?_ (State.limitsSet_touch ..) (by decide +kernel)
      refine Touch.step ?_ (State.setClkBit_touch ..) (by decide +kernel)
      exact Touch.refl _ _
    clear_value v0
    extract_lets -merge -useContext +onlyGivenNames v2
    refine Touch.cut v2 ?_ (fun h3 => ?_)
    · unfold v2
      refine Touch.ite ?_ ?_
      · refine Touch.step ?_ (State.modPilot_touch ..) (by decide +kernel)
        exact h1
      · exact h1
    clear_value v2
    extract_lets -merge -useContext +onlyGivenNames v4
    refine Touch.cut v4 ?_ (fun h5 => ?_)
    · unfold v4
      refine Touch.step ?_ (State.raiseGlb_touch ..) (by decide +kernel)
      refine Touch.step ?_ (State.powerRec_touch ..) (by decide +kernel)
      exact h3
    clear_value v4
    split
    · refine Touch.foldl ?_ (fun y6 y7 h8 => ?_)
      · refine Touch.step ?_ (State.hostDown_touch ..) (by decide +kernel)
        exact h5
      · refine Touch.step ?_ (State.dlDown_touch ..) (by decide +kernel)
        exact h8
    · refine Touch.ite ?_ ?_
      · refine Touch.step ?_ (State.fenceSettle_touch ..) (by decide +kernel)
        exact h5
      · refine Touch.step ?_ (State.setSync_touch ..) (by decide +kernel)
        refine Touch.step ?_ (State.modFab_touch ..) (by decide +kernel)
        exact h5
    · exact h5

theorem execClockLoss_touch (a0 : ℕ) (s : State) :
    ∃ t, execClockLoss a0 s = .next t ∧ Touch 0x3ffffffffffffffffffffffffffffffffffffffffffffffffffffffffffffffffffffffffffffffffffffffffffffffffffffffffffffffffffffffffffffffffffffffffffffffffffffffffffffffffbfffb8 s t := by
  refine ⟨_, rfl, ?_⟩
  refine Touch.step ?_ (State.clockLoss_touch ..) (by decide +kernel)
  exact Touch.refl _ _

theorem State.clockRelock_touch (s : State) (a1 : ℕ) :
    Touch 0x49ff800000000000000000000000000e0000080000000000000000030000000000000000000000000000000000000000000000000000000000000000000000000000000003f800ec00000000000100588 s (State.clockRelock s a1) := by
  unfold State.clockRelock
  extract_lets -merge -useContext +onlyGivenNames v0
  clear_value v0
  refine Touch.ite ?_ ?_
  · exact Touch.refl _ _
  · extract_lets -merge -useContext +onlyGivenNames v1
    refine Touch.cut v1 ?_ (fun h2 => ?_)
    · unfold v1
      refine Touch.step ?_ (State.limitsSet_touch ..) (by decide +kernel)
      refine Touch.step ?_ (State.setClkBit_touch ..) (by decide +kernel)
      exact Touch.refl _ _
    clear_value v1
    split
    · refine Touch.step ?_ (State.modPilot_touch ..) (by decide +kernel)
      exact h2
    · refine Touch.ite ?_ ?_
      · refine Touch.step ?_ (State.fenceSettle_touch ..) (by decide +kernel)
        exact h2
      · refine Touch.step ?_ (State.setSync_touch ..) (by decide +kernel)
        exact h2
    · exact h2

theorem execClockRelock_touch (a0 : ℕ) (s : State) :
    ∃ t, execClockRelock a0 s = .next t ∧ Touch 0x49ff800000000000000000000000000e0000080000000000000000030000000000000000000000000000000000000000000000000000000000000000000000000000000003f800ec00000000000100588 s t := by
  refine ⟨_, rfl, ?_⟩
  refine Touch.step ?_ (State.clockRelock_touch ..) (by decide +kernel)
  exact Touch.refl _ _

end Sys2Proof.Machine
end

