-- ==== Sys2Proof/Laws/TouchSideband.lean ====
section
/-! SUPPORT. What the operations of Machine/Sideband.lean may change. -/
namespace Sys2Proof.Machine

set_option Elab.async false

theorem State.i3cDaa_touch (s : State) (a1 : ℕ) :
    Touch 0x6000000000000000000000000000000000000000000000000000000000000000000000000000000000000000000000000000000000000000000000000000000000000000000000000000000000000000000 s (State.i3cDaa s a1) := by
  unfold State.i3cDaa
  refine Touch.ite ?_ ?_
  · refine Touch.step ?_ (State.put_touch ..) (by decide +kernel)
    refine Touch.step ?_ (State.put_touch ..) (by decide +kernel)
    exact Touch.refl _ _
  · exact Touch.refl _ _

theorem execI3cDaa_touch (a0 : ℕ) (s : State) :
    ∃ t, execI3cDaa a0 s = .next t ∧ Touch 0x6000000000000000000000000000000000000000000000000000000000000000000000000000000000000000000000000000000000000000000000000000000000000000000000000000000000000000000 s t := by
  refine ⟨_, rfl, ?_⟩
  refine Touch.step ?_ (State.i3cDaa_touch ..) (by decide +kernel)
  exact Touch.refl _ _

theorem State.mgtDrop_touch (s : State) :
    Touch 0x30000000000000000000000000000000000000000000000000000000000000000000000000000000000000000000000000000000000000000000000000000000000000000000000000000000000000000100 s (State.mgtDrop s) := by
  unfold State.mgtDrop
  refine Touch.step ?_ (State.bump_touch ..) (by decide +kernel)
  exact Touch.refl _ _

theorem State.mctpControl_touch (s : State) (a1 : ℕ) (a2 : ℕ) (a3 : ℕ) :
    Touch 0x3000000000000000000000000000000000000000000000000000000000000000000000000000000000000000000000000000000000000000000000000000000000000000000000000000000000000100000 s (State.mctpControl s a1 a2 a3) := by
  unfold State.mctpControl
  extract_lets -merge -useContext +onlyGivenNames v0
  refine Touch.ite ?_ ?_
  · exact Touch.refl _ _
  · extract_lets -merge -useContext +onlyGivenNames v1
    refine Touch.cut v1 ?_ (fun h2 => ?_)
    · unfold v1
      refine Touch.step ?_ (State.onBus_touch ..) (by decide +kernel)
      exact Touch.refl _ _
    clear_value v1
    split
    · refine Touch.ite ?_ ?_
      · unfold v0
        refine Touch.step ?_ (State.emit_touch ..) (by decide +kernel)
        exact h2
      · unfold v0
        refine Touch.step ?_ (State.emit_touch ..) (by decide +kernel)
        refine Touch.step ?_ (State.put_touch ..) (by decide +kernel)
        exact h2
    · unfold v0
      refine Touch.step ?_ (State.emit_touch ..) (by decide +kernel)
      exact h2
    · unfold v0
      refine Touch.step ?_ (State.emit_touch ..) (by decide +kernel)
      exact h2
    · unfold v0
      refine Touch.step ?_ (State.emit_touch ..) (by decide +kernel)
      exact h2
    · unfold v0
      refine Touch.step ?_ (State.emit_touch ..) (by decide +kernel)
      exact h2
    · unfold v0
      refine Touch.step ?_ (State.emit_touch ..) (by decide +kernel)
      exact h2
    · unfold v0
      refine Touch.step ?_ (State.emit_touch ..) (by decide +kernel)
      exact h2

theorem execMctpControl_touch (a0 : ℕ) (a1 : ℕ) (a2 : ℕ) (s : State) :
    ∃ t, execMctpControl a0 a1 a2 s = .next t ∧ Touch 0x3000000000000000000000000000000000000000000000000000000000000000000000000000000000000000000000000000000000000000000000000000000000000000000000000000000000000100000 s t := by
  refine ⟨_, rfl, ?_⟩
  refine Touch.step ?_ (State.mctpControl_touch ..) (by decide +kernel)
  exact Touch.refl _ _

theorem State.pldmRequest_touch (s : State) (a1 : ℕ) (a2 : ℕ) (a3 : ℕ) (a4 : ℤ) (a5 : Bool) :
    Touch 0x32000000000000000000000000000000000000000000000000000000000000000000000000000000000000000000000000000000000000000000000000000000000000000000000c001fffffe00000102100 s (State.pldmRequest s a1 a2 a3 a4 a5) := by
  unfold State.pldmRequest
  refine Touch.ite ?_ ?_
  · exact Touch.refl _ _
  · extract_lets -merge -useContext +onlyGivenNames v0
    refine Touch.cut v0 ?_ (fun h1 => ?_)
    · unfold v0
      refine Touch.ite ?_ ?_
      · refine Touch.step ?_ (State.coreLine_touch ..) (by decide +kernel)
        refine Touch.step ?_ (State.onBus_touch ..) (by decide +kernel)
        exact Touch.refl _ _
      · refine Touch.step ?_ (State.onBus_touch ..) (by decide +kernel)
        exact Touch.refl _ _
    clear_value v0
    refine Touch.ite ?_ ?_
    · refine Touch.ite ?_ ?_
      · refine Touch.step ?_ (State.emit_touch ..) (by decide +kernel)
        exact h1
      · extract_lets -merge -useContext +onlyGivenNames v2
        clear_value v2
        extract_lets -merge -useContext +onlyGivenNames v3
        clear_value v3
        refine Touch.step ?_ (State.emit_touch ..) (by decide +kernel)
        exact h1
    · refine Touch.ite ?_ ?_
      · refine Touch.step ?_ (State.emit_touch ..) (by decide +kernel)
        exact h1
      · refine Touch.step ?_ (State.mgtDrop_touch ..) (by decide +kernel)
        exact h1

theorem execPldmRequest_touch (a0 : ℕ) (a1 : ℕ) (a2 : ℕ) (a3 : ℤ) (a4 : Bool) (s : State) :
    ∃ t, execPldmRequest a0 a1 a2 a3 a4 s = .next t ∧ Touch 0x32000000000000000000000000000000000000000000000000000000000000000000000000000000000000000000000000000000000000000000000000000000000000000000000c001fffffe00000102100 s t := by
  refine ⟨_, rfl, ?_⟩
  refine Touch.step ?_ (State.pldmRequest_touch ..) (by decide +kernel)
  exact Touch.refl _ _

theorem State.spdm_touch (s : State) (a1 : Bool) (a2 : ℕ) (a3 : ℕ) (a4 : Bool) (a5 : Bool) :
    Touch 0x8000000000000000000000000000000000000000000000000000000000000000000000000000000000000000000000000000000000000000000000000000000000000000000000000000000000000100000 s (State.spdm s a1 a2 a3 a4 a5) := by
  unfold State.spdm
  extract_lets -merge -useContext +onlyGivenNames v0
  extract_lets -merge -useContext +onlyGivenNames v1
  clear_value v1
  refine Touch.ite ?_ ?_
  · unfold v0
    refine Touch.step ?_ (State.emit_touch ..) (by decide +kernel)
    exact Touch.refl _ _
  · refine Touch.ite ?_ ?_
    · unfold v0
      refine Touch.step ?_ (State.emit_touch ..) (by decide +kernel)
      exact Touch.refl _ _
    · refine Touch.ite ?_ ?_
      · refine Touch.ite ?_ ?_
        · refine Touch.step ?_ (State.emit_touch ..) (by decide +kernel)
          exact Touch.refl _ _
        · refine Touch.ite ?_ ?_
          · refine Touch.step ?_ (State.emit_touch ..) (by decide +kernel)
            exact Touch.refl _ _
          · refine Touch.ite ?_ ?_
            · refine Touch.step ?_ (State.emit_touch ..) (by decide +kernel)
              exact Touch.refl _ _
            · unfold v0
              refine Touch.step ?_ (State.emit_touch ..) (by decide +kernel)
              exact Touch.refl _ _
      · refine Touch.ite ?_ ?_
        · unfold v0
          refine Touch.step ?_ (State.emit_touch ..) (by decide +kernel)
          exact Touch.refl _ _
        · refine Touch.ite ?_ ?_
          · refine Touch.step ?_ (State.emit_touch ..) (by decide +kernel)
            refine Touch.step ?_ (State.put_touch ..) (by decide +kernel)
            exact Touch.refl _ _
          · refine Touch.ite ?_ ?_
            · refine Touch.ite ?_ ?_
              · refine Touch.step ?_ (State.emit_touch ..) (by decide +kernel)
                refine Touch.step ?_ (State.put_touch ..) (by decide +kernel)
                exact Touch.refl _ _
              · unfold v0
                refine Touch.step ?_ (State.emit_touch ..) (by decide +kernel)
                exact Touch.refl _ _
            · refine Touch.step ?_ (State.emit_touch ..) (by decide +kernel)
              exact Touch.refl _ _

theorem State.spdmRequest_touch (s : State) (a1 : ℕ) (a2 : ℕ) (a3 : Bool) (a4 : Bool) :
    Touch 0x3a000000000000000000000000000000000000000000000000000000000000000000000000000000000000000000000000000000000000000000000000000000000000000000000000000000000000100100 s (State.spdmRequest s a1 a2 a3 a4) := by
  unfold State.spdmRequest
  refine Touch.ite ?_ ?_
  · exact Touch.refl _ _
  · refine Touch.ite ?_ ?_
    · refine Touch.step ?_ (State.mgtDrop_touch ..) (by decide +kernel)
      refine Touch.step ?_ (State.onBus_touch ..) (by decide +kernel)
      exact Touch.refl _ _
    · refine Touch.step ?_ (State.spdm_touch ..) (by decide +kernel)
      refine Touch.step ?_ (State.onBus_touch ..) (by decide +kernel)
      exact Touch.refl _ _

theorem execSpdmRequest_touch (a0 : ℕ) (a1 : ℕ) (a2 : Bool) (a3 : Bool) (s : State) :
    ∃ t, execSpdmRequest a0 a1 a2 a3 s = .next t ∧ Touch 0x3a000000000000000000000000000000000000000000000000000000000000000000000000000000000000000000000000000000000000000000000000000000000000000000000000000000000000100100 s t := by
  refine ⟨_, rfl, ?_⟩
  refine Touch.step ?_ (State.spdmRequest_touch ..) (by decide +kernel)
  exact Touch.refl _ _

theorem State.doeRequest_touch (s : State) (a1 : ℕ) (a2 : ℕ) (a3 : ℕ) (a4 : ℕ) (a5 : Bool) :
    Touch 0x8000000000000000000000000000000000000000000000000000000000000000000000000000000000000000000000000000000000000000000000000000000000000000000000000000000000000100000 s (State.doeRequest s a1 a2 a3 a4 a5) := by
  unfold State.doeRequest
  refine Touch.ite ?_ ?_
  · exact Touch.refl _ _
  · refine Touch.ite ?_ ?_
    · split
      · refine Touch.step ?_ (State.emit_touch ..) (by decide +kernel)
        exact Touch.refl _ _
      · refine Touch.step ?_ (State.emit_touch ..) (by decide +kernel)
        exact Touch.refl _ _
    · refine Touch.ite ?_ ?_
      · refine Touch.step ?_ (State.spdm_touch ..) (by decide +kernel)
        exact Touch.refl _ _
      · refine Touch.ite ?_ ?_
        · refine Touch.step ?_ (State.emit_touch ..) (by decide +kernel)
          exact Touch.refl _ _
        · refine Touch.step ?_ (State.emit_touch ..) (by decide +kernel)
          exact Touch.refl _ _

theorem execDoeRequest_touch (a0 : ℕ) (a1 : ℕ) (a2 : ℕ) (a3 : ℕ) (a4 : Bool) (s : State) :
    ∃ t, execDoeRequest a0 a1 a2 a3 a4 s = .next t ∧ Touch 0x8000000000000000000000000000000000000000000000000000000000000000000000000000000000000000000000000000000000000000000000000000000000000000000000000000000000000100000 s t := by
  refine ⟨_, rfl, ?_⟩
  refine Touch.step ?_ (State.doeRequest_touch ..) (by decide +kernel)
  exact Touch.refl _ _

end Sys2Proof.Machine
end

