-- ==== Sys2Proof/Laws/TouchCfgSpace.lean ====
section
/-! SUPPORT. What the operations of Machine/CfgSpace.lean may change. -/
namespace Sys2Proof.Machine

set_option Elab.async false

theorem State.cfgCommand_touch (s : State) (a1 : ℕ) (a2 : CfgWr) :
    Touch 0x49ff8000230002300180000000003f90100000000000000000006003800000000000000000f387803ffc00700021f00300000000240000000000000000000000000000000000c001fffffe00000bfffa0 s (State.cfgCommand s a1 a2) := by
  unfold State.cfgCommand
  extract_lets -merge -useContext +onlyGivenNames v0
  clear_value v0
  extract_lets -merge -useContext +onlyGivenNames v1
  refine Touch.cut v1 ?_ (fun h2 => ?_)
  · unfold v1
    refine Touch.step ?_ (State.modFn_touch ..) (by decide +kernel)
    exact Touch.refl _ _
  clear_value v1
  extract_lets -merge -useContext +onlyGivenNames v3
  refine Touch.cut v3 ?_ (fun h4 => ?_)
  · unfold v3
    refine Touch.ite ?_ ?_
    · refine Touch.step ?_ (State.emit_touch ..) (by decide +kernel)
      exact h2
    · exact h2
  clear_value v3
  refine Touch.ite ?_ ?_
  · refine Touch.step ?_ (State.sendHeld_touch ..) (by decide +kernel)
    exact h4
  · exact h4

theorem State.cfgPm_touch (s : State) (a1 : ℕ) (a2 : CfgWr) :
    Touch 0x49ff8000230002300180000000003f90100000000000000000006023800000400000000000f387803ffc00700021f00300000000240000000000000000000000000000000000c001fffffe00000bfffa0 s (State.cfgPm s a1 a2) := by
  unfold State.cfgPm
  extract_lets -merge -useContext +onlyGivenNames v0
  clear_value v0
  extract_lets -merge -useContext +onlyGivenNames v1
  clear_value v1
  extract_lets -merge -useContext +onlyGivenNames v2
  refine Touch.cut v2 ?_ (fun h3 => ?_)
  · unfold v2
    refine Touch.step ?_ (State.modFn_touch ..) (by decide +kernel)
    exact Touch.refl _ _
  clear_value v2
  extract_lets -merge -useContext +onlyGivenNames v4
  refine Touch.cut v4 ?_ (fun h5 => ?_)
  · unfold v4
    refine Touch.ite ?_ ?_
    · refine Touch.ite ?_ ?_
      · refine Touch.step ?_ (State.wakeEnd_touch ..) (by decide +kernel)
        refine Touch.step ?_ (State.modFn_touch ..) (by decide +kernel)
        exact h3
      · exact h3
    · exact Touch.refl _ _
  clear_value v4
  refine Touch.ite ?_ ?_
  · refine Touch.step ?_ (State.setDstate_touch ..) (by decide +kernel)
    exact h5
  · refine Touch.ite ?_ ?_
    · refine Touch.step ?_ (State.sendHeld_touch ..) (by decide +kernel)
      refine Touch.step ?_ (State.setDstate_touch ..) (by decide +kernel)
      exact h5
    · exact h5

theorem State.cfgDevCtl_touch (s : State) (a1 : ℕ) (a2 : CfgWr) :
    Touch 0x3ffffffffffffffffffffffffffffffffffffffffffffffffffffffffffffffffffffffffffffffffffffffffffffffffffffffffffffffffffffffffffffffffffffffffffffffffffffffffffffffffbfffb8 s (State.cfgDevCtl s a1 a2) := by
  unfold State.cfgDevCtl
  extract_lets -merge -useContext +onlyGivenNames v0
  clear_value v0
  extract_lets -merge -useContext +onlyGivenNames v1
  clear_value v1
  extract_lets -merge -useContext +onlyGivenNames v2
  refine Touch.cut v2 ?_ (fun h3 => ?_)
  · unfold v2
    refine Touch.step ?_ (State.modFn_touch ..) (by decide +kernel)
    exact Touch.refl _ _
  clear_value v2
  extract_lets -merge -useContext +onlyGivenNames v4
  refine Touch.cut v4 ?_ (fun h5 => ?_)
  · unfold v4
    refine Touch.ite ?_ ?_
    · refine Touch.step ?_ (State.breach_touch ..) (by decide +kernel)
      exact h3
    · exact h3
  clear_value v4
  refine Touch.ite ?_ ?_
  · exact h5
  · refine Touch.ite ?_ ?_
    · refine Touch.step ?_ (State.pfFlr_touch ..) (by decide +kernel)
      exact h5
    · refine Touch.step ?_ (State.settleAll_touch ..) (by decide +kernel)
      refine Touch.step ?_ (State.vfFlr_touch ..) (by decide +kernel)
      exact h5

theorem State.cfgMsix_touch (s : State) (a1 : ℕ) (a2 : CfgWr) :
    Touch 0x3800000000000000000000000000000000000000000000000000000000000000000000000000000000000000000000000000100080 s (State.cfgMsix s a1 a2) := by
  unfold State.cfgMsix
  extract_lets -merge -useContext +onlyGivenNames v0
  clear_value v0
  extract_lets -merge -useContext +onlyGivenNames v1
  clear_value v1
  extract_lets -merge -useContext +onlyGivenNames v2
  clear_value v2
  extract_lets -merge -useContext +onlyGivenNames v3
  refine Touch.cut v3 ?_ (fun h4 => ?_)
  · unfold v3
    refine Touch.step ?_ (State.modFn_touch ..) (by decide +kernel)
    exact Touch.refl _ _
  clear_value v3
  extract_lets -merge -useContext +onlyGivenNames v5
  refine Touch.cut v5 ?_ (fun h6 => ?_)
  · unfold v5
    refine Touch.ite ?_ ?_
    · refine Touch.step ?_ (State.msixEnable_touch ..) (by decide +kernel)
      exact h4
    · refine Touch.ite ?_ ?_
      · exact h4
      · refine Touch.ite ?_ ?_
        · refine Touch.step ?_ (State.modFn_touch ..) (by decide +kernel)
          exact h4
        · refine Touch.step ?_ (State.dropPending_touch ..) (by decide +kernel)
          refine Touch.step ?_ (State.modFn_touch ..) (by decide +kernel)
          exact h4
  clear_value v5
  refine Touch.ite ?_ ?_
  · refine Touch.step ?_ (State.msixUnmask_touch ..) (by decide +kernel)
    exact h6
  · exact h6

theorem State.cfgSriov_touch (s : State) (a1 : CfgWr) :
    Touch 0x49ff8000200002008180000000003f90100000000000000000006003800000000000000000f387803ffc007000a1f00300000000240000000000001b08984008000000000000c001fffffe00000bfffa8 s (State.cfgSriov s a1) := by
  unfold State.cfgSriov
  extract_lets -merge -useContext +onlyGivenNames v0
  clear_value v0
  split
  · extract_lets -merge -useContext +onlyGivenNames v1
    clear_value v1
    extract_lets -merge -useContext +onlyGivenNames v2
    refine Touch.cut v2 ?_ (fun h3 => ?_)
    · unfold v2
      refine Touch.ite ?_ ?_
      · refine Touch.step ?_ (State.breach_touch ..) (by decide +kernel)
        exact Touch.refl _ _
      · refine Touch.step ?_ (State.modFn_touch ..) (by decide +kernel)
        exact Touch.refl _ _
    clear_value v2
    extract_lets -merge -useContext +onlyGivenNames v4
    refine Touch.cut v4 ?_ (fun h5 => ?_)
    · unfold v4
      refine Touch.step ?_ (State.modFn_touch ..) (by decide +kernel)
      exact h3
    clear_value v4
    refine Touch.ite ?_ ?_
    · refine Touch.step ?_ (State.pumpHost_touch ..) (by decide +kernel)
      refine Touch.step ?_ (State.modFn_touch ..) (by decide +kernel)
      exact h5
    · refine Touch.ite ?_ ?_
      · refine Touch.step ?_ (State.settleAll_touch ..) (by decide +kernel)
        refine Touch.step ?_ (State.vfEnableClear_touch ..) (by decide +kernel)
        exact h5
      · exact h5
  · extract_lets -merge -useContext +onlyGivenNames v6
    clear_value v6
    refine Touch.ite ?_ ?_
    · exact Touch.refl _ _
    · refine Touch.ite ?_ ?_
      · refine Touch.step ?_ (State.breach_touch ..) (by decide +kernel)
        exact Touch.refl _ _
      · refine Touch.step ?_ (State.modFn_touch ..) (by decide +kernel)
        exact Touch.refl _ _
  · refine Touch.ite ?_ ?_
    · exact Touch.refl _ _
    · refine Touch.ite ?_ ?_
      · refine Touch.step ?_ (State.breach_touch ..) (by decide +kernel)
        exact Touch.refl _ _
      · refine Touch.step ?_ (State.modFn_touch ..) (by decide +kernel)
        exact Touch.refl _ _

theorem State.cfgVfBar_touch (s : State) (a1 : CfgWr) :
    Touch 0x80 s (State.cfgVfBar s a1) := by
  unfold State.cfgVfBar
  extract_lets -merge -useContext +onlyGivenNames v0
  clear_value v0
  extract_lets -merge -useContext +onlyGivenNames v1
  clear_value v1
  refine Touch.step ?_ (State.modFn_touch ..) (by decide +kernel)
  exact Touch.refl _ _

theorem State.cfgAts_touch (s : State) (a1 : ℕ) (a2 : CfgWr) :
    Touch 0x4080 s (State.cfgAts s a1 a2) := by
  unfold State.cfgAts
  extract_lets -merge -useContext +onlyGivenNames v0
  clear_value v0
  extract_lets -merge -useContext +onlyGivenNames v1
  refine Touch.cut v1 ?_ (fun h2 => ?_)
  · unfold v1
    refine Touch.step ?_ (State.modFn_touch ..) (by decide +kernel)
    exact Touch.refl _ _
  clear_value v1
  refine Touch.ite ?_ ?_
  · refine Touch.step ?_ (State.modFn_touch ..) (by decide +kernel)
    exact h2
  · refine Touch.ite ?_ ?_
    · refine Touch.step ?_ (State.atsOff_touch ..) (by decide +kernel)
      exact h2
    · exact h2

theorem State.cfgCxl_touch (s : State) (a1 : CfgWr) :
    Touch 0x49ff8000000000000180000000003f90100000000000000000006003000000000000000000f387803ffc00700021f00300000000240000000000000000000000000000000000c001fffffe00000bffda0 s (State.cfgCxl s a1) := by
  unfold State.cfgCxl
  refine Touch.ite ?_ ?_
  · refine Touch.step ?_ (State.cchPump_touch ..) (by decide +kernel)
    refine Touch.step ?_ (State.modFn_touch ..) (by decide +kernel)
    exact Touch.refl _ _
  · extract_lets -merge -useContext +onlyGivenNames v0
    clear_value v0
    extract_lets -merge -useContext +onlyGivenNames v1
    refine Touch.cut v1 ?_ (fun h2 => ?_)
    · unfold v1
      refine Touch.ite ?_ ?_
      · exact Touch.refl _ _
      · refine Touch.step ?_ (State.hostCtl_touch ..) (by decide +kernel)
        refine Touch.step ?_ (State.modFn_touch ..) (by decide +kernel)
        exact Touch.refl _ _
    clear_value v1
    refine Touch.ite ?_ ?_
    · refine Touch.step ?_ (State.hostCtl_touch ..) (by decide +kernel)
      exact h2
    · exact h2

theorem State.cfgDfLink_touch (s : State) (a1 : CfgWr) :
    Touch 0x6000049ff8000000000000000000000000000000000000000000000000003000000000000000000000000000000000000000000000000000000000000000000000000000000000000000000000000000100580 s (State.cfgDfLink s a1) := by
  unfold State.cfgDfLink
  extract_lets -merge -useContext +onlyGivenNames v0
  refine Touch.cut v0 ?_ (fun h1 => ?_)
  · unfold v0
    refine Touch.ite ?_ ?_
    · refine Touch.step ?_ (State.breach_touch ..) (by decide +kernel)
      exact Touch.refl _ _
    · exact Touch.refl _ _
  clear_value v0
  refine Touch.ite ?_ ?_
  · refine Touch.step ?_ (State.put_touch ..) (by decide +kernel)
    refine Touch.step ?_ (State.put_touch ..) (by decide +kernel)
    exact h1
  · exact h1

theorem State.cfgWritePf_touch (s : State) (a1 : CfgWr) :
    Touch 0x3ffffffffffffffffffffffffffffffffffffffffffffffffffffffffffffffffffffffffffffffffffffffffffffffffffffffffffffffffffffffffffffffffffffffffffffffffffffffffffffffffbfffb8 s (State.cfgWritePf s a1) := by
  unfold State.cfgWritePf
  extract_lets -merge -useContext +onlyGivenNames v0
  split
  · refine Touch.step ?_ (State.cfgCommand_touch ..) (by decide +kernel)
    exact Touch.refl _ _
  · refine Touch.step ?_ (State.modFn_touch ..) (by decide +kernel)
    exact Touch.refl _ _
  · extract_lets -merge -useContext +onlyGivenNames v1
    clear_value v1
    refine Touch.step ?_ (State.modFn_touch ..) (by decide +kernel)
    exact Touch.refl _ _
  · extract_lets -merge -useContext +onlyGivenNames v2
    clear_value v2
    refine Touch.step ?_ (State.modFn_touch ..) (by decide +kernel)
    exact Touch.refl _ _
  · extract_lets -merge -useContext +onlyGivenNames v3
    clear_value v3
    refine Touch.step ?_ (State.modFn_touch ..) (by decide +kernel)
    exact Touch.refl _ _
  · extract_lets -merge -useContext +onlyGivenNames v4
    clear_value v4
    refine Touch.step ?_ (State.modFn_touch ..) (by decide +kernel)
    exact Touch.refl _ _
  · extract_lets -merge -useContext +onlyGivenNames v5
    clear_value v5
    refine Touch.step ?_ (State.modFn_touch ..) (by decide +kernel)
    exact Touch.refl _ _
  · extract_lets -merge -useContext +onlyGivenNames v6
    clear_value v6
    refine Touch.step ?_ (State.modFn_touch ..) (by decide +kernel)
    exact Touch.refl _ _
  · refine Touch.step ?_ (State.modFn_touch ..) (by decide +kernel)
    exact Touch.refl _ _
  · refine Touch.step ?_ (State.modFn_touch ..) (by decide +kernel)
    exact Touch.refl _ _
  · refine Touch.step ?_ (State.cfgPm_touch ..) (by decide +kernel)
    exact Touch.refl _ _
  · refine Touch.step ?_ (State.cfgDevCtl_touch ..) (by decide +kernel)
    exact Touch.refl _ _
  · unfold v0
    refine Touch.step ?_ (State.modFn_touch ..) (by decide +kernel)
    exact Touch.refl _ _
  · refine Touch.step ?_ (State.modFn_touch ..) (by decide +kernel)
    exact Touch.refl _ _
  · unfold v0
    refine Touch.step ?_ (State.modFn_touch ..) (by decide +kernel)
    exact Touch.refl _ _
  · refine Touch.step ?_ (State.cfgMsix_touch ..) (by decide +kernel)
    exact Touch.refl _ _
  · refine Touch.step ?_ (State.modFn_touch ..) (by decide +kernel)
    exact Touch.refl _ _
  · refine Touch.step ?_ (State.modFn_touch ..) (by decide +kernel)
    exact Touch.refl _ _
  · refine Touch.step ?_ (State.modFn_touch ..) (by decide +kernel)
    exact Touch.refl _ _
  · refine Touch.step ?_ (State.modFn_touch ..) (by decide +kernel)
    exact Touch.refl _ _
  · refine Touch.step ?_ (State.modFn_touch ..) (by decide +kernel)
    exact Touch.refl _ _
  · unfold v0
    refine Touch.step ?_ (State.modFn_touch ..) (by decide +kernel)
    exact Touch.refl _ _
  · refine Touch.step ?_ (State.cfgSriov_touch ..) (by decide +kernel)
    exact Touch.refl _ _
  · refine Touch.step ?_ (State.cfgSriov_touch ..) (by decide +kernel)
    exact Touch.refl _ _
  · refine Touch.step ?_ (State.cfgSriov_touch ..) (by decide +kernel)
    exact Touch.refl _ _
  · refine Touch.step ?_ (State.cfgVfBar_touch ..) (by decide +kernel)
    exact Touch.refl _ _
  · refine Touch.step ?_ (State.cfgVfBar_touch ..) (by decide +kernel)
    exact Touch.refl _ _
  · refine Touch.step ?_ (State.cfgVfBar_touch ..) (by decide +kernel)
    exact Touch.refl _ _
  · refine Touch.step ?_ (State.cfgVfBar_touch ..) (by decide +kernel)
    exact Touch.refl _ _
  · refine Touch.step ?_ (State.cfgAts_touch ..) (by decide +kernel)
    exact Touch.refl _ _
  · refine Touch.step ?_ (State.modFn_touch ..) (by decide +kernel)
    exact Touch.refl _ _
  · extract_lets -merge -useContext +onlyGivenNames v7
    refine Touch.cut v7 ?_ (fun h8 => ?_)
    · unfold v7
      refine Touch.step ?_ (State.modFn_touch ..) (by decide +kernel)
      exact Touch.refl _ _
    clear_value v7
    refine Touch.ite ?_ ?_
    · refine Touch.step ?_ (State.settleAll_touch ..) (by decide +kernel)
      refine Touch.step ?_ (State.priReset_touch ..) (by decide +kernel)
      exact h8
    · exact h8
  · refine Touch.step ?_ (State.modFn_touch ..) (by decide +kernel)
    exact Touch.refl _ _
  · refine Touch.step ?_ (State.cfgCxl_touch ..) (by decide +kernel)
    exact Touch.refl _ _
  · refine Touch.step ?_ (State.cfgCxl_touch ..) (by decide +kernel)
    exact Touch.refl _ _
  · unfold v0
    refine Touch.step ?_ (State.modFn_touch ..) (by decide +kernel)
    exact Touch.refl _ _
  · unfold v0
    refine Touch.step ?_ (State.modFn_touch ..) (by decide +kernel)
    exact Touch.refl _ _
  · refine Touch.step ?_ (State.cfgDfLink_touch ..) (by decide +kernel)
    exact Touch.refl _ _
  · refine Touch.ite ?_ ?_
    · refine Touch.step ?_ (State.breach_touch ..) (by decide +kernel)
      exact Touch.refl _ _
    · exact Touch.refl _ _
  · exact Touch.refl _ _

theorem State.cfgWriteVf_touch (s : State) (a1 : ℕ) (a2 : CfgWr) :
    Touch 0x3ffffffffffffffffffffffffffffffffffffffffffffffffffffffffffffffffffffffffffffffffffffffffffffffffffffffffffffffffffffffffffffffffffffffffffffffffffffffffffffffffbfffb8 s (State.cfgWriteVf s a1 a2) := by
  unfold State.cfgWriteVf
  split
  · refine Touch.step ?_ (State.cfgCommand_touch ..) (by decide +kernel)
    exact Touch.refl _ _
  · refine Touch.step ?_ (State.cfgPm_touch ..) (by decide +kernel)
    exact Touch.refl _ _
  · refine Touch.step ?_ (State.cfgDevCtl_touch ..) (by decide +kernel)
    exact Touch.refl _ _
  · refine Touch.step ?_ (State.cfgMsix_touch ..) (by decide +kernel)
    exact Touch.refl _ _
  · refine Touch.step ?_ (State.cfgAts_touch ..) (by decide +kernel)
    exact Touch.refl _ _
  · refine Touch.ite ?_ ?_
    · refine Touch.step ?_ (State.breach_touch ..) (by decide +kernel)
      exact Touch.refl _ _
    · exact Touch.refl _ _
  · refine Touch.ite ?_ ?_
    · refine Touch.step ?_ (State.breach_touch ..) (by decide +kernel)
      exact Touch.refl _ _
    · exact Touch.refl _ _
  · exact Touch.refl _ _

theorem State.cfgWrite_touch (s : State) (a1 : ℕ) (a2 : ℕ) (a3 : ℕ) (a4 : ℕ) (a5 : List Byte) :
    Touch 0x3ffffffffffffffffffffffffffffffffffffffffffffffffffffffffffffffffffffffffffffffffffffffffffffffffffffffffffffffffffffffffffffffffffffffffffffffffffffffffffffffffbfffb8 s (State.cfgWrite s a1 a2 a3 a4 a5) := by
  unfold State.cfgWrite
  refine Touch.ite ?_ ?_
  · exact Touch.refl _ _
  · refine Touch.ite ?_ ?_
    · refine Touch.step ?_ (State.emit_touch ..) (by decide +kernel)
      refine Touch.step ?_ (State.violation_touch ..) (by decide +kernel)
      exact Touch.refl _ _
    · extract_lets -merge -useContext +onlyGivenNames v0
      clear_value v0
      extract_lets -merge -useContext +onlyGivenNames v1
      clear_value v1
      extract_lets -merge -useContext +onlyGivenNames v2
      clear_value v2
      extract_lets -merge -useContext +onlyGivenNames v3
      clear_value v3
      extract_lets -merge -useContext +onlyGivenNames v4
      clear_value v4
      extract_lets -merge -useContext +onlyGivenNames v5
      clear_value v5
      refine Touch.ite ?_ ?_
      · refine Touch.step ?_ (State.cfgWritePf_touch ..) (by decide +kernel)
        exact Touch.refl _ _
      · refine Touch.step ?_ (State.cfgWriteVf_touch ..) (by decide +kernel)
        exact Touch.refl _ _

end Sys2Proof.Machine
end

