-- ==== Sys2Proof/Laws/TouchRegWrite.lean ====
section
/-! SUPPORT. What the operations of Machine/RegWrite.lean may change. -/
namespace Sys2Proof.Machine

set_option Elab.async false

theorem State.satClear_touch (s : State) (f : Fld) (i : Nat) : Touch 0x3ffffffffffffffffffffffffffffffffffffffffffffffffffffffffffffffffffffffffffffffffffffffffffffffffffffffffffffffffffffffffffffffffffffffffffffffffffffffffffffffff000000 s (s.satClear f i) := by
  unfold State.satClear
  split
  · exact ((s.put_touchAny f i 0).weaken (by decide +kernel)).step (State.put_touchAny ..) (by decide +kernel)
  · exact (s.put_touchAny f i 0).weaken (by decide +kernel)

theorem State.fldWrite_touch (s : State) (w : RegWr) (i : Nat) (f : Fld) : Touch 0x3ffffffffffffffffffffffffffffffffffffffffffffffffffffffffffffffffffffffffffffffffffffffffffffffffffffffffffffffffffffffffffffffffffffffffffffffffffffffffffffffff000000 s (s.fldWrite w i f) := by
  unfold State.fldWrite
  split
  · exact Touch.ite ((s.put_touchAny _ _ _).weaken (by decide +kernel)) (Touch.refl _ _)
  · exact Touch.ite (Touch.refl _ _) (Touch.ite ((State.satClear_touch ..).weaken (by decide +kernel)) ((s.put_touchAny _ _ _).weaken (by decide +kernel)))
  · exact Touch.refl _ _

theorem State.regPlain_touch (s : State) (a1 : RegWr) (a2 : Reg) (a3 : ℕ) :
    Touch 0x3ffffffffffffffffffffffffffffffffffffffffffffffffffffffffffffffffffffffffffffffffffffffffffffffffffffffffffffffffffffffffffffffffffffffffffffffffffffffffffffffff000000 s (State.regPlain s a1 a2 a3) := by
  unfold State.regPlain
  refine Touch.foldl ?_ (fun y0 y1 h2 => ?_)
  · exact Touch.refl _ _
  · refine Touch.step ?_ (State.fldWrite_touch ..) (by decide +kernel)
    exact h2

theorem State.clearWrite_touch (s : State) (a1 : RegWr) (a2 : Reg) (a3 : ℕ) :
    Touch 0x3ffffffffffffffffffffffffffffffffffffffffffffffffffffffffffffffffffffffffffffffffffffffffffffffffffffffffffffffffffffffffffffffffffffffffffffffffffffffffffffffff000000 s (State.clearWrite s a1 a2 a3) := by
  unfold State.clearWrite
  refine Touch.foldl ?_ (fun y0 y1 h2 => ?_)
  · exact Touch.refl _ _
  · refine Touch.ite ?_ ?_
    · refine Touch.step ?_ (State.fldWrite_touch ..) (by decide +kernel)
      exact h2
    · exact h2

theorem State.kimOp_touch (s : State) (a1 : ℕ) :
    Touch 0x3ffffffffffffffffffffffffffffffffffffffffffffffffffffffffffffffffffffffffffffffffffffffffffffffffffffffffffffffffffffffffffffffffffffffffffffffffffffffffffffffffbfffb8 s (State.kimOp s a1) := by
  unfold State.kimOp
  split
  · refine Touch.step ?_ (State.kimStage_touch ..) (by decide +kernel)
    exact Touch.refl _ _
  · refine Touch.step ?_ (State.kimValidate_touch ..) (by decide +kernel)
    exact Touch.refl _ _
  · extract_lets -merge -useContext +onlyGivenNames v0
    refine Touch.cut v0 ?_ (fun h1 => ?_)
    · unfold v0
      refine Touch.step ?_ (State.put_touch ..) (by decide +kernel)
      exact Touch.refl _ _
    clear_value v0
    refine Touch.step ?_ (State.kimArm_touch ..) (by decide +kernel)
    exact h1
  · refine Touch.step ?_ (State.kimAbort_touch ..) (by decide +kernel)
    exact Touch.refl _ _
  · refine Touch.step ?_ (State.kimDiscard_touch ..) (by decide +kernel)
    exact Touch.refl _ _
  · refine Touch.step ?_ (State.kimResolve_touch ..) (by decide +kernel)
    exact Touch.refl _ _
  · refine Touch.step ?_ (State.kimResolve_touch ..) (by decide +kernel)
    exact Touch.refl _ _
  · refine Touch.step ?_ (State.kimDecideCmd_touch ..) (by decide +kernel)
    exact Touch.refl _ _
  · refine Touch.step ?_ (State.kimDecideCmd_touch ..) (by decide +kernel)
    exact Touch.refl _ _
  · refine Touch.step ?_ (State.put_touch ..) (by decide +kernel)
    exact Touch.refl _ _

theorem State.fwuOp_touch (s : State) (a1 : ℕ) :
    Touch 0x300000000000000000000000000000000000000000000000000000000033f0000000000000000000000000000000000000001000c0 s (State.fwuOp s a1) := by
  unfold State.fwuOp
  split
  · refine Touch.step ?_ (State.fwuStage_touch ..) (by decide +kernel)
    exact Touch.refl _ _
  · refine Touch.step ?_ (State.fwuVerify_touch ..) (by decide +kernel)
    exact Touch.refl _ _
  · refine Touch.step ?_ (State.fwuActivate_touch ..) (by decide +kernel)
    exact Touch.refl _ _
  · refine Touch.step ?_ (State.fwuRevert_touch ..) (by decide +kernel)
    exact Touch.refl _ _
  · refine Touch.step ?_ (State.fwuDiscard_touch ..) (by decide +kernel)
    exact Touch.refl _ _
  · refine Touch.step ?_ (State.put_touch ..) (by decide +kernel)
    exact Touch.refl _ _

theorem State.twnCmd_touch (s : State) (a1 : RegWr) :
    Touch 0x3ffffffffffffffffffffffffffffffffffffffffffffffffffffffffffffffffffffffffffffffffffffffffffffffffffffffffffffffffffffffffffffffffffffffffffffffffffffffffffffffffaa0920 s (State.twnCmd s a1) := by
  unfold State.twnCmd
  refine Touch.ite ?_ ?_
  · exact Touch.refl _ _
  · extract_lets -merge -useContext +onlyGivenNames v0
    refine Touch.cut v0 ?_ (fun h1 => ?_)
    · unfold v0
      refine Touch.step ?_ (State.regPlain_touch ..) (by decide +kernel)
      exact Touch.refl _ _
    clear_value v0
    extract_lets -merge -useContext +onlyGivenNames v2
    clear_value v2
    extract_lets -merge -useContext +onlyGivenNames v3
    clear_value v3
    extract_lets -merge -useContext +onlyGivenNames v4
    clear_value v4
    refine Touch.ite ?_ ?_
    · refine Touch.step ?_ (State.twinEnd_touch ..) (by decide +kernel)
      exact h1
    · refine Touch.step ?_ (State.twinOp_touch ..) (by decide +kernel)
      refine Touch.step ?_ (State.put_touch ..) (by decide +kernel)
      exact h1

theorem State.sqCfgWrite_touch (s : State) (a1 : RegWr) (a2 : ℕ) :
    Touch 0x3ffffffffffffffffffffffffffffffffffffffffffffffffffffffffffffffffffffffffffffffffffffffffffffffffffffffffffffffffffffffffffffffffffffffffffffffffffffffffffffffff000000 s (State.sqCfgWrite s a1 a2) := by
  unfold State.sqCfgWrite
  extract_lets -merge -useContext +onlyGivenNames v0
  clear_value v0
  extract_lets -merge -useContext +onlyGivenNames v1
  refine Touch.cut v1 ?_ (fun h2 => ?_)
  · unfold v1
    refine Touch.step ?_ (State.regPlain_touch ..) (by decide +kernel)
    exact Touch.refl _ _
  clear_value v1
  extract_lets -merge -useContext +onlyGivenNames v3
  clear_value v3
  refine Touch.ite ?_ ?_
  · exact h2
  · refine Touch.ite ?_ ?_
    · refine Touch.step ?_ (State.put_touch ..) (by decide +kernel)
      exact h2
    · refine Touch.ite ?_ ?_
      · exact h2
      · refine Touch.step ?_ (State.put_touch ..) (by decide +kernel)
        refine Touch.step ?_ (State.put_touch ..) (by decide +kernel)
        exact h2

theorem State.cqCfgWrite_touch (s : State) (a1 : RegWr) (a2 : ℕ) :
    Touch 0x3ffffffffffffffffffffffffffffffffffffffffffffffffffffffffffffffffffffffffffffffffffffffffffffffffffffffffffffffffffffffffffffffffffffffffffffffffffffffffffffffff000000 s (State.cqCfgWrite s a1 a2) := by
  unfold State.cqCfgWrite
  extract_lets -merge -useContext +onlyGivenNames v0
  clear_value v0
  extract_lets -merge -useContext +onlyGivenNames v1
  refine Touch.cut v1 ?_ (fun h2 => ?_)
  · unfold v1
    refine Touch.step ?_ (State.regPlain_touch ..) (by decide +kernel)
    exact Touch.refl _ _
  clear_value v1
  extract_lets -merge -useContext +onlyGivenNames v3
  clear_value v3
  refine Touch.ite ?_ ?_
  · exact h2
  · refine Touch.ite ?_ ?_
    · refine Touch.step ?_ (State.put_touch ..) (by decide +kernel)
      exact h2
    · refine Touch.ite ?_ ?_
      · exact h2
      · refine Touch.step ?_ (State.put_touch ..) (by decide +kernel)
        refine Touch.step ?_ (State.put_touch ..) (by decide +kernel)
        refine Touch.step ?_ (State.put_touch ..) (by decide +kernel)
        exact h2

theorem State.provCtlWrite_touch (s : State) (a1 : RegWr) (a2 : ℕ) :
    Touch 0x3ffffffffffffffffffffffffffffffffffffffffffffffffffffffffffffffffffffffffffffffffffffffffffffffffffffffffffffffffffffffffffffffffffffffffffffffffffffffffffffffffbfffa8 s (State.provCtlWrite s a1 a2) := by
  unfold State.provCtlWrite
  extract_lets -merge -useContext +onlyGivenNames v0
  refine Touch.cut v0 ?_ (fun h1 => ?_)
  · unfold v0
    refine Touch.step ?_ (State.regPlain_touch ..) (by decide +kernel)
    exact Touch.refl _ _
  clear_value v0
  extract_lets -merge -useContext +onlyGivenNames v2
  refine Touch.cut v2 ?_ (fun h3 => ?_)
  · unfold v2
    refine Touch.ite ?_ ?_
    · refine Touch.step ?_ (State.quiesce_touch ..) (by decide +kernel)
      exact h1
    · exact h1
  clear_value v2
  extract_lets -merge -useContext +onlyGivenNames v4
  refine Touch.cut v4 ?_ (fun h5 => ?_)
  · unfold v4
    refine Touch.ite ?_ ?_
    · refine Touch.step ?_ (State.resume_touch ..) (by decide +kernel)
      exact h3
    · exact h3
  clear_value v4
  refine Touch.ite ?_ ?_
  · refine Touch.step ?_ (State.provReset_touch ..) (by decide +kernel)
    exact h5
  · exact h5

theorem State.coreCfgWrite_touch (s : State) (a1 : RegWr) (a2 : ℕ) :
    Touch 0x3ffffffffffffffffffffffffffffffffffffffffffffffffffffffffffffffffffffffffffffffffffffffffffffffffffffffffffffffffffffffffffffffffffffffffffffffffffffffffffffffff163100 s (State.coreCfgWrite s a1 a2) := by
  unfold State.coreCfgWrite
  extract_lets -merge -useContext +onlyGivenNames v0
  clear_value v0
  extract_lets -merge -useContext +onlyGivenNames v1
  clear_value v1
  extract_lets -merge -useContext +onlyGivenNames v2
  refine Touch.cut v2 ?_ (fun h3 => ?_)
  · unfold v2
    refine Touch.step ?_ (State.regPlain_touch ..) (by decide +kernel)
    exact Touch.refl _ _
  clear_value v2
  extract_lets -merge -useContext +onlyGivenNames v4
  refine Touch.cut v4 ?_ (fun h5 => ?_)
  · unfold v4
    refine Touch.ite ?_ ?_
    · refine Touch.step ?_ (State.put_touch ..) (by decide +kernel)
      refine Touch.step ?_ (State.put_touch ..) (by decide +kernel)
      exact h3
    · exact h3
  clear_value v4
  extract_lets -merge -useContext +onlyGivenNames v6
  refine Touch.cut v6 ?_ (fun h7 => ?_)
  · unfold v6
    refine Touch.ite ?_ ?_
    · refine Touch.step ?_ (State.assignCore_touch ..) (by decide +kernel)
      exact h5
    · exact h5
  clear_value v6
  refine Touch.ite ?_ ?_
  · refine Touch.step ?_ (State.releaseCore_touch ..) (by decide +kernel)
    exact h7
  · exact h7

theorem State.ringCfgWrite_touch (s : State) (w : RegWr) (r : Nat) :
    Touch 0x3ffffffffffffffffffffffffffffffffffffffffffffffffffffffffffffffffffffffffffffffffffffffffffffffffffffffffffffffffffffffffffffffffffffffffffffffffffffffffffffffffbffba0 s (s.ringCfgWrite w r) := by
  unfold State.ringCfgWrite
  split
  rename_i reg i en size _
  extract_lets was on old t0 t
  refine Touch.cut t0 ?_ (fun h0 => ?_)
  · unfold t0
    refine Touch.step ?_ (State.put_touchAny ..) (by decide +kernel)
    exact (State.regPlain_touch ..).weaken (by decide +kernel)
  clear_value t0
  refine Touch.cut t ?_ (fun h1 => ?_)
  · exact Touch.ite (h0.step (State.put_touchAny ..) (by decide +kernel)) h0
  exact Touch.ite (h1.step (State.ringEnable_touch ..) (by decide +kernel)) (Touch.ite (h1.step (State.ringDisable_touch ..) (by decide +kernel)) h1)

theorem State.ringRegWrite_touch (s : State) (a1 : RegWr) (a2 : ℕ) (a3 : ℕ) :
    Touch 0x3ffffffffffffffffffffffffffffffffffffffffffffffffffffffffffffffffffffffffffffffffffffffffffffffffffffffffffffffffffffffffffffffffffffffffffffffffffffffffffffffffbffba0 s (State.ringRegWrite s a1 a2 a3) := by
  unfold State.ringRegWrite
  split
  · split
    · refine Touch.ite ?_ ?_
      · exact Touch.refl _ _
      · refine Touch.step ?_ (State.regPlain_touch ..) (by decide +kernel)
        exact Touch.refl _ _
    · refine Touch.step ?_ (State.ringCfgWrite_touch ..) (by decide +kernel)
      exact Touch.refl _ _
    · refine Touch.ite ?_ ?_
      · refine Touch.step ?_ (State.ringHeadWrite_touch ..) (by decide +kernel)
        exact Touch.refl _ _
      · exact Touch.refl _ _
    · extract_lets -merge -useContext +onlyGivenNames v0
      refine Touch.cut v0 ?_ (fun h1 => ?_)
      · unfold v0
        refine Touch.step ?_ (State.regPlain_touch ..) (by decide +kernel)
        exact Touch.refl _ _
      clear_value v0
      refine Touch.ite ?_ ?_
      · refine Touch.step ?_ (State.clrLost_touch ..) (by decide +kernel)
        exact h1
      · exact h1

theorem State.regWrite_touch (s : State) (a1 : Reg) (a2 : ℕ) (a3 : RegWr) (a4 : ℕ) :
    Touch 0x3ffffffffffffffffffffffffffffffffffffffffffffffffffffffffffffffffffffffffffffffffffffffffffffffffffffffffffffffffffffffffffffffffffffffffffffffffffffffffffffffffbffff8 s (State.regWrite s a1 a2 a3 a4) := by
  unfold State.regWrite
  split
  · refine Touch.ite ?_ ?_
    · refine Touch.step ?_ (State.pwrHold_touch ..) (by decide +kernel)
      exact Touch.refl _ _
    · exact Touch.refl _ _
  · refine Touch.ite ?_ ?_
    · refine Touch.step ?_ (State.rstReqWarm_touch ..) (by decide +kernel)
      exact Touch.refl _ _
    · refine Touch.step ?_ (State.rstFabPorts_touch ..) (by decide +kernel)
      exact Touch.refl _ _
  · refine Touch.ite ?_ ?_
    · refine Touch.step ?_ (State.kimOp_touch ..) (by decide +kernel)
      exact Touch.refl _ _
    · exact Touch.refl _ _
  · refine Touch.ite ?_ ?_
    · refine Touch.step ?_ (State.lockedWrite_touch ..) (by decide +kernel)
      exact Touch.refl _ _
    · refine Touch.step ?_ (State.regPlain_touch ..) (by decide +kernel)
      exact Touch.refl _ _
  · refine Touch.ite ?_ ?_
    · refine Touch.step ?_ (State.lockedWrite_touch ..) (by decide +kernel)
      exact Touch.refl _ _
    · refine Touch.step ?_ (State.regPlain_touch ..) (by decide +kernel)
      exact Touch.refl _ _
  · refine Touch.ite ?_ ?_
    · refine Touch.step ?_ (State.lockedWrite_touch ..) (by decide +kernel)
      exact Touch.refl _ _
    · refine Touch.step ?_ (State.regPlain_touch ..) (by decide +kernel)
      exact Touch.refl _ _
  · refine Touch.ite ?_ ?_
    · refine Touch.step ?_ (State.lockedWrite_touch ..) (by decide +kernel)
      exact Touch.refl _ _
    · refine Touch.step ?_ (State.regPlain_touch ..) (by decide +kernel)
      exact Touch.refl _ _
  · refine Touch.step ?_ (State.sqCfgWrite_touch ..) (by decide +kernel)
    exact Touch.refl _ _
  · refine Touch.step ?_ (State.cqCfgWrite_touch ..) (by decide +kernel)
    exact Touch.refl _ _
  · refine Touch.ite ?_ ?_
    · refine Touch.step ?_ (State.sqDoorbell_touch ..) (by decide +kernel)
      exact Touch.refl _ _
    · exact Touch.refl _ _
  · refine Touch.ite ?_ ?_
    · refine Touch.step ?_ (State.cqDoorbell_touch ..) (by decide +kernel)
      exact Touch.refl _ _
    · exact Touch.refl _ _
  · refine Touch.step ?_ (State.provCtlWrite_touch ..) (by decide +kernel)
    exact Touch.refl _ _
  · refine Touch.ite ?_ ?_
    · refine Touch.step ?_ (State.fwuOp_touch ..) (by decide +kernel)
      exact Touch.refl _ _
    · exact Touch.refl _ _
  · refine Touch.step ?_ (State.coreCfgWrite_touch ..) (by decide +kernel)
    exact Touch.refl _ _
  · refine Touch.step ?_ (State.lntProvDb_touch ..) (by decide +kernel)
    exact Touch.refl _ _
  · extract_lets -merge -useContext +onlyGivenNames v0
    refine Touch.cut v0 ?_ (fun h1 => ?_)
    · unfold v0
      refine Touch.step ?_ (State.regPlain_touch ..) (by decide +kernel)
      exact Touch.refl _ _
    clear_value v0
    refine Touch.ite ?_ ?_
    · refine Touch.step ?_ (State.kick_touch ..) (by decide +kernel)
      exact h1
    · exact h1
  · refine Touch.step ?_ (State.lntDb_touch ..) (by decide +kernel)
    exact Touch.refl _ _
  · refine Touch.ite ?_ ?_
    · refine Touch.step ?_ (State.lntHostIrq_touch ..) (by decide +kernel)
      exact Touch.refl _ _
    · exact Touch.refl _ _
  · refine Touch.step ?_ (State.cchPump_touch ..) (by decide +kernel)
    refine Touch.step ?_ (State.regPlain_touch ..) (by decide +kernel)
    exact Touch.refl _ _
  · refine Touch.ite ?_ ?_
    · refine Touch.step ?_ (State.dirDrain_touch ..) (by decide +kernel)
      exact Touch.refl _ _
    · exact Touch.refl _ _
  · exact Touch.refl _ _
  · extract_lets -merge -useContext +onlyGivenNames v2
    refine Touch.cut v2 ?_ (fun h3 => ?_)
    · unfold v2
      refine Touch.step ?_ (State.regPlain_touch ..) (by decide +kernel)
      exact Touch.refl _ _
    clear_value v2
    refine Touch.ite ?_ ?_
    · refine Touch.step ?_ (State.quarantineRelease_touch ..) (by decide +kernel)
      exact h3
    · exact h3
  · refine Touch.step ?_ (State.updIntx_touch ..) (by decide +kernel)
    refine Touch.step ?_ (State.regPlain_touch ..) (by decide +kernel)
    exact Touch.refl _ _
  · refine Touch.step ?_ (State.updIntx_touch ..) (by decide +kernel)
    refine Touch.step ?_ (State.regPlain_touch ..) (by decide +kernel)
    exact Touch.refl _ _
  · refine Touch.ite ?_ ?_
    · exact Touch.refl _ _
    · extract_lets -merge -useContext +onlyGivenNames v4
      clear_value v4
      split
      · refine Touch.step ?_ (State.dlReenum_touch ..) (by decide +kernel)
        exact Touch.refl _ _
      · refine Touch.step ?_ (State.dlRelease_touch ..) (by decide +kernel)
        exact Touch.refl _ _
      · refine Touch.step ?_ (State.regPlain_touch ..) (by decide +kernel)
        exact Touch.refl _ _
  · refine Touch.ite ?_ ?_
    · refine Touch.step ?_ (State.twnCmd_touch ..) (by decide +kernel)
      exact Touch.refl _ _
    · refine Touch.step ?_ (State.regPlain_touch ..) (by decide +kernel)
      exact Touch.refl _ _
  · refine Touch.step ?_ (State.ringRegWrite_touch ..) (by decide +kernel)
    exact Touch.refl _ _
  · refine Touch.step ?_ (State.ringRegWrite_touch ..) (by decide +kernel)
    exact Touch.refl _ _
  · refine Touch.step ?_ (State.ringRegWrite_touch ..) (by decide +kernel)
    exact Touch.refl _ _
  · refine Touch.step ?_ (State.ringRegWrite_touch ..) (by decide +kernel)
    exact Touch.refl _ _
  · refine Touch.step ?_ (State.ringRegWrite_touch ..) (by decide +kernel)
    exact Touch.refl _ _
  · refine Touch.step ?_ (State.ringRegWrite_touch ..) (by decide +kernel)
    exact Touch.refl _ _
  · refine Touch.step ?_ (State.ringRegWrite_touch ..) (by decide +kernel)
    exact Touch.refl _ _
  · refine Touch.step ?_ (State.ringRegWrite_touch ..) (by decide +kernel)
    exact Touch.refl _ _
  · extract_lets -merge -useContext +onlyGivenNames v5
    refine Touch.cut v5 ?_ (fun h6 => ?_)
    · unfold v5
      refine Touch.ite ?_ ?_
      · refine Touch.step ?_ (State.emberTrigger_touch ..) (by decide +kernel)
        exact Touch.refl _ _
      · exact Touch.refl _ _
    clear_value v5
    refine Touch.ite ?_ ?_
    · refine Touch.step ?_ (State.rearm_touch ..) (by decide +kernel)
      exact h6
    · exact h6
  · refine Touch.ite ?_ ?_
    · refine Touch.step ?_ (State.embKeep_touch ..) (by decide +kernel)
      exact Touch.refl _ _
    · exact Touch.refl _ _
  · refine Touch.step ?_ (State.updFaultOut_touch ..) (by decide +kernel)
    refine Touch.step ?_ (State.regPlain_touch ..) (by decide +kernel)
    exact Touch.refl _ _
  · refine Touch.step ?_ (State.embNote_touch ..) (by decide +kernel)
    exact Touch.refl _ _
  · refine Touch.step ?_ (State.regPlain_touch ..) (by decide +kernel)
    exact Touch.refl _ _

theorem State.regSpaceWrite_touch (s : State) (a1 : Option ℕ) (a2 : ℕ) (a3 : ℕ) (a4 : ℕ) :
    Touch 0x3ffffffffffffffffffffffffffffffffffffffffffffffffffffffffffffffffffffffffffffffffffffffffffffffffffffffffffffffffffffffffffffffffffffffffffffffffffffffffffffffffbffff8 s (State.regSpaceWrite s a1 a2 a3 a4) := by
  unfold State.regSpaceWrite
  extract_lets -merge -useContext +onlyGivenNames v0
  clear_value v0
  extract_lets -merge -useContext +onlyGivenNames v1
  clear_value v1
  extract_lets -merge -useContext +onlyGivenNames v2
  clear_value v2
  extract_lets -merge -useContext +onlyGivenNames v3
  clear_value v3
  extract_lets -merge -useContext +onlyGivenNames v4
  split
  · split
    · refine Touch.step ?_ (State.regWrite_touch ..) (by decide +kernel)
      unfold v4
      refine Touch.ite ?_ ?_
      · refine Touch.step ?_ (State.breach_touch ..) (by decide +kernel)
        exact Touch.refl _ _
      · exact Touch.refl _ _
    · exact Touch.refl _ _
  · split
    · exact Touch.refl _ _
    · refine Touch.ite ?_ ?_
      · exact Touch.refl _ _
      · refine Touch.ite ?_ ?_
        · refine Touch.step ?_ (State.clearWrite_touch ..) (by decide +kernel)
          exact Touch.refl _ _
        · refine Touch.step ?_ (State.regWrite_touch ..) (by decide +kernel)
          unfold v4
          refine Touch.ite ?_ ?_
          · refine Touch.step ?_ (State.breach_touch ..) (by decide +kernel)
            exact Touch.refl _ _
          · exact Touch.refl _ _

theorem State.bar0Write_touch (s : State) (a1 : ℕ) (a2 : ℕ) (a3 : ℕ) :
    Touch 0x3ffffffffffffffffffffffffffffffffffffffffffffffffffffffffffffffffffffffffffffffffffffffffffffffffffffffffffffffffffffffffffffffffffffffffffffffffffffffffffffffffbffff8 s (State.bar0Write s a1 a2 a3) := by
  unfold State.bar0Write
  refine Touch.ite ?_ ?_
  · exact Touch.refl _ _
  · refine Touch.ite ?_ ?_
    · refine Touch.step ?_ (State.regSpaceWrite_touch ..) (by decide +kernel)
      exact Touch.refl _ _
    · refine Touch.ite ?_ ?_
      · exact Touch.refl _ _
      · refine Touch.step ?_ (State.regSpaceWrite_touch ..) (by decide +kernel)
        exact Touch.refl _ _

theorem State.msixWrite_touch (s : State) (a1 : ℕ) (a2 : ℕ) (a3 : ℕ) (a4 : ℕ) :
    Touch 0x100080 s (State.msixWrite s a1 a2 a3 a4) := by
  unfold State.msixWrite
  extract_lets -merge -useContext +onlyGivenNames v0
  clear_value v0
  refine Touch.ite ?_ ?_
  · exact Touch.refl _ _
  · extract_lets -merge -useContext +onlyGivenNames v1
    extract_lets -merge -useContext +onlyGivenNames v2
    clear_value v2
    extract_lets -merge -useContext +onlyGivenNames v3
    refine Touch.cut v3 ?_ (fun h4 => ?_)
    · unfold v3
      unfold v1
      split
      · refine Touch.step ?_ (State.modMsix_touch ..) (by decide +kernel)
        exact Touch.refl _ _
      · refine Touch.step ?_ (State.modMsix_touch ..) (by decide +kernel)
        exact Touch.refl _ _
      · refine Touch.step ?_ (State.modMsix_touch ..) (by decide +kernel)
        exact Touch.refl _ _
      · refine Touch.ite ?_ ?_
        · refine Touch.step ?_ (State.modMsix_touch ..) (by decide +kernel)
          exact Touch.refl _ _
        · refine Touch.ite ?_ ?_
          · refine Touch.step ?_ (State.msixUnmask_touch ..) (by decide +kernel)
            exact Touch.refl _ _
          · exact Touch.refl _ _
    clear_value v3
    refine Touch.ite ?_ ?_
    · unfold v1
      split
      · refine Touch.step ?_ (State.modMsix_touch ..) (by decide +kernel)
        exact h4
      · refine Touch.step ?_ (State.modMsix_touch ..) (by decide +kernel)
        exact h4
      · refine Touch.step ?_ (State.modMsix_touch ..) (by decide +kernel)
        exact h4
      · refine Touch.ite ?_ ?_
        · refine Touch.step ?_ (State.modMsix_touch ..) (by decide +kernel)
          exact h4
        · refine Touch.ite ?_ ?_
          · refine Touch.step ?_ (State.msixUnmask_touch ..) (by decide +kernel)
            exact h4
          · exact h4
    · exact h4

theorem State.badRequest_touch (s : State) (a1 : ℕ) (a2 : ℕ) (a3 : Bool) (a4 : List Byte) :
    Touch 0x49ff80000000000000000000000000000000000000000000000000030001fe100000000000000000000000000000000000000000000000000000000000000000000000000000000000000000000100580 s (State.badRequest s a1 a2 a3 a4) := by
  unfold State.badRequest
  extract_lets -merge -useContext +onlyGivenNames v0
  refine Touch.cut v0 ?_ (fun h1 => ?_)
  · unfold v0
    refine Touch.step ?_ (State.violation_touch ..) (by decide +kernel)
    exact Touch.refl _ _
  clear_value v0
  refine Touch.ite ?_ ?_
  · exact h1
  · refine Touch.step ?_ (State.emit_touch ..) (by decide +kernel)
    exact h1

theorem execHostMemoryRequest_touch (a0 : Bool) (a1 : ℕ) (a2 : ℕ) (a3 : Bool) (a4 : Bool) (a5 : List Byte) (s : State) :
    ∃ t, execHostMemoryRequest a0 a1 a2 a3 a4 a5 s = .next t ∧ Touch 0x49ff80000000000000000000000000000000000000000000000000030001fe100000000000000000000000000000000000000000000000000000000000000000000000000000000000000000000100580 s t := by
  refine ⟨_, rfl, ?_⟩
  refine Touch.ite ?_ ?_
  · exact Touch.refl _ _
  · split
    · refine Touch.step ?_ (State.badRequest_touch ..) (by decide +kernel)
      exact Touch.refl _ _
    · exact Touch.refl _ _

theorem State.hostWrite_touch (s : State) (a1 : ℕ) (a2 : BarHit) (a3 : ℕ) (a4 : ℕ) (a5 : ℕ) (a6 : List Byte) :
    Touch 0x3ffffffffffffffffffffffffffffffffffffffffffffffffffffffffffffffffffffffffffffffffffffffffffffffffffffffffffffffffffffffffffffffffffffffffffffffffffffffffffffffffbffff8 s (State.hostWrite s a1 a2 a3 a4 a5 a6) := by
  unfold State.hostWrite
  extract_lets -merge -useContext +onlyGivenNames v0
  clear_value v0
  extract_lets -merge -useContext +onlyGivenNames v1
  clear_value v1
  refine Touch.ite ?_ ?_
  · exact Touch.refl _ _
  · refine Touch.ite ?_ ?_
    · refine Touch.step ?_ (State.badRequest_touch ..) (by decide +kernel)
      exact Touch.refl _ _
    · refine Touch.ite ?_ ?_
      · refine Touch.step ?_ (State.badRequest_touch ..) (by decide +kernel)
        exact Touch.refl _ _
      · split
        · refine Touch.step ?_ (State.bar0Write_touch ..) (by decide +kernel)
          exact Touch.refl _ _
        · split
          · refine Touch.step ?_ (State.regSpaceWrite_touch ..) (by decide +kernel)
            exact Touch.refl _ _
          · exact Touch.refl _ _
        · refine Touch.step ?_ (State.msixWrite_touch ..) (by decide +kernel)
          exact Touch.refl _ _
        · refine Touch.step ?_ (State.msixWrite_touch ..) (by decide +kernel)
          exact Touch.refl _ _
        · exact Touch.refl _ _

theorem execRegisterWrite_touch (a0 : WrTarget) (a1 : ℕ) (a2 : ℕ) (a3 : ℕ) (a4 : List Byte) (s : State) :
    ∃ t, execRegisterWrite a0 a1 a2 a3 a4 s = .next t ∧ Touch 0x3ffffffffffffffffffffffffffffffffffffffffffffffffffffffffffffffffffffffffffffffffffffffffffffffffffffffffffffffffffffffffffffffffffffffffffffffffffffffffffffffffbffff8 s t := by
  refine ⟨_, rfl, ?_⟩
  refine Touch.step ?_ (State.settleAll_touch ..) (by decide +kernel)
  split
  · refine Touch.step ?_ (State.hostWrite_touch ..) (by decide +kernel)
    exact Touch.refl _ _
  · refine Touch.step ?_ (State.hostWrite_touch ..) (by decide +kernel)
    exact Touch.refl _ _
  · refine Touch.step ?_ (State.hostWrite_touch ..) (by decide +kernel)
    exact Touch.refl _ _
  · refine Touch.step ?_ (State.cfgWrite_touch ..) (by decide +kernel)
    exact Touch.refl _ _

end Sys2Proof.Machine
end

