-- ==== Sys2Proof/Laws/TouchLantern.lean ====
section
/-! SUPPORT. What the operations of Machine/Lantern.lean may change. -/
namespace Sys2Proof.Machine

set_option Elab.async false

theorem State.imageWrite_touch (s : State) (a1 : ℕ) (a2 : List Byte) :
    Touch 0x3ffffffffffffffffffffffffffffffffffffffffffffffffffffffffffffffffffffffffffffffffffffffffffffffffffffffffffffffffffffffffffffffffffffffffffffffffffffffffffffffffbffff8 s (State.imageWrite s a1 a2) := by
  unfold State.imageWrite
  refine Touch.ite ?_ ?_
  · exact Touch.refl _ _
  · refine Touch.step ?_ (State.bar0Write_touch ..) (by decide +kernel)
    exact Touch.refl _ _

theorem State.coreClear_touch (s : State) (a1 : ℕ) :
    Touch 0x2000 s (State.coreClear s a1) := by
  unfold State.coreClear
  refine Touch.step ?_ (State.modCore_touch ..) (by decide +kernel)
  exact Touch.refl _ _

theorem State.coreBi_touch (s : State) (a1 : ℕ) (a2 : ℕ) (a3 : ℕ) :
    Touch 0x180000000000000000000000000000000000000000000000000000000000000000000000000000108100 s (State.coreBi s a1 a2 a3) := by
  unfold State.coreBi
  refine Touch.ite ?_ ?_
  · refine Touch.step ?_ (State.modCch_touch ..) (by decide +kernel)
    exact Touch.refl _ _
  · refine Touch.ite ?_ ?_
    · exact Touch.refl _ _
    · refine Touch.step ?_ (State.biSend_touch ..) (by decide +kernel)
      exact Touch.refl _ _

theorem State.lineGet_touch (s : State) (a1 : ℕ) (a2 : ℕ) (a3 : Bool) (a4 : Ecc) :
    TouchR 0xf1e000180000000000000000000000000000000000000000000000000000000000000c001fffffe00000b1a900 s (State.lineGet s a1 a2 a3 a4) := by
  unfold State.lineGet
  refine TouchR.ite ?_ ?_
  · refine TouchR.ite ?_ ?_
    · refine TouchR.wait ?_
      refine Touch.step ?_ (State.wake_touch ..) (by decide +kernel)
      exact Touch.refl _ _
    · refine TouchR.ite ?_ ?_
      · split
        · refine TouchR.ok _ ?_
          exact Touch.refl _ _
        · refine TouchR.ite ?_ ?_
          · refine TouchR.wait ?_
            exact Touch.refl _ _
          · refine TouchR.wait ?_
            refine Touch.step ?_ (State.d2hSend_touch ..) (by decide +kernel)
            exact Touch.refl _ _
      · split
        · refine TouchR.wait ?_
          refine Touch.step ?_ (State.coreBi_touch ..) (by decide +kernel)
          exact Touch.refl _ _
        · extract_lets -merge -useContext +onlyGivenNames v0
          refine TouchR.cut v0 ?_ (fun h1 => ?_)
          · unfold v0
            refine Touch.step ?_ (State.eccRead_touch ..) (by decide +kernel)
            exact Touch.refl _ _
          clear_value v0
          refine TouchR.ok _ ?_
          exact h1
  · split
    · refine TouchR.ok _ ?_
      exact Touch.refl _ _
    · split
      · refine TouchR.ok _ ?_
        exact Touch.refl _ _
      · refine TouchR.ite ?_ ?_
        · refine TouchR.ok _ ?_
          refine Touch.step ?_ (State.dlRecord_touch ..) (by decide +kernel)
          exact Touch.refl _ _
        · refine TouchR.ite ?_ ?_
          · refine TouchR.wait ?_
            refine Touch.step ?_ (State.wake_touch ..) (by decide +kernel)
            exact Touch.refl _ _
          · refine TouchR.ite ?_ ?_
            · refine TouchR.wait ?_
              exact Touch.refl _ _
            · refine TouchR.wait ?_
              refine Touch.getD ?_ ?_
              · refine TouchO.step ?_ (State.dlAccess?_touch ..) (by decide +kernel)
                exact Touch.refl _ _
              · exact Touch.refl _ _

theorem State.linePut_touch (s : State) (a1 : ℕ) (a2 : ℕ) (a3 : List Byte) :
    Touch 0x49ff8000000000000180000000000000000000000000000000000003000000000000000000000180000000000000000000000000000000000000000000000000000000000000c001fffffe00000b9ad80 s (State.linePut s a1 a2 a3).2 := by
  unfold State.linePut
  extract_lets -merge -useContext +onlyGivenNames v0
  clear_value v0
  extract_lets -merge -useContext +onlyGivenNames v1
  clear_value v1
  refine Touch.iteSnd ?_ ?_
  · refine Touch.iteSnd ?_ ?_
    · refine Touch.mkSnd ?_
      refine Touch.step ?_ (State.wake_touch ..) (by decide +kernel)
      exact Touch.refl _ _
    · refine Touch.iteSnd ?_ ?_
      · refine Touch.iteSnd ?_ ?_
        · refine Touch.mkSnd ?_
          exact Touch.refl _ _
        · refine Touch.mkSnd ?_
          refine Touch.step ?_ (State.d2hSend_touch ..) (by decide +kernel)
          exact Touch.refl _ _
      · split
        · refine Touch.mkSnd ?_
          refine Touch.step ?_ (State.coreBi_touch ..) (by decide +kernel)
          exact Touch.refl _ _
        · refine Touch.mkSnd ?_
          refine Touch.step ?_ (State.writeLine_touch ..) (by decide +kernel)
          exact Touch.refl _ _
  · split
    · refine Touch.mkSnd ?_
      refine Touch.step ?_ (State.breach_touch ..) (by decide +kernel)
      exact Touch.refl _ _
    · refine Touch.iteSnd ?_ ?_
      · refine Touch.mkSnd ?_
        refine Touch.step ?_ (State.breach_touch ..) (by decide +kernel)
        refine Touch.step ?_ (State.dlRecord_touch ..) (by decide +kernel)
        exact Touch.refl _ _
      · refine Touch.iteSnd ?_ ?_
        · refine Touch.mkSnd ?_
          refine Touch.step ?_ (State.wake_touch ..) (by decide +kernel)
          exact Touch.refl _ _
        · refine Touch.iteSnd ?_ ?_
          · refine Touch.mkSnd ?_
            exact Touch.refl _ _
          · split
            · rename_i y2 y3 y4 y5 y6 y7
              refine Touch.mkSnd ?_
              refine TouchO.ofSome y7 ?_
              refine TouchO.step ?_ (State.dlAccess?_touch ..) (by decide +kernel)
              exact Touch.refl _ _
            · refine Touch.mkSnd ?_
              exact Touch.refl _ _

theorem State.storePut_touch (s : State) (a1 : ℕ) (a2 : ℕ) (a3 : List Byte) :
    Touch 0x3ffffffffffffffffffffffffffffffffffffffffffffffffffffffffffffffffffffffffffffffffffffffffffffffffffffffffffffffffffffffffffffffffffffffffffffffffffffffffffffffffbffff8 s (State.storePut s a1 a2 a3).2 := by
  unfold State.storePut
  refine Touch.iteSnd ?_ ?_
  · refine Touch.mkSnd ?_
    refine Touch.step ?_ (State.imageWrite_touch ..) (by decide +kernel)
    exact Touch.refl _ _
  · refine Touch.step ?_ (State.linePut_touch ..) (by decide +kernel)
    exact Touch.refl _ _

theorem State.marksSettle_touch (s : State) (a1 : ℕ) :
    Touch 0x2000 s (State.marksSettle s a1) := by
  unfold State.marksSettle
  refine Touch.ite ?_ ?_
  · exact Touch.refl _ _
  · refine Touch.step ?_ (State.modCore_touch ..) (by decide +kernel)
    exact Touch.refl _ _

theorem State.performAt_touch (s : State) (a1 : ℕ) (a2 : ℕ) :
    Touch 0x3ffffffffffffffffffffffffffffffffffffffffffffffffffffffffffffffffffffffffffffffffffffffffffffffffffffffffffffffffffffffffffffffffffffffffffffffffffffffffffffffffbffff8 s (State.performAt s a1 a2).2 := by
  unfold State.performAt
  split
  · refine Touch.mkSnd ?_
    exact Touch.refl _ _
  · refine Touch.iteSnd ?_ ?_
    · refine Touch.mkSnd ?_
      exact Touch.refl _ _
    · extract_lets -merge -useContext +onlyGivenNames v0
      refine Touch.cut v0.2 ?_ (fun h1 => ?_)
      · unfold v0
        refine Touch.step ?_ (State.storePut_touch ..) (by decide +kernel)
        refine Touch.step ?_ (State.modCore_touch ..) (by decide +kernel)
        exact Touch.refl _ _
      clear_value v0
      refine Touch.iteSnd ?_ ?_
      · refine Touch.mkSnd ?_
        refine Touch.step ?_ (State.marksSettle_touch ..) (by decide +kernel)
        exact h1
      · refine Touch.mkSnd ?_
        refine Touch.step ?_ (State.modCore_touch ..) (by decide +kernel)
        exact h1

theorem State.drainSome_touch (a0 : ℕ) (a1 : ℕ) (a2 : ℕ) (a3 : ℕ) (s : State) :
    Touch 0x3ffffffffffffffffffffffffffffffffffffffffffffffffffffffffffffffffffffffffffffffffffffffffffffffffffffffffffffffffffffffffffffffffffffffffffffffffffffffffffffffffbffff8 s (State.drainSome a0 a1 a2 a3 s) := by
  induction a1 generalizing a0 a2 a3 s
  · unfold State.drainSome
    exact Touch.refl _ _
  · rename_i n_ ih
    unfold State.drainSome
    refine Touch.ite ?_ ?_
    · extract_lets -merge -useContext +onlyGivenNames v0
      refine Touch.cut v0.2 ?_ (fun h1 => ?_)
      · unfold v0
        refine Touch.step ?_ (State.performAt_touch ..) (by decide +kernel)
        exact Touch.refl _ _
      clear_value v0
      refine Touch.stepSelf ?_ (ih ..)
      exact h1
    · refine Touch.stepSelf ?_ (ih ..)
      exact Touch.refl _ _

theorem State.drainFree_touch (s : State) (a1 : ℕ) :
    Touch 0x3ffffffffffffffffffffffffffffffffffffffffffffffffffffffffffffffffffffffffffffffffffffffffffffffffffffffffffffffffffffffffffffffffffffffffffffffffffffffffffffffffbffff8 s (State.drainFree s a1) := by
  unfold State.drainFree
  refine Touch.ite ?_ ?_
  · exact Touch.refl _ _
  · extract_lets -merge -useContext +onlyGivenNames v0
    refine Touch.cut v0.2 ?_ (fun h1 => ?_)
    · unfold v0
      refine Touch.step ?_ (State.draw_touch ..) (by decide +kernel)
      exact Touch.refl _ _
    clear_value v0
    refine Touch.step ?_ (State.marksSettle_touch ..) (by decide +kernel)
    refine Touch.step ?_ (State.drainSome_touch ..) (by decide +kernel)
    exact h1

theorem State.performOldest_touch (s : State) (a1 : ℕ) :
    Touch 0x3ffffffffffffffffffffffffffffffffffffffffffffffffffffffffffffffffffffffffffffffffffffffffffffffffffffffffffffffffffffffffffffffffffffffffffffffffffffffffffffffffbffff8 s (State.performOldest s a1).2 := by
  unfold State.performOldest
  extract_lets -merge -useContext +onlyGivenNames v0
  refine Touch.cut v0 ?_ (fun h1 => ?_)
  · unfold v0
    refine Touch.step ?_ (State.marksSettle_touch ..) (by decide +kernel)
    exact Touch.refl _ _
  clear_value v0
  refine Touch.iteSnd ?_ ?_
  · refine Touch.mkSnd ?_
    exact h1
  · refine Touch.step ?_ (State.performAt_touch ..) (by decide +kernel)
    exact h1

theorem State.drainWhich_touch (a0 : ℕ) (a1 : BufStore → Bool) (a2 : ℕ) (s : State) :
    Touch 0x3ffffffffffffffffffffffffffffffffffffffffffffffffffffffffffffffffffffffffffffffffffffffffffffffffffffffffffffffffffffffffffffffffffffffffffffffffffffffffffffffffbffff8 s (State.drainWhich a0 a1 a2 s).2 := by
  induction a2 generalizing a0 a1 s
  · unfold State.drainWhich
    refine Touch.mkSnd ?_
    exact Touch.refl _ _
  · rename_i n_ ih
    unfold State.drainWhich
    refine Touch.iteSnd ?_ ?_
    · extract_lets -merge -useContext +onlyGivenNames v0
      refine Touch.cut v0.2 ?_ (fun h1 => ?_)
      · unfold v0
        refine Touch.step ?_ (State.performOldest_touch ..) (by decide +kernel)
        exact Touch.refl _ _
      clear_value v0
      refine Touch.iteSnd ?_ ?_
      · refine Touch.stepSelf ?_ (ih ..)
        exact h1
      · exact h1
    · refine Touch.mkSnd ?_
      exact Touch.refl _ _

theorem State.drainStores_touch (s : State) (a1 : ℕ) :
    Touch 0x3ffffffffffffffffffffffffffffffffffffffffffffffffffffffffffffffffffffffffffffffffffffffffffffffffffffffffffffffffffffffffffffffffffffffffffffffffffffffffffffffffbffff8 s (State.drainStores s a1).2 := by
  unfold State.drainStores
  refine Touch.step ?_ (State.drainWhich_touch ..) (by decide +kernel)
  exact Touch.refl _ _

theorem State.bufferStores_touch (a0 : ℕ) (a1 : List BufStore) (a2 : ℕ) (s : State) :
    Touch 0x3ffffffffffffffffffffffffffffffffffffffffffffffffffffffffffffffffffffffffffffffffffffffffffffffffffffffffffffffffffffffffffffffffffffffffffffffffffffffffffffffffbffff8 s (State.bufferStores a0 a1 a2 s).2 := by
  induction a2 generalizing a0 a1 s
  · unfold State.bufferStores
    refine Touch.mkSnd ?_
    exact Touch.refl _ _
  · rename_i n_ ih
    unfold State.bufferStores
    refine Touch.iteSnd ?_ ?_
    · refine Touch.mkSnd ?_
      refine Touch.step ?_ (State.modCore_touch ..) (by decide +kernel)
      exact Touch.refl _ _
    · extract_lets -merge -useContext +onlyGivenNames v0
      refine Touch.cut v0.2 ?_ (fun h1 => ?_)
      · unfold v0
        refine Touch.step ?_ (State.performOldest_touch ..) (by decide +kernel)
        exact Touch.refl _ _
      clear_value v0
      refine Touch.iteSnd ?_ ?_
      · refine Touch.stepSelf ?_ (ih ..)
        exact h1
      · exact h1

theorem State.ntRuns_touch (a0 : ℕ) (a1 : ℕ) (a2 : ℕ) (s : State) :
    Touch 0x49ff8000000000000180000000000000000000000000000000000003000000000000000000000180000000000000000000000000000000000000000000000000000000000000c001fffffe00000b9ad80 s (State.ntRuns a0 a1 a2 s).2 := by
  induction a2 generalizing a0 a1 s
  · unfold State.ntRuns
    refine Touch.mkSnd ?_
    exact Touch.refl _ _
  · rename_i n_ ih
    unfold State.ntRuns
    split
    · rename_i y0 y1
      refine Touch.mkSnd ?_
      exact Touch.refl _ _
    · rename_i y2 y3 y4
      refine Touch.iteSnd ?_ ?_
      · refine Touch.mkSnd ?_
        refine Touch.step ?_ (State.modCore_touch ..) (by decide +kernel)
        exact Touch.refl _ _
      · extract_lets -merge -useContext +onlyGivenNames v5
        clear_value v5
        extract_lets -merge -useContext +onlyGivenNames v6
        refine Touch.cut v6.2 ?_ (fun h7 => ?_)
        · unfold v6
          refine Touch.step ?_ (State.linePut_touch ..) (by decide +kernel)
          exact Touch.refl _ _
        clear_value v6
        refine Touch.iteSnd ?_ ?_
        · refine Touch.stepSelf ?_ (ih ..)
          refine Touch.step ?_ (State.modCore_touch ..) (by decide +kernel)
          exact h7
        · exact h7

theorem State.ntDrain_touch (s : State) (a1 : ℕ) (a2 : ℕ) :
    Touch 0x49ff8000000000000180000000000000000000000000000000000003000000000000000000000180000000000000000000000000000000000000000000000000000000000000c001fffffe00000b9ad80 s (State.ntDrain s a1 a2).2 := by
  unfold State.ntDrain
  refine Touch.step ?_ (State.ntRuns_touch ..) (by decide +kernel)
  exact Touch.refl _ _

theorem State.ntAll_touch (a0 : ℕ) (a1 : ℕ) (s : State) :
    Touch 0x49ff8000000000000180000000000000000000000000000000000003000000000000000000000180000000000000000000000000000000000000000000000000000000000000c001fffffe00000b9ad80 s (State.ntAll a0 a1 s).2 := by
  induction a1 generalizing a0 s
  · unfold State.ntAll
    refine Touch.mkSnd ?_
    exact Touch.refl _ _
  · rename_i n_ ih
    unfold State.ntAll
    split
    · rename_i y0 y1
      refine Touch.mkSnd ?_
      exact Touch.refl _ _
    · rename_i y2 y3 y4 y5
      extract_lets -merge -useContext +onlyGivenNames v6
      refine Touch.cut v6.2 ?_ (fun h7 => ?_)
      · unfold v6
        refine Touch.step ?_ (State.ntDrain_touch ..) (by decide +kernel)
        exact Touch.refl _ _
      clear_value v6
      refine Touch.iteSnd ?_ ?_
      · refine Touch.stepSelf ?_ (ih ..)
        exact h7
      · exact h7

theorem State.drainAll_touch (s : State) (a1 : ℕ) :
    Touch 0x3ffffffffffffffffffffffffffffffffffffffffffffffffffffffffffffffffffffffffffffffffffffffffffffffffffffffffffffffffffffffffffffffffffffffffffffffffffffffffffffffffbffff8 s (State.drainAll s a1).2 := by
  unfold State.drainAll
  extract_lets -merge -useContext +onlyGivenNames v0
  refine Touch.cut v0.2 ?_ (fun h1 => ?_)
  · unfold v0
    refine Touch.step ?_ (State.drainStores_touch ..) (by decide +kernel)
    exact Touch.refl _ _
  clear_value v0
  extract_lets -merge -useContext +onlyGivenNames v2
  refine Touch.cut v2.2 ?_ (fun h3 => ?_)
  · unfold v2
    refine Touch.step ?_ (State.ntAll_touch ..) (by decide +kernel)
    exact h1
  clear_value v2
  refine Touch.mkSnd ?_
  exact h3

theorem State.drainMeeting_touch (s : State) (a1 : ℕ) (a2 : ℕ) (a3 : ℕ) :
    Touch 0x3ffffffffffffffffffffffffffffffffffffffffffffffffffffffffffffffffffffffffffffffffffffffffffffffffffffffffffffffffffffffffffffffffffffffffffffffffffffffffffffffffbffff8 s (State.drainMeeting s a1 a2 a3).2 := by
  unfold State.drainMeeting
  refine Touch.step ?_ (State.drainWhich_touch ..) (by decide +kernel)
  exact Touch.refl _ _

theorem State.drainNt_touch (s : State) (a1 : ℕ) (a2 : ℕ) (a3 : ℕ) :
    Touch 0x49ff8000000000000180000000000000000000000000000000000003000000000000000000000180000000000000000000000000000000000000000000000000000000000000c001fffffe00000b9ad80 s (State.drainNt s a1 a2 a3).2 := by
  unfold State.drainNt
  split
  · refine Touch.step ?_ (State.ntDrain_touch ..) (by decide +kernel)
    exact Touch.refl _ _
  · refine Touch.mkSnd ?_
    exact Touch.refl _ _

theorem State.ntStore_touch (s : State) (a1 : ℕ) (a2 : ℕ) (a3 : List Byte) :
    Touch 0x49ff8000000000000180000000000000000000000000000000000003000000000000000000000180000000000000000000000000000000000000000000000000000000000000c001fffffe00000b9ad80 s (State.ntStore s a1 a2 a3).2 := by
  unfold State.ntStore
  extract_lets -merge -useContext +onlyGivenNames v0
  clear_value v0
  extract_lets -merge -useContext +onlyGivenNames v1
  clear_value v1
  extract_lets -merge -useContext +onlyGivenNames v2
  refine Touch.cut v2.2 ?_ (fun h3 => ?_)
  · unfold v2
    split
    · refine Touch.step ?_ (State.ntDrain_touch ..) (by decide +kernel)
      exact Touch.refl _ _
    · refine Touch.mkSnd ?_
      exact Touch.refl _ _
  clear_value v2
  refine Touch.iteSnd ?_ ?_
  · exact h3
  · extract_lets -merge -useContext +onlyGivenNames v4
    refine Touch.cut v4 ?_ (fun h5 => ?_)
    · unfold v4
      refine Touch.ite ?_ ?_
      · exact h3
      · refine Touch.step ?_ (State.modCore_touch ..) (by decide +kernel)
        exact h3
    clear_value v4
    extract_lets -merge -useContext +onlyGivenNames v6
    refine Touch.cut v6 ?_ (fun h7 => ?_)
    · unfold v6
      refine Touch.step ?_ (State.modCore_touch ..) (by decide +kernel)
      exact h5
    clear_value v6
    refine Touch.iteSnd ?_ ?_
    · refine Touch.mkSnd ?_
      refine Touch.step ?_ (State.ntDrain_touch ..) (by decide +kernel)
      exact h7
    · refine Touch.mkSnd ?_
      exact h7

theorem State.readPte_touch (s : State) (a1 : ℕ) (a2 : ℕ) (a3 : ℕ) :
    TouchR 0xf1e000180000000000000000000000000000000000000000000000000000000000000c001fffffe00000b1a900 s (State.readPte s a1 a2 a3) := by
  unfold State.readPte
  refine TouchR.ite ?_ ?_
  · refine TouchR.exc _ _ ?_
    exact Touch.refl _ _
  · refine TouchR.bind ?_ (fun y0 y1 h2 => ?_)
    · refine TouchR.step ?_ (State.lineGet_touch ..) (by decide +kernel)
      exact Touch.refl _ _
    · refine TouchR.ite ?_ ?_
      · refine TouchR.exc _ _ ?_
        exact h2
      · refine TouchR.ok _ ?_
        exact h2

theorem State.walk_touch (s : State) (a1 : ℕ) (a2 : ℕ) (a3 : ℕ) (a4 : AccKind) :
    TouchR 0xf1e000180000000000000000000000000000000000000000000000000000000000000c001fffffe00000b1a900 s (State.walk s a1 a2 a3 a4) := by
  unfold State.walk
  extract_lets -merge -useContext +onlyGivenNames v0
  refine TouchR.bind ?_ (fun y1 y2 h3 => ?_)
  · refine TouchR.step ?_ (State.readPte_touch ..) (by decide +kernel)
    exact Touch.refl _ _
  · refine TouchR.ite ?_ ?_
    · refine TouchR.exc _ _ ?_
      exact h3
    · refine TouchR.bind ?_ (fun y4 y5 h6 => ?_)
      · refine TouchR.step ?_ (State.readPte_touch ..) (by decide +kernel)
        exact h3
      · refine TouchR.ite ?_ ?_
        · unfold v0
          refine TouchR.ite ?_ ?_
          · refine TouchR.ok _ ?_
            exact h6
          · refine TouchR.exc _ _ ?_
            exact h6
        · refine TouchR.ite ?_ ?_
          · refine TouchR.exc _ _ ?_
            exact h6
          · refine TouchR.bind ?_ (fun y7 y8 h9 => ?_)
            · refine TouchR.step ?_ (State.readPte_touch ..) (by decide +kernel)
              exact h6
            · unfold v0
              refine TouchR.ite ?_ ?_
              · refine TouchR.ok _ ?_
                exact h9
              · refine TouchR.exc _ _ ?_
                exact h9

theorem State.translate_touch (s : State) (a1 : ℕ) (a2 : ℕ) (a3 : AccKind) :
    TouchR 0xf1e000180000000000000000000000000000000000000000000000000000000000000c001fffffe00000b1a900 s (State.translate s a1 a2 a3) := by
  unfold State.translate
  extract_lets -merge -useContext +onlyGivenNames v0
  clear_value v0
  extract_lets -merge -useContext +onlyGivenNames v1
  clear_value v1
  refine TouchR.ite ?_ ?_
  · refine TouchR.ok _ ?_
    exact Touch.refl _ _
  · refine TouchR.ite ?_ ?_
    · refine TouchR.exc _ _ ?_
      exact Touch.refl _ _
    · extract_lets -merge -useContext +onlyGivenNames v2
      clear_value v2
      extract_lets -merge -useContext +onlyGivenNames v3
      extract_lets -merge -useContext +onlyGivenNames v4
      split
      · extract_lets -merge -useContext +onlyGivenNames v5
        refine TouchR.cut v5.2 ?_ (fun h6 => ?_)
        · unfold v5
          refine Touch.step ?_ (State.draw_touch ..) (by decide +kernel)
          exact Touch.refl _ _
        clear_value v5
        refine TouchR.ite ?_ ?_
        · unfold v3
          refine TouchR.ite ?_ ?_
          · refine TouchR.ok _ ?_
            exact h6
          · refine TouchR.exc _ _ ?_
            exact h6
        · unfold v4
          refine TouchR.bind ?_ (fun y7 y8 h9 => ?_)
          · refine TouchR.step ?_ (State.walk_touch ..) (by decide +kernel)
            exact h6
          · unfold v3
            refine TouchR.ite ?_ ?_
            · refine TouchR.ok _ ?_
              refine Touch.step ?_ (State.modCore_touch ..) (by decide +kernel)
              exact h9
            · refine TouchR.exc _ _ ?_
              refine Touch.step ?_ (State.modCore_touch ..) (by decide +kernel)
              exact h9
      · unfold v4
        refine TouchR.bind ?_ (fun y10 y11 h12 => ?_)
        · refine TouchR.step ?_ (State.walk_touch ..) (by decide +kernel)
          exact Touch.refl _ _
        · unfold v3
          refine TouchR.ite ?_ ?_
          · refine TouchR.ok _ ?_
            refine Touch.step ?_ (State.modCore_touch ..) (by decide +kernel)
            exact h12
          · refine TouchR.exc _ _ ?_
            refine Touch.step ?_ (State.modCore_touch ..) (by decide +kernel)
            exact h12

theorem State.pieces_touch (s : State) (a1 : ℕ) (a2 : ℕ) (a3 : ℕ) (a4 : AccKind) :
    TouchR 0xf1e000180000000000000000000000000000000000000000000000000000000000000c001fffffe00000b1a900 s (State.pieces s a1 a2 a3 a4) := by
  unfold State.pieces
  extract_lets -merge -useContext +onlyGivenNames v0
  clear_value v0
  refine TouchR.bind ?_ (fun y1 y2 h3 => ?_)
  · refine TouchR.step ?_ (State.translate_touch ..) (by decide +kernel)
    exact Touch.refl _ _
  · refine TouchR.ite ?_ ?_
    · refine TouchR.ok _ ?_
      exact h3
    · refine TouchR.bind ?_ (fun y4 y5 h6 => ?_)
      · refine TouchR.step ?_ (State.translate_touch ..) (by decide +kernel)
        exact h3
      · refine TouchR.ok _ ?_
        exact h6

theorem State.coreDirty_touch (s : State) (a1 : ℕ) (a2 : ℕ) (a3 : ℕ) :
    Touch 0x2000 s (State.coreDirty s a1 a2 a3) := by
  unfold State.coreDirty
  split
  · refine Touch.ite ?_ ?_
    · exact Touch.refl _ _
    · refine Touch.step ?_ (State.modCore_touch ..) (by decide +kernel)
      exact Touch.refl _ _
  · exact Touch.refl _ _

theorem State.access_touch (s : State) (a1 : ℕ) (a2 : ℕ) (a3 : ℕ) (a4 : AccKind) (a5 : Bool) :
    TouchR 0xf1e000180000000000000000000000000000000000000000000000000000000000000c001fffffe00000b1a900 s (State.access s a1 a2 a3 a4 a5) := by
  unfold State.access
  refine TouchR.ite ?_ ?_
  · refine TouchR.wait ?_
    exact Touch.refl _ _
  · refine TouchR.ite ?_ ?_
    · refine TouchR.exc _ _ ?_
      exact Touch.refl _ _
    · refine TouchR.bind ?_ (fun y0 y1 h2 => ?_)
      · refine TouchR.step ?_ (State.pieces_touch ..) (by decide +kernel)
        exact Touch.refl _ _
      · refine TouchR.ite ?_ ?_
        · refine TouchR.exc _ _ ?_
          exact h2
        · refine TouchR.ite ?_ ?_
          · refine TouchR.exc _ _ ?_
            exact h2
          · refine TouchR.ok _ ?_
            refine Touch.ite ?_ ?_
            · refine Touch.foldl ?_ (fun y3 y4 h5 => ?_)
              · exact h2
              · refine Touch.step ?_ (State.coreDirty_touch ..) (by decide +kernel)
                exact h5
            · exact h2

theorem State.orderly_touch (s : State) (a1 : ℕ) (a2 : ℕ) :
    TouchR 0x3ffffffffffffffffffffffffffffffffffffffffffffffffffffffffffffffffffffffffffffffffffffffffffffffffffffffffffffffffffffffffffffffffffffffffffffffffffffffffffffffffbffff8 s (State.orderly s a1 a2) := by
  unfold State.orderly
  refine TouchR.ite ?_ ?_
  · refine TouchR.ok _ ?_
    exact Touch.refl _ _
  · extract_lets -merge -useContext +onlyGivenNames v0
    refine TouchR.cut v0.2 ?_ (fun h1 => ?_)
    · unfold v0
      refine Touch.step ?_ (State.drainAll_touch ..) (by decide +kernel)
      exact Touch.refl _ _
    clear_value v0
    refine TouchR.ite ?_ ?_
    · refine TouchR.ok _ ?_
      exact h1
    · refine TouchR.wait ?_
      exact h1

theorem State.readInLine_touch (s : State) (a1 : ℕ) (a2 : ℕ) (a3 : ℕ) (a4 : ℕ) (a5 : Bool) (a6 : Ecc) :
    TouchR 0xf1e000180000000000000000000000000000000000000000000000000000000000000c001fffffe00000b1a900 s (State.readInLine s a1 a2 a3 a4 a5 a6) := by
  unfold State.readInLine
  extract_lets -merge -useContext +onlyGivenNames v0
  clear_value v0
  refine TouchR.ite ?_ ?_
  · refine TouchR.ok _ ?_
    exact Touch.refl _ _
  · refine TouchR.bind ?_ (fun y1 y2 h3 => ?_)
    · refine TouchR.step ?_ (State.lineGet_touch ..) (by decide +kernel)
      exact Touch.refl _ _
    · refine TouchR.ite ?_ ?_
      · refine TouchR.exc _ _ ?_
        exact h3
      · refine TouchR.ok _ ?_
        exact h3

theorem State.readPiece_touch (s : State) (a1 : ℕ) (a2 : ℕ) (a3 : ℕ) (a4 : ℕ) (a5 : Ecc) :
    TouchR 0xf1e000180000000000000000000000000000000000000000000000000000000000000c001fffffe00000b1a900 s (State.readPiece s a1 a2 a3 a4 a5) := by
  unfold State.readPiece
  refine TouchR.ite ?_ ?_
  · refine TouchR.ok _ ?_
    exact Touch.refl _ _
  · extract_lets -merge -useContext +onlyGivenNames v0
    clear_value v0
    refine TouchR.bind ?_ (fun y1 y2 h3 => ?_)
    · refine TouchR.step ?_ (State.readInLine_touch ..) (by decide +kernel)
      exact Touch.refl _ _
    · refine TouchR.ite ?_ ?_
      · refine TouchR.ok _ ?_
        exact h3
      · refine TouchR.bind ?_ (fun y4 y5 h6 => ?_)
        · refine TouchR.step ?_ (State.readInLine_touch ..) (by decide +kernel)
          exact h3
        · refine TouchR.ok _ ?_
          exact h6

theorem State.readPieces_touch (a0 : ℕ) (a1 : ℕ) (a2 : Ecc) (a3 : List (ℕ × ℕ × ℕ)) (s : State) :
    TouchR 0x3ffffffffffffffffffffffffffffffffffffffffffffffffffffffffffffffffffffffffffffffffffffffffffffffffffffffffffffffffffffffffffffffffffffffffffffffffffffffffffffffffbffff8 s (State.readPieces a0 a1 a2 a3 s) := by
  induction a3 generalizing a0 a1 a2 s
  · unfold State.readPieces
    refine TouchR.ok _ ?_
    exact Touch.refl _ _
  · rename_i x_ xs_ ih
    unfold State.readPieces
    refine TouchR.bind ?_ (fun y0 y1 h2 => ?_)
    · refine TouchR.step ?_ (State.orderly_touch ..) (by decide +kernel)
      exact Touch.refl _ _
    · refine TouchR.bind ?_ (fun y3 y4 h5 => ?_)
      · refine TouchR.step ?_ (State.readPiece_touch ..) (by decide +kernel)
        exact h2
      · refine TouchR.bind ?_ (fun y6 y7 h8 => ?_)
        · refine TouchR.stepSelf ?_ (ih ..)
          exact h5
        · refine TouchR.ok _ ?_
          exact h8

theorem State.coreLoad_touch (s : State) (a1 : ℕ) (a2 : ℕ) (a3 : ℕ) (a4 : Ecc) :
    TouchR 0x3ffffffffffffffffffffffffffffffffffffffffffffffffffffffffffffffffffffffffffffffffffffffffffffffffffffffffffffffffffffffffffffffffffffffffffffffffffffffffffffffffbffff8 s (State.coreLoad s a1 a2 a3 a4) := by
  unfold State.coreLoad
  refine TouchR.bind ?_ (fun y0 y1 h2 => ?_)
  · refine TouchR.step ?_ (State.access_touch ..) (by decide +kernel)
    exact Touch.refl _ _
  · refine TouchR.step ?_ (State.readPieces_touch ..) (by decide +kernel)
    exact h2

theorem Late.run_touch (a0 : Late) (a1 : ℕ) (s : State) :
    Touch 0x3ffffffffffffffffffffffffffffffffffffffffffffffffffffffffffffffffffffffffffffffffffffffffffffffffffffffffffffffffffffffffffffffffffffffffffffffffffffffffffffffffbffff8 s (Late.run a0 a1 s) := by
  unfold Late.run
  refine Touch.step ?_ (State.storePut_touch ..) (by decide +kernel)
  exact Touch.refl _ _

theorem State.storeNow_touch (s : State) (a1 : ℕ) (a2 : ℕ) (a3 : List Byte) :
    TouchR 0x3ffffffffffffffffffffffffffffffffffffffffffffffffffffffffffffffffffffffffffffffffffffffffffffffffffffffffffffffffffffffffffffffffffffffffffffffffffffffffffffffffbffff8 s (State.storeNow s a1 a2 a3) := by
  unfold State.storeNow
  refine TouchR.bind ?_ (fun y0 y1 h2 => ?_)
  · refine TouchR.step ?_ (State.orderly_touch ..) (by decide +kernel)
    exact Touch.refl _ _
  · refine TouchR.ite ?_ ?_
    · refine TouchR.ok _ ?_
      exact h2
    · extract_lets -merge -useContext +onlyGivenNames v3
      refine TouchR.cut v3.2 ?_ (fun h4 => ?_)
      · unfold v3
        refine Touch.step ?_ (State.linePut_touch ..) (by decide +kernel)
        exact h2
      clear_value v3
      refine TouchR.ite ?_ ?_
      · refine TouchR.ok _ ?_
        refine Touch.step ?_ (State.modCore_touch ..) (by decide +kernel)
        exact h4
      · refine TouchR.wait ?_
        exact h4

theorem State.storeNormal_touch (s : State) (a1 : ℕ) (a2 : List (ℕ × ℕ × ℕ)) (a3 : List Byte) (a4 : Bool) :
    TouchR 0x3ffffffffffffffffffffffffffffffffffffffffffffffffffffffffffffffffffffffffffffffffffffffffffffffffffffffffffffffffffffffffffffffffffffffffffffffffffffffffffffffffbffff8 s (State.storeNormal s a1 a2 a3 a4) := by
  unfold State.storeNormal
  extract_lets -merge -useContext +onlyGivenNames v0
  clear_value v0
  extract_lets -merge -useContext +onlyGivenNames v1
  clear_value v1
  extract_lets -merge -useContext +onlyGivenNames v2
  refine TouchR.cut v2.2 ?_ (fun h3 => ?_)
  · unfold v2
    refine Touch.foldlSnd ?_ (fun y4 y5 h6 => ?_)
    · refine Touch.mkSnd ?_
      exact Touch.refl _ _
    · refine Touch.iteSnd ?_ ?_
      · refine Touch.step ?_ (State.drainNt_touch ..) (by decide +kernel)
        exact h6
      · exact h6
  clear_value v2
  refine TouchR.ite ?_ ?_
  · refine TouchR.wait ?_
    exact h3
  · extract_lets -merge -useContext +onlyGivenNames v7
    refine TouchR.cut v7.2 ?_ (fun h8 => ?_)
    · unfold v7
      refine Touch.step ?_ (State.bufferStores_touch ..) (by decide +kernel)
      exact h3
    clear_value v7
    refine TouchR.ite ?_ ?_
    · refine TouchR.ok _ ?_
      exact h8
    · refine TouchR.wait ?_
      exact h8

theorem State.coreStore_touch (s : State) (a1 : ℕ) (a2 : ℕ) (a3 : List Byte) :
    TouchR 0x3ffffffffffffffffffffffffffffffffffffffffffffffffffffffffffffffffffffffffffffffffffffffffffffffffffffffffffffffffffffffffffffffffffffffffffffffffffffffffffffffffbffff8 s (State.coreStore s a1 a2 a3) := by
  unfold State.coreStore
  refine TouchR.bind ?_ (fun y0 y1 h2 => ?_)
  · refine TouchR.step ?_ (State.access_touch ..) (by decide +kernel)
    exact Touch.refl _ _
  · split
    · refine TouchR.step ?_ (State.storeNow_touch ..) (by decide +kernel)
      exact h2
    · extract_lets -merge -useContext +onlyGivenNames v3
      refine TouchR.cut v3.2 ?_ (fun h4 => ?_)
      · unfold v3
        refine Touch.step ?_ (State.bufferStores_touch ..) (by decide +kernel)
        exact h2
      clear_value v3
      refine TouchR.ite ?_ ?_
      · refine TouchR.ok _ ?_
        exact h4
      · refine TouchR.wait ?_
        exact h4
    · refine TouchR.step ?_ (State.storeNormal_touch ..) (by decide +kernel)
      exact h2

theorem State.coreNt_touch (s : State) (a1 : ℕ) (a2 : ℕ) (a3 : List Byte) :
    TouchR 0x3ffffffffffffffffffffffffffffffffffffffffffffffffffffffffffffffffffffffffffffffffffffffffffffffffffffffffffffffffffffffffffffffffffffffffffffffffffffffffffffffffbffff8 s (State.coreNt s a1 a2 a3) := by
  unfold State.coreNt
  refine TouchR.bind ?_ (fun y0 y1 h2 => ?_)
  · refine TouchR.step ?_ (State.access_touch ..) (by decide +kernel)
    exact Touch.refl _ _
  · split
    · extract_lets -merge -useContext +onlyGivenNames v3
      refine TouchR.cut v3.2 ?_ (fun h4 => ?_)
      · unfold v3
        refine Touch.step ?_ (State.drainMeeting_touch ..) (by decide +kernel)
        exact h2
      clear_value v3
      refine TouchR.ite ?_ ?_
      · refine TouchR.wait ?_
        exact h4
      · extract_lets -merge -useContext +onlyGivenNames v5
        refine TouchR.cut v5.2 ?_ (fun h6 => ?_)
        · unfold v5
          refine Touch.step ?_ (State.ntStore_touch ..) (by decide +kernel)
          exact h4
        clear_value v5
        refine TouchR.ite ?_ ?_
        · refine TouchR.ok _ ?_
          exact h6
        · refine TouchR.wait ?_
          exact h6
    · refine TouchR.step ?_ (State.storeNow_touch ..) (by decide +kernel)
      exact h2
    · extract_lets -merge -useContext +onlyGivenNames v7
      refine TouchR.cut v7.2 ?_ (fun h8 => ?_)
      · unfold v7
        refine Touch.step ?_ (State.bufferStores_touch ..) (by decide +kernel)
        exact h2
      clear_value v7
      refine TouchR.ite ?_ ?_
      · refine TouchR.ok _ ?_
        exact h8
      · refine TouchR.wait ?_
        exact h8
    · refine TouchR.wait ?_
      exact h2

theorem State.coreAmo_touch (s : State) (a1 : ℕ) (a2 : ℕ) (a3 : ℕ) (a4 : Bool) (a5 : Bool) (a6 : Ecc) (a7 : ℕ → Option ℕ) :
    TouchR 0x3ffffffffffffffffffffffffffffffffffffffffffffffffffffffffffffffffffffffffffffffffffffffffffffffffffffffffffffffffffffffffffffffffffffffffffffffffffffffffffffffffbffff8 s (State.coreAmo s a1 a2 a3 a4 a5 a6 a7) := by
  unfold State.coreAmo
  refine TouchR.bind ?_ (fun y0 y1 h2 => ?_)
  · refine TouchR.step ?_ (State.access_touch ..) (by decide +kernel)
    exact Touch.refl _ _
  · split
    · extract_lets -merge -useContext +onlyGivenNames v3
      refine TouchR.cut v3.2 ?_ (fun h4 => ?_)
      · unfold v3
        refine Touch.iteSnd ?_ ?_
        · refine Touch.step ?_ (State.drainAll_touch ..) (by decide +kernel)
          exact h2
        · refine Touch.step ?_ (State.drainMeeting_touch ..) (by decide +kernel)
          exact h2
      clear_value v3
      extract_lets -merge -useContext +onlyGivenNames v5
      refine TouchR.cut v5.2 ?_ (fun h6 => ?_)
      · unfold v5
        refine Touch.iteSnd ?_ ?_
        · refine Touch.step ?_ (State.drainNt_touch ..) (by decide +kernel)
          exact h4
        · exact h4
      clear_value v5
      refine TouchR.ite ?_ ?_
      · refine TouchR.wait ?_
        exact h6
      · refine TouchR.bind ?_ (fun y7 y8 h9 => ?_)
        · refine TouchR.step ?_ (State.lineGet_touch ..) (by decide +kernel)
          exact h6
        · refine TouchR.ite ?_ ?_
          · refine TouchR.exc _ _ ?_
            exact h9
          · extract_lets -merge -useContext +onlyGivenNames v10
            clear_value v10
            split
            · refine TouchR.ok _ ?_
              exact h9
            · extract_lets -merge -useContext +onlyGivenNames v11
              refine TouchR.cut v11.2 ?_ (fun h12 => ?_)
              · unfold v11
                refine Touch.step ?_ (State.linePut_touch ..) (by decide +kernel)
                exact h9
              clear_value v11
              refine TouchR.ite ?_ ?_
              · refine TouchR.ok _ ?_
                refine Touch.step ?_ (State.modCore_touch ..) (by decide +kernel)
                exact h12
              · refine TouchR.wait ?_
                exact h12
    · refine TouchR.exc _ _ ?_
      exact h2

theorem State.coreFetch_touch (s : State) (a1 : ℕ) (a2 : ℕ) (a3 : Bool) :
    TouchR 0xf1e000180000000000000000000000000000000000000000000000000000000000000c001fffffe00000b1a900 s (State.coreFetch s a1 a2 a3) := by
  unfold State.coreFetch
  extract_lets -merge -useContext +onlyGivenNames v0
  clear_value v0
  refine TouchR.ite ?_ ?_
  · refine TouchR.exc _ _ ?_
    exact Touch.refl _ _
  · refine TouchR.bind ?_ (fun y1 y2 h3 => ?_)
    · refine TouchR.step ?_ (State.translate_touch ..) (by decide +kernel)
      exact Touch.refl _ _
    · split
      · refine TouchR.ite ?_ ?_
        · refine TouchR.exc _ _ ?_
          exact h3
        · refine TouchR.ok _ ?_
          exact h3
      · refine TouchR.ite ?_ ?_
        · refine TouchR.ok _ ?_
          exact h3
        · refine TouchR.exc _ _ ?_
          exact h3
      · refine TouchR.ite ?_ ?_
        · refine TouchR.exc _ _ ?_
          exact h3
        · refine TouchR.bind ?_ (fun y4 y5 h6 => ?_)
          · refine TouchR.step ?_ (State.lineGet_touch ..) (by decide +kernel)
            exact h3
          · refine TouchR.ite ?_ ?_
            · refine TouchR.exc _ _ ?_
              exact h6
            · refine TouchR.ok _ ?_
              exact h6

end Sys2Proof.Machine
end

