-- ==== Sys2Proof/Laws/TouchLntCore.lean ====
section
/-! SUPPORT. What the operations of Machine/LntCore.lean may change. -/
namespace Sys2Proof.Machine

set_option Elab.async false

theorem State.enter_touch (s : State) (a1 : ℕ) (a2 : ℕ) (a3 : ℕ) (a4 : ℕ) (a5 : ℕ) :
    Touch 0x100000000000000000000000000000000000000000000000000000002000 s (State.enter s a1 a2 a3 a4 a5) := by
  unfold State.enter
  extract_lets -merge -useContext +onlyGivenNames v0
  refine Touch.cut v0 ?_ (fun h1 => ?_)
  · unfold v0
    refine Touch.step ?_ (State.setLcsr_touch ..) (by decide +kernel)
    refine Touch.step ?_ (State.setLcsr_touch ..) (by decide +kernel)
    refine Touch.step ?_ (State.setLcsr_touch ..) (by decide +kernel)
    exact Touch.refl _ _
  clear_value v0
  extract_lets -merge -useContext +onlyGivenNames v2
  refine Touch.cut v2 ?_ (fun h3 => ?_)
  · unfold v2
    refine Touch.step ?_ (State.put_touch ..) (by decide +kernel)
    refine Touch.step ?_ (State.setLcsr_touch ..) (by decide +kernel)
    exact h1
  clear_value v2
  refine Touch.step ?_ (State.coreClear_touch ..) (by decide +kernel)
  refine Touch.step ?_ (State.modCore_touch ..) (by decide +kernel)
  exact h3

theorem State.lntExc_touch (s : State) (a1 : ℕ) (a2 : ℕ) (a3 : ℕ) :
    Touch 0x49ff8000000000000000000000000000000000000000000000000003000000000000000000000000000000000000000000000100000000000000000000000000000000000000000000000000000102580 s (State.lntExc s a1 a2 a3) := by
  unfold State.lntExc
  extract_lets -merge -useContext +onlyGivenNames v0
  clear_value v0
  extract_lets -merge -useContext +onlyGivenNames v1
  clear_value v1
  extract_lets -merge -useContext +onlyGivenNames v2
  refine Touch.cut v2 ?_ (fun h3 => ?_)
  · unfold v2
    refine Touch.step ?_ (State.enter_touch ..) (by decide +kernel)
    exact Touch.refl _ _
  clear_value v2
  refine Touch.ite ?_ ?_
  · refine Touch.step ?_ (State.ember'_touch ..) (by decide +kernel)
    exact h3
  · exact h3

theorem State.lntReturn_touch (s : State) (a1 : ℕ) :
    Touch 0x2000 s (State.lntReturn s a1) := by
  unfold State.lntReturn
  extract_lets -merge -useContext +onlyGivenNames v0
  clear_value v0
  refine Touch.step ?_ (State.modCore_touch ..) (by decide +kernel)
  refine Touch.step ?_ (State.setLcsr_touch ..) (by decide +kernel)
  exact Touch.refl _ _

theorem State.interruptEntry_touch (s : State) (a1 : ℕ) (a2 : ℕ) :
    Touch 0x100000000000000000000000000000000000000000000000000000002000 s (State.interruptEntry s a1 a2) := by
  unfold State.interruptEntry
  refine Touch.ite ?_ ?_
  · exact Touch.refl _ _
  · extract_lets -merge -useContext +onlyGivenNames v0
    clear_value v0
    extract_lets -merge -useContext +onlyGivenNames v1
    clear_value v1
    refine Touch.step ?_ (State.modCore_touch ..) (by decide +kernel)
    refine Touch.step ?_ (State.enter_touch ..) (by decide +kernel)
    exact Touch.refl _ _

theorem execInterruptEntry_touch (a0 : ℕ) (a1 : ℕ) (s : State) :
    ∃ t, execInterruptEntry a0 a1 s = .next t ∧ Touch 0x100000000000000000000000000000000000000000000000000000002000 s t := by
  refine ⟨_, rfl, ?_⟩
  refine Touch.step ?_ (State.interruptEntry_touch ..) (by decide +kernel)
  exact Touch.refl _ _

theorem execTimecmpExpire_touch (a0 : ℕ) (s : State) :
    ∃ t, execTimecmpExpire a0 s = .next t ∧ Touch 0xc001fffffe00000000100 s t := by
  refine ⟨_, rfl, ?_⟩
  refine Touch.ite ?_ ?_
  · refine Touch.step ?_ (State.wake_touch ..) (by decide +kernel)
    exact Touch.refl _ _
  · exact Touch.refl _ _

theorem execNtDrainTimeout_touch (a0 : ℕ) (a1 : ℕ) (s : State) :
    ∃ t, execNtDrainTimeout a0 a1 s = .next t ∧ Touch 0x49ff8000000000000180000000000000000000000000000000000003000000000000000000000180000000000000000000000000000000000000000000000000000000000000c001fffffe00000b9ad80 s t := by
  refine ⟨_, rfl, ?_⟩
  split
  · refine Touch.ite ?_ ?_
    · refine Touch.step ?_ (State.ntDrain_touch ..) (by decide +kernel)
      exact Touch.refl _ _
    · exact Touch.refl _ _
  · exact Touch.refl _ _

theorem State.lntPop_touch (s : State) (a1 : ℕ) (a2 : ℕ) :
    Touch 0x2000 s (State.lntPop s a1 a2) := by
  unfold State.lntPop
  refine Touch.ite ?_ ?_
  · refine Touch.step ?_ (State.modCore_touch ..) (by decide +kernel)
    exact Touch.refl _ _
  · exact Touch.refl _ _

theorem State.setInbox_touch (s : State) (a1 : ℕ) (a2 : ℕ) :
    Touch 0x240000000000000000000000000000000000000000000000000163100 s (State.setInbox s a1 a2) := by
  unfold State.setInbox
  extract_lets -merge -useContext +onlyGivenNames v0
  clear_value v0
  extract_lets -merge -useContext +onlyGivenNames v1
  clear_value v1
  extract_lets -merge -useContext +onlyGivenNames v2
  refine Touch.cut v2 ?_ (fun h3 => ?_)
  · unfold v2
    refine Touch.step ?_ (State.setLcsr_touch ..) (by decide +kernel)
    exact Touch.refl _ _
  clear_value v2
  refine Touch.ite ?_ ?_
  · refine Touch.step ?_ (State.nackPending_touch ..) (by decide +kernel)
    refine Touch.step ?_ (State.modCore_touch ..) (by decide +kernel)
    exact h3
  · refine Touch.step ?_ (State.examine_touch ..) (by decide +kernel)
    refine Touch.step ?_ (State.modCore_touch ..) (by decide +kernel)
    exact h3

theorem State.sendIpi_touch (s : State) (a1 : ℕ) (a2 : ℕ) :
    Touch 0xc001fffffe00000002100 s (State.sendIpi s a1 a2) := by
  unfold State.sendIpi
  refine Touch.foldl ?_ (fun y0 y1 h2 => ?_)
  · exact Touch.refl _ _
  · refine Touch.ite ?_ ?_
    · refine Touch.step ?_ (State.coreLine_touch ..) (by decide +kernel)
      exact h2
    · exact h2

theorem State.lntCsrWrite_touch (s : State) (a1 : ℕ) (a2 : ℕ) (a3 : ℕ) :
    Touch 0x240000000000000000000000000000000000c001fffffe00000163100 s (State.lntCsrWrite s a1 a2 a3) := by
  unfold State.lntCsrWrite
  split
  · refine Touch.ite ?_ ?_
    · refine Touch.step ?_ (State.modCore_touch ..) (by decide +kernel)
      exact Touch.refl _ _
    · exact Touch.refl _ _
  · refine Touch.step ?_ (State.setInbox_touch ..) (by decide +kernel)
    exact Touch.refl _ _
  · refine Touch.step ?_ (State.sendIpi_touch ..) (by decide +kernel)
    exact Touch.refl _ _
  · refine Touch.step ?_ (State.setLcsr_touch ..) (by decide +kernel)
    exact Touch.refl _ _

theorem State.restartDone_touch (s : State) (a1 : ℕ) :
    Touch 0x3ffffffffffffffffffffffffffffffffffffffffffffffffffffffffffffffffffffffffffffffffffffffffffffffffffffffffffffffffffffffffffffffffffffffffffffffffffffffffffffffffbffff8 s (State.restartDone s a1) := by
  unfold State.restartDone
  refine Touch.ite ?_ ?_
  · exact Touch.refl _ _
  · refine State.needs_touch ?_ (fun y0 h1 => ?_) (by decide +kernel)
    · exact Touch.refl _ _
    · extract_lets -merge -useContext +onlyGivenNames v2
      refine Touch.cut v2.2 ?_ (fun h3 => ?_)
      · unfold v2
        refine Touch.step ?_ (State.drainAll_touch ..) (by decide +kernel)
        exact h1
      clear_value v2
      refine Touch.ite ?_ ?_
      · exact h3
      · extract_lets -merge -useContext +onlyGivenNames v4
        refine Touch.cut v4 ?_ (fun h5 => ?_)
        · unfold v4
          refine Touch.step ?_ (State.coreClear_touch ..) (by decide +kernel)
          refine Touch.step ?_ (State.freeRegs_touch ..) (by decide +kernel)
          exact h3
        clear_value v4
        extract_lets -merge -useContext +onlyGivenNames v6
        refine Touch.cut v6 ?_ (fun h7 => ?_)
        · unfold v6
          refine Touch.step ?_ (State.modCore_touch ..) (by decide +kernel)
          exact h5
        clear_value v6
        extract_lets -merge -useContext +onlyGivenNames v8
        refine Touch.cut v8 ?_ (fun h9 => ?_)
        · unfold v8
          refine Touch.step ?_ (State.put_touch ..) (by decide +kernel)
          refine Touch.step ?_ (State.put_touch ..) (by decide +kernel)
          refine Touch.step ?_ (State.setLcsr_touch ..) (by decide +kernel)
          exact h7
        clear_value v8
        refine Touch.step ?_ (State.fwuServed_touch ..) (by decide +kernel)
        refine Touch.step ?_ (State.put_touch ..) (by decide +kernel)
        exact h9

theorem execCoreRestartDone_touch (a0 : ℕ) (s : State) :
    ∃ t, execCoreRestartDone a0 s = .next t ∧ Touch 0x3ffffffffffffffffffffffffffffffffffffffffffffffffffffffffffffffffffffffffffffffffffffffffffffffffffffffffffffffffffffffffffffffffffffffffffffffffffffffffffffffffbffff8 s t := by
  refine ⟨_, rfl, ?_⟩
  refine Touch.step ?_ (State.restartDone_touch ..) (by decide +kernel)
  exact Touch.refl _ _

end Sys2Proof.Machine
end

