-- ==== Sys2Proof/Laws/TouchOperands.lean ====
section
/-! SUPPORT. What the operations of Machine/Operands.lean may change. -/
namespace Sys2Proof.Machine

set_option Elab.async false

theorem State.setSreg_touch (s : State) (a1 : ℕ) (a2 : ℕ) (a3 : Word) :
    Touch 0x3000 s (State.setSreg s a1 a2 a3) := by
  unfold State.setSreg
  refine Touch.ite ?_ ?_
  · exact Touch.refl _ _
  · refine Touch.ite ?_ ?_
    · refine Touch.step ?_ (State.modCore_touch ..) (by decide +kernel)
      exact Touch.refl _ _
    · refine Touch.step ?_ (State.modTile_touch ..) (by decide +kernel)
      exact Touch.refl _ _

theorem State.setWpc_touch (s : State) (a1 : ℕ) (a2 : ℕ) :
    Touch 0x3000 s (State.setWpc s a1 a2) := by
  unfold State.setWpc
  refine Touch.ite ?_ ?_
  · refine Touch.step ?_ (State.modCore_touch ..) (by decide +kernel)
    exact Touch.refl _ _
  · refine Touch.step ?_ (State.modTile_touch ..) (by decide +kernel)
    exact Touch.refl _ _

theorem State.setVreg_touch (s : State) (a1 : ℕ) (a2 : ℕ) (a3 : Vec) :
    Touch 0x1000 s (State.setVreg s a1 a2 a3) := by
  unfold State.setVreg
  refine Touch.step ?_ (State.modTile_touch ..) (by decide +kernel)
  exact Touch.refl _ _

theorem State.setPreg_touch (s : State) (a1 : ℕ) (a2 : ℕ) (a3 : Word) :
    Touch 0x1000 s (State.setPreg s a1 a2 a3) := by
  unfold State.setPreg
  refine Touch.ite ?_ ?_
  · exact Touch.refl _ _
  · refine Touch.step ?_ (State.modTile_touch ..) (by decide +kernel)
    exact Touch.refl _ _

end Sys2Proof.Machine
end

