-- ==== Sys2Proof/Laws/TouchFlags.lean ====
section
/-! SUPPORT. What the operations of Machine/Flags.lean may change. -/
namespace Sys2Proof.Machine

set_option Elab.async false

theorem State.stickFpcsr_touch (s : State) (a1 : ℕ) (a2 : ℕ) :
    Touch 0x1000 s (State.stickFpcsr s a1 a2) := by
  unfold State.stickFpcsr
  refine Touch.ite ?_ ?_
  · refine Touch.step ?_ (State.modTile_touch ..) (by decide +kernel)
    exact Touch.refl _ _
  · exact Touch.refl _ _

theorem State.fpFlags_touch (s : State) (a1 : ℕ) (a2 : FFlags) :
    Touch 0x1000 s (State.fpFlags s a1 a2) := by
  unfold State.fpFlags
  refine Touch.step ?_ (State.stickFpcsr_touch ..) (by decide +kernel)
  exact Touch.refl _ _

theorem State.matFlags_touch (s : State) (a1 : ℕ) (a2 : FFlags) :
    Touch 0x1000 s (State.matFlags s a1 a2) := by
  unfold State.matFlags
  refine Touch.step ?_ (State.modTile_touch ..) (by decide +kernel)
  exact Touch.refl _ _

theorem State.divFlags_touch (s : State) (a1 : ℕ) (a2 : Bool) (a3 : Bool) :
    Touch 0x1000 s (State.divFlags s a1 a2 a3) := by
  unfold State.divFlags
  refine Touch.step ?_ (State.stickFpcsr_touch ..) (by decide +kernel)
  exact Touch.refl _ _

end Sys2Proof.Machine
end

