-- ==== Sys2Proof/Laws/TouchWick.lean ====
section
/-! SUPPORT. What the operations of Machine/Wick.lean may change. -/
namespace Sys2Proof.Machine

set_option Elab.async false

theorem State.modTask_touch (s : State) (a1 : ℕ) (a2 : ℕ) (a3 : TaskRec → TaskRec) :
    Touch 0x1000 s (State.modTask s a1 a2 a3) := by
  unfold State.modTask
  refine Touch.step ?_ (State.modTile_touch ..) (by decide +kernel)
  exact Touch.refl _ _

theorem State.tileClocks_touch (s : State) (a1 : ℕ) (a2 : ℕ) :
    Touch 0x1000 s (State.tileClocks s a1 a2) := by
  unfold State.tileClocks
  refine Touch.step ?_ (State.modTile_touch ..) (by decide +kernel)
  exact Touch.refl _ _

theorem State.tileRetire_touch (s : State) (a1 : ℕ) (a2 : ℕ) (a3 : ℕ) (a4 : ℕ) :
    Touch 0x3000000000000000000000000000000000000000000000003100 s (State.tileRetire s a1 a2 a3 a4) := by
  unfold State.tileRetire
  refine Touch.step ?_ (State.setWpc_touch ..) (by decide +kernel)
  refine Touch.step ?_ (State.modTask_touch ..) (by decide +kernel)
  refine Touch.step ?_ (State.bump_touch ..) (by decide +kernel)
  exact Touch.refl _ _

theorem State.tileFault_touch (s : State) (a1 : ℕ) (a2 : ℕ) (a3 : ℕ) (a4 : ℕ) (a5 : ℕ) (a6 : ℕ) :
    Touch 0x27f800ff8400000000000000000000000000000000000000000363120 s (State.tileFault s a1 a2 a3 a4 a5 a6) := by
  unfold State.tileFault
  extract_lets -merge -useContext +onlyGivenNames v0
  clear_value v0
  refine Touch.ite ?_ ?_
  · refine Touch.step ?_ (State.tileFatal_touch ..) (by decide +kernel)
    exact Touch.refl _ _
  · refine Touch.step ?_ (State.taskFault_touch ..) (by decide +kernel)
    exact Touch.refl _ _

theorem Ex.onTile_touch {M : Nat} {s : State} {e : Ex} {n id pc : Nat} (h : TouchE M s e)
    (hm : 0x27f803ff8400000000000000000000000000000000000000000363120 ||| M = M) : Touch M s (e.onTile n id pc) := by
  cases e with
  | next t => exact Touch.step h (State.tileRetire_touch ..) (mask_trans (by decide +kernel) hm)
  | jump a t => exact Touch.step h (State.tileRetire_touch ..) (mask_trans (by decide +kernel) hm)
  | fault a b c t => exact Touch.step h (State.tileFault_touch ..) (mask_trans (by decide +kernel) hm)
  | stall t => exact h
  | done t => exact h
  | late l t => exact Touch.step h (State.tileRetire_touch ..) (mask_trans (by decide +kernel) hm)

theorem State.tileIssue_touch {M : Nat} {s0 s : State} {i : Issue} {row : WRow} {body : Nat → State → Ex} (h : Touch M s0 s)
    (hb : ∀ w u, Touch M s0 u → TouchE M s0 (body w u))
    (hm : 0x27f803ff8400000000000000000000000000000000000000000363120 ||| M = M) : Touch M s0 (s.tileIssue i row body) := by
  unfold State.tileIssue
  extract_lets n t
  split
  · exact h
  · have hc : Touch M s0 (s.tileClocks n i.clocks) := h.step (State.tileClocks_touch ..) (mask_trans (by decide +kernel) hm)
    refine Touch.ite h (Touch.ite (hc.step (State.tileFatal_touch ..) (mask_trans (by decide +kernel) hm)) ?_)
    exact Touch.ite h (Ex.onTile_touch (hb _ _ hc) (mask_trans (by decide +kernel) hm))

theorem State.coreRetire_touch (s : State) (a1 : ℕ) (a2 : ℕ) :
    Touch 0x100000000000000000000000000000000000000000000000000000002000 s (State.coreRetire s a1 a2) := by
  unfold State.coreRetire
  extract_lets -merge -useContext +onlyGivenNames v0
  refine Touch.cut v0 ?_ (fun h1 => ?_)
  · unfold v0
    refine Touch.step ?_ (State.modCore_touch ..) (by decide +kernel)
    exact Touch.refl _ _
  clear_value v0
  refine Touch.step ?_ (State.coreClear_touch ..) (by decide +kernel)
  refine Touch.ite ?_ ?_
  · exact h1
  · refine Touch.step ?_ (State.put_touch ..) (by decide +kernel)
    exact h1

theorem Ex.onCore_touch {M : Nat} {s : State} {e : Ex} {c pc : Nat} (h : TouchE M s e)
    (hm : 0x3ffffffffffffffffffffffffffffffffffffffffffffffffffffffffffffffffffffffffffffffffffffffffffffffffffffffffffffffffffffffffffffffffffffffffffffffffffffffffffffffffbffff8 ||| M = M) : Touch M s (e.onCore c pc) := by
  cases e with
  | next t => exact Touch.step h (State.coreRetire_touch ..) (mask_trans (by decide +kernel) hm)
  | jump a t => exact Touch.step h (State.coreRetire_touch ..) (mask_trans (by decide +kernel) hm)
  | fault a b x t => exact Touch.step h (State.lntExc_touch ..) (mask_trans (by decide +kernel) hm)
  | stall t => exact h
  | done t => exact h
  | late l t =>
    refine Touch.step ?_ (Late.run_touch ..) (mask_trans (by decide +kernel) hm)
    exact Touch.step h (State.coreRetire_touch ..) (mask_trans (by decide +kernel) hm)

theorem State.coreIssue_touch {M : Nat} {s0 s : State} {i : Issue} {row : WRow} {body : Nat → State → Ex} (h : Touch M s0 s)
    (hb : ∀ w u, Touch M s0 u → TouchE M s0 (body w u))
    (hm : 0x3ffffffffffffffffffffffffffffffffffffffffffffffffffffffffffffffffffffffffffffffffffffffffffffffffffffffffffffffffffffffffffffffffffffffffffffffffffffffffffffffffbffff8 ||| M = M) :
    Touch M s0 (s.coreIssue i row body) := by
  unfold State.coreIssue
  extract_lets c s1
  refine Touch.ite h ?_
  have h1 : Touch M s0 s1 := by
    refine Touch.step ?_ (State.drainFree_touch ..) (mask_trans (by decide +kernel) hm)
    exact h.step (State.modCore_touch ..) (mask_trans (by decide +kernel) hm)
  clear_value s1
  refine Touch.ite h1 ?_
  have hf : TouchR M s0 (s1.coreFetch c i.word (i.parity && row != .load && row != .amo)) :=
    TouchR.step h1 (State.coreFetch_touch ..) (mask_trans (by decide +kernel) hm)
  split
  · rename_i e; exact TouchR.ofWait e hf
  · rename_i e; exact Touch.step (TouchR.ofExc e hf) (State.lntExc_touch ..) (mask_trans (by decide +kernel) hm)
  · rename_i e; exact Touch.ite h (Ex.onCore_touch (hb _ _ (TouchR.ofOk e hf)) (mask_trans (by decide +kernel) hm))

theorem State.issue_touch {M : Nat} {s0 s : State} {i : Issue} {row : WRow} {body : Nat → State → Ex} (h : Touch M s0 s)
    (hb : ∀ w u, Touch M s0 u → TouchE M s0 (body w u))
    (hm : 0x3ffffffffffffffffffffffffffffffffffffffffffffffffffffffffffffffffffffffffffffffffffffffffffffffffffffffffffffffffffffffffffffffffffffffffffffffffffffffffffffffffbffff8 ||| M = M) : Touch M s0 (s.issue i row body) :=
  Touch.ite (State.coreIssue_touch h hb (mask_trans (by decide +kernel) hm)) (State.tileIssue_touch h hb (mask_trans (by decide +kernel) hm))

theorem State.progRead_touch {M : Nat} {s0 s : State} {n a len al : Nat} {ecc : Ecc} {f : List Byte → State → Ex} (h : Touch M s0 s)
    (hf : ∀ b u, Touch M s0 u → TouchE M s0 (f b u)) (hm : 0x300000000000000000000000000000000000000000000000200100 ||| M = M) :
    TouchE M s0 (s.progRead n a len al ecc f) := by
  unfold State.progRead
  refine TouchE.ite h (TouchE.ite h ?_)
  have hr : Touch M s0 (s.tileRead n a len).2 := h.step (State.tileRead_touch ..) (mask_trans (by decide +kernel) hm)
  dsimp only
  split
  · exact hf _ _ hr
  · have hb : Touch M s0 ((s.tileRead n a len).2.bump .TILE_ECC_CORRECTED) := hr.step (State.bump_touch ..) (mask_trans (by decide +kernel) hm)
    exact hf _ _ hb
  · exact h

theorem State.progWrite_touch (s : State) (a1 : ℕ) (a2 : ℕ) (a3 : List Byte) :
    Touch 0x1000 s (State.progWrite s a1 a2 a3) := by
  unfold State.progWrite
  refine Touch.step ?_ (State.modTile_touch ..) (by decide +kernel)
  exact Touch.refl _ _

theorem State.progStore_touch (s : State) (a1 : ℕ) (a2 : ℕ) (a3 : List Byte) (a4 : ℕ) :
    TouchE 0x1000 s (State.progStore s a1 a2 a3 a4) := by
  unfold State.progStore
  refine TouchE.ite ?_ ?_
  · refine TouchE.fault _ _ _ ?_
    exact Touch.refl _ _
  · refine TouchE.next ?_
    refine Touch.step ?_ (State.progWrite_touch ..) (by decide +kernel)
    exact Touch.refl _ _

theorem State.scalarRead_touch {M : Nat} {s0 s : State} {i : Issue} {a n : Nat} {f : List Byte → State → Ex} (h : Touch M s0 s)
    (hf : ∀ b u, Touch M s0 u → TouchE M s0 (f b u)) (hm : 0x3ffffffffffffffffffffffffffffffffffffffffffffffffffffffffffffffffffffffffffffffffffffffffffffffffffffffffffffffffffffffffffffffffffffffffffffffffffffffffffffffffbffff8 ||| M = M) :
    TouchE M s0 (s.scalarRead i a n f) := by
  unfold State.scalarRead
  refine TouchE.ite (TouchE.ite h (TouchE.ofRes ?_ hf)) (State.progRead_touch h hf (mask_trans (by decide +kernel) hm))
  exact TouchR.step h (State.coreLoad_touch ..) (mask_trans (by decide +kernel) hm)

theorem Res.stored_touch {M : Nat} {s : State} {r : Res (Option Late)} (h : TouchR M s r) : TouchE M s r.stored := by
  refine TouchE.ofRes h (fun v u hu => ?_)
  cases v <;> exact hu

theorem State.scalarWrite_touch (s : State) (a1 : Issue) (a2 : ℕ) (a3 : List Byte) :
    TouchE 0x3ffffffffffffffffffffffffffffffffffffffffffffffffffffffffffffffffffffffffffffffffffffffffffffffffffffffffffffffffffffffffffffffffffffffffffffffffffffffffffffffffbffff8 s (State.scalarWrite s a1 a2 a3) := by
  unfold State.scalarWrite
  refine TouchE.ite ?_ ?_
  · refine Res.stored_touch ?_
    refine TouchR.step ?_ (State.coreStore_touch ..) (by decide +kernel)
    exact Touch.refl _ _
  · refine TouchE.step ?_ (State.progStore_touch ..) (by decide +kernel)
    exact Touch.refl _ _

end Sys2Proof.Machine
end

