-- ==== Sys2Proof/Laws/TouchScalar.lean ====
section
/-! SUPPORT. What the operations of Machine/Scalar.lean may change. -/
namespace Sys2Proof.Machine

set_option Elab.async false

theorem aluBody_touch (a0 : ℕ) (a1 : ℕ) (s : State) :
    TouchE 0x3000 s (aluBody a0 a1 s) := by
  unfold aluBody
  extract_lets -merge -useContext +onlyGivenNames v0
  clear_value v0
  refine TouchE.next ?_
  refine Touch.step ?_ (State.setSreg_touch ..) (by decide +kernel)
  refine Touch.step ?_ (State.divFlags_touch ..) (by decide +kernel)
  exact Touch.refl _ _

theorem execAlu_touch (a0 : Issue) (s : State) :
    ∃ t, execAlu a0 s = .next t ∧ Touch 0x3ffffffffffffffffffffffffffffffffffffffffffffffffffffffffffffffffffffffffffffffffffffffffffffffffffffffffffffffffffffffffffffffffffffffffffffffffffffffffffffffffbffff8 s t := by
  refine ⟨_, rfl, ?_⟩
  refine State.issue_touch ?_ (fun y0 y1 h2 => ?_) (by decide +kernel)
  · exact Touch.refl _ _
  · refine TouchE.step ?_ (aluBody_touch ..) (by decide +kernel)
    exact h2

theorem aluwBody_touch (a0 : ℕ) (a1 : ℕ) (s : State) :
    TouchE 0x3000 s (aluwBody a0 a1 s) := by
  unfold aluwBody
  extract_lets -merge -useContext +onlyGivenNames v0
  clear_value v0
  refine TouchE.next ?_
  refine Touch.step ?_ (State.setSreg_touch ..) (by decide +kernel)
  refine Touch.step ?_ (State.divFlags_touch ..) (by decide +kernel)
  exact Touch.refl _ _

theorem execAluw_touch (a0 : Issue) (s : State) :
    ∃ t, execAluw a0 s = .next t ∧ Touch 0x3ffffffffffffffffffffffffffffffffffffffffffffffffffffffffffffffffffffffffffffffffffffffffffffffffffffffffffffffffffffffffffffffffffffffffffffffffffffffffffffffffbffff8 s t := by
  refine ⟨_, rfl, ?_⟩
  refine State.issue_touch ?_ (fun y0 y1 h2 => ?_) (by decide +kernel)
  · exact Touch.refl _ _
  · refine TouchE.step ?_ (aluwBody_touch ..) (by decide +kernel)
    exact h2

theorem immBody_touch (a0 : ℕ) (a1 : ℕ → Word → Word) (a2 : ℕ) (s : State) :
    TouchE 0x3000 s (immBody a0 a1 a2 s) := by
  unfold immBody
  refine TouchE.next ?_
  refine Touch.step ?_ (State.setSreg_touch ..) (by decide +kernel)
  exact Touch.refl _ _

theorem execAddi_touch (a0 : Issue) (s : State) :
    ∃ t, execAddi a0 s = .next t ∧ Touch 0x3ffffffffffffffffffffffffffffffffffffffffffffffffffffffffffffffffffffffffffffffffffffffffffffffffffffffffffffffffffffffffffffffffffffffffffffffffffffffffffffffffbffff8 s t := by
  refine ⟨_, rfl, ?_⟩
  refine State.issue_touch ?_ (fun y0 y1 h2 => ?_) (by decide +kernel)
  · exact Touch.refl _ _
  · refine TouchE.step ?_ (immBody_touch ..) (by decide +kernel)
    exact h2

theorem execAndi_touch (a0 : Issue) (s : State) :
    ∃ t, execAndi a0 s = .next t ∧ Touch 0x3ffffffffffffffffffffffffffffffffffffffffffffffffffffffffffffffffffffffffffffffffffffffffffffffffffffffffffffffffffffffffffffffffffffffffffffffffffffffffffffffffbffff8 s t := by
  refine ⟨_, rfl, ?_⟩
  refine State.issue_touch ?_ (fun y0 y1 h2 => ?_) (by decide +kernel)
  · exact Touch.refl _ _
  · refine TouchE.step ?_ (immBody_touch ..) (by decide +kernel)
    exact h2

theorem execOri_touch (a0 : Issue) (s : State) :
    ∃ t, execOri a0 s = .next t ∧ Touch 0x3ffffffffffffffffffffffffffffffffffffffffffffffffffffffffffffffffffffffffffffffffffffffffffffffffffffffffffffffffffffffffffffffffffffffffffffffffffffffffffffffffbffff8 s t := by
  refine ⟨_, rfl, ?_⟩
  refine State.issue_touch ?_ (fun y0 y1 h2 => ?_) (by decide +kernel)
  · exact Touch.refl _ _
  · refine TouchE.step ?_ (immBody_touch ..) (by decide +kernel)
    exact h2

theorem execXori_touch (a0 : Issue) (s : State) :
    ∃ t, execXori a0 s = .next t ∧ Touch 0x3ffffffffffffffffffffffffffffffffffffffffffffffffffffffffffffffffffffffffffffffffffffffffffffffffffffffffffffffffffffffffffffffffffffffffffffffffffffffffffffffffbffff8 s t := by
  refine ⟨_, rfl, ?_⟩
  refine State.issue_touch ?_ (fun y0 y1 h2 => ?_) (by decide +kernel)
  · exact Touch.refl _ _
  · refine TouchE.step ?_ (immBody_touch ..) (by decide +kernel)
    exact h2

theorem execSlti_touch (a0 : Issue) (s : State) :
    ∃ t, execSlti a0 s = .next t ∧ Touch 0x3ffffffffffffffffffffffffffffffffffffffffffffffffffffffffffffffffffffffffffffffffffffffffffffffffffffffffffffffffffffffffffffffffffffffffffffffffffffffffffffffffbffff8 s t := by
  refine ⟨_, rfl, ?_⟩
  refine State.issue_touch ?_ (fun y0 y1 h2 => ?_) (by decide +kernel)
  · exact Touch.refl _ _
  · refine TouchE.step ?_ (immBody_touch ..) (by decide +kernel)
    exact h2

theorem execSltiu_touch (a0 : Issue) (s : State) :
    ∃ t, execSltiu a0 s = .next t ∧ Touch 0x3ffffffffffffffffffffffffffffffffffffffffffffffffffffffffffffffffffffffffffffffffffffffffffffffffffffffffffffffffffffffffffffffffffffffffffffffffffffffffffffffffbffff8 s t := by
  refine ⟨_, rfl, ?_⟩
  refine State.issue_touch ?_ (fun y0 y1 h2 => ?_) (by decide +kernel)
  · exact Touch.refl _ _
  · refine TouchE.step ?_ (immBody_touch ..) (by decide +kernel)
    exact h2

theorem execShi_touch (a0 : Issue) (s : State) :
    ∃ t, execShi a0 s = .next t ∧ Touch 0x3ffffffffffffffffffffffffffffffffffffffffffffffffffffffffffffffffffffffffffffffffffffffffffffffffffffffffffffffffffffffffffffffffffffffffffffffffffffffffffffffffbffff8 s t := by
  refine ⟨_, rfl, ?_⟩
  refine State.issue_touch ?_ (fun y0 y1 h2 => ?_) (by decide +kernel)
  · exact Touch.refl _ _
  · refine TouchE.step ?_ (immBody_touch ..) (by decide +kernel)
    exact h2

theorem execLui_touch (a0 : Issue) (s : State) :
    ∃ t, execLui a0 s = .next t ∧ Touch 0x3ffffffffffffffffffffffffffffffffffffffffffffffffffffffffffffffffffffffffffffffffffffffffffffffffffffffffffffffffffffffffffffffffffffffffffffffffffffffffffffffffbffff8 s t := by
  refine ⟨_, rfl, ?_⟩
  refine State.issue_touch ?_ (fun y0 y1 h2 => ?_) (by decide +kernel)
  · exact Touch.refl _ _
  · refine TouchE.step ?_ (immBody_touch ..) (by decide +kernel)
    exact h2

theorem loadBody_touch (a0 : Issue) (a1 : ℕ) (s : State) :
    TouchE 0x3ffffffffffffffffffffffffffffffffffffffffffffffffffffffffffffffffffffffffffffffffffffffffffffffffffffffffffffffffffffffffffffffffffffffffffffffffffffffffffffffffbffff8 s (loadBody a0 a1 s) := by
  unfold loadBody
  refine State.scalarRead_touch ?_ (fun y0 y1 h2 => ?_) (by decide +kernel)
  · exact Touch.refl _ _
  · refine TouchE.next ?_
    refine Touch.step ?_ (State.setSreg_touch ..) (by decide +kernel)
    exact h2

theorem execScalarLoad_touch (a0 : Issue) (s : State) :
    ∃ t, execScalarLoad a0 s = .next t ∧ Touch 0x3ffffffffffffffffffffffffffffffffffffffffffffffffffffffffffffffffffffffffffffffffffffffffffffffffffffffffffffffffffffffffffffffffffffffffffffffffffffffffffffffffbffff8 s t := by
  refine ⟨_, rfl, ?_⟩
  refine State.issue_touch ?_ (fun y0 y1 h2 => ?_) (by decide +kernel)
  · exact Touch.refl _ _
  · refine TouchE.step ?_ (loadBody_touch ..) (by decide +kernel)
    exact h2

theorem storeBody_touch (a0 : Issue) (a1 : ℕ) (s : State) :
    TouchE 0x3ffffffffffffffffffffffffffffffffffffffffffffffffffffffffffffffffffffffffffffffffffffffffffffffffffffffffffffffffffffffffffffffffffffffffffffffffffffffffffffffffbffff8 s (storeBody a0 a1 s) := by
  unfold storeBody
  refine TouchE.step ?_ (State.scalarWrite_touch ..) (by decide +kernel)
  exact Touch.refl _ _

theorem execScalarStore_touch (a0 : Issue) (s : State) :
    ∃ t, execScalarStore a0 s = .next t ∧ Touch 0x3ffffffffffffffffffffffffffffffffffffffffffffffffffffffffffffffffffffffffffffffffffffffffffffffffffffffffffffffffffffffffffffffffffffffffffffffffffffffffffffffffbffff8 s t := by
  refine ⟨_, rfl, ?_⟩
  refine State.issue_touch ?_ (fun y0 y1 h2 => ?_) (by decide +kernel)
  · exact Touch.refl _ _
  · refine TouchE.step ?_ (storeBody_touch ..) (by decide +kernel)
    exact h2

theorem State.jumpTo_touch {M : Nat} {s0 s : State} {n : Nat} {target : Int} {f : State → State} (h : Touch M s0 s)
    (hf : ∀ u, Touch M s0 u → Touch M s0 (f u)) : TouchE M s0 (s.jumpTo n target f) := by
  unfold State.jumpTo
  exact TouchE.ite (hf _ h) (TouchE.ite h (hf _ h))

theorem branchBody_touch (a0 : ℕ) (a1 : ℕ) (s : State) :
    TouchE 0x0 s (branchBody a0 a1 s) := by
  unfold branchBody
  refine TouchE.ite ?_ ?_
  · refine State.jumpTo_touch ?_ (fun y0 h1 => ?_)
    · exact Touch.refl _ _
    · refine Touch.ofId ?_
      exact h1
  · refine TouchE.next ?_
    exact Touch.refl _ _

theorem execBranch_touch (a0 : Issue) (s : State) :
    ∃ t, execBranch a0 s = .next t ∧ Touch 0x3ffffffffffffffffffffffffffffffffffffffffffffffffffffffffffffffffffffffffffffffffffffffffffffffffffffffffffffffffffffffffffffffffffffffffffffffffffffffffffffffffbffff8 s t := by
  refine ⟨_, rfl, ?_⟩
  refine State.issue_touch ?_ (fun y0 y1 h2 => ?_) (by decide +kernel)
  · exact Touch.refl _ _
  · refine TouchE.step ?_ (branchBody_touch ..) (by decide +kernel)
    exact h2

theorem jalBody_touch (a0 : ℕ) (a1 : ℕ) (s : State) :
    TouchE 0x3000 s (jalBody a0 a1 s) := by
  unfold jalBody
  refine State.jumpTo_touch ?_ (fun y0 h1 => ?_)
  · exact Touch.refl _ _
  · refine Touch.step ?_ (State.setSreg_touch ..) (by decide +kernel)
    exact h1

theorem execJal_touch (a0 : Issue) (s : State) :
    ∃ t, execJal a0 s = .next t ∧ Touch 0x3ffffffffffffffffffffffffffffffffffffffffffffffffffffffffffffffffffffffffffffffffffffffffffffffffffffffffffffffffffffffffffffffffffffffffffffffffffffffffffffffffbffff8 s t := by
  refine ⟨_, rfl, ?_⟩
  refine State.issue_touch ?_ (fun y0 y1 h2 => ?_) (by decide +kernel)
  · exact Touch.refl _ _
  · refine TouchE.step ?_ (jalBody_touch ..) (by decide +kernel)
    exact h2

theorem jalrBody_touch (a0 : ℕ) (a1 : ℕ) (s : State) :
    TouchE 0x3000 s (jalrBody a0 a1 s) := by
  unfold jalrBody
  refine State.jumpTo_touch ?_ (fun y0 h1 => ?_)
  · exact Touch.refl _ _
  · refine Touch.step ?_ (State.setSreg_touch ..) (by decide +kernel)
    exact h1

theorem execJalr_touch (a0 : Issue) (s : State) :
    ∃ t, execJalr a0 s = .next t ∧ Touch 0x3ffffffffffffffffffffffffffffffffffffffffffffffffffffffffffffffffffffffffffffffffffffffffffffffffffffffffffffffffffffffffffffffffffffffffffffffffffffffffffffffffbffff8 s t := by
  refine ⟨_, rfl, ?_⟩
  refine State.issue_touch ?_ (fun y0 y1 h2 => ?_) (by decide +kernel)
  · exact Touch.refl _ _
  · refine TouchE.step ?_ (jalrBody_touch ..) (by decide +kernel)
    exact h2

end Sys2Proof.Machine
end

