-- ==== Sys2Proof/Laws/TouchVector.lean ====
section
/-! SUPPORT. What the operations of Machine/Vector.lean may change. -/
namespace Sys2Proof.Machine

set_option Elab.async false

theorem State.putElems_touch (s : State) (a1 : ℕ) (a2 : ℕ) (a3 : List ℕ) :
    Touch 0x1000 s (State.putElems s a1 a2 a3) := by
  unfold State.putElems
  refine Touch.step ?_ (State.setVreg_touch ..) (by decide +kernel)
  exact Touch.refl _ _

theorem vintBody_touch (a0 : ℕ) (a1 : ℕ) (s : State) :
    TouchE 0x1000 s (vintBody a0 a1 s) := by
  unfold vintBody
  refine TouchE.next ?_
  refine Touch.step ?_ (State.putElems_touch ..) (by decide +kernel)
  exact Touch.refl _ _

theorem execVint_touch (a0 : Issue) (s : State) :
    ∃ t, execVint a0 s = .next t ∧ Touch 0x3ffffffffffffffffffffffffffffffffffffffffffffffffffffffffffffffffffffffffffffffffffffffffffffffffffffffffffffffffffffffffffffffffffffffffffffffffffffffffffffffffbffff8 s t := by
  refine ⟨_, rfl, ?_⟩
  refine State.issue_touch ?_ (fun y0 y1 h2 => ?_) (by decide +kernel)
  · exact Touch.refl _ _
  · refine TouchE.step ?_ (vintBody_touch ..) (by decide +kernel)
    exact h2

theorem vfpBody_touch (a0 : ℕ) (a1 : ℕ) (s : State) :
    TouchE 0x1000 s (vfpBody a0 a1 s) := by
  unfold vfpBody
  extract_lets -merge -useContext +onlyGivenNames v0
  clear_value v0
  refine TouchE.next ?_
  refine Touch.step ?_ (State.fpFlags_touch ..) (by decide +kernel)
  refine Touch.step ?_ (State.putElems_touch ..) (by decide +kernel)
  exact Touch.refl _ _

theorem execVfp_touch (a0 : Issue) (s : State) :
    ∃ t, execVfp a0 s = .next t ∧ Touch 0x3ffffffffffffffffffffffffffffffffffffffffffffffffffffffffffffffffffffffffffffffffffffffffffffffffffffffffffffffffffffffffffffffffffffffffffffffffffffffffffffffffbffff8 s t := by
  refine ⟨_, rfl, ?_⟩
  refine State.issue_touch ?_ (fun y0 y1 h2 => ?_) (by decide +kernel)
  · exact Touch.refl _ _
  · refine TouchE.step ?_ (vfpBody_touch ..) (by decide +kernel)
    exact h2

theorem vcmpBody_touch (a0 : ℕ) (a1 : ℕ) (s : State) :
    TouchE 0x1000 s (vcmpBody a0 a1 s) := by
  unfold vcmpBody
  extract_lets -merge -useContext +onlyGivenNames v0
  clear_value v0
  extract_lets -merge -useContext +onlyGivenNames v1
  clear_value v1
  extract_lets -merge -useContext +onlyGivenNames v2
  clear_value v2
  refine TouchE.next ?_
  refine Touch.step ?_ (State.fpFlags_touch ..) (by decide +kernel)
  refine Touch.step ?_ (State.setPreg_touch ..) (by decide +kernel)
  exact Touch.refl _ _

theorem execVcmp_touch (a0 : Issue) (s : State) :
    ∃ t, execVcmp a0 s = .next t ∧ Touch 0x3ffffffffffffffffffffffffffffffffffffffffffffffffffffffffffffffffffffffffffffffffffffffffffffffffffffffffffffffffffffffffffffffffffffffffffffffffffffffffffffffffbffff8 s t := by
  refine ⟨_, rfl, ?_⟩
  refine State.issue_touch ?_ (fun y0 y1 h2 => ?_) (by decide +kernel)
  · exact Touch.refl _ _
  · refine TouchE.step ?_ (vcmpBody_touch ..) (by decide +kernel)
    exact h2

theorem vldBody_touch (a0 : Issue) (a1 : ℕ) (s : State) :
    TouchE 0x300000000000000000000000000000000000000000000000201100 s (vldBody a0 a1 s) := by
  unfold vldBody
  refine State.progRead_touch ?_ (fun y0 y1 h2 => ?_) (by decide +kernel)
  · exact Touch.refl _ _
  · refine TouchE.next ?_
    refine Touch.step ?_ (State.putElems_touch ..) (by decide +kernel)
    exact h2

theorem execVld_touch (a0 : Issue) (s : State) :
    ∃ t, execVld a0 s = .next t ∧ Touch 0x3ffffffffffffffffffffffffffffffffffffffffffffffffffffffffffffffffffffffffffffffffffffffffffffffffffffffffffffffffffffffffffffffffffffffffffffffffffffffffffffffffbffff8 s t := by
  refine ⟨_, rfl, ?_⟩
  refine State.issue_touch ?_ (fun y0 y1 h2 => ?_) (by decide +kernel)
  · exact Touch.refl _ _
  · refine TouchE.step ?_ (vldBody_touch ..) (by decide +kernel)
    exact h2

theorem vstBody_touch (a0 : ℕ) (a1 : ℕ) (s : State) :
    TouchE 0x1000 s (vstBody a0 a1 s) := by
  unfold vstBody
  extract_lets -merge -useContext +onlyGivenNames v0
  clear_value v0
  extract_lets -merge -useContext +onlyGivenNames v1
  clear_value v1
  extract_lets -merge -useContext +onlyGivenNames v2
  clear_value v2
  refine TouchE.ite ?_ ?_
  · refine TouchE.fault _ _ _ ?_
    exact Touch.refl _ _
  · refine TouchE.ite ?_ ?_
    · refine TouchE.next ?_
      refine Touch.step ?_ (State.progWrite_touch ..) (by decide +kernel)
      exact Touch.refl _ _
    · refine TouchE.next ?_
      refine Touch.foldl ?_ (fun y3 y4 h5 => ?_)
      · exact Touch.refl _ _
      · refine Touch.step ?_ (State.progWrite_touch ..) (by decide +kernel)
        exact h5

theorem execVst_touch (a0 : Issue) (s : State) :
    ∃ t, execVst a0 s = .next t ∧ Touch 0x3ffffffffffffffffffffffffffffffffffffffffffffffffffffffffffffffffffffffffffffffffffffffffffffffffffffffffffffffffffffffffffffffffffffffffffffffffffffffffffffffffbffff8 s t := by
  refine ⟨_, rfl, ?_⟩
  refine State.issue_touch ?_ (fun y0 y1 h2 => ?_) (by decide +kernel)
  · exact Touch.refl _ _
  · refine TouchE.step ?_ (vstBody_touch ..) (by decide +kernel)
    exact h2

theorem vldbBody_touch (a0 : Issue) (a1 : ℕ) (s : State) :
    TouchE 0x300000000000000000000000000000000000000000000000201100 s (vldbBody a0 a1 s) := by
  unfold vldbBody
  extract_lets -merge -useContext +onlyGivenNames v0
  clear_value v0
  refine State.progRead_touch ?_ (fun y1 y2 h3 => ?_) (by decide +kernel)
  · exact Touch.refl _ _
  · refine TouchE.next ?_
    refine Touch.step ?_ (State.putElems_touch ..) (by decide +kernel)
    exact h3

theorem execVldb_touch (a0 : Issue) (s : State) :
    ∃ t, execVldb a0 s = .next t ∧ Touch 0x3ffffffffffffffffffffffffffffffffffffffffffffffffffffffffffffffffffffffffffffffffffffffffffffffffffffffffffffffffffffffffffffffffffffffffffffffffffffffffffffffffbffff8 s t := by
  refine ⟨_, rfl, ?_⟩
  refine State.issue_touch ?_ (fun y0 y1 h2 => ?_) (by decide +kernel)
  · exact Touch.refl _ _
  · refine TouchE.step ?_ (vldbBody_touch ..) (by decide +kernel)
    exact h2

theorem vcvtBody_touch (a0 : ℕ) (a1 : ℕ) (s : State) :
    TouchE 0x1000 s (vcvtBody a0 a1 s) := by
  unfold vcvtBody
  split
  · extract_lets -merge -useContext +onlyGivenNames v0
    clear_value v0
    extract_lets -merge -useContext +onlyGivenNames v1
    clear_value v1
    extract_lets -merge -useContext +onlyGivenNames v2
    clear_value v2
    extract_lets -merge -useContext +onlyGivenNames v3
    refine TouchE.cut v3 ?_ (fun h4 => ?_)
    · unfold v3
      refine Touch.step ?_ (State.fpFlags_touch ..) (by decide +kernel)
      refine Touch.step ?_ (State.setVreg_touch ..) (by decide +kernel)
      exact Touch.refl _ _
    clear_value v3
    refine TouchE.next ?_
    refine Touch.ite ?_ ?_
    · refine Touch.step ?_ (State.modTile_touch ..) (by decide +kernel)
      exact h4
    · exact h4
  · refine TouchE.fault _ _ _ ?_
    exact Touch.refl _ _

theorem execVcvt_touch (a0 : Issue) (s : State) :
    ∃ t, execVcvt a0 s = .next t ∧ Touch 0x3ffffffffffffffffffffffffffffffffffffffffffffffffffffffffffffffffffffffffffffffffffffffffffffffffffffffffffffffffffffffffffffffffffffffffffffffffffffffffffffffffbffff8 s t := by
  refine ⟨_, rfl, ?_⟩
  refine State.issue_touch ?_ (fun y0 y1 h2 => ?_) (by decide +kernel)
  · exact Touch.refl _ _
  · refine TouchE.step ?_ (vcvtBody_touch ..) (by decide +kernel)
    exact h2

theorem vbcastBody_touch (a0 : ℕ) (a1 : ℕ) (s : State) :
    TouchE 0x1000 s (vbcastBody a0 a1 s) := by
  unfold vbcastBody
  refine TouchE.next ?_
  refine Touch.step ?_ (State.putElems_touch ..) (by decide +kernel)
  exact Touch.refl _ _

theorem execVbcast_touch (a0 : Issue) (s : State) :
    ∃ t, execVbcast a0 s = .next t ∧ Touch 0x3ffffffffffffffffffffffffffffffffffffffffffffffffffffffffffffffffffffffffffffffffffffffffffffffffffffffffffffffffffffffffffffffffffffffffffffffffffffffffffffffffbffff8 s t := by
  refine ⟨_, rfl, ?_⟩
  refine State.issue_touch ?_ (fun y0 y1 h2 => ?_) (by decide +kernel)
  · exact Touch.refl _ _
  · refine TouchE.step ?_ (vbcastBody_touch ..) (by decide +kernel)
    exact h2

theorem vmovsBody_touch (a0 : ℕ) (a1 : ℕ) (s : State) :
    TouchE 0x203000 s (vmovsBody a0 a1 s) := by
  unfold vmovsBody
  extract_lets -merge -useContext +onlyGivenNames v0
  clear_value v0
  split
  · refine TouchE.next ?_
    refine Touch.step ?_ (State.setSreg_touch ..) (by decide +kernel)
    exact Touch.refl _ _
  · extract_lets -merge -useContext +onlyGivenNames v1
    refine TouchE.cut v1.2 ?_ (fun h2 => ?_)
    · unfold v1
      refine Touch.step ?_ (State.draw_touch ..) (by decide +kernel)
      exact Touch.refl _ _
    clear_value v1
    refine TouchE.next ?_
    refine Touch.step ?_ (State.setSreg_touch ..) (by decide +kernel)
    exact h2

theorem execVmovs_touch (a0 : Issue) (s : State) :
    ∃ t, execVmovs a0 s = .next t ∧ Touch 0x3ffffffffffffffffffffffffffffffffffffffffffffffffffffffffffffffffffffffffffffffffffffffffffffffffffffffffffffffffffffffffffffffffffffffffffffffffffffffffffffffffbffff8 s t := by
  refine ⟨_, rfl, ?_⟩
  refine State.issue_touch ?_ (fun y0 y1 h2 => ?_) (by decide +kernel)
  · exact Touch.refl _ _
  · refine TouchE.step ?_ (vmovsBody_touch ..) (by decide +kernel)
    exact h2

theorem vredaddBody_touch (a0 : ℕ) (a1 : ℕ) (s : State) :
    TouchE 0x3000 s (vredaddBody a0 a1 s) := by
  unfold vredaddBody
  refine TouchE.next ?_
  refine Touch.step ?_ (State.setSreg_touch ..) (by decide +kernel)
  exact Touch.refl _ _

theorem execVredadd_touch (a0 : Issue) (s : State) :
    ∃ t, execVredadd a0 s = .next t ∧ Touch 0x3ffffffffffffffffffffffffffffffffffffffffffffffffffffffffffffffffffffffffffffffffffffffffffffffffffffffffffffffffffffffffffffffffffffffffffffffffffffffffffffffffbffff8 s t := by
  refine ⟨_, rfl, ?_⟩
  refine State.issue_touch ?_ (fun y0 y1 h2 => ?_) (by decide +kernel)
  · exact Touch.refl _ _
  · refine TouchE.step ?_ (vredaddBody_touch ..) (by decide +kernel)
    exact h2

theorem vredfaddBody_touch (a0 : ℕ) (a1 : ℕ) (s : State) :
    TouchE 0x3000 s (vredfaddBody a0 a1 s) := by
  unfold vredfaddBody
  extract_lets -merge -useContext +onlyGivenNames v0
  clear_value v0
  extract_lets -merge -useContext +onlyGivenNames v1
  clear_value v1
  refine TouchE.next ?_
  refine Touch.step ?_ (State.fpFlags_touch ..) (by decide +kernel)
  refine Touch.step ?_ (State.setSreg_touch ..) (by decide +kernel)
  exact Touch.refl _ _

theorem execVredfadd_touch (a0 : Issue) (s : State) :
    ∃ t, execVredfadd a0 s = .next t ∧ Touch 0x3ffffffffffffffffffffffffffffffffffffffffffffffffffffffffffffffffffffffffffffffffffffffffffffffffffffffffffffffffffffffffffffffffffffffffffffffffffffffffffffffffbffff8 s t := by
  refine ⟨_, rfl, ?_⟩
  refine State.issue_touch ?_ (fun y0 y1 h2 => ?_) (by decide +kernel)
  · exact Touch.refl _ _
  · refine TouchE.step ?_ (vredfaddBody_touch ..) (by decide +kernel)
    exact h2

theorem vredmaxBody_touch (a0 : ℕ) (a1 : ℕ) (s : State) :
    TouchE 0x3000 s (vredmaxBody a0 a1 s) := by
  unfold vredmaxBody
  extract_lets -merge -useContext +onlyGivenNames v0
  clear_value v0
  refine TouchE.next ?_
  refine Touch.step ?_ (State.setSreg_touch ..) (by decide +kernel)
  exact Touch.refl _ _

theorem execVredmax_touch (a0 : Issue) (s : State) :
    ∃ t, execVredmax a0 s = .next t ∧ Touch 0x3ffffffffffffffffffffffffffffffffffffffffffffffffffffffffffffffffffffffffffffffffffffffffffffffffffffffffffffffffffffffffffffffffffffffffffffffffffffffffffffffffbffff8 s t := by
  refine ⟨_, rfl, ?_⟩
  refine State.issue_touch ?_ (fun y0 y1 h2 => ?_) (by decide +kernel)
  · exact Touch.refl _ _
  · refine TouchE.step ?_ (vredmaxBody_touch ..) (by decide +kernel)
    exact h2

theorem vredfmaxBody_touch (a0 : ℕ) (a1 : ℕ) (s : State) :
    TouchE 0x3000 s (vredfmaxBody a0 a1 s) := by
  unfold vredfmaxBody
  extract_lets -merge -useContext +onlyGivenNames v0
  clear_value v0
  refine TouchE.next ?_
  refine Touch.step ?_ (State.fpFlags_touch ..) (by decide +kernel)
  refine Touch.step ?_ (State.setSreg_touch ..) (by decide +kernel)
  exact Touch.refl _ _

theorem execVredfmax_touch (a0 : Issue) (s : State) :
    ∃ t, execVredfmax a0 s = .next t ∧ Touch 0x3ffffffffffffffffffffffffffffffffffffffffffffffffffffffffffffffffffffffffffffffffffffffffffffffffffffffffffffffffffffffffffffffffffffffffffffffffffffffffffffffffbffff8 s t := by
  refine ⟨_, rfl, ?_⟩
  refine State.issue_touch ?_ (fun y0 y1 h2 => ?_) (by decide +kernel)
  · exact Touch.refl _ _
  · refine TouchE.step ?_ (vredfmaxBody_touch ..) (by decide +kernel)
    exact h2

theorem vpermBody_touch (a0 : ℕ) (a1 : ℕ) (s : State) :
    TouchE 0x1000 s (vpermBody a0 a1 s) := by
  unfold vpermBody
  extract_lets -merge -useContext +onlyGivenNames v0
  clear_value v0
  extract_lets -merge -useContext +onlyGivenNames v1
  clear_value v1
  refine TouchE.next ?_
  refine Touch.step ?_ (State.putElems_touch ..) (by decide +kernel)
  exact Touch.refl _ _

theorem execVperm_touch (a0 : Issue) (s : State) :
    ∃ t, execVperm a0 s = .next t ∧ Touch 0x3ffffffffffffffffffffffffffffffffffffffffffffffffffffffffffffffffffffffffffffffffffffffffffffffffffffffffffffffffffffffffffffffffffffffffffffffffffffffffffffffffbffff8 s t := by
  refine ⟨_, rfl, ?_⟩
  refine State.issue_touch ?_ (fun y0 y1 h2 => ?_) (by decide +kernel)
  · exact Touch.refl _ _
  · refine TouchE.step ?_ (vpermBody_touch ..) (by decide +kernel)
    exact h2

theorem predBody_touch (a0 : ℕ) (a1 : Word → Word → Word) (a2 : ℕ) (s : State) :
    TouchE 0x1000 s (predBody a0 a1 a2 s) := by
  unfold predBody
  refine TouchE.next ?_
  refine Touch.step ?_ (State.setPreg_touch ..) (by decide +kernel)
  exact Touch.refl _ _

theorem execPand_touch (a0 : Issue) (s : State) :
    ∃ t, execPand a0 s = .next t ∧ Touch 0x3ffffffffffffffffffffffffffffffffffffffffffffffffffffffffffffffffffffffffffffffffffffffffffffffffffffffffffffffffffffffffffffffffffffffffffffffffffffffffffffffffbffff8 s t := by
  refine ⟨_, rfl, ?_⟩
  refine State.issue_touch ?_ (fun y0 y1 h2 => ?_) (by decide +kernel)
  · exact Touch.refl _ _
  · refine TouchE.step ?_ (predBody_touch ..) (by decide +kernel)
    exact h2

theorem execPor_touch (a0 : Issue) (s : State) :
    ∃ t, execPor a0 s = .next t ∧ Touch 0x3ffffffffffffffffffffffffffffffffffffffffffffffffffffffffffffffffffffffffffffffffffffffffffffffffffffffffffffffffffffffffffffffffffffffffffffffffffffffffffffffffbffff8 s t := by
  refine ⟨_, rfl, ?_⟩
  refine State.issue_touch ?_ (fun y0 y1 h2 => ?_) (by decide +kernel)
  · exact Touch.refl _ _
  · refine TouchE.step ?_ (predBody_touch ..) (by decide +kernel)
    exact h2

theorem execPxor_touch (a0 : Issue) (s : State) :
    ∃ t, execPxor a0 s = .next t ∧ Touch 0x3ffffffffffffffffffffffffffffffffffffffffffffffffffffffffffffffffffffffffffffffffffffffffffffffffffffffffffffffffffffffffffffffffffffffffffffffffffffffffffffffffbffff8 s t := by
  refine ⟨_, rfl, ?_⟩
  refine State.issue_touch ?_ (fun y0 y1 h2 => ?_) (by decide +kernel)
  · exact Touch.refl _ _
  · refine TouchE.step ?_ (predBody_touch ..) (by decide +kernel)
    exact h2

theorem execPnot_touch (a0 : Issue) (s : State) :
    ∃ t, execPnot a0 s = .next t ∧ Touch 0x3ffffffffffffffffffffffffffffffffffffffffffffffffffffffffffffffffffffffffffffffffffffffffffffffffffffffffffffffffffffffffffffffffffffffffffffffffffffffffffffffffbffff8 s t := by
  refine ⟨_, rfl, ?_⟩
  refine State.issue_touch ?_ (fun y0 y1 h2 => ?_) (by decide +kernel)
  · exact Touch.refl _ _
  · refine TouchE.next ?_
    refine Touch.step ?_ (State.setPreg_touch ..) (by decide +kernel)
    exact h2

theorem execPmov_touch (a0 : Issue) (s : State) :
    ∃ t, execPmov a0 s = .next t ∧ Touch 0x3ffffffffffffffffffffffffffffffffffffffffffffffffffffffffffffffffffffffffffffffffffffffffffffffffffffffffffffffffffffffffffffffffffffffffffffffffffffffffffffffffbffff8 s t := by
  refine ⟨_, rfl, ?_⟩
  refine State.issue_touch ?_ (fun y0 y1 h2 => ?_) (by decide +kernel)
  · exact Touch.refl _ _
  · refine TouchE.next ?_
    refine Touch.step ?_ (State.setPreg_touch ..) (by decide +kernel)
    exact h2

theorem execPread_touch (a0 : Issue) (s : State) :
    ∃ t, execPread a0 s = .next t ∧ Touch 0x3ffffffffffffffffffffffffffffffffffffffffffffffffffffffffffffffffffffffffffffffffffffffffffffffffffffffffffffffffffffffffffffffffffffffffffffffffffffffffffffffffbffff8 s t := by
  refine ⟨_, rfl, ?_⟩
  refine State.issue_touch ?_ (fun y0 y1 h2 => ?_) (by decide +kernel)
  · exact Touch.refl _ _
  · refine TouchE.next ?_
    refine Touch.step ?_ (State.setSreg_touch ..) (by decide +kernel)
    exact h2

end Sys2Proof.Machine
end

