-- ==== Sys2Proof/Laws/TouchMatrix.lean ====
section
/-! SUPPORT. What the operations of Machine/Matrix.lean may change. -/
namespace Sys2Proof.Machine

set_option Elab.async false

theorem State.enqueue_touch (s : State) (a1 : ℕ) (a2 : MatEnt) :
    TouchE 0x1000 s (State.enqueue s a1 a2) := by
  unfold State.enqueue
  refine TouchE.ite ?_ ?_
  · refine TouchE.stall ?_
    exact Touch.refl _ _
  · refine TouchE.next ?_
    refine Touch.step ?_ (State.modTile_touch ..) (by decide +kernel)
    exact Touch.refl _ _

theorem State.span_touch {M : Nat} {s0 s : State} {a n al : Nat} {f : Ex} (h : Touch M s0 s) (hf : TouchE M s0 f) :
    TouchE M s0 (s.span a n al f) := TouchE.ite h hf

theorem mmaBody_touch (a0 : ℕ) (a1 : ℕ) (s : State) :
    TouchE 0x1000 s (mmaBody a0 a1 s) := by
  unfold mmaBody
  extract_lets -merge -useContext +onlyGivenNames v0
  clear_value v0
  extract_lets -merge -useContext +onlyGivenNames v1
  clear_value v1
  extract_lets -merge -useContext +onlyGivenNames v2
  clear_value v2
  extract_lets -merge -useContext +onlyGivenNames v3
  clear_value v3
  extract_lets -merge -useContext +onlyGivenNames v4
  clear_value v4
  refine TouchE.ite ?_ ?_
  · refine TouchE.next ?_
    exact Touch.refl _ _
  · refine TouchE.ite ?_ ?_
    · refine TouchE.fault _ _ _ ?_
      exact Touch.refl _ _
    · refine TouchE.ite ?_ ?_
      · refine TouchE.fault _ _ _ ?_
        exact Touch.refl _ _
      · refine State.span_touch ?_ ?_
        · exact Touch.refl _ _
        · refine State.span_touch ?_ ?_
          · exact Touch.refl _ _
          · refine TouchE.step ?_ (State.enqueue_touch ..) (by decide +kernel)
            exact Touch.refl _ _

theorem execMma_touch (a0 : Issue) (s : State) :
    ∃ t, execMma a0 s = .next t ∧ Touch 0x3ffffffffffffffffffffffffffffffffffffffffffffffffffffffffffffffffffffffffffffffffffffffffffffffffffffffffffffffffffffffffffffffffffffffffffffffffffffffffffffffffbffff8 s t := by
  refine ⟨_, rfl, ?_⟩
  refine State.issue_touch ?_ (fun y0 y1 h2 => ?_) (by decide +kernel)
  · exact Touch.refl _ _
  · refine TouchE.step ?_ (mmaBody_touch ..) (by decide +kernel)
    exact h2

theorem execMzero_touch (a0 : Issue) (s : State) :
    ∃ t, execMzero a0 s = .next t ∧ Touch 0x3ffffffffffffffffffffffffffffffffffffffffffffffffffffffffffffffffffffffffffffffffffffffffffffffffffffffffffffffffffffffffffffffffffffffffffffffffffffffffffffffffbffff8 s t := by
  refine ⟨_, rfl, ?_⟩
  refine State.issue_touch ?_ (fun y0 y1 h2 => ?_) (by decide +kernel)
  · exact Touch.refl _ _
  · refine TouchE.step ?_ (State.enqueue_touch ..) (by decide +kernel)
    exact h2

theorem mloadBody_touch (a0 : ℕ) (a1 : ℕ) (s : State) :
    TouchE 0x1000 s (mloadBody a0 a1 s) := by
  unfold mloadBody
  extract_lets -merge -useContext +onlyGivenNames v0
  clear_value v0
  refine State.span_touch ?_ ?_
  · exact Touch.refl _ _
  · refine TouchE.step ?_ (State.enqueue_touch ..) (by decide +kernel)
    exact Touch.refl _ _

theorem execMload_touch (a0 : Issue) (s : State) :
    ∃ t, execMload a0 s = .next t ∧ Touch 0x3ffffffffffffffffffffffffffffffffffffffffffffffffffffffffffffffffffffffffffffffffffffffffffffffffffffffffffffffffffffffffffffffffffffffffffffffffffffffffffffffffbffff8 s t := by
  refine ⟨_, rfl, ?_⟩
  refine State.issue_touch ?_ (fun y0 y1 h2 => ?_) (by decide +kernel)
  · exact Touch.refl _ _
  · refine TouchE.step ?_ (mloadBody_touch ..) (by decide +kernel)
    exact h2

theorem mstoreBody_touch (a0 : ℕ) (a1 : ℕ) (s : State) :
    TouchE 0x1000 s (mstoreBody a0 a1 s) := by
  unfold mstoreBody
  extract_lets -merge -useContext +onlyGivenNames v0
  clear_value v0
  refine State.span_touch ?_ ?_
  · exact Touch.refl _ _
  · refine TouchE.step ?_ (State.enqueue_touch ..) (by decide +kernel)
    exact Touch.refl _ _

theorem execMstore_touch (a0 : Issue) (s : State) :
    ∃ t, execMstore a0 s = .next t ∧ Touch 0x3ffffffffffffffffffffffffffffffffffffffffffffffffffffffffffffffffffffffffffffffffffffffffffffffffffffffffffffffffffffffffffffffffffffffffffffffffffffffffffffffffbffff8 s t := by
  refine ⟨_, rfl, ?_⟩
  refine State.issue_touch ?_ (fun y0 y1 h2 => ?_) (by decide +kernel)
  · exact Touch.refl _ _
  · refine TouchE.step ?_ (mstoreBody_touch ..) (by decide +kernel)
    exact h2

theorem State.imprecise_touch (s : State) (a1 : ℕ) (a2 : ℕ) (a3 : ℕ) (a4 : ℕ) :
    Touch 0x27f800ff8400000000000000000000000000000000000000000363120 s (State.imprecise s a1 a2 a3 a4) := by
  unfold State.imprecise
  extract_lets -merge -useContext +onlyGivenNames v0
  clear_value v0
  refine Touch.ite ?_ ?_
  · refine Touch.step ?_ (State.tileFatal_touch ..) (by decide +kernel)
    exact Touch.refl _ _
  · refine Touch.step ?_ (State.taskFault_touch ..) (by decide +kernel)
    exact Touch.refl _ _

theorem State.drained_touch {M : Nat} {s0 s : State} {n : Nat} {f : State → Ex} (h : Touch M s0 s) (hf : ∀ u, Touch M s0 u → TouchE M s0 (f u))
    (hm : 0x27f800ff8400000000000000000000000000000000000000000363120 ||| M = M) : TouchE M s0 (s.drained n f) := by
  unfold State.drained
  extract_lets t
  refine TouchE.ite h ?_
  split
  · exact h.step (State.imprecise_touch ..) hm
  · exact hf _ h

theorem execMwait_touch (a0 : Issue) (s : State) :
    ∃ t, execMwait a0 s = .next t ∧ Touch 0x3ffffffffffffffffffffffffffffffffffffffffffffffffffffffffffffffffffffffffffffffffffffffffffffffffffffffffffffffffffffffffffffffffffffffffffffffffffffffffffffffffbffff8 s t := by
  refine ⟨_, rfl, ?_⟩
  refine State.issue_touch ?_ (fun y0 y1 h2 => ?_) (by decide +kernel)
  · exact Touch.refl _ _
  · refine State.drained_touch ?_ (fun y3 h4 => ?_) (by decide +kernel)
    · exact h2
    · refine TouchE.next ?_
      exact h4

theorem State.arrayRead_touch (s : State) (a1 : ℕ) (a2 : ℕ) (a3 : ℕ) :
    Touch 0x201000 s (State.arrayRead s a1 a2 a3).2 := by
  unfold State.arrayRead
  extract_lets -merge -useContext +onlyGivenNames v0
  clear_value v0
  extract_lets -merge -useContext +onlyGivenNames v1
  refine Touch.cut v1.2 ?_ (fun h2 => ?_)
  · unfold v1
    refine Touch.step ?_ (State.tileRead_touch ..) (by decide +kernel)
    refine Touch.step ?_ (State.modTile_touch ..) (by decide +kernel)
    exact Touch.refl _ _
  clear_value v1
  refine Touch.mkSnd ?_
  refine Touch.step ?_ (State.modTile_touch ..) (by decide +kernel)
  exact h2

theorem State.arrayFault_touch (s : State) (a1 : ℕ) (a2 : MatEnt) (a3 : Ecc) :
    Touch 0x300000000000000000000000000000000000000000000000001100 s (State.arrayFault s a1 a2 a3) := by
  unfold State.arrayFault
  extract_lets -merge -useContext +onlyGivenNames v0
  clear_value v0
  extract_lets -merge -useContext +onlyGivenNames v1
  clear_value v1
  extract_lets -merge -useContext +onlyGivenNames v2
  split
  · exact Touch.refl _ _
  · extract_lets -merge -useContext +onlyGivenNames v3
    refine Touch.cut v3 ?_ (fun h4 => ?_)
    · unfold v3
      split
      · unfold v2
        refine Touch.step ?_ (State.modTile_touch ..) (by decide +kernel)
        exact Touch.refl _ _
      · exact Touch.refl _ _
    clear_value v3
    split
    · exact h4
    · refine Touch.step ?_ (State.bump_touch ..) (by decide +kernel)
      exact h4
    · unfold v2
      refine Touch.step ?_ (State.modTile_touch ..) (by decide +kernel)
      exact h4

theorem State.setAcc_touch (s : State) (a1 : ℕ) (a2 : ℕ) (a3 : List ℕ) :
    Touch 0x1000 s (State.setAcc s a1 a2 a3) := by
  unfold State.setAcc
  refine Touch.step ?_ (State.modTile_touch ..) (by decide +kernel)
  exact Touch.refl _ _

theorem State.arrayWrite_touch (s : State) (a1 : ℕ) (a2 : ℕ) (a3 : List Byte) :
    Touch 0x1000 s (State.arrayWrite s a1 a2 a3) := by
  unfold State.arrayWrite
  extract_lets -merge -useContext +onlyGivenNames v0
  clear_value v0
  refine Touch.step ?_ (State.modTile_touch ..) (by decide +kernel)
  refine Touch.step ?_ (State.progWrite_touch ..) (by decide +kernel)
  refine Touch.step ?_ (State.modTile_touch ..) (by decide +kernel)
  exact Touch.refl _ _

theorem State.matrixComplete_touch (s : State) (a1 : ℕ) (a2 : Ecc) :
    Touch 0x300000000000000000000000000000000000000000000000201100 s (State.matrixComplete s a1 a2) := by
  unfold State.matrixComplete
  refine Touch.ite ?_ ?_
  · exact Touch.refl _ _
  · split
    · exact Touch.refl _ _
    · extract_lets -merge -useContext +onlyGivenNames v0
      refine Touch.cut v0 ?_ (fun h1 => ?_)
      · unfold v0
        refine Touch.step ?_ (State.arrayFault_touch ..) (by decide +kernel)
        refine Touch.step ?_ (State.modTile_touch ..) (by decide +kernel)
        exact Touch.refl _ _
      clear_value v0
      extract_lets -merge -useContext +onlyGivenNames v2
      clear_value v2
      extract_lets -merge -useContext +onlyGivenNames v3
      extract_lets -merge -useContext +onlyGivenNames v4
      refine Touch.cut v4 ?_ (fun h5 => ?_)
      · unfold v4
        refine Touch.ite ?_ ?_
        · refine Touch.step ?_ (Touch.freeCtrWith _ _ (Nat.le_add_right _ _)) (by decide +kernel)
          exact h1
        · exact h1
      clear_value v4
      split
      · split
        · extract_lets -merge -useContext +onlyGivenNames v6
          refine Touch.cut v6.2 ?_ (fun h7 => ?_)
          · unfold v6
            refine Touch.step ?_ (State.arrayRead_touch ..) (by decide +kernel)
            exact h5
          clear_value v6
          extract_lets -merge -useContext +onlyGivenNames v8
          refine Touch.cut v8.2 ?_ (fun h9 => ?_)
          · unfold v8
            refine Touch.step ?_ (State.arrayRead_touch ..) (by decide +kernel)
            exact h7
          clear_value v8
          refine Touch.ite ?_ ?_
          · refine Touch.step ?_ (State.modTile_touch ..) (by decide +kernel)
            refine Touch.step ?_ (State.setAcc_touch ..) (by decide +kernel)
            exact h9
          · extract_lets -merge -useContext +onlyGivenNames v10
            clear_value v10
            refine Touch.step ?_ (State.matFlags_touch ..) (by decide +kernel)
            refine Touch.step ?_ (State.setAcc_touch ..) (by decide +kernel)
            exact h9
      · refine Touch.step ?_ (State.setAcc_touch ..) (by decide +kernel)
        exact h5
      · extract_lets -merge -useContext +onlyGivenNames v11
        refine Touch.cut v11.2 ?_ (fun h12 => ?_)
        · unfold v11
          refine Touch.step ?_ (State.arrayRead_touch ..) (by decide +kernel)
          exact h5
        clear_value v11
        refine Touch.step ?_ (State.setAcc_touch ..) (by decide +kernel)
        exact h12
      · extract_lets -merge -useContext +onlyGivenNames v13
        clear_value v13
        extract_lets -merge -useContext +onlyGivenNames v14
        clear_value v14
        extract_lets -merge -useContext +onlyGivenNames v15
        refine Touch.cut v15 ?_ (fun h16 => ?_)
        · unfold v15
          refine Touch.step ?_ (State.matFlags_touch ..) (by decide +kernel)
          refine Touch.step ?_ (State.arrayWrite_touch ..) (by decide +kernel)
          exact h5
        clear_value v15
        refine Touch.ite ?_ ?_
        · refine Touch.step ?_ (State.modTile_touch ..) (by decide +kernel)
          exact h16
        · exact h16

theorem execMatrixComplete_touch (a0 : ℕ) (a1 : Ecc) (s : State) :
    ∃ t, execMatrixComplete a0 a1 s = .next t ∧ Touch 0x300000000000000000000000000000000000000000000000201100 s t := by
  refine ⟨_, rfl, ?_⟩
  refine Touch.step ?_ (State.matrixComplete_touch ..) (by decide +kernel)
  exact Touch.refl _ _

end Sys2Proof.Machine
end

