-- ==== Sys2Proof/Laws/TouchTasks.lean ====
section
/-! SUPPORT. What the operations of Machine/Tasks.lean may change. -/
namespace Sys2Proof.Machine

set_option Elab.async false

theorem State.leaveCore_touch (s : State) (a1 : ℕ) (a2 : ℕ) (a3 : TaskState) :
    Touch 0x1000 s (State.leaveCore s a1 a2 a3) := by
  unfold State.leaveCore
  refine Touch.step ?_ (State.modTile_touch ..) (by decide +kernel)
  exact Touch.refl _ _

theorem State.yieldPoint_touch {M : Nat} {s0 s : State} {n user : Nat} {f : Nat → State → State} (h : Touch M s0 s)
    (hf : ∀ i u, Touch M s0 u → Touch M s0 (f i u)) (hm : 0x27f800ff8400000000000000000000000000000000000000000363120 ||| M = M) : TouchE M s0 (s.yieldPoint n user f) := by
  unfold State.yieldPoint
  refine State.drained_touch h (fun u hu => ?_) (mask_trans (by decide +kernel) hm)
  split
  · exact hu
  · exact TouchE.ite (TouchE.done (hu.step (State.endTask_touch ..) (mask_trans (by decide +kernel) hm))) (TouchE.done (hf _ _ hu))

theorem State.suspend_touch (s : State) (a1 : ℕ) (a2 : WaitOn) :
    TouchE 0x27f800ff8400000000000000000000000000000000000000000363120 s (State.suspend s a1 a2) := by
  unfold State.suspend
  refine State.yieldPoint_touch ?_ (fun y0 y1 h2 => ?_) (by decide +kernel)
  · exact Touch.refl _ _
  · refine Touch.step ?_ (State.settleNode_touch ..) (by decide +kernel)
    refine Touch.step ?_ (State.leaveCore_touch ..) (by decide +kernel)
    exact h2

theorem State.operandIf_touch {M : Nat} {s0 s : State} {bad : Bool} {reg : Nat} {f : Ex} (h : Touch M s0 s) (hf : TouchE M s0 f) :
    TouchE M s0 (s.operandIf bad reg f) := TouchE.ite h hf

theorem yieldBody_touch (a0 : ℕ) (a1 : ℕ) (s : State) :
    TouchE 0x27f803ff8400000000000000000000000000000000000000000363120 s (yieldBody a0 a1 s) := by
  unfold yieldBody
  refine State.operandIf_touch ?_ ?_
  · exact Touch.refl _ _
  · extract_lets -merge -useContext +onlyGivenNames v0
    clear_value v0
    refine State.yieldPoint_touch ?_ (fun y1 y2 h3 => ?_) (by decide +kernel)
    · exact Touch.refl _ _
    · refine Touch.step ?_ (State.leaveCore_touch ..) (by decide +kernel)
      refine Touch.step ?_ (State.tileRetire_touch ..) (by decide +kernel)
      exact h3

theorem execTaskYield_touch (a0 : Issue) (s : State) :
    ∃ t, execTaskYield a0 s = .next t ∧ Touch 0x3ffffffffffffffffffffffffffffffffffffffffffffffffffffffffffffffffffffffffffffffffffffffffffffffffffffffffffffffffffffffffffffffffffffffffffffffffffffffffffffffffbffff8 s t := by
  refine ⟨_, rfl, ?_⟩
  refine State.issue_touch ?_ (fun y0 y1 h2 => ?_) (by decide +kernel)
  · exact Touch.refl _ _
  · refine TouchE.step ?_ (yieldBody_touch ..) (by decide +kernel)
    exact h2

theorem doneBody_touch (a0 : ℕ) (a1 : ℕ) (s : State) :
    TouchE 0x27f803ff8400000000000000000000000000000000000000000363120 s (doneBody a0 a1 s) := by
  unfold doneBody
  refine State.operandIf_touch ?_ ?_
  · exact Touch.refl _ _
  · extract_lets -merge -useContext +onlyGivenNames v0
    clear_value v0
    extract_lets -merge -useContext +onlyGivenNames v1
    clear_value v1
    extract_lets -merge -useContext +onlyGivenNames v2
    refine State.drained_touch ?_ (fun y3 h4 => ?_) (by decide +kernel)
    · exact Touch.refl _ _
    · refine State.yieldPoint_touch ?_ (fun y5 y6 h7 => ?_) (by decide +kernel)
      · unfold v2
        split
        · refine Touch.step ?_ (State.tileRetire_touch ..) (by decide +kernel)
          exact h4
        · exact h4
      · refine Touch.step ?_ (State.endTask_touch ..) (by decide +kernel)
        exact h7

theorem execTaskDone_touch (a0 : Issue) (s : State) :
    ∃ t, execTaskDone a0 s = .next t ∧ Touch 0x3ffffffffffffffffffffffffffffffffffffffffffffffffffffffffffffffffffffffffffffffffffffffffffffffffffffffffffffffffffffffffffffffffffffffffffffffffffffffffffffffffbffff8 s t := by
  refine ⟨_, rfl, ?_⟩
  refine State.issue_touch ?_ (fun y0 y1 h2 => ?_) (by decide +kernel)
  · exact Touch.refl _ _
  · refine TouchE.step ?_ (doneBody_touch ..) (by decide +kernel)
    exact h2

theorem State.coreWait_touch (s : State) (a1 : ℕ) :
    TouchE 0x100000000000000000000000000000000000000000000000000000000000 s (State.coreWait s a1) := by
  unfold State.coreWait
  refine TouchE.stall ?_
  refine Touch.ite ?_ ?_
  · exact Touch.refl _ _
  · refine Touch.step ?_ (State.put_touch ..) (by decide +kernel)
    exact Touch.refl _ _

theorem cwaitBody_touch (a0 : ℕ) (a1 : ℕ) (s : State) :
    TouchE 0x10027f800ff8400000000000000000000000000000000000000000363120 s (cwaitBody a0 a1 s) := by
  unfold cwaitBody
  refine State.operandIf_touch ?_ ?_
  · exact Touch.refl _ _
  · extract_lets -merge -useContext +onlyGivenNames v0
    clear_value v0
    extract_lets -merge -useContext +onlyGivenNames v1
    clear_value v1
    refine TouchE.ite ?_ ?_
    · refine TouchE.next ?_
      exact Touch.refl _ _
    · refine TouchE.ite ?_ ?_
      · refine TouchE.step ?_ (State.coreWait_touch ..) (by decide +kernel)
        exact Touch.refl _ _
      · refine TouchE.step ?_ (State.suspend_touch ..) (by decide +kernel)
        exact Touch.refl _ _

theorem execCwait_touch (a0 : Issue) (s : State) :
    ∃ t, execCwait a0 s = .next t ∧ Touch 0x3ffffffffffffffffffffffffffffffffffffffffffffffffffffffffffffffffffffffffffffffffffffffffffffffffffffffffffffffffffffffffffffffffffffffffffffffffffffffffffffffffbffff8 s t := by
  refine ⟨_, rfl, ?_⟩
  refine State.issue_touch ?_ (fun y0 y1 h2 => ?_) (by decide +kernel)
  · exact Touch.refl _ _
  · refine TouchE.step ?_ (cwaitBody_touch ..) (by decide +kernel)
    exact h2

theorem State.rearmRegion_touch (s : State) (a1 : ℕ) (a2 : ℕ) (a3 : ℕ) (a4 : ℕ) :
    Touch 0x240000000000000000000000000000000000000000000000000163100 s (State.rearmRegion s a1 a2 a3 a4) := by
  unfold State.rearmRegion
  split
  · exact Touch.refl _ _
  · refine Touch.step ?_ (State.examine_touch ..) (by decide +kernel)
    refine Touch.step ?_ (State.modRegion_touch ..) (by decide +kernel)
    refine Touch.step ?_ (State.setSreg_touch ..) (by decide +kernel)
    exact Touch.refl _ _

theorem recvwaitBody_touch (a0 : ℕ) (a1 : ℕ) (s : State) :
    TouchE 0x10027f800ff8400000000000000000000000000000000000000000363120 s (recvwaitBody a0 a1 s) := by
  unfold recvwaitBody
  extract_lets -merge -useContext +onlyGivenNames v0
  clear_value v0
  extract_lets -merge -useContext +onlyGivenNames v1
  clear_value v1
  extract_lets -merge -useContext +onlyGivenNames v2
  clear_value v2
  refine State.operandIf_touch ?_ ?_
  · exact Touch.refl _ _
  · split
    · refine TouchE.stall ?_
      exact Touch.refl _ _
    · refine TouchE.ite ?_ ?_
      · refine TouchE.next ?_
        refine Touch.step ?_ (State.rearmRegion_touch ..) (by decide +kernel)
        exact Touch.refl _ _
      · refine TouchE.ite ?_ ?_
        · refine TouchE.step ?_ (State.coreWait_touch ..) (by decide +kernel)
          exact Touch.refl _ _
        · refine TouchE.step ?_ (State.suspend_touch ..) (by decide +kernel)
          exact Touch.refl _ _

theorem execRecvwait_touch (a0 : Issue) (s : State) :
    ∃ t, execRecvwait a0 s = .next t ∧ Touch 0x3ffffffffffffffffffffffffffffffffffffffffffffffffffffffffffffffffffffffffffffffffffffffffffffffffffffffffffffffffffffffffffffffffffffffffffffffffffffffffffffffffbffff8 s t := by
  refine ⟨_, rfl, ?_⟩
  refine State.issue_touch ?_ (fun y0 y1 h2 => ?_) (by decide +kernel)
  · exact Touch.refl _ _
  · refine TouchE.step ?_ (recvwaitBody_touch ..) (by decide +kernel)
    exact h2

theorem caddBody_touch (a0 : ℕ) (a1 : ℕ) (s : State) :
    TouchE 0x43000 s (caddBody a0 a1 s) := by
  unfold caddBody
  refine State.operandIf_touch ?_ ?_
  · exact Touch.refl _ _
  · refine TouchE.next ?_
    refine Touch.step ?_ (State.advance_touch ..) (by decide +kernel)
    exact Touch.refl _ _

theorem execCadd_touch (a0 : Issue) (s : State) :
    ∃ t, execCadd a0 s = .next t ∧ Touch 0x3ffffffffffffffffffffffffffffffffffffffffffffffffffffffffffffffffffffffffffffffffffffffffffffffffffffffffffffffffffffffffffffffffffffffffffffffffffffffffffffffffbffff8 s t := by
  refine ⟨_, rfl, ?_⟩
  refine State.issue_touch ?_ (fun y0 y1 h2 => ?_) (by decide +kernel)
  · exact Touch.refl _ _
  · refine TouchE.step ?_ (caddBody_touch ..) (by decide +kernel)
    exact h2

theorem creadBody_touch (a0 : ℕ) (a1 : ℕ) (s : State) :
    TouchE 0x3000 s (creadBody a0 a1 s) := by
  unfold creadBody
  refine State.operandIf_touch ?_ ?_
  · exact Touch.refl _ _
  · refine TouchE.next ?_
    refine Touch.step ?_ (State.setSreg_touch ..) (by decide +kernel)
    exact Touch.refl _ _

theorem execCread_touch (a0 : Issue) (s : State) :
    ∃ t, execCread a0 s = .next t ∧ Touch 0x3ffffffffffffffffffffffffffffffffffffffffffffffffffffffffffffffffffffffffffffffffffffffffffffffffffffffffffffffffffffffffffffffffffffffffffffffffffffffffffffffffbffff8 s t := by
  refine ⟨_, rfl, ?_⟩
  refine State.issue_touch ?_ (fun y0 y1 h2 => ?_) (by decide +kernel)
  · exact Touch.refl _ _
  · refine TouchE.step ?_ (creadBody_touch ..) (by decide +kernel)
    exact h2

theorem slotwaitBody_touch (a0 : ℕ) (a1 : ℕ) (s : State) :
    TouchE 0x27f800ff8400000000000000000000000000000000000000000363120 s (slotwaitBody a0 a1 s) := by
  unfold slotwaitBody
  extract_lets -merge -useContext +onlyGivenNames v0
  clear_value v0
  refine TouchE.ite ?_ ?_
  · refine State.operandIf_touch ?_ ?_
    · exact Touch.refl _ _
    · refine TouchE.step ?_ (State.suspend_touch ..) (by decide +kernel)
      exact Touch.refl _ _
  · refine TouchE.ite ?_ ?_
    · refine TouchE.fault _ _ _ ?_
      exact Touch.refl _ _
    · refine TouchE.ite ?_ ?_
      · refine TouchE.fault _ _ _ ?_
        exact Touch.refl _ _
      · refine TouchE.ite ?_ ?_
        · refine TouchE.next ?_
          refine Touch.step ?_ (State.setSreg_touch ..) (by decide +kernel)
          exact Touch.refl _ _
        · refine TouchE.step ?_ (State.suspend_touch ..) (by decide +kernel)
          exact Touch.refl _ _

theorem execSlotwait_touch (a0 : Issue) (s : State) :
    ∃ t, execSlotwait a0 s = .next t ∧ Touch 0x3ffffffffffffffffffffffffffffffffffffffffffffffffffffffffffffffffffffffffffffffffffffffffffffffffffffffffffffffffffffffffffffffffffffffffffffffffffffffffffffffffbffff8 s t := by
  refine ⟨_, rfl, ?_⟩
  refine State.issue_touch ?_ (fun y0 y1 h2 => ?_) (by decide +kernel)
  · exact Touch.refl _ _
  · refine TouchE.step ?_ (slotwaitBody_touch ..) (by decide +kernel)
    exact h2

theorem State.resumeTask_touch (s : State) (a1 : ℕ) (a2 : ℕ) (a3 : WaitOn) :
    Touch 0x240003000000000000000000000000000000000000000000000163100 s (State.resumeTask s a1 a2 a3) := by
  unfold State.resumeTask
  extract_lets -merge -useContext +onlyGivenNames v0
  clear_value v0
  extract_lets -merge -useContext +onlyGivenNames v1
  refine Touch.cut v1 ?_ (fun h2 => ?_)
  · unfold v1
    split
    · exact Touch.refl _ _
    · refine Touch.step ?_ (State.rearmRegion_touch ..) (by decide +kernel)
      exact Touch.refl _ _
    · refine Touch.step ?_ (State.setSreg_touch ..) (by decide +kernel)
      exact Touch.refl _ _
    · refine Touch.step ?_ (State.setSreg_touch ..) (by decide +kernel)
      exact Touch.refl _ _
  clear_value v1
  refine Touch.step ?_ (State.tileRetire_touch ..) (by decide +kernel)
  exact h2

theorem State.dispatch_touch (s : State) (a1 : ℕ) :
    Touch 0x240003000000000000000000000000000000000000000000000363100 s (State.dispatch s a1) := by
  unfold State.dispatch
  extract_lets -merge -useContext +onlyGivenNames v0
  clear_value v0
  refine Touch.ite ?_ ?_
  · exact Touch.refl _ _
  · split
    · exact Touch.refl _ _
    · extract_lets -merge -useContext +onlyGivenNames v1
      refine Touch.cut v1 ?_ (fun h2 => ?_)
      · unfold v1
        refine Touch.step ?_ (State.modTile_touch ..) (by decide +kernel)
        exact Touch.refl _ _
      clear_value v1
      extract_lets -merge -useContext +onlyGivenNames v3
      refine Touch.cut v3 ?_ (fun h4 => ?_)
      · unfold v3
        refine Touch.step ?_ (Touch.freeCtrWith _ _ (Nat.le_add_right _ _)) (by decide +kernel)
        exact h2
      clear_value v3
      split
      · refine Touch.step ?_ (State.resumeTask_touch ..) (by decide +kernel)
        exact h4
      · exact h4

theorem execTaskDispatch_touch (a0 : ℕ) (s : State) :
    ∃ t, execTaskDispatch a0 s = .next t ∧ Touch 0x240003000000000000000000000000000000000000000000000363100 s t := by
  refine ⟨_, rfl, ?_⟩
  refine Touch.step ?_ (State.dispatch_touch ..) (by decide +kernel)
  exact Touch.refl _ _

theorem execWatchdog_touch (a0 : ℕ) (s : State) :
    ∃ t, execWatchdog a0 s = .next t ∧ Touch 0x27f800ff8000000000000000000000000000000000000000000363120 s t := by
  refine ⟨_, rfl, ?_⟩
  extract_lets -merge -useContext +onlyGivenNames v0
  clear_value v0
  split
  · refine Touch.ite ?_ ?_
    · refine Touch.step ?_ (State.taskFault_touch ..) (by decide +kernel)
      exact Touch.refl _ _
    · exact Touch.refl _ _
  · exact Touch.refl _ _

end Sys2Proof.Machine
end

