-- ==== Sys2Proof/Laws/TouchSends.lean ====
section
/-! SUPPORT. What the operations of Machine/Sends.lean may change. -/
namespace Sys2Proof.Machine

set_option Elab.async false

theorem State.issueSend_touch (s : State) (a1 : ℕ) (a2 : SendEnt) :
    Touch 0x240000000000000000000000000000000000000000000000000163100 s (State.issueSend s a1 a2) := by
  unfold State.issueSend
  extract_lets -merge -useContext +onlyGivenNames v0
  refine Touch.cut v0 ?_ (fun h1 => ?_)
  · unfold v0
    refine Touch.step ?_ (State.modMsg_touch ..) (by decide +kernel)
    exact Touch.refl _ _
  clear_value v0
  extract_lets -merge -useContext +onlyGivenNames v2
  refine Touch.cut v2 ?_ (fun h3 => ?_)
  · unfold v2
    refine Touch.step ?_ (State.sendPkt_touch ..) (by decide +kernel)
    exact h1
  clear_value v2
  refine Touch.ite ?_ ?_
  · refine Touch.step ?_ (State.countSend_touch ..) (by decide +kernel)
    exact h3
  · exact h3

theorem sendBody_touch (a0 : ℕ) (a1 : ℕ) (a2 : Bool) (a3 : ℕ) (s : State) :
    TouchE 0x240000000000000000000000000000000000000000000000000163100 s (sendBody a0 a1 a2 a3 s) := by
  unfold sendBody
  extract_lets -merge -useContext +onlyGivenNames v0
  clear_value v0
  extract_lets -merge -useContext +onlyGivenNames v1
  clear_value v1
  extract_lets -merge -useContext +onlyGivenNames v2
  clear_value v2
  extract_lets -merge -useContext +onlyGivenNames v3
  clear_value v3
  extract_lets -merge -useContext +onlyGivenNames v4
  clear_value v4
  split
  · refine TouchE.ite ?_ ?_
    · refine TouchE.fault _ _ _ ?_
      exact Touch.refl _ _
    · refine TouchE.fault _ _ _ ?_
      exact Touch.refl _ _
  · refine TouchE.ite ?_ ?_
    · refine TouchE.fault _ _ _ ?_
      exact Touch.refl _ _
    · refine TouchE.ite ?_ ?_
      · refine TouchE.stall ?_
        exact Touch.refl _ _
      · refine TouchE.next ?_
        refine Touch.step ?_ (State.issueSend_touch ..) (by decide +kernel)
        exact Touch.refl _ _

theorem execSendData_touch (a0 : Issue) (s : State) :
    ∃ t, execSendData a0 s = .next t ∧ Touch 0x3ffffffffffffffffffffffffffffffffffffffffffffffffffffffffffffffffffffffffffffffffffffffffffffffffffffffffffffffffffffffffffffffffffffffffffffffffffffffffffffffffbffff8 s t := by
  refine ⟨_, rfl, ?_⟩
  refine State.issue_touch ?_ (fun y0 y1 h2 => ?_) (by decide +kernel)
  · exact Touch.refl _ _
  · refine TouchE.step ?_ (sendBody_touch ..) (by decide +kernel)
    exact h2

theorem execSendGet_touch (a0 : Issue) (s : State) :
    ∃ t, execSendGet a0 s = .next t ∧ Touch 0x3ffffffffffffffffffffffffffffffffffffffffffffffffffffffffffffffffffffffffffffffffffffffffffffffffffffffffffffffffffffffffffffffffffffffffffffffffffffffffffffffffbffff8 s t := by
  refine ⟨_, rfl, ?_⟩
  refine State.issue_touch ?_ (fun y0 y1 h2 => ?_) (by decide +kernel)
  · exact Touch.refl _ _
  · refine TouchE.step ?_ (sendBody_touch ..) (by decide +kernel)
    exact h2

theorem execSendPut_touch (a0 : Issue) (s : State) :
    ∃ t, execSendPut a0 s = .next t ∧ Touch 0x3ffffffffffffffffffffffffffffffffffffffffffffffffffffffffffffffffffffffffffffffffffffffffffffffffffffffffffffffffffffffffffffffffffffffffffffffffffffffffffffffffbffff8 s t := by
  refine ⟨_, rfl, ?_⟩
  refine State.issue_touch ?_ (fun y0 y1 h2 => ?_) (by decide +kernel)
  · exact Touch.refl _ _
  · refine TouchE.step ?_ (sendBody_touch ..) (by decide +kernel)
    exact h2

theorem execSendf_touch (a0 : Issue) (s : State) :
    ∃ t, execSendf a0 s = .next t ∧ Touch 0x3ffffffffffffffffffffffffffffffffffffffffffffffffffffffffffffffffffffffffffffffffffffffffffffffffffffffffffffffffffffffffffffffffffffffffffffffffffffffffffffffffbffff8 s t := by
  refine ⟨_, rfl, ?_⟩
  refine State.issue_touch ?_ (fun y0 y1 h2 => ?_) (by decide +kernel)
  · exact Touch.refl _ _
  · refine TouchE.step ?_ (sendBody_touch ..) (by decide +kernel)
    exact h2

end Sys2Proof.Machine
end

