-- ==== Sys2Proof/Laws/TouchSystem.lean ====
section
/-! SUPPORT. What the operations of Machine/System.lean may change. -/
namespace Sys2Proof.Machine

set_option Elab.async false

theorem State.tileCsrWrite_touch (s : State) (a1 : ℕ) (a2 : ℕ) (a3 : ℕ) :
    Touch 0x3000000000000000000000000000000000000000000000001000 s (State.tileCsrWrite s a1 a2 a3) := by
  unfold State.tileCsrWrite
  split
  · refine Touch.step ?_ (State.modTile_touch ..) (by decide +kernel)
    exact Touch.refl _ _
  · refine Touch.step ?_ (State.modTile_touch ..) (by decide +kernel)
    exact Touch.refl _ _
  · refine Touch.ite ?_ ?_
    · refine Touch.step ?_ (State.put_touch ..) (by decide +kernel)
      refine Touch.step ?_ (State.put_touch ..) (by decide +kernel)
      exact Touch.refl _ _
    · exact Touch.refl _ _
  · refine Touch.step ?_ (State.modTile_touch ..) (by decide +kernel)
    exact Touch.refl _ _
  · refine Touch.step ?_ (State.modTile_touch ..) (by decide +kernel)
    exact Touch.refl _ _
  · exact Touch.refl _ _

theorem State.nodeCsrWrite_touch (s : State) (a1 : ℕ) (a2 : ℕ) (a3 : ℕ) :
    Touch 0x240003000000000000000000000000000000c001fffffe00000163100 s (State.nodeCsrWrite s a1 a2 a3) := by
  unfold State.nodeCsrWrite
  refine Touch.ite ?_ ?_
  · refine Touch.step ?_ (State.lntCsrWrite_touch ..) (by decide +kernel)
    exact Touch.refl _ _
  · refine Touch.step ?_ (State.tileCsrWrite_touch ..) (by decide +kernel)
    exact Touch.refl _ _

theorem State.withCsr_touch {M : Nat} {s0 s : State} {n k : Nat} {f : CsrShape → Ex} (h : Touch M s0 s) (hf : ∀ c, TouchE M s0 (f c)) :
    TouchE M s0 (s.withCsr n k f) := by
  unfold State.withCsr
  split
  · exact h
  · exact TouchE.ite h (hf _)

theorem csrrBody_touch (a0 : ℕ) (a1 : ℕ) (s : State) :
    TouchE 0x3000 s (csrrBody a0 a1 s) := by
  unfold csrrBody
  refine State.withCsr_touch ?_ (fun y0 => ?_)
  · exact Touch.refl _ _
  · extract_lets -merge -useContext +onlyGivenNames v1
    refine TouchE.cut v1 ?_ (fun h2 => ?_)
    · unfold v1
      refine Touch.step ?_ (State.setSreg_touch ..) (by decide +kernel)
      exact Touch.refl _ _
    clear_value v1
    refine TouchE.next ?_
    refine Touch.ite ?_ ?_
    · refine Touch.step ?_ (State.lntPop_touch ..) (by decide +kernel)
      exact h2
    · exact h2

theorem execCsrr_touch (a0 : Issue) (s : State) :
    ∃ t, execCsrr a0 s = .next t ∧ Touch 0x3ffffffffffffffffffffffffffffffffffffffffffffffffffffffffffffffffffffffffffffffffffffffffffffffffffffffffffffffffffffffffffffffffffffffffffffffffffffffffffffffffbffff8 s t := by
  refine ⟨_, rfl, ?_⟩
  refine State.issue_touch ?_ (fun y0 y1 h2 => ?_) (by decide +kernel)
  · exact Touch.refl _ _
  · refine TouchE.step ?_ (csrrBody_touch ..) (by decide +kernel)
    exact h2

theorem State.csrUpdate_touch (s : State) (a1 : ℕ) (a2 : ℕ) (a3 : ℕ) (a4 : ℕ) :
    TouchE 0x240003000000000000000000000000000000c001fffffe00000163100 s (State.csrUpdate s a1 a2 a3 a4) := by
  unfold State.csrUpdate
  extract_lets -merge -useContext +onlyGivenNames v0
  clear_value v0
  refine State.withCsr_touch ?_ (fun y1 => ?_)
  · exact Touch.refl _ _
  · extract_lets -merge -useContext +onlyGivenNames v2
    clear_value v2
    extract_lets -merge -useContext +onlyGivenNames v3
    clear_value v3
    extract_lets -merge -useContext +onlyGivenNames v4
    clear_value v4
    extract_lets -merge -useContext +onlyGivenNames v5
    clear_value v5
    extract_lets -merge -useContext +onlyGivenNames v6
    clear_value v6
    refine TouchE.ite ?_ ?_
    · refine TouchE.fault _ _ _ ?_
      exact Touch.refl _ _
    · extract_lets -merge -useContext +onlyGivenNames v7
      clear_value v7
      refine TouchE.ite ?_ ?_
      · refine TouchE.fault _ _ _ ?_
        exact Touch.refl _ _
      · refine TouchE.next ?_
        refine Touch.step ?_ (State.nodeCsrWrite_touch ..) (by decide +kernel)
        refine Touch.step ?_ (State.setSreg_touch ..) (by decide +kernel)
        exact Touch.refl _ _

theorem csrxBody_touch (a0 : ℕ) (a1 : ℕ) (s : State) :
    TouchE 0x240003000000000000000000000000000000c001fffffe00000163100 s (csrxBody a0 a1 s) := by
  unfold csrxBody
  refine TouchE.step ?_ (State.csrUpdate_touch ..) (by decide +kernel)
  exact Touch.refl _ _

theorem csrmBody_touch (a0 : ℕ) (a1 : ℕ) (s : State) :
    TouchE 0x240003000000000000000000000000000000c001fffffe00000163100 s (csrmBody a0 a1 s) := by
  unfold csrmBody
  refine TouchE.step ?_ (State.csrUpdate_touch ..) (by decide +kernel)
  exact Touch.refl _ _

theorem execCsrx_touch (a0 : Issue) (s : State) :
    ∃ t, execCsrx a0 s = .next t ∧ Touch 0x3ffffffffffffffffffffffffffffffffffffffffffffffffffffffffffffffffffffffffffffffffffffffffffffffffffffffffffffffffffffffffffffffffffffffffffffffffffffffffffffffffbffff8 s t := by
  refine ⟨_, rfl, ?_⟩
  refine State.issue_touch ?_ (fun y0 y1 h2 => ?_) (by decide +kernel)
  · exact Touch.refl _ _
  · refine TouchE.step ?_ (csrxBody_touch ..) (by decide +kernel)
    exact h2

theorem execCsrm_touch (a0 : Issue) (s : State) :
    ∃ t, execCsrm a0 s = .next t ∧ Touch 0x3ffffffffffffffffffffffffffffffffffffffffffffffffffffffffffffffffffffffffffffffffffffffffffffffffffffffffffffffffffffffffffffffffffffffffffffffffffffffffffffffffbffff8 s t := by
  refine ⟨_, rfl, ?_⟩
  refine State.issue_touch ?_ (fun y0 y1 h2 => ?_) (by decide +kernel)
  · exact Touch.refl _ _
  · refine TouchE.step ?_ (csrmBody_touch ..) (by decide +kernel)
    exact h2

theorem execTaskTrap_touch (a0 : Issue) (s : State) :
    ∃ t, execTaskTrap a0 s = .next t ∧ Touch 0x3ffffffffffffffffffffffffffffffffffffffffffffffffffffffffffffffffffffffffffffffffffffffffffffffffffffffffffffffffffffffffffffffffffffffffffffffffffffffffffffffffbffff8 s t := by
  refine ⟨_, rfl, ?_⟩
  refine State.issue_touch ?_ (fun y0 y1 h2 => ?_) (by decide +kernel)
  · exact Touch.refl _ _
  · refine TouchE.fault _ _ _ ?_
    exact h2

theorem execCtime_touch (a0 : Issue) (s : State) :
    ∃ t, execCtime a0 s = .next t ∧ Touch 0x3ffffffffffffffffffffffffffffffffffffffffffffffffffffffffffffffffffffffffffffffffffffffffffffffffffffffffffffffffffffffffffffffffffffffffffffffffffffffffffffffffbffff8 s t := by
  refine ⟨_, rfl, ?_⟩
  refine State.issue_touch ?_ (fun y0 y1 h2 => ?_) (by decide +kernel)
  · exact Touch.refl _ _
  · refine TouchE.next ?_
    refine Touch.step ?_ (State.setSreg_touch ..) (by decide +kernel)
    exact h2

theorem execIllegalWord_touch (a0 : Issue) (s : State) :
    ∃ t, execIllegalWord a0 s = .next t ∧ Touch 0x3ffffffffffffffffffffffffffffffffffffffffffffffffffffffffffffffffffffffffffffffffffffffffffffffffffffffffffffffffffffffffffffffffffffffffffffffffffffffffffffffffbffff8 s t := by
  refine ⟨_, rfl, ?_⟩
  refine State.issue_touch ?_ (fun y0 y1 h2 => ?_) (by decide +kernel)
  · exact Touch.refl _ _
  · refine TouchE.fault _ _ _ ?_
    exact h2

end Sys2Proof.Machine
end

