-- ==== Sys2Proof/Laws/TouchLntRows.lean ====
section
/-! SUPPORT. What the operations of Machine/LntRows.lean may change. -/
namespace Sys2Proof.Machine

set_option Elab.async false

theorem ntBody_touch (a0 : ℕ) (a1 : ℕ) (a2 : ℕ) (s : State) :
    TouchE 0x3ffffffffffffffffffffffffffffffffffffffffffffffffffffffffffffffffffffffffffffffffffffffffffffffffffffffffffffffffffffffffffffffffffffffffffffffffffffffffffffffffbffff8 s (ntBody a0 a1 a2 s) := by
  unfold ntBody
  refine Res.stored_touch ?_
  refine TouchR.step ?_ (State.coreNt_touch ..) (by decide +kernel)
  exact Touch.refl _ _

theorem execSdnt_touch (a0 : Issue) (s : State) :
    ∃ t, execSdnt a0 s = .next t ∧ Touch 0x3ffffffffffffffffffffffffffffffffffffffffffffffffffffffffffffffffffffffffffffffffffffffffffffffffffffffffffffffffffffffffffffffffffffffffffffffffffffffffffffffffbffff8 s t := by
  refine ⟨_, rfl, ?_⟩
  refine State.issue_touch ?_ (fun y0 y1 h2 => ?_) (by decide +kernel)
  · exact Touch.refl _ _
  · refine TouchE.step ?_ (ntBody_touch ..) (by decide +kernel)
    exact h2

theorem execSwnt_touch (a0 : Issue) (s : State) :
    ∃ t, execSwnt a0 s = .next t ∧ Touch 0x3ffffffffffffffffffffffffffffffffffffffffffffffffffffffffffffffffffffffffffffffffffffffffffffffffffffffffffffffffffffffffffffffffffffffffffffffffffffffffffffffffbffff8 s t := by
  refine ⟨_, rfl, ?_⟩
  refine State.issue_touch ?_ (fun y0 y1 h2 => ?_) (by decide +kernel)
  · exact Touch.refl _ _
  · refine TouchE.step ?_ (ntBody_touch ..) (by decide +kernel)
    exact h2

theorem amoBody_touch (a0 : Issue) (a1 : ℕ) (s : State) :
    TouchE 0x3ffffffffffffffffffffffffffffffffffffffffffffffffffffffffffffffffffffffffffffffffffffffffffffffffffffffffffffffffffffffffffffffffffffffffffffffffffffffffffffffffbffff8 s (amoBody a0 a1 s) := by
  unfold amoBody
  extract_lets -merge -useContext +onlyGivenNames v0
  clear_value v0
  extract_lets -merge -useContext +onlyGivenNames v1
  clear_value v1
  extract_lets -merge -useContext +onlyGivenNames v2
  clear_value v2
  extract_lets -merge -useContext +onlyGivenNames v3
  clear_value v3
  refine TouchE.ite ?_ ?_
  · refine TouchE.fault _ _ _ ?_
    exact Touch.refl _ _
  · refine TouchE.ofRes ?_ (fun y4 y5 h6 => ?_)
    · refine TouchR.step ?_ (State.coreAmo_touch ..) (by decide +kernel)
      exact Touch.refl _ _
    · refine TouchE.next ?_
      refine Touch.step ?_ (State.setSreg_touch ..) (by decide +kernel)
      exact h6

theorem execAmo_touch (a0 : Issue) (s : State) :
    ∃ t, execAmo a0 s = .next t ∧ Touch 0x3ffffffffffffffffffffffffffffffffffffffffffffffffffffffffffffffffffffffffffffffffffffffffffffffffffffffffffffffffffffffffffffffffffffffffffffffffffffffffffffffffbffff8 s t := by
  refine ⟨_, rfl, ?_⟩
  refine State.issue_touch ?_ (fun y0 y1 h2 => ?_) (by decide +kernel)
  · exact Touch.refl _ _
  · refine TouchE.step ?_ (amoBody_touch ..) (by decide +kernel)
    exact h2

theorem whenDone_touch {M : Nat} {s : State} {r : Bool × State} (h : Touch M s r.2) : TouchE M s (whenDone r) := TouchE.ite h h

theorem execBarFull_touch (a0 : Issue) (s : State) :
    ∃ t, execBarFull a0 s = .next t ∧ Touch 0x3ffffffffffffffffffffffffffffffffffffffffffffffffffffffffffffffffffffffffffffffffffffffffffffffffffffffffffffffffffffffffffffffffffffffffffffffffffffffffffffffffbffff8 s t := by
  refine ⟨_, rfl, ?_⟩
  refine State.issue_touch ?_ (fun y0 y1 h2 => ?_) (by decide +kernel)
  · exact Touch.refl _ _
  · refine whenDone_touch ?_
    refine Touch.step ?_ (State.drainAll_touch ..) (by decide +kernel)
    exact h2

theorem execBarLd_touch (a0 : Issue) (s : State) :
    ∃ t, execBarLd a0 s = .next t ∧ Touch 0x3ffffffffffffffffffffffffffffffffffffffffffffffffffffffffffffffffffffffffffffffffffffffffffffffffffffffffffffffffffffffffffffffffffffffffffffffffffffffffffffffffbffff8 s t := by
  refine ⟨_, rfl, ?_⟩
  refine State.issue_touch ?_ (fun y0 y1 h2 => ?_) (by decide +kernel)
  · exact Touch.refl _ _
  · refine TouchE.next ?_
    exact h2

theorem State.markStores_touch (s : State) (a1 : ℕ) :
    Touch 0x2000 s (State.markStores s a1) := by
  unfold State.markStores
  refine Touch.ite ?_ ?_
  · exact Touch.refl _ _
  · refine Touch.step ?_ (State.modCore_touch ..) (by decide +kernel)
    exact Touch.refl _ _

theorem execBarSt_touch (a0 : Issue) (s : State) :
    ∃ t, execBarSt a0 s = .next t ∧ Touch 0x3ffffffffffffffffffffffffffffffffffffffffffffffffffffffffffffffffffffffffffffffffffffffffffffffffffffffffffffffffffffffffffffffffffffffffffffffffffffffffffffffffbffff8 s t := by
  refine ⟨_, rfl, ?_⟩
  refine State.issue_touch ?_ (fun y0 y1 h2 => ?_) (by decide +kernel)
  · exact Touch.refl _ _
  · refine TouchE.next ?_
    refine Touch.step ?_ (State.markStores_touch ..) (by decide +kernel)
    exact h2

theorem execBarDev_touch (a0 : Issue) (s : State) :
    ∃ t, execBarDev a0 s = .next t ∧ Touch 0x3ffffffffffffffffffffffffffffffffffffffffffffffffffffffffffffffffffffffffffffffffffffffffffffffffffffffffffffffffffffffffffffffffffffffffffffffffffffffffffffffffbffff8 s t := by
  refine ⟨_, rfl, ?_⟩
  refine State.issue_touch ?_ (fun y0 y1 h2 => ?_) (by decide +kernel)
  · exact Touch.refl _ _
  · extract_lets -merge -useContext +onlyGivenNames v3
    clear_value v3
    extract_lets -merge -useContext +onlyGivenNames v4
    refine TouchE.cut v4.2 ?_ (fun h5 => ?_)
    · unfold v4
      refine Touch.step ?_ (State.drainWhich_touch ..) (by decide +kernel)
      exact h2
    clear_value v4
    refine whenDone_touch ?_
    refine Touch.mkSnd ?_
    exact h5

theorem execBarNt_touch (a0 : Issue) (s : State) :
    ∃ t, execBarNt a0 s = .next t ∧ Touch 0x3ffffffffffffffffffffffffffffffffffffffffffffffffffffffffffffffffffffffffffffffffffffffffffffffffffffffffffffffffffffffffffffffffffffffffffffffffffffffffffffffffbffff8 s t := by
  refine ⟨_, rfl, ?_⟩
  refine State.issue_touch ?_ (fun y0 y1 h2 => ?_) (by decide +kernel)
  · exact Touch.refl _ _
  · extract_lets -merge -useContext +onlyGivenNames v3
    clear_value v3
    extract_lets -merge -useContext +onlyGivenNames v4
    refine TouchE.cut v4.2 ?_ (fun h5 => ?_)
    · unfold v4
      refine Touch.step ?_ (State.ntAll_touch ..) (by decide +kernel)
      exact h2
    clear_value v4
    refine whenDone_touch ?_
    refine Touch.mkSnd ?_
    refine Touch.ite ?_ ?_
    · refine Touch.step ?_ (State.markStores_touch ..) (by decide +kernel)
      exact h5
    · exact h5

theorem State.above_touch {M : Nat} {s0 s : State} {n : Nat} {f : Ex} (h : Touch M s0 s) (hf : TouchE M s0 f) :
    TouchE M s0 (s.above n f) := TouchE.ite h hf

theorem tlbinvBody_touch (a0 : ℕ) (a1 : ℕ) (s : State) :
    TouchE 0x3ffffffffffffffffffffffffffffffffffffffffffffffffffffffffffffffffffffffffffffffffffffffffffffffffffffffffffffffffffffffffffffffffffffffffffffffffffffffffffffffffbffff8 s (tlbinvBody a0 a1 s) := by
  unfold tlbinvBody
  extract_lets -merge -useContext +onlyGivenNames v0
  clear_value v0
  extract_lets -merge -useContext +onlyGivenNames v1
  clear_value v1
  extract_lets -merge -useContext +onlyGivenNames v2
  clear_value v2
  extract_lets -merge -useContext +onlyGivenNames v3
  clear_value v3
  refine State.above_touch ?_ ?_
  · exact Touch.refl _ _
  · extract_lets -merge -useContext +onlyGivenNames v4
    refine TouchE.cut v4.2 ?_ (fun h5 => ?_)
    · unfold v4
      refine Touch.step ?_ (State.drainAll_touch ..) (by decide +kernel)
      exact Touch.refl _ _
    clear_value v4
    refine whenDone_touch ?_
    refine Touch.mkSnd ?_
    refine Touch.ite ?_ ?_
    · refine Touch.step ?_ (State.modCore_touch ..) (by decide +kernel)
      exact h5
    · exact h5

theorem execTlbinv_touch (a0 : Issue) (s : State) :
    ∃ t, execTlbinv a0 s = .next t ∧ Touch 0x3ffffffffffffffffffffffffffffffffffffffffffffffffffffffffffffffffffffffffffffffffffffffffffffffffffffffffffffffffffffffffffffffffffffffffffffffffffffffffffffffffbffff8 s t := by
  refine ⟨_, rfl, ?_⟩
  refine State.issue_touch ?_ (fun y0 y1 h2 => ?_) (by decide +kernel)
  · exact Touch.refl _ _
  · refine TouchE.step ?_ (tlbinvBody_touch ..) (by decide +kernel)
    exact h2

theorem wfiBody_touch (a0 : ℕ) (s : State) :
    TouchE 0x3ffffffffffffffffffffffffffffffffffffffffffffffffffffffffffffffffffffffffffffffffffffffffffffffffffffffffffffffffffffffffffffffffffffffffffffffffffffffffffffffffbffff8 s (wfiBody a0 s) := by
  unfold wfiBody
  extract_lets -merge -useContext +onlyGivenNames v0
  clear_value v0
  refine State.above_touch ?_ ?_
  · exact Touch.refl _ _
  · extract_lets -merge -useContext +onlyGivenNames v1
    refine TouchE.cut v1.2 ?_ (fun h2 => ?_)
    · unfold v1
      refine Touch.step ?_ (State.drainAll_touch ..) (by decide +kernel)
      exact Touch.refl _ _
    clear_value v1
    refine TouchE.ite ?_ ?_
    · refine TouchE.stall ?_
      exact h2
    · refine TouchE.ite ?_ ?_
      · refine TouchE.next ?_
        exact h2
      · refine TouchE.stall ?_
        refine Touch.ite ?_ ?_
        · exact h2
        · refine Touch.step ?_ (State.put_touch ..) (by decide +kernel)
          exact h2

theorem execWfi_touch (a0 : Issue) (s : State) :
    ∃ t, execWfi a0 s = .next t ∧ Touch 0x3ffffffffffffffffffffffffffffffffffffffffffffffffffffffffffffffffffffffffffffffffffffffffffffffffffffffffffffffffffffffffffffffffffffffffffffffffffffffffffffffffbffff8 s t := by
  refine ⟨_, rfl, ?_⟩
  refine State.issue_touch ?_ (fun y0 y1 h2 => ?_) (by decide +kernel)
  · exact Touch.refl _ _
  · refine TouchE.step ?_ (wfiBody_touch ..) (by decide +kernel)
    exact h2

theorem execXret_touch (a0 : Issue) (s : State) :
    ∃ t, execXret a0 s = .next t ∧ Touch 0x3ffffffffffffffffffffffffffffffffffffffffffffffffffffffffffffffffffffffffffffffffffffffffffffffffffffffffffffffffffffffffffffffffffffffffffffffffffffffffffffffffbffff8 s t := by
  refine ⟨_, rfl, ?_⟩
  refine State.issue_touch ?_ (fun y0 y1 h2 => ?_) (by decide +kernel)
  · exact Touch.refl _ _
  · refine State.above_touch ?_ ?_
    · exact h2
    · extract_lets -merge -useContext +onlyGivenNames v3
      refine TouchE.cut v3 ?_ (fun h4 => ?_)
      · unfold v3
        refine Touch.step ?_ (State.lntReturn_touch ..) (by decide +kernel)
        exact h2
      clear_value v3
      refine TouchE.jump _ ?_
      exact h4

end Sys2Proof.Machine
end

