-- ==== Sys2Proof/WellFormed.lean ====
section
/-! DEFINITION. Which commands are well formed: every operand within the range the spec gives it. -/
namespace Sys2Proof

/-- The key of a tile's node, of a LANTERN core's, and of a node that sends messages: column 61 holds the sequencers
(Table 1-2). -/
def tileNode (n : Nat) : Bool := n % 64 < 48 && n / 64 < 32
def coreNode (n : Nat) : Bool := n % 64 = 62 && n / 64 < 16
def sendNode (n : Nat) : Bool := tileNode n || coreNode n || (n % 64 = 61 && n / 64 < 8)

/-- An issue names a tile or a LANTERN core, and its word has 32 bits (R189). -/
def Issue.wf (i : Issue) : Bool := (tileNode i.node || coreNode i.node) && i.word < 2 ^ 32

/-- A packet's fields fit the header of Table 14-5 and its payload is at most 2,048 bytes (R226). -/
def Pkt.wf (p : Pkt) : Bool :=
  p.dd < 256 && p.dtx < 64 && p.dty < 32 && p.cls < 8 && p.flow < 16 && p.part < 64 && p.sd < 256 && p.stx < 64 && p.sty < 32 &&
    p.opcode < 64 && p.inc < 16 && p.seq < 2 ^ 16 && p.epoch < 256 && p.ctr < 64 && p.land < 2 ^ 32 && p.arg < 2 ^ 64 && p.data.length ≤ 2048

/-- A command whose operands lie in the ranges of the spec. -/
def Instr.wf : Instr → Bool
  | .pilotPwrOkRise => true
  | .tickCounterStart => true
  | .fusesSensed _ => true
  | .emberMramCheck => true
  | .pilotReady _ => true
  | .pilotTick _ _ _ => true
  | .pilotPwrOkFall => true
  | .mainPwrOkRise => true
  | .pllLock => true
  | .fwBundleLoaded _ _ _ _ => true
  | .mainReady => true
  | .configReady => true
  | .bootImageCommit _ => true
  | .mainPwrOkFall => true
  | .perstAssert => true
  | .perstDeassert => true
  | .rstReqWarm => true
  | .rstReqFabPort mask => mask < 2 ^ 14
  | .fabricPortResetDone p => p < 14
  | .sidebandWarmRequest => true
  | .provWatchdog => true
  | .kick => true
  | .dozeEntry d _ => d < 24
  | .domainWake d => d < 24
  | .scheduledWake d _ => d < 24
  | .quadrantClocked d => d < 18
  | .strikerHandover d => d < 18
  | .domainPowered d => d < 24
  | .pwrHold mask => mask < 2 ^ 24
  | .cacheOff => true
  | .throttleStep => true
  | .prochotAssert => true
  | .prochotRelease => true
  | .thermalThrottleStep => true
  | .thermalLimitLift => true
  | .thermalTrip => true
  | .thermTripRelease => true
  | .clockLoss what => what ≤ 8
  | .clockRelock what => what ≤ 8
  | .avsFail rail _ => rail < 2
  | .kimStage => true
  | .stageComplete => true
  | .kimSidebandChunk _ bytes _ => bytes.length ≤ 2 ^ 16
  | .kimValidate => true
  | .validationDone => true
  | .kimArm _ => true
  | .kimAbort => true
  | .kimDiscard => true
  | .resolveGo => true
  | .resolveAbort => true
  | .decideGo => true
  | .decideAbort => true
  | .kimArmed p => p.wf
  | .coordinatorDecide _ => true
  | .kimDecide p => p.wf
  | .kimDecideResend _ _ _ => true
  | .kimQuery p => p.wf
  | .cadenceBoundary => true
  | .arbBurn _ _ => true
  | .slotStart slot => slot < 4096
  | .sqDoorbell p q tail => (p < 64) && (q < 16) && (tail < 2 ^ 16)
  | .cqDoorbell p q head => (p < 64) && (q < 16) && (head < 2 ^ 16)
  | .commandFetch p entry => (p < 64) && ((entry.map (·.length)).getD 64 = 64)
  | .completionRecordWrite p _ => p < 64
  | .cqIrqTimeout p q => (p < 64) && (q < 16)
  | .nopCommand p _ => p < 64
  | .jobBegin p _ => p < 64
  | .jobEnd p _ => p < 64
  | .launchCommand p _ => p < 64
  | .launchTileLoad p _ _ => p < 64
  | .copyCommand p _ => p < 64
  | .fenceCommand p _ => p < 64
  | .tileReset p _ => p < 64
  | .tileResetDone n => tileNode n
  | .partReset p _ => p < 64
  | .taskCancel p _ _ => p < 64
  | .quiesce p _ => p < 64
  | .partResume p => p < 64
  | .partProvReset p => p < 64
  | .quiesceTimeout p => p < 64
  | .partResetDone p => p < 64
  | .partIdleReached p => p < 64
  | .incGateExpire p => p < 64
  | .vfFlr v => 1 ≤ v && v ≤ 64
  | .pfFlr => true
  | .flrComplete n => n ≤ 64
  | .fwuStage => true
  | .fwuVerify => true
  | .fwuActivate => true
  | .fwuCoreUpdate _ => true
  | .fwuRevert => true
  | .fwuDiscard => true
  | .alu i => i.wf
  | .aluw i => i.wf
  | .addi i => i.wf
  | .andi i => i.wf
  | .ori i => i.wf
  | .xori i => i.wf
  | .slti i => i.wf
  | .sltiu i => i.wf
  | .shi i => i.wf
  | .lui i => i.wf
  | .scalarLoad i => i.wf
  | .scalarStore i => i.wf
  | .branch i => i.wf
  | .jal i => i.wf
  | .jalr i => i.wf
  | .vint i => i.wf
  | .vfp i => i.wf
  | .vcmp i => i.wf
  | .vld i => i.wf
  | .vst i => i.wf
  | .vldb i => i.wf
  | .vcvt i => i.wf
  | .vbcast i => i.wf
  | .vmovs i => i.wf
  | .vredadd i => i.wf
  | .vredfadd i => i.wf
  | .vredmax i => i.wf
  | .vredfmax i => i.wf
  | .vperm i => i.wf
  | .pand i => i.wf
  | .por i => i.wf
  | .pxor i => i.wf
  | .pnot i => i.wf
  | .pmov i => i.wf
  | .pread i => i.wf
  | .mma i => i.wf
  | .mzero i => i.wf
  | .mload i => i.wf
  | .mstore i => i.wf
  | .mwait i => i.wf
  | .matrixComplete n _ => tileNode n
  | .sendData i => i.wf
  | .sendGet i => i.wf
  | .sendPut i => i.wf
  | .sendf i => i.wf
  | .sendSourceRead node mtag _ => sendNode node && (mtag < 2 ^ 16)
  | .recvwait i => i.wf
  | .cwait i => i.wf
  | .cadd i => i.wf
  | .cread i => i.wf
  | .taskYield i => i.wf
  | .taskDone i => i.wf
  | .slotwait i => i.wf
  | .csrr i => i.wf
  | .csrx i => i.wf
  | .csrm i => i.wf
  | .taskTrap i => i.wf
  | .ctime i => i.wf
  | .illegalWord i => i.wf
  | .watchdog n => tileNode n
  | .taskDispatch n => tileNode n
  | .sdnt i => i.wf
  | .swnt i => i.wf
  | .amo i => i.wf
  | .barFull i => i.wf
  | .barLd i => i.wf
  | .barSt i => i.wf
  | .barDev i => i.wf
  | .barNt i => i.wf
  | .tlbinv i => i.wf
  | .wfi i => i.wf
  | .xret i => i.wf
  | .interruptEntry c k => (c < 16) && (k < 16)
  | .timecmpExpire c => c < 16
  | .ntDrainTimeout c k => (c < 16) && (k < 8)
  | .assign c p => (p < 64) && (c < 16)
  | .coreRelease c => c < 16
  | .coreRestartDone c => c < 16
  | .lntDb p v n => (p < 64) && (n ≤ 8 && v < 2 ^ 64)
  | .lntProvDb v n => n ≤ 8 && v < 2 ^ 64
  | .lntHostirq p v => (p < 64) && (v < 2 ^ 64)
  | .meshRsv p => p.wf
  | .meshGrant p => p.wf
  | .meshRetry p => p.wf
  | .rsvResend node mtag => sendNode node && (mtag < 2 ^ 16)
  | .meshNack p => p.wf
  | .rsvWaitExpire node mtag => sendNode node && (mtag < 2 ^ 16)
  | .pendingRsvTimeout node k => sendNode node && (k < 16)
  | .meshData p => p.wf
  | .meshRelease p => p.wf
  | .getReq p _ => p.wf
  | .getData p => p.wf
  | .putReq p => p.wf
  | .putGo p _ => p.wf
  | .putData p _ => p.wf
  | .putAck p => p.wf
  | .streamRetryResend node mtag => sendNode node && (mtag < 2 ^ 16)
  | .setCfg p _ => p < 64
  | .setSeg p _ => p < 64
  | .clearSeg p _ => p < 64
  | .clearCtx p _ => p < 64
  | .xlatInv p _ => p < 64
  | .atsCompletion _ _ _ hdr => hdr.length ≤ 24
  | .absentListExpire _ _ => true
  | .prgClose _ => true
  | .prgSend _ => true
  | .prgResponse fn _ _ _ hdr => (hdr.length ≤ 24) && (fn ≤ 64)
  | .priTimeout _ => true
  | .priReset fn => fn ≤ 64
  | .atsInvalidate fn _ _ _ _ _ hdr => (hdr.length ≤ 24) && (fn ≤ 64)
  | .invalidateCompletion _ => true
  | .atsEnableClear fn => fn ≤ 64
  | .cacheDisableFlush p _ => p < 64
  | .cacheDisableRetain p _ => p < 64
  | .cacheEnable p _ => p < 64
  | .h2dSnoop line _ => line % 64 = 0
  | .h2dResponse _ go _ hdr => (hdr.length ≤ 24) && ((go.getD 0) ≤ 4)
  | .writePull _ hdr => hdr.length ≤ 24
  | .streamingEnd _ => true
  | .cacheResponseTimeout _ hdr => hdr.length ≤ 24
  | .m2sRequest r _ hdr => (hdr.length ≤ 24) && (r.op ≤ 3 && r.meta_ ≤ 3)
  | .birsp line ans _ _ hdr => (hdr.length ≤ 24) && (line % 64 = 0) && (ans ≤ 3)
  | .biTimeout line hdr => (hdr.length ≤ 24) && (line % 64 = 0)
  | .biconflict line => line % 64 = 0
  | .dirDrain => true
  | .dirDrainDone => true
  | .disableCachingSet => true
  | .initiateCacheWbinv => true
  | .disableCachingClear => true
  | .gpfPhase1 => true
  | .hdmDecoderCommit i _ _ _ _ _ _ => i < 4
  | .hdmDecoderUncommit i => i < 4
  | .decoderUncommitDone i => i < 4
  | .rekeyStart p _ => p < 64
  | .rekeyPause p _ => p < 64
  | .rekeyResume p _ => p < 64
  | .rekeyStatus p _ => p < 64
  | .rekeyTransit r _ _ _ _ => r < 64
  | .scrubRead line _ => line % 64 = 0
  | .kekSet _ _ => true
  | .kekClear _ _ => true
  | .debugWindowRead _ n _ hdr => (hdr.length ≤ 24) && (n ≤ 4096)
  | .debugWindowWrite _ bs _ hdr => (hdr.length ≤ 24) && (bs.length ≤ 4096)
  | .jtagMemoryAccess _ n wr _ => wr.isNone || (wr.getD []).length = n
  | .cxlioCompletion _ _ _ _ _ hdr => hdr.length ≤ 24
  | .completionTimeout _ => true
  | .tagHoldExpire _ _ => true
  | .msixUnmask n _ => n ≤ 64
  | .msixEnable _ => true
  | .busMasterEnable n => n ≤ 64
  | .quarantineRelease => true
  | .d3hotEntry n => n ≤ 64
  | .d0Return n => n ≤ 64
  | .pmeTurnOff => true
  | .pmeToAck => true
  | .d3coldWake _ => true
  | .hostLinkDown => true
  | .hostLinkUp mode speed width => mode < 4 && speed < 8 && width ≤ 16
  | .vfEnableSet => true
  | .vfEnableClear => true
  | .dlPortTrained p res mode speed width => (p < 4) && (res < 3 && mode < 4 && speed < 8 && width ≤ 16)
  | .dlEnumerate p _ _ _ _ => p < 4
  | .dlEnumDone => true
  | .dlS2mResponse p _ _ hdr => (hdr.length ≤ 24) && (p < 4)
  | .dlMemTimeout p _ hdr => (hdr.length ≤ 24) && (p < 4)
  | .dlUpstreamRequest p _ _ hdr => (hdr.length ≤ 24) && (p < 4)
  | .dlRasPoll p _ => p < 4
  | .dlPortDown p => p < 4
  | .dlReenum p _ => p < 4
  | .dlRelease p => p < 4
  | .fabTrainAdvance p _ _ => p < 14
  | .fabTrainTimeout p => p < 14
  | .fabHail p _ => p < 14
  | .fabSync p _ _ => p < 14
  | .fabEcho p _ _ _ => p < 14
  | .fabCredit p _ => p < 14
  | .fabReplay p _ => p < 14
  | .flitReceive p _ bytes => (p < 14) && (bytes.length ≤ 256)
  | .flitTransmit p _ => p < 14
  | .txHeld _ => true
  | .replayTimeout p => p < 14
  | .retryExhausted p => p < 14
  | .linkDownDeclare p _ => p < 14
  | .syncLost => true
  | .e2eAck p => p.wf
  | .e2eResend _ => true
  | .collectiveStart p => p.wf
  | .collData p => p.wf
  | .collAck p => p.wf
  | .collAbort p => p.wf
  | .chunkResend k slot _ phase => (k < 8 && slot < 16) && (phase < 2)
  | .collNotReadyResend k slot _ phase => (k < 8 && slot < 16) && (phase < 2)
  | .collectiveEnd k slot => k < 8 && slot < 16
  | .fabMgmt p _ => p.wf
  | .twinPair p => p.wf
  | .pairAck p => p.wf
  | .pairResend => true
  | .hbToggle => true
  | .hbEdge => true
  | .hbTimeout => true
  | .twinLinkTimeout => true
  | .mirrorData p => p.wf
  | .mirrorDigestSend p => p < 64
  | .mirrorDigest p => p.wf
  | .mirrorDeadline p _ => p < 64
  | .mirrorVerdict p => p.wf
  | .mirrorApply p => p < 64
  | .restoreBegin p => p.wf
  | .restoreReady p => p.wf
  | .restoreEnd p => p.wf
  | .restoreDone p => p.wf
  | .mirrorHold p _ => p < 64
  | .mirrorUnhold p _ => p < 64
  | .applyTo p _ => p < 64
  | .mirrorRestore p _ => p < 64
  | .resync p _ => p < 64
  | .faultRecordWrite _ => true
  | .ringHead r _ => r ≤ 64
  | .faultRingEnable r => r ≤ 64
  | .faultRingDisable r => r ≤ 64
  | .clrLost r => r ≤ 64
  | .emberTrigger cause => 1 ≤ cause && cause ≤ 9
  | .emberFreeze => true
  | .emberCopyDone => true
  | .embCtlFreeze => true
  | .rearm => true
  | .embNote v => v < 2 ^ 64
  | .embSlots _ => true
  | .embDir => true
  | .embRead _ => true
  | .embFreeze => true
  | .embKeep _ => true
  | .embStat => true
  | .i3cDaa addr => addr < 2 ^ 7
  | .mctpControl cmd _ eid => cmd < 256 && eid < 256
  | .pldmRequest typ cmd _ _ _ => typ < 64 && cmd < 256
  | .spdmRequest code _ _ _ => code < 256
  | .doeRequest vendor typ _ _ _ => vendor < 2 ^ 16 && typ < 256
  | .registerWrite _ _ len _ hdr => (hdr.length ≤ 24) && (len ≤ 64)
  | .domainClocked d => d < 24
  | .throttleTemperatureReached => true
  | .hostMemoryRequest _ _ len _ _ hdr => (hdr.length ≤ 24) && (1 ≤ len && len ≤ 4096)
  | .unsupportedMessage _ hdr => hdr.length ≤ 24

end Sys2Proof
end

