-- ==== Sys2Proof/Tests/Slice0.lean ====
section
/-! SUPPORT. Tests of the model's own: what WellFormed refuses, and for every statement that has hypotheses a state and
operands that meet them. -/
namespace Sys2Proof.Tests
open Sys2Proof Sys2Proof.Machine

/-! ### WellFormed refuses -/

set_option linter.all false
set_option Elab.async false

theorem test_wellFormed_refuses_1 :
    ((Instr.rstReqFabPort (2 ^ 14)).wf = false) ∧
    ((Instr.fabricPortResetDone 14).wf = false) ∧
    (∀ (a1 : Nat), (Instr.dozeEntry 24 a1).wf = false) ∧
    ((Instr.domainWake 24).wf = false) ∧
    (∀ (a1 : Nat), (Instr.scheduledWake 24 a1).wf = false) ∧
    ((Instr.quadrantClocked 18).wf = false) ∧
    ((Instr.strikerHandover 18).wf = false) ∧
    ((Instr.domainPowered 24).wf = false) ∧
    ((Instr.pwrHold (2 ^ 24)).wf = false) ∧
    ((Instr.clockLoss 9).wf = false) ∧
    ((Instr.clockRelock 9).wf = false) ∧
    (∀ (a1 : Nat), (Instr.avsFail 2 a1).wf = false) := by
  refine ⟨?_, ?_, ?_, ?_, ?_, ?_, ?_, ?_, ?_, ?_, ?_, ?_⟩ <;> (intros; simp [-List.reduceReplicate, Instr.wf, Pkt.wf, Issue.wf, tileNode, coreNode, sendNode])

theorem test_wellFormed_refuses_2 :
    (∀ (a0 : Nat) (a2 : Option Nat), (Instr.kimSidebandChunk a0 (List.replicate (2 ^ 16 + 1) 0) a2).wf = false) ∧
    ((Instr.kimArmed { dd := 256 }).wf = false) ∧
    ((Instr.kimDecide { dd := 256 }).wf = false) ∧
    ((Instr.kimQuery { dd := 256 }).wf = false) ∧
    ((Instr.slotStart 4096).wf = false) ∧
    (∀ (q : Nat) (tail : Nat), (Instr.sqDoorbell 64 q tail).wf = false) ∧
    (∀ (p : Nat) (tail : Nat), (Instr.sqDoorbell p 16 tail).wf = false) ∧
    (∀ (p : Nat) (q : Nat), (Instr.sqDoorbell p q (2 ^ 16)).wf = false) ∧
    (∀ (q : Nat) (head : Nat), (Instr.cqDoorbell 64 q head).wf = false) ∧
    (∀ (p : Nat) (head : Nat), (Instr.cqDoorbell p 16 head).wf = false) ∧
    (∀ (p : Nat) (q : Nat), (Instr.cqDoorbell p q (2 ^ 16)).wf = false) ∧
    (∀ (entry : Option (List Byte)), (Instr.commandFetch 64 entry).wf = false) := by
  refine ⟨?_, ?_, ?_, ?_, ?_, ?_, ?_, ?_, ?_, ?_, ?_, ?_⟩ <;> (intros; simp [-List.reduceReplicate, Instr.wf, Pkt.wf, Issue.wf, tileNode, coreNode, sendNode])

theorem test_wellFormed_refuses_3 :
    (∀ (p : Nat), (Instr.commandFetch p (some [])).wf = false) ∧
    (∀ (a1 : Nat), (Instr.completionRecordWrite 64 a1).wf = false) ∧
    (∀ (q : Nat), (Instr.cqIrqTimeout 64 q).wf = false) ∧
    (∀ (p : Nat), (Instr.cqIrqTimeout p 16).wf = false) ∧
    (∀ (a1 : Nat), (Instr.nopCommand 64 a1).wf = false) ∧
    (∀ (a1 : Nat), (Instr.jobBegin 64 a1).wf = false) ∧
    (∀ (a1 : Nat), (Instr.jobEnd 64 a1).wf = false) ∧
    (∀ (a1 : Nat), (Instr.launchCommand 64 a1).wf = false) ∧
    (∀ (a1 : Nat) (a2 : Nat), (Instr.launchTileLoad 64 a1 a2).wf = false) ∧
    (∀ (a1 : Nat), (Instr.copyCommand 64 a1).wf = false) ∧
    (∀ (a1 : Nat), (Instr.fenceCommand 64 a1).wf = false) ∧
    (∀ (a1 : Nat), (Instr.tileReset 64 a1).wf = false) := by
  refine ⟨?_, ?_, ?_, ?_, ?_, ?_, ?_, ?_, ?_, ?_, ?_, ?_⟩ <;> (intros; simp [-List.reduceReplicate, Instr.wf, Pkt.wf, Issue.wf, tileNode, coreNode, sendNode])

theorem test_wellFormed_refuses_4 :
    ((Instr.tileResetDone 48).wf = false) ∧
    (∀ (a1 : Nat), (Instr.partReset 64 a1).wf = false) ∧
    (∀ (a1 : Nat) (a2 : List (Nat × Nat)), (Instr.taskCancel 64 a1 a2).wf = false) ∧
    (∀ (a1 : Bool), (Instr.quiesce 64 a1).wf = false) ∧
    ((Instr.partResume 64).wf = false) ∧
    ((Instr.partProvReset 64).wf = false) ∧
    ((Instr.quiesceTimeout 64).wf = false) ∧
    ((Instr.partResetDone 64).wf = false) ∧
    ((Instr.partIdleReached 64).wf = false) ∧
    ((Instr.incGateExpire 64).wf = false) ∧
    ((Instr.vfFlr 0).wf = false) ∧
    ((Instr.vfFlr 65).wf = false) := by
  refine ⟨?_, ?_, ?_, ?_, ?_, ?_, ?_, ?_, ?_, ?_, ?_, ?_⟩ <;> (intros; simp [-List.reduceReplicate, Instr.wf, Pkt.wf, Issue.wf, tileNode, coreNode, sendNode])

theorem test_wellFormed_refuses_5 :
    ((Instr.flrComplete 65).wf = false) ∧
    ((Instr.alu { node := 48 }).wf = false) ∧
    ((Instr.aluw { node := 48 }).wf = false) ∧
    ((Instr.addi { node := 48 }).wf = false) ∧
    ((Instr.andi { node := 48 }).wf = false) ∧
    ((Instr.ori { node := 48 }).wf = false) ∧
    ((Instr.xori { node := 48 }).wf = false) ∧
    ((Instr.slti { node := 48 }).wf = false) ∧
    ((Instr.sltiu { node := 48 }).wf = false) ∧
    ((Instr.shi { node := 48 }).wf = false) ∧
    ((Instr.lui { node := 48 }).wf = false) ∧
    ((Instr.scalarLoad { node := 48 }).wf = false) := by
  refine ⟨?_, ?_, ?_, ?_, ?_, ?_, ?_, ?_, ?_, ?_, ?_, ?_⟩ <;> (intros; simp [-List.reduceReplicate, Instr.wf, Pkt.wf, Issue.wf, tileNode, coreNode, sendNode])

theorem test_wellFormed_refuses_6 :
    ((Instr.scalarStore { node := 48 }).wf = false) ∧
    ((Instr.branch { node := 48 }).wf = false) ∧
    ((Instr.jal { node := 48 }).wf = false) ∧
    ((Instr.jalr { node := 48 }).wf = false) ∧
    ((Instr.vint { node := 48 }).wf = false) ∧
    ((Instr.vfp { node := 48 }).wf = false) ∧
    ((Instr.vcmp { node := 48 }).wf = false) ∧
    ((Instr.vld { node := 48 }).wf = false) ∧
    ((Instr.vst { node := 48 }).wf = false) ∧
    ((Instr.vldb { node := 48 }).wf = false) ∧
    ((Instr.vcvt { node := 48 }).wf = false) ∧
    ((Instr.vbcast { node := 48 }).wf = false) := by
  refine ⟨?_, ?_, ?_, ?_, ?_, ?_, ?_, ?_, ?_, ?_, ?_, ?_⟩ <;> (intros; simp [-List.reduceReplicate, Instr.wf, Pkt.wf, Issue.wf, tileNode, coreNode, sendNode])

theorem test_wellFormed_refuses_7 :
    ((Instr.vmovs { node := 48 }).wf = false) ∧
    ((Instr.vredadd { node := 48 }).wf = false) ∧
    ((Instr.vredfadd { node := 48 }).wf = false) ∧
    ((Instr.vredmax { node := 48 }).wf = false) ∧
    ((Instr.vredfmax { node := 48 }).wf = false) ∧
    ((Instr.vperm { node := 48 }).wf = false) ∧
    ((Instr.pand { node := 48 }).wf = false) ∧
    ((Instr.por { node := 48 }).wf = false) ∧
    ((Instr.pxor { node := 48 }).wf = false) ∧
    ((Instr.pnot { node := 48 }).wf = false) ∧
    ((Instr.pmov { node := 48 }).wf = false) ∧
    ((Instr.pread { node := 48 }).wf = false) := by
  refine ⟨?_, ?_, ?_, ?_, ?_, ?_, ?_, ?_, ?_, ?_, ?_, ?_⟩ <;> (intros; simp [-List.reduceReplicate, Instr.wf, Pkt.wf, Issue.wf, tileNode, coreNode, sendNode])

theorem test_wellFormed_refuses_8 :
    ((Instr.mma { node := 48 }).wf = false) ∧
    ((Instr.mzero { node := 48 }).wf = false) ∧
    ((Instr.mload { node := 48 }).wf = false) ∧
    ((Instr.mstore { node := 48 }).wf = false) ∧
    ((Instr.mwait { node := 48 }).wf = false) ∧
    (∀ (a1 : Ecc), (Instr.matrixComplete 48 a1).wf = false) ∧
    ((Instr.sendData { node := 48 }).wf = false) ∧
    ((Instr.sendGet { node := 48 }).wf = false) ∧
    ((Instr.sendPut { node := 48 }).wf = false) ∧
    ((Instr.sendf { node := 48 }).wf = false) ∧
    (∀ (mtag : Nat) (a2 : Ecc), (Instr.sendSourceRead 63 mtag a2).wf = false) ∧
    (∀ (node : Nat) (a2 : Ecc), (Instr.sendSourceRead node (2 ^ 16) a2).wf = false) := by
  refine ⟨?_, ?_, ?_, ?_, ?_, ?_, ?_, ?_, ?_, ?_, ?_, ?_⟩ <;> (intros; simp [-List.reduceReplicate, Instr.wf, Pkt.wf, Issue.wf, tileNode, coreNode, sendNode])

theorem test_wellFormed_refuses_9 :
    ((Instr.recvwait { node := 48 }).wf = false) ∧
    ((Instr.cwait { node := 48 }).wf = false) ∧
    ((Instr.cadd { node := 48 }).wf = false) ∧
    ((Instr.cread { node := 48 }).wf = false) ∧
    ((Instr.taskYield { node := 48 }).wf = false) ∧
    ((Instr.taskDone { node := 48 }).wf = false) ∧
    ((Instr.slotwait { node := 48 }).wf = false) ∧
    ((Instr.csrr { node := 48 }).wf = false) ∧
    ((Instr.csrx { node := 48 }).wf = false) ∧
    ((Instr.csrm { node := 48 }).wf = false) ∧
    ((Instr.taskTrap { node := 48 }).wf = false) ∧
    ((Instr.ctime { node := 48 }).wf = false) := by
  refine ⟨?_, ?_, ?_, ?_, ?_, ?_, ?_, ?_, ?_, ?_, ?_, ?_⟩ <;> (intros; simp [-List.reduceReplicate, Instr.wf, Pkt.wf, Issue.wf, tileNode, coreNode, sendNode])

theorem test_wellFormed_refuses_10 :
    ((Instr.illegalWord { node := 48 }).wf = false) ∧
    ((Instr.watchdog 48).wf = false) ∧
    ((Instr.taskDispatch 48).wf = false) ∧
    ((Instr.sdnt { node := 48 }).wf = false) ∧
    ((Instr.swnt { node := 48 }).wf = false) ∧
    ((Instr.amo { node := 48 }).wf = false) ∧
    ((Instr.barFull { node := 48 }).wf = false) ∧
    ((Instr.barLd { node := 48 }).wf = false) ∧
    ((Instr.barSt { node := 48 }).wf = false) ∧
    ((Instr.barDev { node := 48 }).wf = false) ∧
    ((Instr.barNt { node := 48 }).wf = false) ∧
    ((Instr.tlbinv { node := 48 }).wf = false) := by
  refine ⟨?_, ?_, ?_, ?_, ?_, ?_, ?_, ?_, ?_, ?_, ?_, ?_⟩ <;> (intros; simp [-List.reduceReplicate, Instr.wf, Pkt.wf, Issue.wf, tileNode, coreNode, sendNode])

theorem test_wellFormed_refuses_11 :
    ((Instr.wfi { node := 48 }).wf = false) ∧
    ((Instr.xret { node := 48 }).wf = false) ∧
    (∀ (k : Nat), (Instr.interruptEntry 16 k).wf = false) ∧
    (∀ (c : Nat), (Instr.interruptEntry c 16).wf = false) ∧
    ((Instr.timecmpExpire 16).wf = false) ∧
    (∀ (k : Nat), (Instr.ntDrainTimeout 16 k).wf = false) ∧
    (∀ (c : Nat), (Instr.ntDrainTimeout c 8).wf = false) ∧
    (∀ (c : Nat), (Instr.assign c 64).wf = false) ∧
    (∀ (p : Nat), (Instr.assign 16 p).wf = false) ∧
    ((Instr.coreRelease 16).wf = false) ∧
    ((Instr.coreRestartDone 16).wf = false) ∧
    (∀ (v : Nat) (n : Nat), (Instr.lntDb 64 v n).wf = false) := by
  refine ⟨?_, ?_, ?_, ?_, ?_, ?_, ?_, ?_, ?_, ?_, ?_, ?_⟩ <;> (intros; simp [-List.reduceReplicate, Instr.wf, Pkt.wf, Issue.wf, tileNode, coreNode, sendNode])

theorem test_wellFormed_refuses_12 :
    (∀ (p : Nat) (v : Nat), (Instr.lntDb p v 9).wf = false) ∧
    (∀ (p : Nat) (n : Nat), (Instr.lntDb p (2 ^ 64) n).wf = false) ∧
    (∀ (v : Nat), (Instr.lntProvDb v 9).wf = false) ∧
    (∀ (n : Nat), (Instr.lntProvDb (2 ^ 64) n).wf = false) ∧
    (∀ (v : Nat), (Instr.lntHostirq 64 v).wf = false) ∧
    (∀ (p : Nat), (Instr.lntHostirq p (2 ^ 64)).wf = false) ∧
    ((Instr.meshRsv { dd := 256 }).wf = false) ∧
    ((Instr.meshGrant { dd := 256 }).wf = false) ∧
    ((Instr.meshRetry { dd := 256 }).wf = false) ∧
    (∀ (mtag : Nat), (Instr.rsvResend 63 mtag).wf = false) ∧
    (∀ (node : Nat), (Instr.rsvResend node (2 ^ 16)).wf = false) ∧
    ((Instr.meshNack { dd := 256 }).wf = false) := by
  refine ⟨?_, ?_, ?_, ?_, ?_, ?_, ?_, ?_, ?_, ?_, ?_, ?_⟩ <;> (intros; simp [-List.reduceReplicate, Instr.wf, Pkt.wf, Issue.wf, tileNode, coreNode, sendNode])

theorem test_wellFormed_refuses_13 :
    (∀ (mtag : Nat), (Instr.rsvWaitExpire 63 mtag).wf = false) ∧
    (∀ (node : Nat), (Instr.rsvWaitExpire node (2 ^ 16)).wf = false) ∧
    (∀ (k : Nat), (Instr.pendingRsvTimeout 63 k).wf = false) ∧
    (∀ (node : Nat), (Instr.pendingRsvTimeout node 16).wf = false) ∧
    ((Instr.meshData { dd := 256 }).wf = false) ∧
    ((Instr.meshRelease { dd := 256 }).wf = false) ∧
    (∀ (a1 : List EccEvent), (Instr.getReq { dd := 256 } a1).wf = false) ∧
    ((Instr.getData { dd := 256 }).wf = false) ∧
    ((Instr.putReq { dd := 256 }).wf = false) ∧
    (∀ (a1 : Ecc), (Instr.putGo { dd := 256 } a1).wf = false) ∧
    (∀ (a1 : List EccEvent), (Instr.putData { dd := 256 } a1).wf = false) ∧
    ((Instr.putAck { dd := 256 }).wf = false) := by
  refine ⟨?_, ?_, ?_, ?_, ?_, ?_, ?_, ?_, ?_, ?_, ?_, ?_⟩ <;> (intros; simp [-List.reduceReplicate, Instr.wf, Pkt.wf, Issue.wf, tileNode, coreNode, sendNode])

theorem test_wellFormed_refuses_14 :
    (∀ (mtag : Nat), (Instr.streamRetryResend 63 mtag).wf = false) ∧
    (∀ (node : Nat), (Instr.streamRetryResend node (2 ^ 16)).wf = false) ∧
    (∀ (a1 : Nat), (Instr.setCfg 64 a1).wf = false) ∧
    (∀ (a1 : Nat), (Instr.setSeg 64 a1).wf = false) ∧
    (∀ (a1 : Nat), (Instr.clearSeg 64 a1).wf = false) ∧
    (∀ (a1 : Nat), (Instr.clearCtx 64 a1).wf = false) ∧
    (∀ (a1 : Nat), (Instr.xlatInv 64 a1).wf = false) ∧
    (∀ (a0 : Nat) (a1 : Nat) (a2 : List AtsTrans), (Instr.atsCompletion a0 a1 a2 (List.replicate (24 + 1) 0)).wf = false) ∧
    (∀ (fn : Nat) (a1 : Nat) (a2 : Option Nat) (a3 : Nat), (Instr.prgResponse fn a1 a2 a3 (List.replicate (24 + 1) 0)).wf = false) ∧
    (∀ (a1 : Nat) (a2 : Option Nat) (a3 : Nat) (hdr : List Byte), (Instr.prgResponse 65 a1 a2 a3 hdr).wf = false) ∧
    ((Instr.priReset 65).wf = false) ∧
    (∀ (fn : Nat) (a1 : Nat) (a2 : Nat) (a3 : Nat) (a4 : Option Nat) (a5 : Bool), (Instr.atsInvalidate fn a1 a2 a3 a4 a5 (List.replicate (24 + 1) 0)).wf = false) := by
  refine ⟨?_, ?_, ?_, ?_, ?_, ?_, ?_, ?_, ?_, ?_, ?_, ?_⟩ <;> (intros; simp [-List.reduceReplicate, Instr.wf, Pkt.wf, Issue.wf, tileNode, coreNode, sendNode])

theorem test_wellFormed_refuses_15 :
    (∀ (a1 : Nat) (a2 : Nat) (a3 : Nat) (a4 : Option Nat) (a5 : Bool) (hdr : List Byte), (Instr.atsInvalidate 65 a1 a2 a3 a4 a5 hdr).wf = false) ∧
    ((Instr.atsEnableClear 65).wf = false) ∧
    (∀ (a1 : Nat), (Instr.cacheDisableFlush 64 a1).wf = false) ∧
    (∀ (a1 : Nat), (Instr.cacheDisableRetain 64 a1).wf = false) ∧
    (∀ (a1 : Nat), (Instr.cacheEnable 64 a1).wf = false) ∧
    (∀ (a1 : Nat), (Instr.h2dSnoop 1 a1).wf = false) ∧
    (∀ (a0 : Nat) (go : Option Nat) (a2 : Option (List Byte × Bool)), (Instr.h2dResponse a0 go a2 (List.replicate (24 + 1) 0)).wf = false) ∧
    (∀ (a0 : Nat) (a2 : Option (List Byte × Bool)) (hdr : List Byte), (Instr.h2dResponse a0 (some 5) a2 hdr).wf = false) ∧
    (∀ (a0 : Nat), (Instr.writePull a0 (List.replicate (24 + 1) 0)).wf = false) ∧
    (∀ (a0 : Nat), (Instr.cacheResponseTimeout a0 (List.replicate (24 + 1) 0)).wf = false) ∧
    (∀ (r : M2S) (a1 : List EccEvent), (Instr.m2sRequest r a1 (List.replicate (24 + 1) 0)).wf = false) ∧
    (∀ (r : M2S) (a1 : List EccEvent) (hdr : List Byte), (Instr.m2sRequest { r with op := 4 } a1 hdr).wf = false) := by
  refine ⟨?_, ?_, ?_, ?_, ?_, ?_, ?_, ?_, ?_, ?_, ?_, ?_⟩ <;> (intros; simp [-List.reduceReplicate, Instr.wf, Pkt.wf, Issue.wf, tileNode, coreNode, sendNode])

theorem test_wellFormed_refuses_16 :
    (∀ (r : M2S) (a1 : List EccEvent) (hdr : List Byte), (Instr.m2sRequest { r with meta_ := 4 } a1 hdr).wf = false) ∧
    (∀ (line : Nat) (ans : Nat) (a2 : Bool) (a3 : Option (List Byte × Bool)), (Instr.birsp line ans a2 a3 (List.replicate (24 + 1) 0)).wf = false) ∧
    (∀ (ans : Nat) (a2 : Bool) (a3 : Option (List Byte × Bool)) (hdr : List Byte), (Instr.birsp 1 ans a2 a3 hdr).wf = false) ∧
    (∀ (line : Nat) (a2 : Bool) (a3 : Option (List Byte × Bool)) (hdr : List Byte), (Instr.birsp line 4 a2 a3 hdr).wf = false) ∧
    (∀ (line : Nat), (Instr.biTimeout line (List.replicate (24 + 1) 0)).wf = false) ∧
    (∀ (hdr : List Byte), (Instr.biTimeout 1 hdr).wf = false) ∧
    ((Instr.biconflict 1).wf = false) ∧
    (∀ (a1 : Nat) (a2 : Nat) (a3 : Nat) (a4 : Nat) (a5 : Nat) (a6 : Bool), (Instr.hdmDecoderCommit 4 a1 a2 a3 a4 a5 a6).wf = false) ∧
    ((Instr.hdmDecoderUncommit 4).wf = false) ∧
    ((Instr.decoderUncommitDone 4).wf = false) ∧
    (∀ (a1 : Nat), (Instr.rekeyStart 64 a1).wf = false) ∧
    (∀ (a1 : Nat), (Instr.rekeyPause 64 a1).wf = false) := by
  refine ⟨?_, ?_, ?_, ?_, ?_, ?_, ?_, ?_, ?_, ?_, ?_, ?_⟩ <;> (intros; simp [-List.reduceReplicate, Instr.wf, Pkt.wf, Issue.wf, tileNode, coreNode, sendNode])

theorem test_wellFormed_refuses_17 :
    (∀ (a1 : Nat), (Instr.rekeyResume 64 a1).wf = false) ∧
    (∀ (a1 : Nat), (Instr.rekeyStatus 64 a1).wf = false) ∧
    (∀ (a1 : Nat) (a2 : List Byte) (a3 : List Nat) (a4 : List EccEvent), (Instr.rekeyTransit 64 a1 a2 a3 a4).wf = false) ∧
    (∀ (a1 : Option LineErr), (Instr.scrubRead 1 a1).wf = false) ∧
    (∀ (a0 : Nat) (n : Nat) (a2 : List EccEvent), (Instr.debugWindowRead a0 n a2 (List.replicate (24 + 1) 0)).wf = false) ∧
    (∀ (a0 : Nat) (a2 : List EccEvent) (hdr : List Byte), (Instr.debugWindowRead a0 4097 a2 hdr).wf = false) ∧
    (∀ (a0 : Nat) (bs : List (Byte × Bool)) (a2 : Bool), (Instr.debugWindowWrite a0 bs a2 (List.replicate (24 + 1) 0)).wf = false) ∧
    (∀ (a0 : Nat) (a2 : Bool) (hdr : List Byte), (Instr.debugWindowWrite a0 (List.replicate (4096 + 1) 0) a2 hdr).wf = false) ∧
    (∀ a w, (Instr.jtagMemoryAccess a 1 (some []) w).wf = false) ∧
    (∀ (a0 : Nat) (a1 : Nat) (a2 : List Byte) (a3 : Bool) (a4 : Bool), (Instr.cxlioCompletion a0 a1 a2 a3 a4 (List.replicate (24 + 1) 0)).wf = false) ∧
    (∀ (a1 : Option Nat), (Instr.msixUnmask 65 a1).wf = false) ∧
    ((Instr.busMasterEnable 65).wf = false) := by
  refine ⟨?_, ?_, ?_, ?_, ?_, ?_, ?_, ?_, ?_, ?_, ?_, ?_⟩ <;> (intros; simp [-List.reduceReplicate, Instr.wf, Pkt.wf, Issue.wf, tileNode, coreNode, sendNode])

theorem test_wellFormed_refuses_18 :
    ((Instr.d3hotEntry 65).wf = false) ∧
    ((Instr.d0Return 65).wf = false) ∧
    (∀ (speed : Nat) (width : Nat), (Instr.hostLinkUp 4 speed width).wf = false) ∧
    (∀ (mode : Nat) (width : Nat), (Instr.hostLinkUp mode 8 width).wf = false) ∧
    (∀ (mode : Nat) (speed : Nat), (Instr.hostLinkUp mode speed 17).wf = false) ∧
    (∀ (res : Nat) (mode : Nat) (speed : Nat) (width : Nat), (Instr.dlPortTrained 4 res mode speed width).wf = false) ∧
    (∀ (p : Nat) (mode : Nat) (speed : Nat) (width : Nat), (Instr.dlPortTrained p 3 mode speed width).wf = false) ∧
    (∀ (p : Nat) (res : Nat) (speed : Nat) (width : Nat), (Instr.dlPortTrained p res 4 speed width).wf = false) ∧
    (∀ (p : Nat) (res : Nat) (mode : Nat) (width : Nat), (Instr.dlPortTrained p res mode 8 width).wf = false) ∧
    (∀ (p : Nat) (res : Nat) (mode : Nat) (speed : Nat), (Instr.dlPortTrained p res mode speed 17).wf = false) ∧
    (∀ (a1 : Nat) (a2 : Nat) (a3 : Nat) (a4 : Nat), (Instr.dlEnumerate 4 a1 a2 a3 a4).wf = false) ∧
    (∀ (p : Nat) (a1 : Nat) (a2 : Option (List Byte × Bool)), (Instr.dlS2mResponse p a1 a2 (List.replicate (24 + 1) 0)).wf = false) := by
  refine ⟨?_, ?_, ?_, ?_, ?_, ?_, ?_, ?_, ?_, ?_, ?_, ?_⟩ <;> (intros; simp [-List.reduceReplicate, Instr.wf, Pkt.wf, Issue.wf, tileNode, coreNode, sendNode])

theorem test_wellFormed_refuses_19 :
    (∀ (a1 : Nat) (a2 : Option (List Byte × Bool)) (hdr : List Byte), (Instr.dlS2mResponse 4 a1 a2 hdr).wf = false) ∧
    (∀ (p : Nat) (a1 : Nat), (Instr.dlMemTimeout p a1 (List.replicate (24 + 1) 0)).wf = false) ∧
    (∀ (a1 : Nat) (hdr : List Byte), (Instr.dlMemTimeout 4 a1 hdr).wf = false) ∧
    (∀ (p : Nat) (a1 : Nat) (a2 : Bool), (Instr.dlUpstreamRequest p a1 a2 (List.replicate (24 + 1) 0)).wf = false) ∧
    (∀ (a1 : Nat) (a2 : Bool) (hdr : List Byte), (Instr.dlUpstreamRequest 4 a1 a2 hdr).wf = false) ∧
    (∀ (a1 : List (Bool × List Byte)), (Instr.dlRasPoll 4 a1).wf = false) ∧
    ((Instr.dlPortDown 4).wf = false) ∧
    (∀ (a1 : Bool), (Instr.dlReenum 4 a1).wf = false) ∧
    ((Instr.dlRelease 4).wf = false) ∧
    (∀ (a1 : Bool) (a2 : Nat), (Instr.fabTrainAdvance 14 a1 a2).wf = false) ∧
    ((Instr.fabTrainTimeout 14).wf = false) ∧
    (∀ (a1 : List Byte), (Instr.fabHail 14 a1).wf = false) := by
  refine ⟨?_, ?_, ?_, ?_, ?_, ?_, ?_, ?_, ?_, ?_, ?_, ?_⟩ <;> (intros; simp [-List.reduceReplicate, Instr.wf, Pkt.wf, Issue.wf, tileNode, coreNode, sendNode])

theorem test_wellFormed_refuses_20 :
    (∀ (a1 : Nat) (a2 : List Byte), (Instr.fabSync 14 a1 a2).wf = false) ∧
    (∀ (a1 : Nat) (a2 : Nat) (a3 : List Byte), (Instr.fabEcho 14 a1 a2 a3).wf = false) ∧
    (∀ (a1 : List Byte), (Instr.fabCredit 14 a1).wf = false) ∧
    (∀ (a1 : List Byte), (Instr.fabReplay 14 a1).wf = false) ∧
    (∀ (a1 : Option Nat) (bytes : List Byte), (Instr.flitReceive 14 a1 bytes).wf = false) ∧
    (∀ (p : Nat) (a1 : Option Nat), (Instr.flitReceive p a1 (List.replicate (256 + 1) 0)).wf = false) ∧
    (∀ (a1 : Nat), (Instr.flitTransmit 14 a1).wf = false) ∧
    ((Instr.replayTimeout 14).wf = false) ∧
    ((Instr.retryExhausted 14).wf = false) ∧
    (∀ (a1 : Nat), (Instr.linkDownDeclare 14 a1).wf = false) ∧
    ((Instr.e2eAck { dd := 256 }).wf = false) ∧
    ((Instr.collectiveStart { dd := 256 }).wf = false) := by
  refine ⟨?_, ?_, ?_, ?_, ?_, ?_, ?_, ?_, ?_, ?_, ?_, ?_⟩ <;> (intros; simp [-List.reduceReplicate, Instr.wf, Pkt.wf, Issue.wf, tileNode, coreNode, sendNode])

theorem test_wellFormed_refuses_21 :
    ((Instr.collData { dd := 256 }).wf = false) ∧
    ((Instr.collAck { dd := 256 }).wf = false) ∧
    ((Instr.collAbort { dd := 256 }).wf = false) ∧
    (∀ (slot : Nat) (a2 : Nat) (phase : Nat), (Instr.chunkResend 8 slot a2 phase).wf = false) ∧
    (∀ (k : Nat) (a2 : Nat) (phase : Nat), (Instr.chunkResend k 16 a2 phase).wf = false) ∧
    (∀ (k : Nat) (slot : Nat) (a2 : Nat), (Instr.chunkResend k slot a2 2).wf = false) ∧
    (∀ (slot : Nat) (a2 : Nat) (phase : Nat), (Instr.collNotReadyResend 8 slot a2 phase).wf = false) ∧
    (∀ (k : Nat) (a2 : Nat) (phase : Nat), (Instr.collNotReadyResend k 16 a2 phase).wf = false) ∧
    (∀ (k : Nat) (slot : Nat) (a2 : Nat), (Instr.collNotReadyResend k slot a2 2).wf = false) ∧
    (∀ (slot : Nat), (Instr.collectiveEnd 8 slot).wf = false) ∧
    (∀ (k : Nat), (Instr.collectiveEnd k 16).wf = false) ∧
    (∀ (a1 : Bool), (Instr.fabMgmt { dd := 256 } a1).wf = false) := by
  refine ⟨?_, ?_, ?_, ?_, ?_, ?_, ?_, ?_, ?_, ?_, ?_, ?_⟩ <;> (intros; simp [-List.reduceReplicate, Instr.wf, Pkt.wf, Issue.wf, tileNode, coreNode, sendNode])

theorem test_wellFormed_refuses_22 :
    ((Instr.twinPair { dd := 256 }).wf = false) ∧
    ((Instr.pairAck { dd := 256 }).wf = false) ∧
    ((Instr.mirrorData { dd := 256 }).wf = false) ∧
    ((Instr.mirrorDigestSend 64).wf = false) ∧
    ((Instr.mirrorDigest { dd := 256 }).wf = false) ∧
    (∀ (a1 : Bool), (Instr.mirrorDeadline 64 a1).wf = false) ∧
    ((Instr.mirrorVerdict { dd := 256 }).wf = false) ∧
    ((Instr.mirrorApply 64).wf = false) ∧
    ((Instr.restoreBegin { dd := 256 }).wf = false) ∧
    ((Instr.restoreReady { dd := 256 }).wf = false) ∧
    ((Instr.restoreEnd { dd := 256 }).wf = false) ∧
    ((Instr.restoreDone { dd := 256 }).wf = false) := by
  refine ⟨?_, ?_, ?_, ?_, ?_, ?_, ?_, ?_, ?_, ?_, ?_, ?_⟩ <;> (intros; simp [-List.reduceReplicate, Instr.wf, Pkt.wf, Issue.wf, tileNode, coreNode, sendNode])

theorem test_wellFormed_refuses_23 :
    (∀ (a1 : Nat), (Instr.mirrorHold 64 a1).wf = false) ∧
    (∀ (a1 : Nat), (Instr.mirrorUnhold 64 a1).wf = false) ∧
    (∀ (a1 : Nat), (Instr.applyTo 64 a1).wf = false) ∧
    (∀ (a1 : Nat), (Instr.mirrorRestore 64 a1).wf = false) ∧
    (∀ (a1 : Nat), (Instr.resync 64 a1).wf = false) ∧
    (∀ (a1 : Nat), (Instr.ringHead 65 a1).wf = false) ∧
    ((Instr.faultRingEnable 65).wf = false) ∧
    ((Instr.faultRingDisable 65).wf = false) ∧
    ((Instr.clrLost 65).wf = false) ∧
    ((Instr.emberTrigger 0).wf = false) ∧
    ((Instr.emberTrigger 10).wf = false) ∧
    ((Instr.embNote (2 ^ 64)).wf = false) := by
  refine ⟨?_, ?_, ?_, ?_, ?_, ?_, ?_, ?_, ?_, ?_, ?_, ?_⟩ <;> (intros; simp [-List.reduceReplicate, Instr.wf, Pkt.wf, Issue.wf, tileNode, coreNode, sendNode])

theorem test_wellFormed_refuses_24 :
    ((Instr.i3cDaa (2 ^ 7)).wf = false) ∧
    (∀ (a1 : Nat) (eid : Nat), (Instr.mctpControl 256 a1 eid).wf = false) ∧
    (∀ (cmd : Nat) (a1 : Nat), (Instr.mctpControl cmd a1 256).wf = false) ∧
    (∀ (cmd : Nat) (a2 : Nat) (a3 : Int) (a4 : Bool), (Instr.pldmRequest 64 cmd a2 a3 a4).wf = false) ∧
    (∀ (typ : Nat) (a2 : Nat) (a3 : Int) (a4 : Bool), (Instr.pldmRequest typ 256 a2 a3 a4).wf = false) ∧
    (∀ (a1 : Nat) (a2 : Bool) (a3 : Bool), (Instr.spdmRequest 256 a1 a2 a3).wf = false) ∧
    (∀ (typ : Nat) (a2 : Nat) (a3 : Nat) (a4 : Bool), (Instr.doeRequest (2 ^ 16) typ a2 a3 a4).wf = false) ∧
    (∀ (vendor : Nat) (a2 : Nat) (a3 : Nat) (a4 : Bool), (Instr.doeRequest vendor 256 a2 a3 a4).wf = false) ∧
    (∀ (a0 : WrTarget) (a1 : Nat) (len : Nat) (a3 : Nat), (Instr.registerWrite a0 a1 len a3 (List.replicate (24 + 1) 0)).wf = false) ∧
    (∀ (a0 : WrTarget) (a1 : Nat) (a3 : Nat) (hdr : List Byte), (Instr.registerWrite a0 a1 65 a3 hdr).wf = false) ∧
    ((Instr.domainClocked 24).wf = false) ∧
    (∀ (a0 : Bool) (a1 : Nat) (len : Nat) (a3 : Bool) (a4 : Bool), (Instr.hostMemoryRequest a0 a1 len a3 a4 (List.replicate (24 + 1) 0)).wf = false) := by
  refine ⟨?_, ?_, ?_, ?_, ?_, ?_, ?_, ?_, ?_, ?_, ?_, ?_⟩ <;> (intros; simp [-List.reduceReplicate, Instr.wf, Pkt.wf, Issue.wf, tileNode, coreNode, sendNode])

theorem test_wellFormed_refuses_25 :
    (∀ (a0 : Bool) (a1 : Nat) (a3 : Bool) (a4 : Bool) (hdr : List Byte), (Instr.hostMemoryRequest a0 a1 0 a3 a4 hdr).wf = false) ∧
    (∀ (a0 : Bool) (a1 : Nat) (a3 : Bool) (a4 : Bool) (hdr : List Byte), (Instr.hostMemoryRequest a0 a1 4097 a3 a4 hdr).wf = false) ∧
    (∀ (a0 : Bool), (Instr.unsupportedMessage a0 (List.replicate (24 + 1) 0)).wf = false) := by
  refine ⟨?_, ?_, ?_⟩ <;> (intros; simp [-List.reduceReplicate, Instr.wf, Pkt.wf, Issue.wf, tileNode, coreNode, sendNode])

theorem test_wellFormed_refuses_packet :
    Pkt.wf { dd := 256 } = false ∧
    Pkt.wf { dtx := 64 } = false ∧
    Pkt.wf { dty := 32 } = false ∧
    Pkt.wf { cls := 8 } = false ∧
    Pkt.wf { flow := 16 } = false ∧
    Pkt.wf { part := 64 } = false ∧
    Pkt.wf { sd := 256 } = false ∧
    Pkt.wf { stx := 64 } = false ∧
    Pkt.wf { sty := 32 } = false ∧
    Pkt.wf { opcode := 64 } = false ∧
    Pkt.wf { inc := 16 } = false ∧
    Pkt.wf { seq := 2 ^ 16 } = false ∧
    Pkt.wf { epoch := 256 } = false ∧
    Pkt.wf { ctr := 64 } = false ∧
    Pkt.wf { land := 2 ^ 32 } = false ∧
    Pkt.wf { arg := 2 ^ 64 } = false ∧
    Pkt.wf { data := List.replicate 2049 0 } = false := by
  refine ⟨?_, ?_, ?_, ?_, ?_, ?_, ?_, ?_, ?_, ?_, ?_, ?_, ?_, ?_, ?_, ?_, ?_⟩ <;> simp [-List.reduceReplicate, Pkt.wf]

theorem test_wellFormed_refuses_issue : Issue.wf { node := 48 } = false ∧ Issue.wf { node := 0, word := 2 ^ 32 } = false := by
  decide

/-! ### What meets the hypotheses of the statements -/

theorem test_meets_StepRunsFrontCommand : ∃ (c : Instr) (rest : List Instr) (s : State), s.pending = c :: rest :=
  ⟨.kick, [], { State.reset with pending := [.kick] }, rfl⟩

theorem test_meets_EmptyQueueIdles : ∃ s : State, s.pending = [] :=
  ⟨State.reset, rfl⟩

theorem test_meets_StepKeepsCanonicalForm : ∃ s t : State, s.Canon ∧ step s = .next t :=
  ⟨State.reset, State.reset, ⟨by decide, by decide⟩, rfl⟩

theorem test_meets_CommandsKeepQueueAndOutputs : ∃ (c : Instr) (s t : State), exec c s = .next t :=
  ⟨.kick, State.reset, State.reset.kick, rfl⟩

theorem test_meets_FusesChangeOnlyByFuseCommands :
    ∃ (c : Instr) (s t : State), exec c s = .next t ∧ (∀ f, c ≠ .fusesSensed f) ∧ ∀ ok n, c ≠ .arbBurn ok n :=
  ⟨.kick, State.reset, State.reset.kick, rfl, nofun, nofun⟩

theorem test_meets_PinsChangeOnlyByPinEvents :
    ∃ (c : Instr) (s t : State), exec c s = .next t ∧ (∀ b r n x, c ≠ .fwBundleLoaded b r n x) ∧
      c ∉ [.hbToggle, .mainPwrOkFall, .mainPwrOkRise, .perstAssert, .perstDeassert, .pilotPwrOkFall, .pilotPwrOkRise,
        .prochotAssert, .prochotRelease, .thermTripRelease, .thermalTrip] :=
  ⟨.kick, State.reset, State.reset.kick, rfl, nofun, by decide⟩

theorem test_meets_RegisterReadAfterWrite : ∃ (f g : Fld) (i j : Nat), ¬ (f = g ∧ i = j) :=
  ⟨.GLB_IDENT_BIN, .CLK_TICK_TICK, 0, 0, by decide⟩

theorem test_meets_TileCapsReadsItsConstant : ∃ (s : State) (n : Nat), ∀ f ∈ Reg.TILE_CAPS.fields, s.get f n = f.dflt n :=
  ⟨State.reset, 0, fun _ _ => rfl⟩

theorem test_meets_MessageIsCutIntoPackets : ∃ len k : Nat, k + 1 < (packetCuts len).length ∧ ∃ k', k' + 1 = (packetCuts len).length :=
  ⟨2049, 0, by decide, 1, by decide⟩

theorem test_meets_GovernorRowsAct_1 : ∃ s : State, (s.flag .PWR_GOV_BOOST_ACTIVE = true) ∧ (s.get .CLK_STATUS_DIE_LOCK = 15) :=
  ⟨(State.reset.put .PWR_GOV_BOOST_ACTIVE 0 1).put .CLK_STATUS_DIE_LOCK 0 15, by decide +kernel, by decide +kernel⟩

theorem test_meets_GovernorRowsAct_2 : ∃ s : State, (s.flag .PWR_GOV_BOOST_ACTIVE = false) ∧ (s.get .PWR_GOV_ISSUE_DUTY = s.duty) ∧ (0 < s.duty) :=
  ⟨State.reset.put .PWR_GOV_ISSUE_DUTY 0 15, by decide +kernel, by decide +kernel, by decide +kernel⟩

theorem test_meets_GovernorRowsAct_3 : ∃ s : State, (s.get .GLB_IDENT_BOOST_CLK = 225) ∧ (s.pilot.thermalDrop = false) :=
  ⟨State.reset.put .GLB_IDENT_BOOST_CLK 0 225, by decide +kernel, by decide +kernel⟩

theorem test_meets_GovernorRowsAct_4 : ∃ s : State, (s.get .GLB_IDENT_BOOST_CLK ≠ 225) :=
  ⟨State.reset, by decide +kernel⟩

theorem test_meets_GovernorRowsAct_5 : ∃ s : State, (s.get .GLB_IDENT_BOOST_CLK ≠ 225) :=
  ⟨State.reset, by decide +kernel⟩

theorem test_meets_GovernorRowsAct_6 : ∃ s : State, (s.pilot.thermalSteps ≠ 0) :=
  ⟨{ State.reset with pilot := { thermalSteps := 2 } }, by decide +kernel⟩

theorem test_meets_GovernorRowsAct_7 : ∃ s : State, (s.pilot.thermalSteps = 0) :=
  ⟨State.reset, by decide +kernel⟩

theorem test_meets_GovernorRowsAct_8 : ∃ s : State, (s.pins.prochot = false) :=
  ⟨State.reset, by decide +kernel⟩

theorem test_meets_GovernorRowsAct_9 : ∃ s : State, (s.pins.prochot = true) :=
  ⟨{ State.reset with pins := { prochot := true } }, by decide +kernel⟩

theorem test_meets_GovernorRowsAct_11 : ∃ (w : Nat) (lift ok : Bool) (s : State), (s.pilot.ticking = true) :=
  ⟨0, false, false, { State.reset with pilot := { ticking := true } }, by decide +kernel⟩

theorem test_meets_GovernorRowsAct_12 : ∃ (w : Nat) (lift ok : Bool) (s : State), (s.pilot.ticking = true) ∧ (s.pilot.phase = .ready) :=
  ⟨0, false, false, { State.reset with pilot := { ticking := true, phase := .ready } }, by decide +kernel, by decide +kernel⟩

theorem test_meets_ColdStartRowsRun_1 : ∃ s : State, (s.pins.pilotPwrOk = false) :=
  ⟨State.reset, by decide +kernel⟩

theorem test_meets_ColdStartRowsRun_2 : ∃ s : State, (s.pilot.phase = .pilot) ∧ (s.pilot.ticking = false) :=
  ⟨{ State.reset with pilot := { phase := .pilot } }, by decide +kernel, by decide +kernel⟩

theorem test_meets_ColdStartRowsRun_3 : ∃ (f : Fuses) (s : State), (s.pilot.phase = .pilot) ∧ (s.pilot.ticking = true) ∧ (s.pilot.sensed = false) :=
  ⟨{}, { State.reset with pilot := { phase := .pilot, ticking := true } }, by decide +kernel, by decide +kernel, by decide +kernel⟩

theorem test_meets_ColdStartRowsRun_4 : ∃ s : State, (s.pilot.phase = .pilot) ∧ (s.pilot.sensed = true) ∧ (s.pilot.emberOn = false) :=
  ⟨{ State.reset with pilot := { phase := .pilot, sensed := true } }, by decide +kernel, by decide +kernel, by decide +kernel⟩

theorem test_meets_ColdStartRowsRun_5 : ∃ (addr : Nat) (s : State), (s.pilot.phase = .pilot) ∧ (s.pilot.emberOn = true) :=
  ⟨0, { State.reset with pilot := { phase := .pilot, emberOn := true } }, by decide +kernel, by decide +kernel⟩

theorem test_meets_ColdStartRowsRun_6 : ∃ s : State, (s.pins.pilotPwrOk = true) :=
  ⟨{ State.reset with pins := { pilotPwrOk := true } }, by decide +kernel⟩

end Sys2Proof.Tests
end

namespace Sys2Proof.Machine

/-! ### What a command may change

The case split over the commands, done once: `exec_touch` gathers what the Touch laws say of each command. -/

/-- The Touch mask of every part of the state but the fuses (bit 1) and the pins (bit 2). -/
def baseReach : Nat := 2 ^ 666 - 2 ^ 3

/-- The Touch mask of the fuses and every part of baseReach. -/
def fusesReach : Nat := baseReach ||| 2 ^ Comp.fuses.bit

/-- The Touch mask of the pins and every part of baseReach. -/
def pinsReach : Nat := baseReach ||| 2 ^ Comp.pins.bit

/-- The parts of the state that a command may change, as a Touch mask: only fuse commands reach the fuses, and only pin
events and the strap sample of FW_BUNDLE_LOADED reach the pins. -/
def cmdReach : Instr → Nat
  | .fusesSensed .. | .arbBurn .. => fusesReach
  | .pilotPwrOkRise | .pilotPwrOkFall | .mainPwrOkRise | .fwBundleLoaded .. | .mainPwrOkFall | .perstAssert
  | .perstDeassert | .prochotAssert | .prochotRelease | .thermalTrip | .thermTripRelease | .hbToggle => pinsReach
  | _ => baseReach

/-- A command that answers a next state within one mask answers one within every wider mask. -/
theorem Touch.answersWithin {M : Nat} {s : State} {r : Host.Outcome State Fault Refusal} (R : Nat)
    (h : ∃ t, r = .next t ∧ Touch M s t) (hm : M ||| R = R := by decide +kernel) : ∃ t, r = .next t ∧ Touch R s t :=
  h.imp fun _ ⟨hr, ht⟩ => ⟨hr, ht.weaken hm⟩

/-- Every command, at every state, answers a next state and changes at most the parts that it reaches. -/
theorem exec_touch (c : Instr) (s : State) : ∃ t, exec c s = .next t ∧ Touch (cmdReach c) s t := by
  cases c with
  | pilotPwrOkRise => exact Touch.answersWithin pinsReach (execPilotPwrOkRise_touch ..)
  | tickCounterStart => exact Touch.answersWithin baseReach (execTickCounterStart_touch ..)
  | fusesSensed => exact Touch.answersWithin fusesReach (execFusesSensed_touch ..)
  | emberMramCheck => exact Touch.answersWithin baseReach (execEmberMramCheck_touch ..)
  | pilotReady => exact Touch.answersWithin baseReach (execPilotReady_touch ..)
  | pilotTick => exact Touch.answersWithin baseReach (execPilotTick_touch ..)
  | pilotPwrOkFall => exact Touch.answersWithin pinsReach (execPilotPwrOkFall_touch ..)
  | mainPwrOkRise => exact Touch.answersWithin pinsReach (execMainPwrOkRise_touch ..)
  | pllLock => exact Touch.answersWithin baseReach (execPllLock_touch ..)
  | fwBundleLoaded => exact Touch.answersWithin pinsReach (execFwBundleLoaded_touch ..)
  | mainReady => exact Touch.answersWithin baseReach (execMainReady_touch ..)
  | configReady => exact Touch.answersWithin baseReach (execConfigReady_touch ..)
  | bootImageCommit => exact Touch.answersWithin baseReach (execBootImageCommit_touch ..)
  | mainPwrOkFall => exact Touch.answersWithin pinsReach (execMainPwrOkFall_touch ..)
  | perstAssert => exact Touch.answersWithin pinsReach (execPerstAssert_touch ..)
  | perstDeassert => exact Touch.answersWithin pinsReach (execPerstDeassert_touch ..)
  | rstReqWarm => exact Touch.answersWithin baseReach (execRstReqWarm_touch ..)
  | rstReqFabPort => exact Touch.answersWithin baseReach (execRstReqFabPort_touch ..)
  | fabricPortResetDone => exact Touch.answersWithin baseReach (execFabricPortResetDone_touch ..)
  | sidebandWarmRequest => exact Touch.answersWithin baseReach (execSidebandWarmRequest_touch ..)
  | provWatchdog => exact Touch.answersWithin baseReach (execProvWatchdog_touch ..)
  | kick => exact Touch.answersWithin baseReach (execKick_touch ..)
  | dozeEntry => exact Touch.answersWithin baseReach (execDozeEntry_touch ..)
  | domainWake => exact Touch.answersWithin baseReach (execDomainWake_touch ..)
  | scheduledWake => exact Touch.answersWithin baseReach (execScheduledWake_touch ..)
  | quadrantClocked => exact Touch.answersWithin baseReach (execQuadrantClocked_touch ..)
  | strikerHandover => exact Touch.answersWithin baseReach (execStrikerHandover_touch ..)
  | domainPowered => exact Touch.answersWithin baseReach (execDomainPowered_touch ..)
  | pwrHold => exact Touch.answersWithin baseReach (execPwrHold_touch ..)
  | cacheOff => exact Touch.answersWithin baseReach (execCacheOff_touch ..)
  | throttleStep => exact Touch.answersWithin baseReach (execThrottleStep_touch ..)
  | prochotAssert => exact Touch.answersWithin pinsReach (execProchotAssert_touch ..)
  | prochotRelease => exact Touch.answersWithin pinsReach (execProchotRelease_touch ..)
  | thermalThrottleStep => exact Touch.answersWithin baseReach (execThermalThrottleStep_touch ..)
  | thermalLimitLift => exact Touch.answersWithin baseReach (execThermalLimitLift_touch ..)
  | thermalTrip => exact Touch.answersWithin pinsReach (execThermalTrip_touch ..)
  | thermTripRelease => exact Touch.answersWithin pinsReach (execThermTripRelease_touch ..)
  | clockLoss => exact Touch.answersWithin baseReach (execClockLoss_touch ..)
  | clockRelock => exact Touch.answersWithin baseReach (execClockRelock_touch ..)
  | avsFail => exact Touch.answersWithin baseReach (execAvsFail_touch ..)
  | kimStage => exact Touch.answersWithin baseReach (execKimStage_touch ..)
  | stageComplete => exact Touch.answersWithin baseReach (execStageComplete_touch ..)
  | kimSidebandChunk => exact Touch.answersWithin baseReach (execKimSidebandChunk_touch ..)
  | kimValidate => exact Touch.answersWithin baseReach (execKimValidate_touch ..)
  | validationDone => exact Touch.answersWithin baseReach (execValidationDone_touch ..)
  | kimArm => exact Touch.answersWithin baseReach (execKimArm_touch ..)
  | kimAbort => exact Touch.answersWithin baseReach (execKimAbort_touch ..)
  | kimDiscard => exact Touch.answersWithin baseReach (execKimDiscard_touch ..)
  | resolveGo => exact Touch.answersWithin baseReach (execResolveGo_touch ..)
  | resolveAbort => exact Touch.answersWithin baseReach (execResolveAbort_touch ..)
  | decideGo => exact Touch.answersWithin baseReach (execDecideGo_touch ..)
  | decideAbort => exact Touch.answersWithin baseReach (execDecideAbort_touch ..)
  | kimArmed => exact Touch.answersWithin baseReach (execKimArmed_touch ..)
  | coordinatorDecide => exact Touch.answersWithin baseReach (execCoordinatorDecide_touch ..)
  | kimDecide => exact Touch.answersWithin baseReach (execKimDecide_touch ..)
  | kimDecideResend => exact Touch.answersWithin baseReach (execKimDecideResend_touch ..)
  | kimQuery => exact Touch.answersWithin baseReach (execKimQuery_touch ..)
  | cadenceBoundary => exact Touch.answersWithin baseReach (execCadenceBoundary_touch ..)
  | arbBurn => exact Touch.answersWithin fusesReach (execArbBurn_touch ..)
  | slotStart => exact Touch.answersWithin baseReach (execSlotStart_touch ..)
  | sqDoorbell => exact Touch.answersWithin baseReach (execSqDoorbell_touch ..)
  | cqDoorbell => exact Touch.answersWithin baseReach (execCqDoorbell_touch ..)
  | commandFetch => exact Touch.answersWithin baseReach (execCommandFetch_touch ..)
  | completionRecordWrite => exact Touch.answersWithin baseReach (execCompletionRecordWrite_touch ..)
  | cqIrqTimeout => exact Touch.answersWithin baseReach (execCqIrqTimeout_touch ..)
  | nopCommand => exact Touch.answersWithin baseReach (execNopCommand_touch ..)
  | jobBegin => exact Touch.answersWithin baseReach (execJobBegin_touch ..)
  | jobEnd => exact Touch.answersWithin baseReach (execJobEnd_touch ..)
  | launchCommand => exact Touch.answersWithin baseReach (execLaunchCommand_touch ..)
  | launchTileLoad => exact Touch.answersWithin baseReach (execLaunchTileLoad_touch ..)
  | copyCommand => exact Touch.answersWithin baseReach (execCopyCommand_touch ..)
  | fenceCommand => exact Touch.answersWithin baseReach (execFenceCommand_touch ..)
  | tileReset => exact Touch.answersWithin baseReach (execTileReset_touch ..)
  | tileResetDone => exact Touch.answersWithin baseReach (execTileResetDone_touch ..)
  | partReset => exact Touch.answersWithin baseReach (execPartReset_touch ..)
  | taskCancel => exact Touch.answersWithin baseReach (execTaskCancel_touch ..)
  | quiesce => exact Touch.answersWithin baseReach (execQuiesce_touch ..)
  | partResume => exact Touch.answersWithin baseReach (execPartResume_touch ..)
  | partProvReset => exact Touch.answersWithin baseReach (execPartProvReset_touch ..)
  | quiesceTimeout => exact Touch.answersWithin baseReach (execQuiesceTimeout_touch ..)
  | partResetDone => exact Touch.answersWithin baseReach (execPartResetDone_touch ..)
  | partIdleReached => exact Touch.answersWithin baseReach (execPartIdleReached_touch ..)
  | incGateExpire => exact Touch.answersWithin baseReach (execIncGateExpire_touch ..)
  | vfFlr => exact Touch.answersWithin baseReach (execVfFlr_touch ..)
  | pfFlr => exact Touch.answersWithin baseReach (execPfFlr_touch ..)
  | flrComplete => exact Touch.answersWithin baseReach (execFlrComplete_touch ..)
  | fwuStage => exact Touch.answersWithin baseReach (execFwuStage_touch ..)
  | fwuVerify => exact Touch.answersWithin baseReach (execFwuVerify_touch ..)
  | fwuActivate => exact Touch.answersWithin baseReach (execFwuActivate_touch ..)
  | fwuCoreUpdate => exact Touch.answersWithin baseReach (execFwuCoreUpdate_touch ..)
  | fwuRevert => exact Touch.answersWithin baseReach (execFwuRevert_touch ..)
  | fwuDiscard => exact Touch.answersWithin baseReach (execFwuDiscard_touch ..)
  | alu => exact Touch.answersWithin baseReach (execAlu_touch ..)
  | aluw => exact Touch.answersWithin baseReach (execAluw_touch ..)
  | addi => exact Touch.answersWithin baseReach (execAddi_touch ..)
  | andi => exact Touch.answersWithin baseReach (execAndi_touch ..)
  | ori => exact Touch.answersWithin baseReach (execOri_touch ..)
  | xori => exact Touch.answersWithin baseReach (execXori_touch ..)
  | slti => exact Touch.answersWithin baseReach (execSlti_touch ..)
  | sltiu => exact Touch.answersWithin baseReach (execSltiu_touch ..)
  | shi => exact Touch.answersWithin baseReach (execShi_touch ..)
  | lui => exact Touch.answersWithin baseReach (execLui_touch ..)
  | scalarLoad => exact Touch.answersWithin baseReach (execScalarLoad_touch ..)
  | scalarStore => exact Touch.answersWithin baseReach (execScalarStore_touch ..)
  | branch => exact Touch.answersWithin baseReach (execBranch_touch ..)
  | jal => exact Touch.answersWithin baseReach (execJal_touch ..)
  | jalr => exact Touch.answersWithin baseReach (execJalr_touch ..)
  | vint => exact Touch.answersWithin baseReach (execVint_touch ..)
  | vfp => exact Touch.answersWithin baseReach (execVfp_touch ..)
  | vcmp => exact Touch.answersWithin baseReach (execVcmp_touch ..)
  | vld => exact Touch.answersWithin baseReach (execVld_touch ..)
  | vst => exact Touch.answersWithin baseReach (execVst_touch ..)
  | vldb => exact Touch.answersWithin baseReach (execVldb_touch ..)
  | vcvt => exact Touch.answersWithin baseReach (execVcvt_touch ..)
  | vbcast => exact Touch.answersWithin baseReach (execVbcast_touch ..)
  | vmovs => exact Touch.answersWithin baseReach (execVmovs_touch ..)
  | vredadd => exact Touch.answersWithin baseReach (execVredadd_touch ..)
  | vredfadd => exact Touch.answersWithin baseReach (execVredfadd_touch ..)
  | vredmax => exact Touch.answersWithin baseReach (execVredmax_touch ..)
  | vredfmax => exact Touch.answersWithin baseReach (execVredfmax_touch ..)
  | vperm => exact Touch.answersWithin baseReach (execVperm_touch ..)
  | pand => exact Touch.answersWithin baseReach (execPand_touch ..)
  | por => exact Touch.answersWithin baseReach (execPor_touch ..)
  | pxor => exact Touch.answersWithin baseReach (execPxor_touch ..)
  | pnot => exact Touch.answersWithin baseReach (execPnot_touch ..)
  | pmov => exact Touch.answersWithin baseReach (execPmov_touch ..)
  | pread => exact Touch.answersWithin baseReach (execPread_touch ..)
  | mma => exact Touch.answersWithin baseReach (execMma_touch ..)
  | mzero => exact Touch.answersWithin baseReach (execMzero_touch ..)
  | mload => exact Touch.answersWithin baseReach (execMload_touch ..)
  | mstore => exact Touch.answersWithin baseReach (execMstore_touch ..)
  | mwait => exact Touch.answersWithin baseReach (execMwait_touch ..)
  | matrixComplete => exact Touch.answersWithin baseReach (execMatrixComplete_touch ..)
  | sendData => exact Touch.answersWithin baseReach (execSendData_touch ..)
  | sendGet => exact Touch.answersWithin baseReach (execSendGet_touch ..)
  | sendPut => exact Touch.answersWithin baseReach (execSendPut_touch ..)
  | sendf => exact Touch.answersWithin baseReach (execSendf_touch ..)
  | sendSourceRead => exact Touch.answersWithin baseReach (execSendSourceRead_touch ..)
  | recvwait => exact Touch.answersWithin baseReach (execRecvwait_touch ..)
  | cwait => exact Touch.answersWithin baseReach (execCwait_touch ..)
  | cadd => exact Touch.answersWithin baseReach (execCadd_touch ..)
  | cread => exact Touch.answersWithin baseReach (execCread_touch ..)
  | taskYield => exact Touch.answersWithin baseReach (execTaskYield_touch ..)
  | taskDone => exact Touch.answersWithin baseReach (execTaskDone_touch ..)
  | slotwait => exact Touch.answersWithin baseReach (execSlotwait_touch ..)
  | csrr => exact Touch.answersWithin baseReach (execCsrr_touch ..)
  | csrx => exact Touch.answersWithin baseReach (execCsrx_touch ..)
  | csrm => exact Touch.answersWithin baseReach (execCsrm_touch ..)
  | taskTrap => exact Touch.answersWithin baseReach (execTaskTrap_touch ..)
  | ctime => exact Touch.answersWithin baseReach (execCtime_touch ..)
  | illegalWord => exact Touch.answersWithin baseReach (execIllegalWord_touch ..)
  | watchdog => exact Touch.answersWithin baseReach (execWatchdog_touch ..)
  | taskDispatch => exact Touch.answersWithin baseReach (execTaskDispatch_touch ..)
  | sdnt => exact Touch.answersWithin baseReach (execSdnt_touch ..)
  | swnt => exact Touch.answersWithin baseReach (execSwnt_touch ..)
  | amo => exact Touch.answersWithin baseReach (execAmo_touch ..)
  | barFull => exact Touch.answersWithin baseReach (execBarFull_touch ..)
  | barLd => exact Touch.answersWithin baseReach (execBarLd_touch ..)
  | barSt => exact Touch.answersWithin baseReach (execBarSt_touch ..)
  | barDev => exact Touch.answersWithin baseReach (execBarDev_touch ..)
  | barNt => exact Touch.answersWithin baseReach (execBarNt_touch ..)
  | tlbinv => exact Touch.answersWithin baseReach (execTlbinv_touch ..)
  | wfi => exact Touch.answersWithin baseReach (execWfi_touch ..)
  | xret => exact Touch.answersWithin baseReach (execXret_touch ..)
  | interruptEntry => exact Touch.answersWithin baseReach (execInterruptEntry_touch ..)
  | timecmpExpire => exact Touch.answersWithin baseReach (execTimecmpExpire_touch ..)
  | ntDrainTimeout => exact Touch.answersWithin baseReach (execNtDrainTimeout_touch ..)
  | assign => exact Touch.answersWithin baseReach (execAssign_touch ..)
  | coreRelease => exact Touch.answersWithin baseReach (execCoreRelease_touch ..)
  | coreRestartDone => exact Touch.answersWithin baseReach (execCoreRestartDone_touch ..)
  | lntDb => exact Touch.answersWithin baseReach (execLntDb_touch ..)
  | lntProvDb => exact Touch.answersWithin baseReach (execLntProvDb_touch ..)
  | lntHostirq => exact Touch.answersWithin baseReach (execLntHostirq_touch ..)
  | meshRsv => exact Touch.answersWithin baseReach (execMeshRsv_touch ..)
  | meshGrant => exact Touch.answersWithin baseReach (execMeshGrant_touch ..)
  | meshRetry => exact Touch.answersWithin baseReach (execMeshRetry_touch ..)
  | rsvResend => exact Touch.answersWithin baseReach (execRsvResend_touch ..)
  | meshNack => exact Touch.answersWithin baseReach (execMeshNack_touch ..)
  | rsvWaitExpire => exact Touch.answersWithin baseReach (execRsvWaitExpire_touch ..)
  | pendingRsvTimeout => exact Touch.answersWithin baseReach (execPendingRsvTimeout_touch ..)
  | meshData => exact Touch.answersWithin baseReach (execMeshData_touch ..)
  | meshRelease => exact Touch.answersWithin baseReach (execMeshRelease_touch ..)
  | getReq => exact Touch.answersWithin baseReach (execGetReq_touch ..)
  | getData => exact Touch.answersWithin baseReach (execGetData_touch ..)
  | putReq => exact Touch.answersWithin baseReach (execPutReq_touch ..)
  | putGo => exact Touch.answersWithin baseReach (execPutGo_touch ..)
  | putData => exact Touch.answersWithin baseReach (execPutData_touch ..)
  | putAck => exact Touch.answersWithin baseReach (execPutAck_touch ..)
  | streamRetryResend => exact Touch.answersWithin baseReach (execStreamRetryResend_touch ..)
  | setCfg => exact Touch.answersWithin baseReach (execSetCfg_touch ..)
  | setSeg => exact Touch.answersWithin baseReach (execSetSeg_touch ..)
  | clearSeg => exact Touch.answersWithin baseReach (execClearSeg_touch ..)
  | clearCtx => exact Touch.answersWithin baseReach (execClearCtx_touch ..)
  | xlatInv => exact Touch.answersWithin baseReach (execXlatInv_touch ..)
  | atsCompletion => exact Touch.answersWithin baseReach (execAtsCompletion_touch ..)
  | absentListExpire => exact Touch.answersWithin baseReach (execAbsentListExpire_touch ..)
  | prgClose => exact Touch.answersWithin baseReach (execPrgClose_touch ..)
  | prgSend => exact Touch.answersWithin baseReach (execPrgSend_touch ..)
  | prgResponse => exact Touch.answersWithin baseReach (execPrgResponse_touch ..)
  | priTimeout => exact Touch.answersWithin baseReach (execPriTimeout_touch ..)
  | priReset => exact Touch.answersWithin baseReach (execPriReset_touch ..)
  | atsInvalidate => exact Touch.answersWithin baseReach (execAtsInvalidate_touch ..)
  | invalidateCompletion => exact Touch.answersWithin baseReach (execInvalidateCompletion_touch ..)
  | atsEnableClear => exact Touch.answersWithin baseReach (execAtsEnableClear_touch ..)
  | cacheDisableFlush => exact Touch.answersWithin baseReach (execCacheDisableFlush_touch ..)
  | cacheDisableRetain => exact Touch.answersWithin baseReach (execCacheDisableRetain_touch ..)
  | cacheEnable => exact Touch.answersWithin baseReach (execCacheEnable_touch ..)
  | h2dSnoop => exact Touch.answersWithin baseReach (execH2dSnoop_touch ..)
  | h2dResponse => exact Touch.answersWithin baseReach (execH2dResponse_touch ..)
  | writePull => exact Touch.answersWithin baseReach (execWritePull_touch ..)
  | streamingEnd => exact Touch.answersWithin baseReach (execStreamingEnd_touch ..)
  | cacheResponseTimeout => exact Touch.answersWithin baseReach (execCacheResponseTimeout_touch ..)
  | m2sRequest => exact Touch.answersWithin baseReach (execM2sRequest_touch ..)
  | birsp => exact Touch.answersWithin baseReach (execBirsp_touch ..)
  | biTimeout => exact Touch.answersWithin baseReach (execBiTimeout_touch ..)
  | biconflict => exact Touch.answersWithin baseReach (execBiconflict_touch ..)
  | dirDrain => exact Touch.answersWithin baseReach (execDirDrain_touch ..)
  | dirDrainDone => exact Touch.answersWithin baseReach (execDirDrainDone_touch ..)
  | disableCachingSet => exact Touch.answersWithin baseReach (execDisableCachingSet_touch ..)
  | initiateCacheWbinv => exact Touch.answersWithin baseReach (execInitiateCacheWbinv_touch ..)
  | disableCachingClear => exact Touch.answersWithin baseReach (execDisableCachingClear_touch ..)
  | gpfPhase1 => exact Touch.answersWithin baseReach (execGpfPhase1_touch ..)
  | hdmDecoderCommit => exact Touch.answersWithin baseReach (execHdmDecoderCommit_touch ..)
  | hdmDecoderUncommit => exact Touch.answersWithin baseReach (execHdmDecoderUncommit_touch ..)
  | decoderUncommitDone => exact Touch.answersWithin baseReach (execDecoderUncommitDone_touch ..)
  | rekeyStart => exact Touch.answersWithin baseReach (execRekeyStart_touch ..)
  | rekeyPause => exact Touch.answersWithin baseReach (execRekeyPause_touch ..)
  | rekeyResume => exact Touch.answersWithin baseReach (execRekeyResume_touch ..)
  | rekeyStatus => exact Touch.answersWithin baseReach (execRekeyStatus_touch ..)
  | rekeyTransit => exact Touch.answersWithin baseReach (execRekeyTransit_touch ..)
  | scrubRead => exact Touch.answersWithin baseReach (execScrubRead_touch ..)
  | kekSet => exact Touch.answersWithin baseReach (execKekSet_touch ..)
  | kekClear => exact Touch.answersWithin baseReach (execKekClear_touch ..)
  | debugWindowRead => exact Touch.answersWithin baseReach (execDebugWindowRead_touch ..)
  | debugWindowWrite => exact Touch.answersWithin baseReach (execDebugWindowWrite_touch ..)
  | jtagMemoryAccess => exact Touch.answersWithin baseReach (execJtagMemoryAccess_touch ..)
  | cxlioCompletion => exact Touch.answersWithin baseReach (execCxlioCompletion_touch ..)
  | completionTimeout => exact Touch.answersWithin baseReach (execCompletionTimeout_touch ..)
  | tagHoldExpire => exact Touch.answersWithin baseReach (execTagHoldExpire_touch ..)
  | msixUnmask => exact Touch.answersWithin baseReach (execMsixUnmask_touch ..)
  | msixEnable => exact Touch.answersWithin baseReach (execMsixEnable_touch ..)
  | busMasterEnable => exact Touch.answersWithin baseReach (execBusMasterEnable_touch ..)
  | quarantineRelease => exact Touch.answersWithin baseReach (execQuarantineRelease_touch ..)
  | d3hotEntry => exact Touch.answersWithin baseReach (execD3hotEntry_touch ..)
  | d0Return => exact Touch.answersWithin baseReach (execD0Return_touch ..)
  | pmeTurnOff => exact Touch.answersWithin baseReach (execPmeTurnOff_touch ..)
  | pmeToAck => exact Touch.answersWithin baseReach (execPmeToAck_touch ..)
  | d3coldWake => exact Touch.answersWithin baseReach (execD3coldWake_touch ..)
  | hostLinkDown => exact Touch.answersWithin baseReach (execHostLinkDown_touch ..)
  | hostLinkUp => exact Touch.answersWithin baseReach (execHostLinkUp_touch ..)
  | vfEnableSet => exact Touch.answersWithin baseReach (execVfEnableSet_touch ..)
  | vfEnableClear => exact Touch.answersWithin baseReach (execVfEnableClear_touch ..)
  | dlPortTrained => exact Touch.answersWithin baseReach (execDlPortTrained_touch ..)
  | dlEnumerate => exact Touch.answersWithin baseReach (execDlEnumerate_touch ..)
  | dlEnumDone => exact Touch.answersWithin baseReach (execDlEnumDone_touch ..)
  | dlS2mResponse => exact Touch.answersWithin baseReach (execDlS2mResponse_touch ..)
  | dlMemTimeout => exact Touch.answersWithin baseReach (execDlMemTimeout_touch ..)
  | dlUpstreamRequest => exact Touch.answersWithin baseReach (execDlUpstreamRequest_touch ..)
  | dlRasPoll => exact Touch.answersWithin baseReach (execDlRasPoll_touch ..)
  | dlPortDown => exact Touch.answersWithin baseReach (execDlPortDown_touch ..)
  | dlReenum => exact Touch.answersWithin baseReach (execDlReenum_touch ..)
  | dlRelease => exact Touch.answersWithin baseReach (execDlRelease_touch ..)
  | fabTrainAdvance => exact Touch.answersWithin baseReach (execFabTrainAdvance_touch ..)
  | fabTrainTimeout => exact Touch.answersWithin baseReach (execFabTrainTimeout_touch ..)
  | fabHail => exact Touch.answersWithin baseReach (execFabHail_touch ..)
  | fabSync => exact Touch.answersWithin baseReach (execFabSync_touch ..)
  | fabEcho => exact Touch.answersWithin baseReach (execFabEcho_touch ..)
  | fabCredit => exact Touch.answersWithin baseReach (execFabCredit_touch ..)
  | fabReplay => exact Touch.answersWithin baseReach (execFabReplay_touch ..)
  | flitReceive => exact Touch.answersWithin baseReach (execFlitReceive_touch ..)
  | flitTransmit => exact Touch.answersWithin baseReach (execFlitTransmit_touch ..)
  | txHeld => exact Touch.answersWithin baseReach (execTxHeld_touch ..)
  | replayTimeout => exact Touch.answersWithin baseReach (execReplayTimeout_touch ..)
  | retryExhausted => exact Touch.answersWithin baseReach (execRetryExhausted_touch ..)
  | linkDownDeclare => exact Touch.answersWithin baseReach (execLinkDownDeclare_touch ..)
  | syncLost => exact Touch.answersWithin baseReach (execSyncLost_touch ..)
  | e2eAck => exact Touch.answersWithin baseReach (execE2eAck_touch ..)
  | e2eResend => exact Touch.answersWithin baseReach (execE2eResend_touch ..)
  | collectiveStart => exact Touch.answersWithin baseReach (execCollectiveStart_touch ..)
  | collData => exact Touch.answersWithin baseReach (execCollData_touch ..)
  | collAck => exact Touch.answersWithin baseReach (execCollAck_touch ..)
  | collAbort => exact Touch.answersWithin baseReach (execCollAbort_touch ..)
  | chunkResend => exact Touch.answersWithin baseReach (execChunkResend_touch ..)
  | collNotReadyResend => exact Touch.answersWithin baseReach (execCollNotReadyResend_touch ..)
  | collectiveEnd => exact Touch.answersWithin baseReach (execCollectiveEnd_touch ..)
  | fabMgmt => exact Touch.answersWithin baseReach (execFabMgmt_touch ..)
  | twinPair => exact Touch.answersWithin baseReach (execTwinPair_touch ..)
  | pairAck => exact Touch.answersWithin baseReach (execPairAck_touch ..)
  | pairResend => exact Touch.answersWithin baseReach (execPairResend_touch ..)
  | hbToggle => exact Touch.answersWithin pinsReach (execHbToggle_touch ..)
  | hbEdge => exact Touch.answersWithin baseReach (execHbEdge_touch ..)
  | hbTimeout => exact Touch.answersWithin baseReach (execHbTimeout_touch ..)
  | twinLinkTimeout => exact Touch.answersWithin baseReach (execTwinLinkTimeout_touch ..)
  | mirrorData => exact Touch.answersWithin baseReach (execMirrorData_touch ..)
  | mirrorDigestSend => exact Touch.answersWithin baseReach (execMirrorDigestSend_touch ..)
  | mirrorDigest => exact Touch.answersWithin baseReach (execMirrorDigest_touch ..)
  | mirrorDeadline => exact Touch.answersWithin baseReach (execMirrorDeadline_touch ..)
  | mirrorVerdict => exact Touch.answersWithin baseReach (execMirrorVerdict_touch ..)
  | mirrorApply => exact Touch.answersWithin baseReach (execMirrorApply_touch ..)
  | restoreBegin => exact Touch.answersWithin baseReach (execRestoreBegin_touch ..)
  | restoreReady => exact Touch.answersWithin baseReach (execRestoreReady_touch ..)
  | restoreEnd => exact Touch.answersWithin baseReach (execRestoreEnd_touch ..)
  | restoreDone => exact Touch.answersWithin baseReach (execRestoreDone_touch ..)
  | mirrorHold => exact Touch.answersWithin baseReach (execMirrorHold_touch ..)
  | mirrorUnhold => exact Touch.answersWithin baseReach (execMirrorUnhold_touch ..)
  | applyTo => exact Touch.answersWithin baseReach (execApplyTo_touch ..)
  | mirrorRestore => exact Touch.answersWithin baseReach (execMirrorRestore_touch ..)
  | resync => exact Touch.answersWithin baseReach (execResync_touch ..)
  | faultRecordWrite => exact Touch.answersWithin baseReach (execFaultRecordWrite_touch ..)
  | ringHead => exact Touch.answersWithin baseReach (execRingHead_touch ..)
  | faultRingEnable => exact Touch.answersWithin baseReach (execFaultRingEnable_touch ..)
  | faultRingDisable => exact Touch.answersWithin baseReach (execFaultRingDisable_touch ..)
  | clrLost => exact Touch.answersWithin baseReach (execClrLost_touch ..)
  | emberTrigger => exact Touch.answersWithin baseReach (execEmberTrigger_touch ..)
  | emberFreeze => exact Touch.answersWithin baseReach (execEmberFreeze_touch ..)
  | emberCopyDone => exact Touch.answersWithin baseReach (execEmberCopyDone_touch ..)
  | embCtlFreeze => exact Touch.answersWithin baseReach (execEmbCtlFreeze_touch ..)
  | rearm => exact Touch.answersWithin baseReach (execRearm_touch ..)
  | embNote => exact Touch.answersWithin baseReach (execEmbNote_touch ..)
  | embSlots => exact Touch.answersWithin baseReach (execEmbSlots_touch ..)
  | embDir => exact Touch.answersWithin baseReach (execEmbDir_touch ..)
  | embRead => exact Touch.answersWithin baseReach (execEmbRead_touch ..)
  | embFreeze => exact Touch.answersWithin baseReach (execEmbFreeze_touch ..)
  | embKeep => exact Touch.answersWithin baseReach (execEmbKeep_touch ..)
  | embStat => exact Touch.answersWithin baseReach (execEmbStat_touch ..)
  | i3cDaa => exact Touch.answersWithin baseReach (execI3cDaa_touch ..)
  | mctpControl => exact Touch.answersWithin baseReach (execMctpControl_touch ..)
  | pldmRequest => exact Touch.answersWithin baseReach (execPldmRequest_touch ..)
  | spdmRequest => exact Touch.answersWithin baseReach (execSpdmRequest_touch ..)
  | doeRequest => exact Touch.answersWithin baseReach (execDoeRequest_touch ..)
  | registerWrite => exact Touch.answersWithin baseReach (execRegisterWrite_touch ..)
  | domainClocked => exact Touch.answersWithin baseReach (execDomainClocked_touch ..)
  | throttleTemperatureReached => exact Touch.answersWithin baseReach (execThrottleTemperatureReached_touch ..)
  | hostMemoryRequest => exact Touch.answersWithin baseReach (execHostMemoryRequest_touch ..)
  | unsupportedMessage => exact Touch.answersWithin baseReach (execUnsupportedMessage_touch ..)

/-! ### The canonical form -/

/-- An operation within any mask keeps the canonical form. -/
theorem Touch.canon {M : Nat} {s t : State} (h : Touch M s t) (hs : s.Canon) : t.Canon := by
  obtain ⟨hfields, hcells⟩ := hs
  exact ⟨h.fieldsOk hfields, h.memOk hcells⟩

/-- Every command keeps the canonical form. -/
theorem exec_canon {c : Instr} {s t : State} (hs : s.Canon) (h : exec c s = .next t) : t.Canon := by
  obtain ⟨u, hu, htouch⟩ := exec_touch c s
  obtain rfl : u = t := Host.Outcome.next.inj (hu.symm.trans h)
  exact htouch.canon hs

/-- The commands that wait are no part of the canonical form. -/
theorem State.Canon.withPending {s : State} (hs : s.Canon) (q : List Instr) : State.Canon { s with pending := q } := hs

/-- A state that lists no register field and no byte of HBM is in canonical form. -/
theorem State.canon_of_unlisted {s : State} (hf : s.fields = []) (hm : s.mem.cells = []) : s.Canon := by
  simp [State.Canon, hf, hm, cellsAbove, Mem.wf, Mem.above]

/-- A state that lists no register field reads each at its cold-reset value. -/
theorem State.get_of_unlisted {s : State} (hf : s.fields = []) (f : Fld) (i : Nat) : s.get f i = f.dflt i := by
  simp [State.get, hf, cellFind]

/-! ### The statements -/

/-- Settles O3. That nothing is listed at reset, so that the fields of the image and the fuses read 0 until they are loaded, is
the model's choice (notes/assumptions/1.md, notes/assumptions/4.md). -/
theorem resetIsCanonical : Obligations.ResetIsCanonical :=
  ⟨State.canon_of_unlisted rfl rfl, State.get_of_unlisted rfl⟩

/-- Settles O4: an idle step answers the same state, and any other step runs the command at the front of the queue, which
keeps the canonical form whatever the command is. -/
theorem stepKeepsCanonicalForm : Obligations.StepKeepsCanonicalForm := by
  intro s t hs h
  cases hq : s.pending with
  | nil =>
    simp only [step, hq, Host.Outcome.next.injEq] at h
    exact h ▸ hs
  | cons c rest =>
    simp only [step, hq] at h
    exact exec_canon (hs.withPending rest) h

end Sys2Proof.Machine

namespace Sys2Proof.Machine

/-! ### Which commands reach the fuses and the pins -/

/-- A command that answers within a mask answers t within it, where t is its answer. -/
theorem Touch.ofAnswer {M : Nat} {s t : State} {r : Host.Outcome State Fault Refusal} (h : ∃ u, r = .next u ∧ Touch M s u)
    (ht : r = .next t) : Touch M s t := by
  obtain ⟨u, hu, htouch⟩ := h
  obtain rfl : u = t := Host.Outcome.next.inj (hu.symm.trans ht)
  exact htouch

theorem cmdReach_fuses {c : Instr} (hsensed : ∀ f, c ≠ .fusesSensed f) (hburn : ∀ ok n, c ≠ .arbBurn ok n) :
    (cmdReach c).testBit Comp.fuses.bit = false := by
  unfold cmdReach
  split
  case h_1 f => exact absurd rfl (hsensed f)
  case h_2 ok n => exact absurd rfl (hburn ok n)
  all_goals decide +kernel

/-- Settles O7: a command changes at most what it reaches, and only FUSES_SENSED and ARB_BURN reach the fuses. -/
theorem fusesChangeOnlyByFuseCommands : Obligations.FusesChangeOnlyByFuseCommands := fun c s _ h hsensed hburn =>
  (Touch.ofAnswer (exec_touch c s) h).same (c := .fuses) (cmdReach_fuses hsensed hburn)

theorem cmdReach_pins {c : Instr} (hstraps : ∀ b r n x, c ≠ .fwBundleLoaded b r n x)
    (hpin : c ∉ [.hbToggle, .mainPwrOkFall, .mainPwrOkRise, .perstAssert, .perstDeassert, .pilotPwrOkFall, .pilotPwrOkRise,
      .prochotAssert, .prochotRelease, .thermTripRelease, .thermalTrip]) :
    (cmdReach c).testBit Comp.pins.bit = false := by
  unfold cmdReach
  split
  case h_6 b r n x => exact absurd rfl (hstraps b r n x)
  case h_1 | h_2 | h_15 => decide +kernel
  all_goals simp at hpin

/-- Settles O8, for the seven pins and straps that Pins holds. The straps are sampled by FW_BUNDLE_LOADED, which the statement
therefore leaves out (notes/assumptions/99.md). -/
theorem pinsChangeOnlyByPinEvents : Obligations.PinsChangeOnlyByPinEvents := fun c s _ h hstraps hpin =>
  (Touch.ofAnswer (exec_touch c s) h).same (c := .pins) (cmdReach_pins hstraps hpin)

/-! ### The limits of the governor -/

theorem State.duty_lt (s : State) : s.duty < 2 ^ 4 := by
  simp only [State.duty]; omega

theorem State.duty_le_thermal (s : State) : s.duty ≤ 15 - s.pilot.thermalSteps := by
  simp only [State.duty]; omega

theorem State.duty_le_of_prochot {s : State} (h : s.pins.prochot = true) : s.duty ≤ 7 := by
  simp only [State.duty, if_pos h]; omega

/-- One more power step than the limits show takes one sixteenth of issue. -/
theorem State.duty_powerSteps {s : State} (h : 0 < s.duty) :
    (s.modPilot fun r => { r with powerSteps := 16 - s.duty }).duty = s.duty - 1 := by
  change min (15 - (16 - s.duty)) (min (15 - s.pilot.thermalSteps) (if s.pins.prochot then 7 else 15)) = s.duty - 1
  simp only [State.duty] at h ⊢
  omega

/-- The tile clock where the part does not boost. -/
theorem State.tileClk_of_not_boosts {s : State} (h : s.boosts = false) :
    s.tileClk = if s.get .CLK_STATUS_DIE_LOCK = 15 then 200 else 0 := by
  simp only [State.tileClk, h, bne_iff_ne, ne_eq, ite_not, Bool.false_eq_true, if_false]

/-! ### limitsSet: the fields follow the limits, the steps count, and records are written -/

/-- The Touch mask that names these fields and these parts. -/
def reachOf (fs : List Fld) (cs : List Comp) : Nat :=
  fs.foldl (fun M f => M ||| 2 ^ (24 + f.ctorIdx)) (cs.foldl (fun M c => M ||| 2 ^ c.bit) 0)

/-- What an EMBER record may change. -/
def recordReach : Nat := reachOf recFlds [.host, .faultQ, .ember, .sent]

/-- What counting throttling steps and recording them may change. -/
def countReach : Nat :=
  reachOf (recFlds ++ [.PWR_GOV_LIMIT_HIT, .PWR_GOV_THROTTLE_EVENTS, .PWR_GOV_THROTTLE_SAT]) [.host, .faultQ, .ember, .sent]

/-- The throttling steps from what the fields show to what the limits give: sixteenths of issue, and the boost. -/
def State.limitSteps (s : State) : Nat :=
  (s.get .PWR_GOV_ISSUE_DUTY - s.duty) + b2n (s.flag .PWR_GOV_BOOST_ACTIVE && s.tileClk == 200)

/-- The fields that follow the limits. -/
def State.limitsFollowed (s : State) : State :=
  ((s.put .CLK_STATUS_TILE_CLK 0 s.tileClk).put .PWR_GOV_BOOST_ACTIVE 0 (b2n (s.tileClk == 225))).put .PWR_GOV_ISSUE_DUTY 0 s.duty

/-- The fields that follow the limits, and the count of the steps taken. -/
def State.limitsCounted (s : State) (steps : Bool) : State :=
  if steps && s.limitSteps != 0 then
    (s.limitsFollowed.put .PWR_GOV_LIMIT_HIT 0 1).bump .PWR_GOV_THROTTLE_EVENTS 0 s.limitSteps
  else s.limitsFollowed

theorem State.powerRec_reach (s : State) (code w30 : Nat) : Touch recordReach s (s.powerRec code w30) :=
  (s.powerRec_touch code w30).weaken (by decide +kernel)

/-- Once the steps are counted, limitsSet only records. -/
theorem State.limitsSet_records (s : State) (steps : Bool) : Touch recordReach (s.limitsCounted steps) (s.limitsSet steps) := by
  have hrec : ∀ (c : Prop) [Decidable c] (u : State) (code : Nat), Touch recordReach u (if c then u.powerRec code else u) :=
    fun _ _ u code => .ite (u.powerRec_reach code 0) (.refl _ u)
  exact (hrec _ (s.limitsCounted steps) 5).step (hrec _ _ 3) (Nat.or_self _)

/-- Once the fields follow the limits, limitsSet only counts and records. -/
theorem State.limitsSet_counts (s : State) (steps : Bool) : Touch countReach s.limitsFollowed (s.limitsSet steps) := by
  refine Touch.step ?_ (s.limitsSet_records steps) (by decide +kernel)
  refine Touch.ite ?_ (Touch.refl _ _)
  exact ((State.put_touch ..).weaken (by decide +kernel)).step (State.bump_touch ..) (by decide +kernel)

@[simp] theorem State.limitsSet_pilot (s : State) (steps : Bool) : (s.limitsSet steps).pilot = s.pilot :=
  (s.limitsSet_touch steps).pilot (by decide +kernel)

@[simp] theorem State.limitsSet_pins (s : State) (steps : Bool) : (s.limitsSet steps).pins = s.pins :=
  (s.limitsSet_touch steps).pins (by decide +kernel)

@[simp] theorem State.limitsSet_issueDuty (s : State) (steps : Bool) : (s.limitsSet steps).get .PWR_GOV_ISSUE_DUTY = s.duty := by
  rw [(s.limitsSet_counts steps).get _ _ (by decide +kernel), State.limitsFollowed, State.get_put_same]
  exact Nat.mod_eq_of_lt s.duty_lt

/-- Where the part does not boost, BOOST_ACTIVE is clear and TILE_CLK shows the base clock of locked dies. -/
theorem State.limitsSet_of_not_boosts {s : State} (steps : Bool) (h : s.boosts = false) :
    (s.limitsSet steps).get .PWR_GOV_BOOST_ACTIVE = 0 ∧
    (s.limitsSet steps).get .CLK_STATUS_TILE_CLK = if s.get .CLK_STATUS_DIE_LOCK = 15 then 200 else 0 := by
  have hcounts := s.limitsSet_counts steps
  rw [hcounts.get .PWR_GOV_BOOST_ACTIVE _ (by decide +kernel), hcounts.get .CLK_STATUS_TILE_CLK _ (by decide +kernel),
    State.limitsFollowed, State.tileClk_of_not_boosts h, State.get_put_ne _ _ (by decide), State.get_put_same,
    State.get_put_ne _ _ (by decide), State.get_put_ne _ _ (by decide), State.get_put_same]
  split <;> exact ⟨rfl, rfl⟩

/-- LIMIT_HIT is set by a step that counts, and is left alone otherwise. -/
theorem State.limitsSet_limitHit (s : State) (steps : Bool) :
    (s.limitsSet steps).get .PWR_GOV_LIMIT_HIT =
      if steps && s.limitSteps != 0 then 1 else s.get .PWR_GOV_LIMIT_HIT := by
  rw [(s.limitsSet_records steps).get _ _ (by decide +kernel), State.limitsCounted]
  split
  · rw [(State.bump_touch ..).get _ _ (by decide +kernel), State.get_put_same]
    rfl
  · simp [State.limitsFollowed]

/-! ### The rows of the governor -/

/-- The fields that a limit taken or lifted can change: those that follow it, and a record's. -/
def limitFlds : List Fld :=
  recFlds ++ [.PWR_GOV_ISSUE_DUTY, .PWR_GOV_BOOST_ACTIVE, .PWR_GOV_LIMIT_HIT, .PWR_GOV_THROTTLE_EVENTS, .PWR_GOV_THROTTLE_SAT,
    .CLK_STATUS_TILE_CLK]

/-- The parts that a limit taken or lifted can change. -/
def limitComps : List Comp := [.pilot, .host, .faultQ, .ember, .sent]

/-- A command that answers within a mask changes only the fields and parts that the mask names. -/
theorem Touch.onlyOfAnswer {M : Nat} {s t : State} {r : Host.Outcome State Fault Refusal} {fs : List Fld} {cs : List Comp}
    (h : ∃ u, r = .next u ∧ Touch M s u) (ht : r = .next t) (hf : fldsIn M fs = true := by decide +kernel)
    (hc : compsIn M cs = true := by decide +kernel) : Only fs cs s t :=
  (Touch.ofAnswer h ht).only fs cs hf hc

theorem State.boosts_of_powerDrop {s : State} (h : s.pilot.powerDrop = true) : s.boosts = false := by simp [State.boosts, h]

theorem State.boosts_of_thermalDrop {s : State} (h : s.pilot.thermalDrop = true) : s.boosts = false := by simp [State.boosts, h]

theorem State.boosts_of_prochot {s : State} (h : s.pins.prochot = true) : s.boosts = false := by simp [State.boosts, h]

theorem State.boosts_of_avsPending {s : State} (h : s.pilot.avsPending = true) : s.boosts = false := by simp [State.boosts, h]

/-- A boost that the limits take at locked dies is a step that counts. -/
theorem State.limitSteps_of_boost_taken {s : State} (hboosts : s.boosts = false) (hflag : s.flag .PWR_GOV_BOOST_ACTIVE = true)
    (hlock : s.get .CLK_STATUS_DIE_LOCK = 15) : s.limitSteps ≠ 0 := by
  have htile : s.tileClk = 200 := (State.tileClk_of_not_boosts hboosts).trans (if_pos hlock)
  simp [State.limitSteps, hflag, htile, b2n]

theorem State.throttle_of_boost {s : State} (h : s.flag .PWR_GOV_BOOST_ACTIVE = true) :
    s.throttle = (s.modPilot fun r => { r with powerDrop := true }).limitsSet true := by
  simp only [State.throttle, h, if_true]

theorem State.throttle_of_not_boost {s : State} (hboost : s.flag .PWR_GOV_BOOST_ACTIVE = false)
    (hduty : s.get .PWR_GOV_ISSUE_DUTY = s.duty) (hpos : 0 < s.duty) :
    s.throttle = (s.modPilot fun r => { r with powerSteps := 16 - s.duty }).limitsSet true := by
  have hsteps : min 15 (max s.pilot.powerSteps (15 - s.duty) + 1) = 16 - s.duty := by
    have hle : s.duty ≤ 15 - s.pilot.powerSteps := Nat.min_le_left ..
    omega
  simp only [State.throttle, hboost, hduty, Bool.false_eq_true, if_false, State.modPilot, hsteps]

/-- THROTTLE_STEP on a part that boosts takes the boost (R69). -/
theorem throttleStep_of_boost (s : State) (hboost : s.flag .PWR_GOV_BOOST_ACTIVE = true)
    (hlock : s.get .CLK_STATUS_DIE_LOCK = 15) :
    Runs .throttleStep s fun t =>
      t.pilot = { s.pilot with powerDrop := true } ∧ t.get .PWR_GOV_BOOST_ACTIVE = 0 ∧ t.get .CLK_STATUS_TILE_CLK = 200 ∧
      t.get .PWR_GOV_LIMIT_HIT = 1 ∧ Only limitFlds limitComps s t := by
  have hboosts : (s.modPilot fun r => { r with powerDrop := true }).boosts = false := State.boosts_of_powerDrop rfl
  have hsteps := State.limitSteps_of_boost_taken hboosts hboost hlock
  obtain ⟨hactive, hclk⟩ := State.limitsSet_of_not_boosts true hboosts
  refine ⟨s.throttle, rfl, ?_, ?_, ?_, ?_, Touch.onlyOfAnswer (execThrottleStep_touch s) rfl⟩ <;>
    rw [State.throttle_of_boost hboost]
  · exact State.limitsSet_pilot ..
  · exact hactive
  · exact hclk.trans (if_pos hlock)
  · simp only [State.limitsSet_limitHit, bne_iff_ne.mpr hsteps, Bool.and_self, if_true]

/-- THROTTLE_STEP on a part that does not boost takes one sixteenth of issue (R69). -/
theorem throttleStep_of_not_boost (s : State) (hboost : s.flag .PWR_GOV_BOOST_ACTIVE = false)
    (hduty : s.get .PWR_GOV_ISSUE_DUTY = s.duty) (hpos : 0 < s.duty) :
    Runs .throttleStep s fun t =>
      t.get .PWR_GOV_ISSUE_DUTY = s.duty - 1 ∧ t.pilot = { s.pilot with powerSteps := 16 - s.duty } ∧
      Only limitFlds limitComps s t := by
  refine ⟨s.throttle, rfl, ?_, ?_, Touch.onlyOfAnswer (execThrottleStep_touch s) rfl⟩ <;>
    rw [State.throttle_of_not_boost hboost hduty hpos]
  · rw [State.limitsSet_issueDuty, State.duty_powerSteps hpos]
  · exact State.limitsSet_pilot ..

theorem State.thermalStep_of_boostClk {s : State} (hclk : s.get .GLB_IDENT_BOOST_CLK = 225)
    (hdrop : s.pilot.thermalDrop = false) :
    s.thermalStep = (s.modPilot fun r => { r with thermalDrop := true }).limitsSet true := by
  simp [State.thermalStep, hclk, hdrop]

/-- One step of the thermal limit on a part that could boost takes the boost (R784). -/
theorem thermalThrottleStep_of_boostClk (s : State) (hclk : s.get .GLB_IDENT_BOOST_CLK = 225)
    (hdrop : s.pilot.thermalDrop = false) :
    Runs .thermalThrottleStep s fun t =>
      t.pilot = { s.pilot with thermalDrop := true } ∧ t.get .PWR_GOV_BOOST_ACTIVE = 0 ∧ Only limitFlds limitComps s t := by
  refine ⟨s.thermalStep, rfl, ?_, ?_, Touch.onlyOfAnswer (execThermalThrottleStep_touch s) rfl⟩ <;>
    rw [State.thermalStep_of_boostClk hclk hdrop]
  · exact State.limitsSet_pilot ..
  · exact (State.limitsSet_of_not_boosts true (State.boosts_of_thermalDrop rfl)).1

/-- One step of the thermal limit on a part without a boost takes one sixteenth of issue, up to fifteen (R784). -/
theorem State.thermalStep_of_no_boostClk {s : State} (hclk : s.get .GLB_IDENT_BOOST_CLK ≠ 225) :
    s.thermalStep.pilot = { s.pilot with thermalSteps := min 15 (s.pilot.thermalSteps + 1) } ∧
    s.thermalStep.get .PWR_GOV_ISSUE_DUTY ≤ 15 - min 15 (s.pilot.thermalSteps + 1) := by
  have hu : s.thermalStep = (s.modPilot fun r => { r with thermalSteps := min 15 (r.thermalSteps + 1) }).limitsSet true := by
    simp [State.thermalStep, hclk]
  rw [hu, State.limitsSet_pilot, State.limitsSet_issueDuty]
  exact ⟨rfl, State.duty_le_thermal _⟩

theorem thermalThrottleStep_of_no_boostClk (s : State) (hclk : s.get .GLB_IDENT_BOOST_CLK ≠ 225) :
    Runs .thermalThrottleStep s fun t =>
      t.pilot = { s.pilot with thermalSteps := min 15 (s.pilot.thermalSteps + 1) } ∧
      t.get .PWR_GOV_ISSUE_DUTY ≤ 15 - min 15 (s.pilot.thermalSteps + 1) ∧ Only limitFlds limitComps s t := by
  obtain ⟨hpilot, hduty⟩ := State.thermalStep_of_no_boostClk hclk
  exact ⟨_, rfl, hpilot, hduty, Touch.onlyOfAnswer (execThermalThrottleStep_touch s) rfl⟩

theorem throttleTemperatureReached_of_no_boostClk (s : State) (hclk : s.get .GLB_IDENT_BOOST_CLK ≠ 225) :
    Runs .throttleTemperatureReached s fun t =>
      t.pilot = { s.pilot with thermalSteps := min 15 (s.pilot.thermalSteps + 1) } ∧
      t.get .PWR_GOV_ISSUE_DUTY ≤ 15 - min 15 (s.pilot.thermalSteps + 1) ∧ Only limitFlds limitComps s t := by
  obtain ⟨hpilot, hduty⟩ := State.thermalStep_of_no_boostClk hclk
  exact ⟨_, rfl, hpilot, hduty, Touch.onlyOfAnswer (execThrottleTemperatureReached_touch s) rfl⟩

/-- THERMAL_LIMIT_LIFT gives back a sixteenth of issue first (R784). -/
theorem thermalLimitLift_of_steps (s : State) (hsteps : s.pilot.thermalSteps ≠ 0) :
    Runs .thermalLimitLift s fun t =>
      t.pilot = { s.pilot with thermalSteps := s.pilot.thermalSteps - 1 } ∧
      t.get .PWR_GOV_LIMIT_HIT = s.get .PWR_GOV_LIMIT_HIT ∧ Only limitFlds limitComps s t := by
  have hu : execThermalLimitLift s =
      .next ((s.modPilot fun r => { r with thermalSteps := r.thermalSteps - 1 }).limitsSet false) := by
    simp [execThermalLimitLift, hsteps]
  exact ⟨_, hu, State.limitsSet_pilot .., State.limitsSet_limitHit .., Touch.onlyOfAnswer (execThermalLimitLift_touch s) hu⟩

/-- THERMAL_LIMIT_LIFT with no sixteenth taken gives back the boost (R784). -/
theorem thermalLimitLift_of_no_steps (s : State) (hsteps : s.pilot.thermalSteps = 0) :
    Runs .thermalLimitLift s fun t =>
      t.pilot = { s.pilot with thermalDrop := false } ∧ Only limitFlds limitComps s t := by
  have hu : execThermalLimitLift s = .next ((s.modPilot fun r => { r with thermalDrop := false }).limitsSet false) := by
    simp [execThermalLimitLift, hsteps]
  exact ⟨_, hu, State.limitsSet_pilot .., Touch.onlyOfAnswer (execThermalLimitLift_touch s) hu⟩

/-! ### PROCHOT# and AVS -/

theorem State.setProchot_of_change {s : State} {on : Bool} (h : s.pins.prochot ≠ on) :
    s.setProchot on = ((({ s with pins := { s.pins with prochot := on } } : State).put .PWR_GOV_PROCHOT_IN 0 (b2n on)).powerRec
      (if on then 1 else 2)).limitsSet true := by
  simp only [State.setProchot, h, if_false]

/-- A change of the level on PROCHOT# shows in the pin and in PROCHOT_IN (R70, Table 2-13). -/
theorem State.setProchot_pin {s : State} {on : Bool} (h : s.pins.prochot ≠ on) :
    (s.setProchot on).pins = { s.pins with prochot := on } ∧ (s.setProchot on).get .PWR_GOV_PROCHOT_IN = b2n on := by
  rw [State.setProchot_of_change h]
  constructor
  · rw [State.limitsSet_pins, (State.powerRec_reach ..).pins (by decide +kernel)]
    rfl
  · rw [(State.limitsSet_touch ..).get _ _ (by decide +kernel), (State.powerRec_reach ..).get _ _ (by decide +kernel),
      State.get_put_same]
    cases on <;> rfl

/-- PROCHOT# asserted takes the boost and holds issue to seven sixteenths (R70). -/
theorem State.setProchot_limits {s : State} (h : s.pins.prochot = false) :
    (s.setProchot true).get .PWR_GOV_ISSUE_DUTY ≤ 7 ∧ (s.setProchot true).get .PWR_GOV_BOOST_ACTIVE = 0 := by
  rw [State.setProchot_of_change (by simp [h])]
  have hpin (u : State) (code w : Nat) : (u.powerRec code w).pins = u.pins := (u.powerRec_reach code w).pins (by decide +kernel)
  constructor
  · rw [State.limitsSet_issueDuty]
    exact State.duty_le_of_prochot (by rw [hpin]; rfl)
  · exact (State.limitsSet_of_not_boosts true (State.boosts_of_prochot (by rw [hpin]; rfl))).1

/-- The fields that a change of PROCHOT# can change. -/
def prochotFlds : List Fld :=
  recFlds ++ [.PWR_GOV_ISSUE_DUTY, .PWR_GOV_BOOST_ACTIVE, .PWR_GOV_PROCHOT_IN, .PWR_GOV_LIMIT_HIT, .PWR_GOV_THROTTLE_EVENTS,
    .PWR_GOV_THROTTLE_SAT, .CLK_STATUS_TILE_CLK]

/-- The parts that a change of PROCHOT# can change. -/
def prochotComps : List Comp := [.pins, .host, .faultQ, .ember, .sent]

theorem prochotAssert_of_released (s : State) (h : s.pins.prochot = false) :
    Runs .prochotAssert s fun t =>
      t.pins = { s.pins with prochot := true } ∧ t.get .PWR_GOV_PROCHOT_IN = 1 ∧ t.get .PWR_GOV_ISSUE_DUTY ≤ 7 ∧
      t.get .PWR_GOV_BOOST_ACTIVE = 0 ∧ Only prochotFlds prochotComps s t := by
  obtain ⟨hpins, hin⟩ := State.setProchot_pin (s := s) (on := true) (by simp [h])
  obtain ⟨hduty, hboost⟩ := State.setProchot_limits h
  exact ⟨_, rfl, hpins, hin, hduty, hboost, Touch.onlyOfAnswer (execProchotAssert_touch s) rfl⟩

theorem prochotRelease_of_asserted (s : State) (h : s.pins.prochot = true) :
    Runs .prochotRelease s fun t =>
      t.pins = { s.pins with prochot := false } ∧ t.get .PWR_GOV_PROCHOT_IN = 0 ∧ Only prochotFlds prochotComps s t := by
  obtain ⟨hpins, hin⟩ := State.setProchot_pin (s := s) (on := false) (by simp [h])
  exact ⟨_, rfl, hpins, hin, Touch.onlyOfAnswer (execProchotRelease_touch s) rfl⟩

/-- AVS_FAIL keeps the boost off while a rail's write is pending (R791). -/
theorem avsFail_keepsBoostOff (rail n : Nat) (s : State) :
    Runs (.avsFail rail n) s fun t =>
      t.pilot = { s.pilot with avsPending := true } ∧ t.get .PWR_GOV_BOOST_ACTIVE = 0 ∧ Only limitFlds limitComps s t := by
  refine ⟨_, rfl, ?_, ?_, Touch.onlyOfAnswer (execAvsFail_touch rail n s) rfl⟩
  · rw [(State.powerRec_reach ..).pilot (by decide +kernel), State.limitsSet_pilot]
    rfl
  · rw [(State.powerRec_reach ..).get _ _ (by decide +kernel)]
    exact (State.limitsSet_of_not_boosts false (State.boosts_of_avsPending rfl)).1

/-! ### PILOT_TICK -/

/-- The limits that PILOT_TICK lifts: an acknowledged rail, and one step of power. -/
def State.tickLifts (s : State) (lift avsOk : Bool) : State :=
  let u := if avsOk && s.pilot.avsPending then (s.modPilot (fun r => { r with avsPending := false })).limitsSet false else s
  if lift then u.powerLift else u

/-- The dozing domains count a tick (Table 2-15); a counter that saturates may raise a fault. -/
def State.tickDozes (s : State) : State :=
  ((List.range 24).filter (fun d => s.domState d == 1)).foldl (fun u d => u.bump .PWR_DOM_DOZE_COUNT d) s

/-- What PILOT_TICK does in the ready phase beside its count. -/
def State.tickReady (s : State) (watts : Nat) (lift avsOk : Bool) : State :=
  (s.tickDozes.put .PWR_GOV_AVG_10MS_W 0 watts).tickLifts lift avsOk

/-- What PILOT_TICK does while the counter runs. -/
theorem State.pilotTick_of_ticking {s : State} (h : s.pilot.ticking = true) (watts : Nat) (lift avsOk : Bool) :
    s.pilotTick watts lift avsOk =
      if s.up then (s.put .CLK_TICK_TICK 0 (s.get .CLK_TICK_TICK + 1)).tickReady watts lift avsOk
      else s.put .CLK_TICK_TICK 0 (s.get .CLK_TICK_TICK + 1) := by
  simp only [State.pilotTick, h, Bool.not_true, Bool.false_eq_true, if_false]
  have hup : (s.put .CLK_TICK_TICK 0 (s.get .CLK_TICK_TICK + 1)).up = s.up := rfl
  rw [hup]
  cases s.up <;> rfl

/-- What a limit taken or lifted may change, as a Touch mask. -/
def limitReach : Nat := reachOf limitFlds limitComps

theorem State.tickLifts_touch (s : State) (lift avsOk : Bool) : Touch limitReach s (s.tickLifts lift avsOk) := by
  have hacked : Touch limitReach s
      (if avsOk && s.pilot.avsPending then (s.modPilot (fun r => { r with avsPending := false })).limitsSet false else s) :=
    .ite (((State.modPilot_touch ..).weaken (by decide +kernel)).step (State.limitsSet_touch ..) (by decide +kernel)) (.refl _ _)
  exact .ite (hacked.step (State.powerLift_touch _) (by decide +kernel)) hacked

theorem State.tickDozes_touch (s : State) : Touch (reachOf [.PWR_DOM_DOZE_COUNT, .PWR_DOM_DOZE_SAT] [.faultQ]) s s.tickDozes :=
  .foldl (.refl _ _) fun _ _ h => h.step (State.bump_touch ..) (by decide +kernel)

/-- The rest of PILOT_TICK leaves the counter. -/
theorem State.tickReady_tick (s : State) (watts : Nat) (lift avsOk : Bool) :
    (s.tickReady watts lift avsOk).get .CLK_TICK_TICK = s.get .CLK_TICK_TICK := by
  rw [State.tickReady, (State.tickLifts_touch ..).get _ _ (by decide +kernel), State.get_put_ne _ _ (by decide),
    s.tickDozes_touch.get _ _ (by decide +kernel)]

theorem State.tickReady_watts (s : State) (watts : Nat) (lift avsOk : Bool) :
    (s.tickReady watts lift avsOk).get .PWR_GOV_AVG_10MS_W = watts % 2 ^ 12 := by
  rw [State.tickReady, (State.tickLifts_touch ..).get _ _ (by decide +kernel), State.get_put_same]
  rfl

/-- The fields that PILOT_TICK can change. -/
def tickFlds : List Fld :=
  recFlds ++ [.PWR_GOV_ISSUE_DUTY, .PWR_GOV_BOOST_ACTIVE, .PWR_GOV_LIMIT_HIT, .PWR_GOV_THROTTLE_EVENTS, .PWR_GOV_THROTTLE_SAT,
    .PWR_GOV_AVG_10MS_W, .PWR_DOM_DOZE_COUNT, .PWR_DOM_DOZE_SAT, .CLK_TICK_TICK, .CLK_STATUS_TILE_CLK]

/-- PILOT_TICK counts one tick, modulo the counter's width (R52). -/
theorem pilotTick_counts (watts : Nat) (lift avsOk : Bool) (s : State) (h : s.pilot.ticking = true) :
    Runs (.pilotTick watts lift avsOk) s fun t =>
      t.get .CLK_TICK_TICK = (s.get .CLK_TICK_TICK + 1) % 2 ^ 56 ∧ Only tickFlds limitComps s t := by
  refine ⟨_, rfl, ?_, Touch.onlyOfAnswer (execPilotTick_touch watts lift avsOk s) rfl⟩
  rw [State.pilotTick_of_ticking h]
  split
  · rw [State.tickReady_tick, State.get_put_same]; rfl
  · rw [State.get_put_same]; rfl

/-- In the ready phase PILOT_TICK writes the average power (R68). -/
theorem pilotTick_averages (watts : Nat) (lift avsOk : Bool) (s : State) (h : s.pilot.ticking = true)
    (hready : s.pilot.phase = .ready) :
    Runs (.pilotTick watts lift avsOk) s fun t =>
      t.get .PWR_GOV_AVG_10MS_W = watts % 2 ^ 12 ∧ Only tickFlds limitComps s t := by
  refine ⟨_, rfl, ?_, Touch.onlyOfAnswer (execPilotTick_touch watts lift avsOk s) rfl⟩
  rw [State.pilotTick_of_ticking h, if_pos (by simp [State.up, hready]), State.tickReady_watts]

/-- Settles O12, row by row. What PILOT_TICK carries (notes/assumptions/21.md), that a thermal step takes the boost first and
that AVS counts no step (notes/assumptions/22.md) is deduced. -/
theorem governorRowsAct : Obligations.GovernorRowsAct :=
  ⟨throttleStep_of_boost, throttleStep_of_not_boost, thermalThrottleStep_of_boostClk, thermalThrottleStep_of_no_boostClk,
    throttleTemperatureReached_of_no_boostClk, thermalLimitLift_of_steps, thermalLimitLift_of_no_steps, prochotAssert_of_released,
    prochotRelease_of_asserted, avsFail_keepsBoostOff, pilotTick_counts, pilotTick_averages⟩

end Sys2Proof.Machine

namespace Sys2Proof.Machine

/-! ### A register whose fields hold their cold-reset values -/

/-- The cold-reset value of each field of a register instance, with the field's lowest bit (R27). -/
def Reg.resetValues (r : Reg) (i : Nat) : List (Nat × Nat) := r.fields.map fun f => (f.dflt i, f.info.lo)

/-- The word of a register whose fields all hold their cold-reset values. -/
theorem State.regWord_of_dflt {s : State} {r : Reg} {i : Nat} (h : ∀ f ∈ r.fields, s.get f i = f.dflt i) :
    s.regWord r i = ((r.resetValues i).map fun v => v.1 * 2 ^ v.2).sum := by
  rw [Reg.resetValues, List.map_map]
  exact congrArg List.sum (List.map_congr_left fun f hf => congrArg (· * 2 ^ f.info.lo) (h f hf))

/-- Table 5-19, the same at every instance number. -/
theorem tileCaps_resetValues (i : Nat) :
    Reg.TILE_CAPS.resetValues i = [(0, 0), (1, 8), (64, 16), (512, 24), (16, 34), (4, 39)] := rfl

/-- TILE_CAPS shows nothing that the device holds elsewhere: it reads as its fields stand. -/
theorem State.regRead_tileCaps (s : State) (i : Nat) : s.regRead .TILE_CAPS i = s.regWord .TILE_CAPS i := rfl

/-- Settles O10. TILE_CAPS is one register of the PF (R224); the statement holds at every instance number. -/
theorem tileCapsReadsItsConstant : Obligations.TileCapsReadsItsConstant := by
  intro s n h
  rw [State.regRead_tileCaps, State.regWord_of_dflt h, tileCaps_resetValues]
  decide

end Sys2Proof.Machine

namespace Sys2Proof.Machine

/-! ### The packets of a message -/

@[simp] theorem length_packetCuts (len : Nat) : (packetCuts len).length = (len + 2047) / 2048 := by
  simp [packetCuts]

/-- Packet k begins at byte 2048 k and carries what is left of the message, at most 2,048 bytes of it (R226). -/
theorem getElem?_packetCuts {len k : Nat} (hk : k < (packetCuts len).length) :
    (packetCuts len)[k]? = some (2048 * k, min 2048 (len - 2048 * k)) := by
  rw [length_packetCuts] at hk
  simp [packetCuts, hk]

theorem packetCuts_payloads (len : Nat) :
    (packetCuts len).map (·.2) = (List.range ((len + 2047) / 2048)).map fun k => min 2048 (len - 2048 * k) := by
  simp [packetCuts]

/-- The first n packets together carry 2,048 bytes each, but never more than the message. -/
theorem sum_firstPayloads (len n : Nat) :
    ((List.range n).map fun k => min 2048 (len - 2048 * k)).sum = min (2048 * n) len := by
  induction n with
  | zero => simp
  | succ n ih =>
    rw [List.sum_range_succ, ih]
    omega

/-- Every packet before the last is full: at least 2,048 bytes are left at its start. -/
theorem packetCuts_full_of_not_last {len k : Nat} (hk : k + 1 < (packetCuts len).length) :
    (packetCuts len)[k]? = some (2048 * k, 2048) := by
  have hleft : 2048 ≤ len - 2048 * k := by
    rw [length_packetCuts] at hk
    omega
  rw [getElem?_packetCuts (Nat.lt_of_succ_lt hk), Nat.min_eq_left hleft]

/-- The last packet carries the remainder, which is at most one full payload. -/
theorem packetCuts_remainder_of_last {len k : Nat} (hk : k + 1 = (packetCuts len).length) :
    (packetCuts len)[k]? = some (2048 * k, len - 2048 * k) := by
  have hleft : len - 2048 * k ≤ 2048 := by
    rw [length_packetCuts] at hk
    omega
  rw [getElem?_packetCuts (Nat.lt_of_succ_le hk.le), Nat.min_eq_right hleft]

/-- The packets of a message carry its bytes, no more and no fewer: rounding up leaves room for all of them. -/
theorem sum_packetCuts_payloads (len : Nat) : ((packetCuts len).map (·.2)).sum = len := by
  have hroom : len ≤ 2048 * ((len + 2047) / 2048) := by omega
  rw [packetCuts_payloads, sum_firstPayloads, Nat.min_eq_right hroom]

/-- Settles O11: the cut of a message by its packet count, its full packets, its remainder and the sum of its payloads. -/
theorem messageIsCutIntoPackets : Obligations.MessageIsCutIntoPackets := fun len =>
  ⟨length_packetCuts len, fun _ => packetCuts_full_of_not_last, fun _ => packetCuts_remainder_of_last,
    sum_packetCuts_payloads len⟩

end Sys2Proof.Machine

namespace Sys2Proof.Machine

/-! ### The host interface: the queue, the answer and the outputs -/

/-- With nothing waiting, a step answers the state it began at. -/
theorem step_of_pending_nil {s : State} (h : s.pending = []) : step s = .next s := by
  simp only [step, h]

/-- With a command waiting at the front, a step takes it off the queue and runs it. -/
theorem step_of_pending_cons {c : Instr} {rest : List Instr} {s : State} (h : s.pending = c :: rest) :
    step s = exec c { s with pending := rest } := by
  simp only [step, h]

/-- Settles O1: the clause of step for a queue with a front. The queue is the model's choice (notes/assumptions/9.md). -/
theorem stepRunsFrontCommand : Obligations.StepRunsFrontCommand := fun _ _ _ => step_of_pending_cons

/-- Settles O2: the clause of step for the empty queue. That the block then idles is the model's choice
(notes/assumptions/9.md). -/
theorem emptyQueueIdles : Obligations.EmptyQueueIdles := fun _ => step_of_pending_nil

/-- Settles O5: every command, at every state, answers within its reach. That a command whose precondition fails answers the
same state, and is not refused, is the model's choice (notes/assumptions/11.md). -/
theorem everyCommandAnswersNext : Obligations.EveryCommandAnswersNext := fun c s =>
  (exec_touch c s).imp fun _ ⟨hnext, _⟩ => hnext

/-- Settles O6: whatever a command reaches, it leaves the queue alone, only adds to what was sent and only draws free values.
The queue, the list of what was sent and the counter of free values are the model's own (notes/assumptions/9.md,
notes/assumptions/5.md, notes/assumptions/2.md). -/
theorem commandsKeepQueueAndOutputs : Obligations.CommandsKeepQueueAndOutputs := by
  intro c s t h
  have htouch : Touch (cmdReach c) s t := Touch.ofAnswer (exec_touch c s) h
  exact ⟨htouch.pending, htouch.out, htouch.freeCtr⟩

end Sys2Proof.Machine
